-- ==== Sys2Proof/Word.lean ====
section
/-! DEFINITION. The words of the block: bytes and byte strings, and the names of the machine's numbered things (R3). -/

namespace Sys2Proof

/-- One byte of a packet, a record or a frame. -/
abbrev Byte := BitVec 8

/-- A byte string, lowest offset first. -/
abbrev Bytes := List Byte

/-- A physical port P00 to P63 (R3). -/
abbrev Port := Fin 64

/-- A global lane, port × 4 + lane (R3). -/
abbrev Lane := Fin 256

/-- A pipeline slice PL00 to PL16 (R3). -/
abbrev Slice := Fin 17

/-- A traffic class TC0 to TC7 (R3). -/
abbrev TC := Fin 8

/-- A 48-bit MAC address, the first wire byte in bits [47:40]. -/
abbrev Mac := BitVec 48

/-- The transports of R66, coded as ORIGIN of R96; `firmware` starts operations of its own. -/
inductive Transport where
  | pcie | inband | sideband | firmware
  deriving DecidableEq, Repr

end Sys2Proof
end

