-- ==== Sys2Proof/Syntax.lean ====
section
/-! DEFINITION. The commands of the block (spec/opcode_table.json) and their operands. A row named after a GCP opcode takes the packet that carries it; a row named after an event takes what the outside brings to it. -/

namespace Sys2Proof

/-- Where a command packet comes from (R66): the PCIe rings, a port with the sender's MAC and VLAN tag (R71, R72), or the I2C sideband. -/
inductive Origin where
  | pcie
  | inband (port : Port) (src : Mac) (vlan : Option (BitVec 12))
  | sideband
  deriving DecidableEq, Repr

/-- A command packet of R76 but for its OPCODE, as its sender lays it out, and where it comes from. -/
structure Gcp where
  origin : Origin
  version : Byte
  flags : Byte
  sequence : BitVec 32
  paramLen : BitVec 16
  keySlot : Byte
  reserved : Byte
  handle : BitVec 32
  counter : BitVec 64
  timeout : BitVec 32
  paramCrc : BitVec 32
  params : Bytes
  tag : Bytes
  deriving DecidableEq, Repr

/-- The supplies and the junction as the sensors read them (R528): mV, and units of 1/16 °C with the sensor that gives it. -/
structure Meas where
  auxMv : Nat
  coreMv : Nat
  tj : Int
  sensor : Fin 16
  deriving DecidableEq, Repr

/-- What reading an image in flash shows (R106, R547): header in order, VERSION, SIZE, the vendor signature's verdict, and the SHA-384 of the owner key under which the countersignature verifies, if it carries one that does. -/
structure ImageFacts where
  header : Bool
  version : BitVec 32
  size : BitVec 32
  vendorOk : Bool
  ownerKey : Option Bytes
  deriving DecidableEq, Repr

/-- The frequency of XO_IN as a code of XO_FREQ (R370). -/
abbrev XoCode := Fin 8

/-- An Ethernet frame carrying EtherType 0x88B5 (R71). -/
structure InbandFrame where
  port : Port
  dst : Mac
  src : Mac
  vlan : Option (BitVec 12)
  payload : Bytes
  deriving DecidableEq, Repr


/-- A PTP message of IEEE 1588 as it arrives: domain, source port identity, sequence, two-step flag, correctionField (2^-16 ns), the timestamp its body carries (2^-16 ns of its sender's time), the requesting port identity of a response, and the raw receive capture on the TS counter (2^-16 ns). -/
structure PtpMsg where
  domain : Byte
  sender : BitVec 64
  senderPort : BitVec 16
  seq : BitVec 16
  twoStep : Bool
  corr : Int
  stamp : Int
  reqId : BitVec 64
  reqPort : BitVec 16
  capture : Int
  deriving DecidableEq, Repr

/-- The body of an Announce and its path trace. -/
structure PtpAnnounce where
  prio1 : Byte
  cls : Byte
  acc : Byte
  oslv : BitVec 16
  prio2 : Byte
  gm : BitVec 64
  steps : BitVec 16
  source : Byte
  utc : Int
  flags : Byte
  path : List (BitVec 64)
  deriving DecidableEq, Repr

/-- A failure inside the device that is not fatal (R85, R488): the processor it happens on (none: hardware), the internal fault code and address, and whether it strikes while a command is being persisted. -/
structure InternalFault where
  proc : Option (Fin 4)
  code : BitVec 32
  addr : BitVec 32
  persisting : Bool
  deriving DecidableEq, Repr

/-- What a failing long operation reports (R85, R92): the status of the cause and the failure behind it. -/
structure OpError where
  status : BitVec 16
  fault : InternalFault
  deriving DecidableEq, Repr

/-- An entry to UP (R144): the port, and the transmit and receive latencies measured on its lanes. -/
structure UpMeasure where
  port : Port
  lat : List (Nat × Nat)
  deriving DecidableEq, Repr

/-- A host interface that an application of a module may have: those of R128 and R217. -/
inductive HostIf where
  | gaui400x4 | gaui200x4 | gaui100x1 | caui4 | gaui50x1 | gaui25 | xfi
  deriving DecidableEq, Repr

/-- How a module stands (R217): it reports ModuleReady, and its data path is in DataPathActivated. -/
structure ModuleWorks where
  ready : Bool
  path : Bool
  deriving DecidableEq, Repr

/-- What firmware finds as it initialises a module (R217): the host interfaces of its applications, whether it is a passive copper cable, and how it stands. -/
structure ModuleInit where
  apps : List HostIf
  passive : Bool
  works : ModuleWorks
  deriving DecidableEq, Repr

/-- A Dalom tile as a lane delivers it after FEC (R154, R155, R160): logical lane, slot position modulo 1,024, header fields, the 640 payload bytes as received, the captured start of the tile on the TS counter in 2^-16 ns (R166), and the stuff symbols removed in it, each by the line symbols of the tile before it, with the count of those at an unexpected level. -/
structure DlkTile where
  lane : Fin 4
  pos : Fin 1024
  credit : Byte
  mark : Bool
  lseq : Fin 16
  payload : Bytes
  start : Int
  stuffAt : List Nat
  stuffBad : Nat
  deriving DecidableEq, Repr

/-- The commands of the block, one constructor per row of spec/opcode_table.json; each docstring names its row and the rule that governs it. -/
inductive Instr where
  /-- `POWER_ON` (R52). -/
  | powerOn
  /-- `SUPPLY_RESET` (R52). -/
  | supplyReset
  /-- `SYS_RST_N_ASSERT` (R52). -/
  | sysRstNAssert
  /-- `SYS_RST_N_RELEASE` (R56). -/
  | sysRstNRelease (straps : Fin 4)
  /-- `PERST_N_ASSERT` (R53). -/
  | perstNAssert
  /-- `PERST_N_RELEASE` (R57). -/
  | perstNRelease
  /-- `FUNCTION_LEVEL_RESET` (R525). -/
  | functionLevelReset
  /-- `D3HOT_ENTRY` (R525). -/
  | d3hotEntry
  /-- `D0_RETURN` (R525). -/
  | d0Return
  /-- `THERMAL_TRIP` (R567). -/
  | thermalTrip (tj : Int)
  /-- `THERMTRIP_RELEASE` (R567). -/
  | thermtripRelease (peak : Int)
  /-- `RESET_AFTER_REPLY` (R505). -/
  | resetAfterReply
  /-- `FATAL_INTERNAL_ERROR` (R16). -/
  | fatalInternalError (proc : Option (Fin 4)) (code : BitVec 32) (addr : BitVec 32)
  /-- `XO_IN_DETECT` (R338). -/
  | xoInDetect (freq : XoCode)
  /-- `IMAGE_VERIFICATION_COMPLETE` (R58). -/
  | imageVerificationComplete (a : ImageFacts) (b : ImageFacts)
  /-- `FIRMWARE_ALIVE` (R59). -/
  | firmwareAlive
  /-- `FW_START_FAIL` (R40). -/
  | fwStartFail
  /-- `SUPPLY_WARN` (R120). -/
  | supplyWarn (m : Meas)
  /-- `SUPPLY_WARN_CLEAR` (R92). -/
  | supplyWarnClear (m : Meas)
  /-- `NV_INHIBIT` (R120). -/
  | nvInhibit (m : Meas)
  /-- `NV_INHIBIT_CLEAR` (R485). -/
  | nvInhibitClear (m : Meas)
  /-- `SUPPLY_CRITICAL_AUX` (R42). -/
  | supplyCriticalAux (m : Meas)
  /-- `CORE_WARN` (R120). -/
  | coreWarn (m : Meas)
  /-- `CORE_WARN_CLEAR` (R120). -/
  | coreWarnClear (m : Meas)
  /-- `CORE_SAG` (R116). -/
  | coreSag (m : Meas)
  /-- `RIDE_EXIT` (R116). -/
  | rideExit (m : Meas)
  /-- `SUPPLY_CRITICAL_CORE` (R42). -/
  | supplyCriticalCore (m : Meas)
  /-- `SUPPLY_CRITICAL_CLEAR` (R120). -/
  | supplyCriticalClear (m : Meas)
  /-- `THERMAL_WARN` (R120). -/
  | thermalWarn (m : Meas)
  /-- `THERMAL_WARN_CLEAR` (R120). -/
  | thermalWarnClear (m : Meas)
  /-- `THERMAL_CRITICAL` (R42). -/
  | thermalCritical (m : Meas)
  /-- `THERMAL_CRITICAL_CLEAR` (R120). -/
  | thermalCriticalClear (m : Meas)
  /-- `WAKE_COMPLETE` (R119). -/
  | wakeComplete (regions : List (Nat × List Bytes))
  /-- `COMMAND_DOORBELL` (R66). -/
  | commandDoorbell (pi : Byte) (packets : List Bytes)
  /-- `MBX_RPL_CI_WRITE` (R68). -/
  | mbxRplCiWrite (ci : Byte)
  /-- `MBX_CTRL_ENABLE_WRITE` (R530). -/
  | mbxCtrlEnableWrite (v : BitVec 32)
  /-- `INBAND_COMMAND_FRAME` (R71). -/
  | inbandCommandFrame (f : InbandFrame)
  /-- `SIDEBAND_WRITE_TRANSFER` (R74). -/
  | sidebandWriteTransfer (bytes : Bytes)
  /-- `SIDEBAND_READ_TRANSFER` (R74). -/
  | sidebandReadTransfer
  /-- `SIDEBAND_SCL_TIMEOUT` (R549). -/
  | sidebandSclTimeout
  /-- `COMMAND_START_DEADLINE` (R87). -/
  | commandStartDeadline (t : Transport) (idx : Nat)
  /-- `GET_STATUS` (R503). -/
  | getStatus (g : Gcp)
  /-- `GET_RESET_CAUSE` (R504). -/
  | getResetCause (g : Gcp)
  /-- `SET_BOOT_POLICY` (R502). -/
  | setBootPolicy (g : Gcp)
  /-- `ENTER_PROVISION` (R59). -/
  | enterProvision (g : Gcp)
  /-- `COMMIT_CONFIG` (R62). -/
  | commitConfig (g : Gcp)
  /-- `ENTER_MAINTENANCE` (R45). -/
  | enterMaintenance (g : Gcp)
  /-- `ENTER_QUIESCE` (R48). -/
  | enterQuiesce (g : Gcp)
  /-- `QUIESCE_DRAIN_END` (R48). -/
  | quiesceDrainEnd
  /-- `DRAIN_LIMIT_EXPIRY` (R48). -/
  | drainLimitExpiry
  /-- `RETURN_SERVICE` (R50). -/
  | returnService (g : Gcp)
  /-- `RESET_DEVICE` (R55). -/
  | resetDevice (g : Gcp)
  /-- `SET_POWER_STATE` (R116). -/
  | setPowerState (g : Gcp)
  /-- `AVS_CONFIG` (R329). -/
  | avsConfig (g : Gcp)
  /-- `DEVICE_CONFIG` (R506). -/
  | deviceConfig (g : Gcp)
  /-- `GET_SECURITY_STATUS` (R508). -/
  | getSecurityStatus (g : Gcp)
  /-- `TAKE_OWNERSHIP` (R99). -/
  | takeOwnership (g : Gcp)
  /-- `INSTALL_KEY` (R104). -/
  | installKey (g : Gcp)
  /-- `REVOKE_KEY` (R104). -/
  | revokeKey (g : Gcp)
  /-- `SET_OWNER_POLICY` (R107). -/
  | setOwnerPolicy (g : Gcp)
  /-- `LOCK_DEVICE` (R99). -/
  | lockDevice (g : Gcp)
  /-- `SET_MIN_VERSION` (R107). -/
  | setMinVersion (g : Gcp)
  /-- `RETIRE_DEVICE` (R101). -/
  | retireDevice (g : Gcp)
  /-- `DEBUG_CHALLENGE` (R111). -/
  | debugChallenge (g : Gcp)
  /-- `DEBUG_UNLOCK` (R113). -/
  | debugUnlock (g : Gcp)
  /-- `DEBUG_CLOSE` (R114). -/
  | debugClose (g : Gcp)
  /-- `DEBUG_CHALLENGE_EXPIRY` (R111). -/
  | debugChallengeExpiry
  /-- `DEBUG_SESSION_EXPIRY` (R114). -/
  | debugSessionExpiry
  /-- `PORT_CONFIG` (R146). -/
  | portConfig (g : Gcp)
  /-- `PORT_SET_STATE` (R139). -/
  | portSetState (g : Gcp)
  /-- `PORT_STATUS` (R149). -/
  | portStatus (g : Gcp)
  /-- `LANE_MAP` (R147). -/
  | laneMap (g : Gcp)
  /-- `LANE_TX_EQ` (R148). -/
  | laneTxEq (g : Gcp)
  /-- `LANE_RX_EQ` (R148). -/
  | laneRxEq (g : Gcp)
  /-- `LANE_STATUS` (R150). -/
  | laneStatus (g : Gcp)
  /-- `LANE_TEST` (R510). -/
  | laneTest (g : Gcp)
  /-- `LANE_TEST_RESULT` (R511). -/
  | laneTestResult (g : Gcp)
  /-- `LANE_TEST_DURATION_EXPIRY` (R510). -/
  | laneTestDurationExpiry (p : Port)
  /-- `DLK_CONFIG` (R190). -/
  | dlkConfig (g : Gcp)
  /-- `DLK_DELAY` (R191). -/
  | dlkDelay (g : Gcp)
  /-- `DLK_STATUS` (R192). -/
  | dlkStatus (g : Gcp)
  /-- `CLASS_MAP` (R196). -/
  | classMap (g : Gcp)
  /-- `FLOW_CONTROL` (R200). -/
  | flowControl (g : Gcp)
  /-- `PORT_DELAY` (R211). -/
  | portDelay (g : Gcp)
  /-- `LOSSLESS_BUDGET` (R212). -/
  | losslessBudget (g : Gcp)
  /-- `ECN_CONFIG` (R213). -/
  | ecnConfig (g : Gcp)
  /-- `LOSSLESS_STATUS` (R214). -/
  | losslessStatus (g : Gcp)
  /-- `MODULE_READ` (R218). -/
  | moduleRead (g : Gcp)
  /-- `MODULE_WRITE` (R218). -/
  | moduleWrite (g : Gcp)
  /-- `MODULE_CONTROL` (R217). -/
  | moduleControl (g : Gcp)
  /-- `MODULE_BUS` (R215). -/
  | moduleBus (g : Gcp)
  /-- `XO_CONFIG` (R365). -/
  | xoConfig (g : Gcp)
  /-- `REF_CONFIG` (R366). -/
  | refConfig (g : Gcp)
  /-- `DPLL_CONFIG` (R367). -/
  | dpllConfig (g : Gcp)
  /-- `ESMC_CONFIG` (R368). -/
  | esmcConfig (g : Gcp)
  /-- `JUMP_RESOLVE` (R362). -/
  | jumpResolve (g : Gcp)
  /-- `REF_STATUS` (R369). -/
  | refStatus (g : Gcp)
  /-- `DPLL_STATUS` (R370). -/
  | dpllStatus (g : Gcp)
  /-- `SYN_BAND_TABLE` (R380). -/
  | synBandTable (g : Gcp)
  /-- `SYN_CONFIG` (R395). -/
  | synConfig (g : Gcp)
  /-- `OUT_CONFIG` (R396). -/
  | outConfig (g : Gcp)
  /-- `PPS_CONFIG` (R397). -/
  | ppsConfig (g : Gcp)
  /-- `TOD_CONFIG` (R398). -/
  | todConfig (g : Gcp)
  /-- `CLOCK_STATUS` (R399). -/
  | clockStatus (g : Gcp)
  /-- `PTP_CLOCK_CONFIG` (R430). -/
  | ptpClockConfig (g : Gcp)
  /-- `PTP_PORT_CONFIG` (R431). -/
  | ptpPortConfig (g : Gcp)
  /-- `TIME_PROPERTIES` (R432). -/
  | timeProperties (g : Gcp)
  /-- `STEP_TIME` (R422). -/
  | stepTime (g : Gcp)
  /-- `TIME_STATUS` (R434). -/
  | timeStatus (g : Gcp)
  /-- `TIME_PORT_STATUS` (R424). -/
  | timePortStatus (g : Gcp)
  /-- `TRACE_REPORT` (R426). -/
  | traceReport (g : Gcp)
  /-- `TRACE_READ` (R427). -/
  | traceRead (g : Gcp)
  /-- `TDE_PIN` (R452). -/
  | tdePin (g : Gcp)
  /-- `TDE_SOURCE` (R453). -/
  | tdeSource (g : Gcp)
  /-- `EV_CONFIG` (R454). -/
  | evConfig (g : Gcp)
  /-- `INTERVAL_MEASURE` (R455). -/
  | intervalMeasure (g : Gcp)
  /-- `STATS_RUN` (R450). -/
  | statsRun (g : Gcp)
  /-- `STATS_READ` (R457). -/
  | statsRead (g : Gcp)
  /-- `TDE_STATUS` (R458). -/
  | tdeStatus (g : Gcp)
  /-- `POOL_CONFIG` (R292). -/
  | poolConfig (g : Gcp)
  /-- `BUF_THRESHOLD` (R293). -/
  | bufThreshold (g : Gcp)
  /-- `POOL_STATUS` (R294). -/
  | poolStatus (g : Gcp)
  /-- `STOP_BATH` (R318). -/
  | stopBath (g : Gcp)
  /-- `STOP_BATH_HOLD_EXPIRY` (R318). -/
  | stopBathHoldExpiry (h : Nat)
  /-- `EGRESS_SCHED` (R331). -/
  | egressSched (g : Gcp)
  /-- `DEADLOCK_CONFIG` (R332). -/
  | deadlockConfig (g : Gcp)
  /-- `DEADLOCK_STATUS` (R332). -/
  | deadlockStatus (g : Gcp)
  /-- `SLICE_ASSIGN` (R333). -/
  | sliceAssign (g : Gcp)
  /-- `SLICE_RETURN` (R327). -/
  | sliceReturn (g : Gcp)
  /-- `SLICE_STATUS` (R335). -/
  | sliceStatus (g : Gcp)
  /-- `MCAST_GROUP` (R336). -/
  | mcastGroup (g : Gcp)
  /-- `MCAST_CONFIG` (R336). -/
  | mcastConfig (g : Gcp)
  /-- `TABLE_BULK_LOAD` (R259). -/
  | tableBulkLoad (g : Gcp)
  /-- `FENCE` (R253). -/
  | fence (g : Gcp)
  /-- `FENCE_LIMIT_EXPIRY` (R253). -/
  | fenceLimitExpiry (h : Nat)
  /-- `TABLE_SHADOW` (R261). -/
  | tableShadow (g : Gcp)
  /-- `LEARN_CONFIG` (R262). -/
  | learnConfig (g : Gcp)
  /-- `L2_PORT_CONFIG` (R263). -/
  | l2PortConfig (g : Gcp)
  /-- `FDB_FLUSH` (R264). -/
  | fdbFlush (g : Gcp)
  /-- `TCAM_REBUILD` (R265). -/
  | tcamRebuild (g : Gcp)
  /-- `TABLE_STATUS` (R266). -/
  | tableStatus (g : Gcp)
  /-- `NEG_STATUS` (R491). -/
  | negStatus (g : Gcp)
  /-- `NEG_READ` (R492). -/
  | negRead (g : Gcp)
  /-- `NEG_EXPORT` (R493). -/
  | negExport (g : Gcp)
  /-- `CAL_SWEEP` (R468). -/
  | calSweep (g : Gcp)
  /-- `CAL_STATUS` (R474). -/
  | calStatus (g : Gcp)
  /-- `CONTACT_RESTORE` (R471). -/
  | contactRestore (g : Gcp)
  /-- `CONTACT_STATUS` (R476). -/
  | contactStatus (g : Gcp)
  /-- `FW_STATUS` (R519). -/
  | fwStatus (g : Gcp)
  /-- `FW_UPDATE` (R520). -/
  | fwUpdate (g : Gcp)
  /-- `FW_DATA` (R521). -/
  | fwData (g : Gcp)
  /-- `FW_DATA_WAIT_EXPIRY` (R521). -/
  | fwDataWaitExpiry (h : Nat)
  /-- `FW_SECTOR_WRITTEN` (R520). -/
  | fwSectorWritten (h : Nat) (dma : Bytes) (read : ImageFacts)
  /-- `OP_QUERY` (R96). -/
  | opQuery (g : Gcp)
  /-- `OP_SUSPEND` (R92). -/
  | opSuspend (g : Gcp)
  /-- `OP_RESUME` (R92). -/
  | opResume (g : Gcp)
  /-- `OP_CANCEL` (R92). -/
  | opCancel (g : Gcp)
  /-- `OP_CANCEL_OUTCOME` (R92). -/
  | opCancelOutcome (h : Nat)
  /-- `OP_UNRECOVERABLE_ERROR` (R92). -/
  | opUnrecoverableError (h : Nat) (e : OpError)
  /-- `BULK_RECORD_COMMITTED` (R259). -/
  | bulkRecordCommitted (h : Nat) (dma : Bytes)
  /-- `EXPORT_RECORD_COPIED` (R493). -/
  | exportRecordCopied (h : Nat)
  /-- `TRACE_PORT_RECORD_BUILT` (R426). -/
  | tracePortRecordBuilt (h : Nat)
  /-- `IDCODE` (R550). -/
  | idcode
  /-- `BYPASS` (R550). -/
  | bypass
  /-- `SAMPLE` (R550). -/
  | sample (pins : Bytes)
  /-- `PRELOAD` (R550). -/
  | preload (cells : Bytes)
  /-- `EXTEST` (R550). -/
  | extest
  /-- `DBG_TRACE` (R550). -/
  | dbgTrace (n : Fin 4096)
  /-- `DBG_READ` (R550). -/
  | dbgRead (addr : BitVec 64)
  /-- `DBG_WRITE` (R550). -/
  | dbgWrite (addr : BitVec 64) (data : BitVec 32)
  /-- `DBG_RESET` (R550). -/
  | dbgReset
  /-- `FACTORY_TEST` (R550). -/
  | factoryTest (c : Fin 16)
  /-- `TEST_LOGIC_RESET` (R550). -/
  | testLogicReset
  /-- `LOS_ASSERT` (R136). -/
  | losAssert (l : Fin 256)
  /-- `LOS_CLEAR` (R136). -/
  | losClear (l : Fin 256)
  /-- `LOL_ASSERT` (R136). -/
  | lolAssert (l : Fin 256)
  /-- `LOL_CLEAR` (R136). -/
  | lolClear (l : Fin 256)
  /-- `RX_ADAPT_UPDATE` (R133). -/
  | rxAdaptUpdate (l : Fin 256) (ctle : Fin 32) (dfe : List Int) (conv : Bool) (corrected : Nat) (offset : Int)
  /-- `ETH_MODULE_READY` (R139). -/
  | ethModuleReady (p : Port)
  /-- `AN_COMPLETE` (R139). -/
  | anComplete (p : Port)
  /-- `ETH_TRAINING_COMPLETE` (R139). -/
  | ethTrainingComplete (p : Port) (taps : List (List Int))
  /-- `MAX_WAIT_TIMER_EXPIRY` (R139). -/
  | maxWaitTimerExpiry (p : Port)
  /-- `ADAPT_CONVERGED` (R139). -/
  | adaptConverged (p : Port)
  /-- `ADAPT_TIMEOUT` (R139). -/
  | adaptTimeout (p : Port)
  /-- `ALIGN_LOCK` (R139). -/
  | alignLock (p : Port) (lat : List (Nat × Nat))
  /-- `ALIGN_TIMEOUT` (R139). -/
  | alignTimeout (p : Port)
  /-- `MODULE_REMOVED` (R139). -/
  | moduleRemoved (p : Port)
  /-- `ALIGN_LOSS` (R139). -/
  | alignLoss (p : Port)
  /-- `HI_BER` (R139). -/
  | hiBer (p : Port)
  /-- `FAULT_RECEIVED` (R139). -/
  | faultReceived (p : Port)
  /-- `FAULT_END` (R139). -/
  | faultEnd (m : UpMeasure)
  /-- `ETH_BACKOFF_EXPIRY` (R139). -/
  | ethBackoffExpiry (p : Port)
  /-- `DLK_MODULE_READY` (R177). -/
  | dlkModuleReady (p : Port)
  /-- `DLK_TRAINING_COMPLETE` (R179). -/
  | dlkTrainingComplete (p : Port)
  /-- `DLK_TRAIN_TIMEOUT` (R177). -/
  | dlkTrainTimeout (p : Port) (half : Bool)
  /-- `DLK_LANES_LOCKED` (R180). -/
  | dlkLanesLocked (p : Port) (locked : BitVec 4)
  /-- `DLK_LOCK_TIMEOUT` (R177). -/
  | dlkLockTimeout (p : Port) (locked : BitVec 4)
  /-- `DLK_EXCHANGE_TIMEOUT` (R177). -/
  | dlkExchangeTimeout (p : Port)
  /-- `DLK_BACKOFF_EXPIRY` (R177). -/
  | dlkBackoffExpiry (p : Port)
  /-- `DLK_SLOT` (R158). -/
  | dlkSlot (p : Port) (deps : List Int)
  /-- `DLK_CAP_EXCHANGE_TX` (R182). -/
  | dlkCapExchangeTx (p : Port)
  /-- `SHUTTER_MARK_ARRIVAL` (R171). -/
  | shutterMarkArrival (p : Port) (l : Fin 4) (index : BitVec 48) (raw : Int)
  /-- `TILE_LOST` (R156). -/
  | tileLost (p : Port) (l : Fin 4) (pos : Fin 1024) (mark : Bool) (stuffed : Nat) (stuffBad : Nat)
  /-- `DLK_DATA_TILE_RX` (R164). -/
  | dlkDataTileRx (p : Port) (t : DlkTile)
  /-- `DLK_IDLE_TILE_RX` (R168). -/
  | dlkIdleTileRx (p : Port) (t : DlkTile)
  /-- `DLK_CREDIT_TILE_RX` (R169). -/
  | dlkCreditTileRx (p : Port) (t : DlkTile)
  /-- `DLK_ABORT_TILE_RX` (R169). -/
  | dlkAbortTileRx (p : Port) (t : DlkTile)
  /-- `DLK_TIME_TILE_RX` (R174). -/
  | dlkTimeTileRx (p : Port) (t : DlkTile)
  /-- `DLK_TRAIN_TILE_RX` (R179). -/
  | dlkTrainTileRx (p : Port) (t : DlkTile) (eye : Bool) (tap : Fin 7) (action : Fin 3)
  /-- `DLK_CAP_EXCHANGE_RX` (R182). -/
  | dlkCapExchangeRx (p : Port) (t : DlkTile)
  /-- `DLK_CAP_LANE_STATE_RX` (R184). -/
  | dlkCapLaneStateRx (p : Port) (t : DlkTile)
  /-- `DLK_CAP_DELAY_UPDATE_RX` (R181). -/
  | dlkCapDelayUpdateRx (p : Port) (t : DlkTile)
  /-- `DLK_CAP_LANE_TRAIN_RX` (R187). -/
  | dlkCapLaneTrainRx (p : Port) (t : DlkTile)
  /-- `LANE_RETRY` (R187). -/
  | laneRetry (p : Port) (l : Fin 4)
  /-- `DLK_LANE_RELOCK` (R187). -/
  | dlkLaneRelock (p : Port) (l : Fin 4)
  /-- `SGPIO_SCAN` (R216). -/
  | sgpioScan (inputs : BitVec 128)
  /-- `RESETL_RELEASE` (R217). -/
  | resetlRelease (p : Port)
  /-- `MODULE_INIT_COMPLETE` (R217). -/
  | moduleInitComplete (p : Port) (app : ModuleInit) (cmis : Byte)
  /-- `MODULE_INTL` (R217). -/
  | moduleIntl (p : Port) (flags : BitVec 32) (cmis : Byte) (ready : ModuleWorks)
  /-- `MODULE_FLAG_POLL` (R217). -/
  | moduleFlagPoll (p : Port) (flags : BitVec 32) (cmis : Byte) (ready : ModuleWorks)
  /-- `FRAME_GRANT_POINT` (R271). -/
  | frameGrantPoint (p : Port) (head : Bytes) (upsets : List (Nat × Byte))
  /-- `CACHE_REFILL_DONE` (R274). -/
  | cacheRefillDone (p : Fin 6)
  /-- `CACHE_SPILL_DONE` (R274). -/
  | cacheSpillDone (p : Fin 6)
  /-- `FRAME_END` (R9). -/
  | frameEnd (p : Port) (rest : Bytes)
  /-- `FRAME_LOOKUP` (R221). -/
  | frameLookup (p : Port) (tokens : Nat) (faults : List (Nat × Nat)) (corrected : Nat)
  /-- `QM_RESULT_ARRIVAL` (R324). -/
  | qmResultArrival (sl : Slice) (p : Port) (epoch : Fin 16) (more : Bytes)
  /-- `CROSSBAR_ROUND` (R304). -/
  | crossbarRound (upsets : List (Nat × Byte))
  /-- `EGRESS_FRAME_SELECT` (R306). -/
  | egressFrameSelect (p : Port)
  /-- `PFC_FRAME_RX` (R205). -/
  | pfcFrameRx (p : Port) (vec : Byte) (times : List (BitVec 16))
  /-- `PAUSE_FRAME_RX` (R205). -/
  | pauseFrameRx (p : Port) (quanta : BitVec 16)
  /-- `RX_PAUSE_EXPIRY` (R205). -/
  | rxPauseExpiry (p : Port) (c : TC)
  /-- `PFC_REPEAT_TIMER` (R203). -/
  | pfcRepeatTimer (p : Port) (c : TC)
  /-- `TRAP_FRAME_DELIVERY` (R542). -/
  | trapFrameDelivery (c : TC)
  /-- `INJECT_FRAME_DONE` (R544). -/
  | injectFrameDone (c : TC)
  /-- `READ_INDEX` (R247). -/
  | readIndex (w : Fin 18) (t : Fin 16)
  /-- `WRITE_INDEX` (R247). -/
  | writeIndex (w : Fin 18) (t : Fin 16)
  /-- `INSERT` (R225). -/
  | insert (w : Fin 18) (t : Fin 16)
  /-- `DELETE` (R247). -/
  | delete (w : Fin 18) (t : Fin 16)
  /-- `SEARCH` (R247). -/
  | search (w : Fin 18) (t : Fin 16)
  /-- `CLEAR_HIT` (R247). -/
  | clearHit (w : Fin 18) (t : Fin 16)
  /-- `TAW_PORT_GRANT` (R250). -/
  | tawPortGrant (w : Fin 18)
  /-- `TAW_START_LIMIT_EXPIRY` (R250). -/
  | tawStartLimitExpiry (w : Fin 18)
  /-- `AGEING_SWEEP_VISIT` (R242). -/
  | ageingSweepVisit (sl : Slice) (ix : Nat)
  /-- `TCAM_SCRUB` (R255). -/
  | tcamScrub (sl : Slice) (lpm : List Nat) (cls : List (Nat × Bytes))
  /-- `TCAM_REBUILD_DONE` (R234). -/
  | tcamRebuildDone (sl : Slice)
  /-- `TCAM_SELFTEST_DONE` (R233). -/
  | tcamSelftestDone (sl : Slice) (failing : List Nat)
  /-- `SHADOW_COMPARE_READ` (R256). -/
  | shadowCompareRead (t : Fin 7) (r : Bytes)
  /-- `WATCHDOG_WINDOW_END` (R323). -/
  | watchdogWindowEnd (sl : Slice) (stalled : Bool)
  /-- `SLICE_TAKEOVER` (R325). -/
  | sliceTakeover
  /-- `DEADLOCK_SUSPECT` (R316). -/
  | deadlockSuspect (p : Port) (c : TC)
  /-- `AVS_LOOP_TICK` (R322). -/
  | avsLoopTick (ok : Bool) (pace : List (Nat × Nat × Nat))
  /-- `AVSBUS_RETRY` (R548). -/
  | avsbusRetry (ok : Bool)
  /-- `XO_LOST` (R339). -/
  | xoLost
  /-- `XO_RESTORED` (R339). -/
  | xoRestored
  /-- `XO_RDY_CHANGE` (R340). -/
  | xoRdyChange (level : Bool)
  /-- `WARM_HOLD_EXPIRY` (R340). -/
  | warmHoldExpiry (spread : Nat)
  /-- `REF_ACTIVITY_FAILURE` (R344). -/
  | refActivityFailure (r : Fin 14)
  /-- `FREQ_MONITOR_UPDATE` (R345). -/
  | freqMonitorUpdate (r : Fin 15) (act : Bool) (offset : Int) (slope : Int)
  /-- `DRIFT_CLEAR_EXPIRY` (R360). -/
  | driftClearExpiry (r : Fin 15)
  /-- `QUALIFICATION_TIMER_EXPIRY` (R346). -/
  | qualificationTimerExpiry (r : Fin 15)
  /-- `SELECTION_TICK` (R351). -/
  | selectionTick (loops : List (Int × Int)) (src : Int)
  /-- `DPLL_LOCK_DWELL_EXPIRY` (R355). -/
  | dpllLockDwellExpiry (d : Fin 4)
  /-- `DPLL_UNLOCK` (R355). -/
  | dpllUnlock (d : Fin 4)
  /-- `BANDWIDTH_NARROW_STEP` (R356). -/
  | bandwidthNarrowStep (d : Fin 4)
  /-- `FREQUENCY_LOCK` (R361). -/
  | frequencyLock (o : Int)
  /-- `SLEW_COMPLETE` (R362). -/
  | slewComplete
  /-- `PPSIN_PULSE` (R392). -/
  | ppsinPulse (ix : Fin 2) (capture : Int)
  /-- `TOD_RX_MESSAGE` (R392). -/
  | todRxMessage (b : Bytes) (late : Bool)
  /-- `ESMC_PDU_RX` (R349). -/
  | esmcPduRx (p : Port) (ssm : Byte) (essm : Byte)
  /-- `ESMC_TIMEOUT` (R349). -/
  | esmcTimeout (p : Port)
  /-- `ESMC_INFO_TX` (R350). -/
  | esmcInfoTx (p : Port)
  /-- `PTP_SYNC_RX` (R409). -/
  | ptpSyncRx (p : Port) (m : PtpMsg)
  /-- `PTP_FOLLOW_UP_RX` (R402). -/
  | ptpFollowUpRx (p : Port) (m : PtpMsg)
  /-- `PTP_DELAY_REQ_RX` (R402). -/
  | ptpDelayReqRx (p : Port) (m : PtpMsg)
  /-- `PTP_DELAY_RESP_RX` (R408). -/
  | ptpDelayRespRx (p : Port) (m : PtpMsg)
  /-- `PTP_ANNOUNCE_RX` (R407). -/
  | ptpAnnounceRx (p : Port) (m : PtpMsg) (a : PtpAnnounce)
  /-- `PTP_PDELAY_REQ_RX` (R406). -/
  | ptpPdelayReqRx (p : Port) (m : PtpMsg) (txc : Int)
  /-- `PTP_PDELAY_RESP_RX` (R406). -/
  | ptpPdelayRespRx (p : Port) (m : PtpMsg)
  /-- `PTP_PDELAY_RESP_FOLLOW_UP_RX` (R406). -/
  | ptpPdelayRespFollowUpRx (p : Port) (m : PtpMsg)
  /-- `L1_SYNC_TLV_RX` (R405). -/
  | l1SyncTlvRx (p : Port) (txCoherent : Bool) (rxCoherent : Bool) (congruent : Bool)
  /-- `PTP_UNSUPPORTED_RX` (R402). -/
  | ptpUnsupportedRx (p : Port)
  /-- `PTP_SYNC_TX` (R401). -/
  | ptpSyncTx (p : Port) (txc : Int)
  /-- `PTP_ANNOUNCE_TX` (R411). -/
  | ptpAnnounceTx (p : Port)
  /-- `PTP_DELAY_REQ_TX` (R401). -/
  | ptpDelayReqTx (p : Port) (txc : Int)
  /-- `PTP_PDELAY_REQ_TX` (R406). -/
  | ptpPdelayReqTx (p : Port) (txc : Int)
  /-- `ANNOUNCE_RECEIPT_TIMEOUT` (R408). -/
  | announceReceiptTimeout (p : Port)
  /-- `SYNC_RECEIPT_TIMEOUT` (R408). -/
  | syncReceiptTimeout (p : Port)
  /-- `DELAY_RESP_TIMEOUT` (R408). -/
  | delayRespTimeout (p : Port)
  /-- `OFFSET_PAIR_TIMEOUT` (R408). -/
  | offsetPairTimeout (p : Port)
  /-- `ANNOUNCE_BLOCK_REWRITE` (R412). -/
  | announceBlockRewrite (p : Port)
  /-- `STEP_CONFIRM_EXPIRY` (R421). -/
  | stepConfirmExpiry
  /-- `WITHDRAWAL_END` (R421). -/
  | withdrawalEnd (k : Fin 3)
  /-- `PPS_SECOND_BOUNDARY` (R388). -/
  | ppsSecondBoundary (m0 : Int) (m1 : Int)
  /-- `PPS_WIDTH_END` (R388). -/
  | ppsWidthEnd (n : Fin 2)
  /-- `TOD_TX_START` (R391). -/
  | todTxStart
  /-- `REBAND_CHECK` (R379). -/
  | rebandCheck (ix : Fin 2)
  /-- `SYNTH_LOCK_LOSS` (R384). -/
  | synthLockLoss (ix : Fin 7)
  /-- `SOURCE_SETTLED` (R384). -/
  | sourceSettled (ix : Fin 7)
  /-- `TDE_VISIT_SLOT` (R443). -/
  | tdeVisitSlot (e : Fin 8) (c : Fin 82) (found : List (Int × Int × Bool))
  /-- `TDE_EDGE` (R436). -/
  | tdeEdge (c : Fin 82) (stamp : Int) (coarse : Int) (tx : Bool)
  /-- `TDE_CLAIM_GRANT` (R451). -/
  | tdeClaimGrant (e : Fin 8)
  /-- `MEASUREMENT_WINDOW_CLOSE` (R446). -/
  | measurementWindowClose (e : Fin 8)
  /-- `STATS_START_WAIT_EXPIRY` (R450). -/
  | statsStartWaitExpiry (e : Fin 8)
  /-- `CAL_STEP` (R460). -/
  | calStep (ix : Fin 356) (ok : Bool) (ws : List (Nat × Nat))
  /-- `CAL_NO_GAP_EXPIRY` (R462). -/
  | calNoGapExpiry (ix : Fin 356)
  /-- `DELAY_PUBLICATION` (R466). -/
  | delayPublication
  /-- `CAL_APPLY` (R465). -/
  | calApply (ix : Fin 356)
  /-- `CAL_RESTART` (R464). -/
  | calRestart (ix : Fin 356)
  /-- `STAT_PERIOD` (R537). -/
  | statPeriod
  /-- `STAT_SNAP` (R537). -/
  | statSnap
  /-- `TSU_SNAP` (R417). -/
  | tsuSnap
  /-- `IRQ_CAUSE_WRITE` (R532). -/
  | irqCauseWrite (w : Fin 4) (v : BitVec 32)
  /-- `IRQ_HOLDOFF_EXPIRY` (R532). -/
  | irqHoldoffExpiry (v : Fin 64)
  /-- `IRQ_EVQ_CI_WRITE` (R534). -/
  | irqEvqCiWrite (ci : BitVec 16)
  /-- `IRQ_EVQ_ARM` (R534). -/
  | irqEvqArm
  /-- `IRQ_EVQ_LOST_READ` (R531). -/
  | irqEvqLostRead
  /-- `PAC_DROPS_LO_READ` (R535). -/
  | pacDropsLoRead (sl : Slice)
  /-- `TRAP_HOST_IDX_WRITE` (R542). -/
  | trapHostIdxWrite (c : TC) (idx : BitVec 16) (ds : List Bytes)
  /-- `INJECT_HOST_IDX_WRITE` (R544). -/
  | injectHostIdxWrite (c : TC) (idx : BitVec 16) (ds : List (Bytes × Bytes))
  /-- `CPU_RING_ENABLE_WRITE` (R545). -/
  | cpuRingEnableWrite (trap : Bool) (c : TC) (en : Bool)
  /-- `REGISTER_WRITE` (R7). -/
  | registerWrite (bar2 : Bool) (off : BitVec 24) (v : BitVec 32)
  /-- `HOLDOVER_SPEC_EXPIRY` (R411). -/
  | holdoverSpecExpiry
  /-- `BRIDGED_CHANGE_BACK` (R384). -/
  | bridgedChangeBack (n : Fin 8)
  /-- `STOP_BATH_FRAME_DRAINED` (R318). -/
  | stopBathFrameDrained (h : Nat)
  /-- `LANE_RETRY_BACKOFF_EXPIRY` (R187). -/
  | laneRetryBackoffExpiry (p : Port) (l : Fin 4)
  /-- `CONTACT_SHEET_SAVE_DONE` (R470). -/
  | contactSheetSaveDone (h : Nat)
  deriving DecidableEq, Repr

end Sys2Proof
end

