-- ==== Sys2Proof/Config.lean ====
section
/-! DEFINITION. What an implementation or a part fixes and the spec leaves open, and the free values: constants with no body, so that nothing can be proved of them but what holds for every value. -/

namespace Sys2Proof.Config

/-- The device ID in OTP (R508). -/
opaque deviceId : BitVec 64

/-- The base MAC address in OTP (R506). -/
opaque baseMac : Mac

/-- A fresh random nonce of a debug challenge, by draw (R111); its 32 bytes are the little-endian bytes of the value. -/
opaque freshNonce : Nat → BitVec 256

/-- The verdict of a D3 vendor signature over the signed bytes (R112): the vendor key is in OTP and its signatures are not in the spec. -/
opaque vendorSigOk : Bytes → Bytes → Bool

/-- The firmware's default band table (R380): synthesizer and entry to the 16 bytes of R377. -/
opaque bandEntry : Nat → Nat → BitVec 128

/-- The factory value of a calibration word (R461): block index and word. -/
opaque calFactory : Nat → Nat → BitVec 32

/-- The three hash functions of the LPM length filter (R230), by number, family, length and masked prefix: the spec does not give them. -/
opaque lpmFilter : Fin 3 → Bool → Nat → Nat → Nat

/-- What a lane test's checker shows (R511), by test, time run in timebase periods, and lane: is it locked, bits checked, bit errors. The line under test is outside the spec. -/
opaque testLocked : Nat → Nat → Nat → Bool
opaque testBits : Nat → Nat → Nat → BitVec 64
opaque testErrors : Nat → Nat → Nat → BitVec 64

/-- How a transaction with a module ends (R218), by draw: 0 acknowledged, 1 no acknowledge after 3 attempts, 2 the bus is held low. -/
opaque moduleBus : Nat → Fin 3

/-- A byte a module's memory returns (R218), by draw and offset: the module is outside the spec. -/
opaque moduleByte : Nat → Nat → BitVec 8

/-- The levels that the board gives GPIO0 to GPIO7 (R528), by instant. -/
opaque gpioLevels : Nat → BitVec 8

/-- Whether a slice passes the self-test of SLICE_RETURN (R327), by draw. -/
opaque sliceTest : Nat → Bool

/-- A byte of the trace buffers (R110, R550), by draw and offset: what they hold is not in the spec. -/
opaque traceByte : Nat → Nat → BitVec 8

/-- READY and the data that a debug read captures (R550), by draw and address: the debug address map is not in the spec. -/
opaque debugWord : Nat → BitVec 64 → BitVec 33

end Sys2Proof.Config
end

