-- ==== Sys2Proof/Machine/Bytes.lean ====
section
/-! DEFINITION. Byte order (R5), the CRCs of R78, R155, R162 and R224, and the shape of a field. -/

namespace Sys2Proof

/-- `n` bytes of `v`, least significant first (R5). -/
def le : Nat → Nat → Bytes
  | 0, _ => []
  | n + 1, v => BitVec.ofNat 8 v :: le n (v / 256)

/-- `n` bytes of a signed value, two's complement, least significant first. -/
def leInt (n : Nat) (v : Int) : Bytes := le n (v % (256 ^ n : Nat)).toNat

/-- The number a byte string spells, least significant byte first (R5). -/
def leNat : Bytes → Nat
  | [] => 0
  | b :: bs => b.toNat + 256 * leNat bs

/-- `n` bytes of `v`, most significant first (wire order of a MAC address). -/
def be (n v : Nat) : Bytes := (le n v).reverse

/-- The number a byte string spells, most significant byte first. -/
def beNat (bs : Bytes) : Nat := leNat bs.reverse

/-- `n` zero bytes. -/
def zeros (n : Nat) : Bytes := List.replicate n 0

/-- One byte. -/
def b1 (v : Nat) : Bytes := [BitVec.ofNat 8 v]

/-- Bits as a number: bit i of the result is element i. -/
def bitsNat : List Bool → Nat
  | [] => 0
  | b :: bs => (if b then 1 else 0) + 2 * bitsNat bs

/-- The little-endian field of `size` bytes at offset `off`. -/
def field (bs : Bytes) (off size : Nat) : Nat := leNat ((bs.drop off).take size)

/-- The same field read as two's complement. -/
def fieldInt (bs : Bytes) (off size : Nat) : Int :=
  let v := field bs off size
  if v < 256 ^ size / 2 then (v : Int) else (v : Int) - (256 ^ size : Nat)

/-- The byte at an offset, zero past the end. -/
def byteAt (bs : Bytes) (off : Nat) : Byte := bs.getD off 0

/-- `size` bytes from offset `off`. -/
def slice (bs : Bytes) (off size : Nat) : Bytes := (bs.drop off).take size

/-- Every byte of the span is zero (reserved bytes, R6). -/
def allZero (bs : Bytes) (off size : Nat) : Bool := (slice bs off size).all (· == 0)

/-- Pad or cut a byte string to exactly `n` bytes. -/
def toLen (n : Nat) (bs : Bytes) : Bytes := bs.take n ++ zeros (n - bs.length)

/-- One bit step of a reflected 32-bit CRC. -/
def crcBit (poly : BitVec 32) (c : BitVec 32) : BitVec 32 :=
  if c.getLsbD 0 then (c >>> 1) ^^^ poly else c >>> 1

/-- One byte of a reflected 32-bit CRC. -/
def crcByte (poly : BitVec 32) (c : BitVec 32) (b : Byte) : BitVec 32 :=
  (List.range 8).foldl (fun a _ => crcBit poly a) (c ^^^ b.setWidth 32)

/-- Reflected CRC over bytes from a running value (before the final exclusive-or). -/
def crcRun (poly : BitVec 32) (c : BitVec 32) (bs : Bytes) : BitVec 32 := bs.foldl (crcByte poly) c

/-- CRC-32 of R78: polynomial 0x04C1_1DB7 reflected. -/
def crc32 (bs : Bytes) : Nat := (crcRun 0xEDB88320#32 0xFFFFFFFF#32 bs ^^^ 0xFFFFFFFF#32).toNat

/-- CRC-32C of R224: as R78 with polynomial 0x1EDC_6F41. -/
def crc32c (bs : Bytes) : Nat := (crcRun 0x82F63B78#32 0xFFFFFFFF#32 bs ^^^ 0xFFFFFFFF#32).toNat

/-- CRC-4 of the tile header (R155): x^4 + x + 1, initial 0, bits taken lowest first. -/
def crc4 (n : Nat) (v : Nat) : Nat :=
  ((List.range n).foldl (fun (c : BitVec 4) i =>
    let fb := Bool.xor (c.getLsbD 3) (v.testBit i)
    if fb then (c <<< 1) ^^^ 0x3#4 else c <<< 1) 0#4).toNat

/-- CRC-8 of a segment (R162) and of the SMBus PEC: x^8 + x^2 + x + 1, initial 0, not reflected. -/
def crc8 (bs : Bytes) : Nat :=
  (bs.foldl (fun (c : BitVec 8) b =>
    (List.range 8).foldl (fun (a : BitVec 8) _ =>
      if a.getLsbD 7 then (a <<< 1) ^^^ 0x07#8 else a <<< 1) (c ^^^ b)) 0#8).toNat

/-- A counter that saturates at its width. -/
def satAdd (bits v n : Nat) : Nat := min (v + n) (2 ^ bits - 1)

/-- A counter that wraps at its width. -/
def wrapAdd (bits v n : Nat) : Nat := (v + n) % 2 ^ bits

/-- Set bit `i` of a mask. -/
def setBit (m i : Nat) : Nat := m ||| 2 ^ i

/-- Clear bit `i` of a mask. -/
def clearBit (m i : Nat) : Nat := if m.testBit i then m - 2 ^ i else m

/-- The number of set bits among the lowest `n`. -/
def popcount (n m : Nat) : Nat := ((List.range n).filter (fun i => m.testBit i)).length

/-- The lowest set bit among the lowest `n`, or `n`. -/
def lowestBit (n m : Nat) : Nat := ((List.range n).find? (fun i => m.testBit i)).getD n

end Sys2Proof
end

