-- ==== Sys2Proof/Machine/Crypto.lean ====
section
/-! DEFINITION. The published algorithms that the spec names: SHA-256 (R79, R481), HMAC-SHA-256 (R79), HKDF-SHA-256
(RFC 5869) and the AES-256 key wrap of RFC 3394 (R104). -/

namespace Sys2Proof.Crypto

/-- The 64 round constants of SHA-256, eight in each part. -/
def kA : List (BitVec 32) :=
  [0x428a2f98, 0x71374491, 0xb5c0fbcf, 0xe9b5dba5, 0x3956c25b, 0x59f111f1, 0x923f82a4, 0xab1c5ed5,
   0xd807aa98, 0x12835b01, 0x243185be, 0x550c7dc3, 0x72be5d74, 0x80deb1fe, 0x9bdc06a7, 0xc19bf174]
def kB : List (BitVec 32) :=
  [0xe49b69c1, 0xefbe4786, 0x0fc19dc6, 0x240ca1cc, 0x2de92c6f, 0x4a7484aa, 0x5cb0a9dc, 0x76f988da,
   0x983e5152, 0xa831c66d, 0xb00327c8, 0xbf597fc7, 0xc6e00bf3, 0xd5a79147, 0x06ca6351, 0x14292967]
def kC : List (BitVec 32) :=
  [0x27b70a85, 0x2e1b2138, 0x4d2c6dfc, 0x53380d13, 0x650a7354, 0x766a0abb, 0x81c2c92e, 0x92722c85,
   0xa2bfe8a1, 0xa81a664b, 0xc24b8b70, 0xc76c51a3, 0xd192e819, 0xd6990624, 0xf40e3585, 0x106aa070]
def kD : List (BitVec 32) :=
  [0x19a4c116, 0x1e376c08, 0x2748774c, 0x34b0bcb5, 0x391c0cb3, 0x4ed8aa4a, 0x5b9cca4f, 0x682e6ff3,
   0x748f82ee, 0x78a5636f, 0x84c87814, 0x8cc70208, 0x90befffa, 0xa4506ceb, 0xbef9a3f7, 0xc67178f2]

/-- The round constants in order. -/
def k256 : List (BitVec 32) := kA ++ kB ++ kC ++ kD

/-- The initial hash value of SHA-256. -/
def h256 : List (BitVec 32) :=
  [0x6a09e667, 0xbb67ae85, 0x3c6ef372, 0xa54ff53a, 0x510e527f, 0x9b05688c, 0x1f83d9ab, 0x5be0cd19]

def rotr (x : BitVec 32) (n : Nat) : BitVec 32 := x.rotateRight n

/-- One step of the message schedule; the schedule is kept newest first. -/
def schedStep (w : List (BitVec 32)) : List (BitVec 32) :=
  let w15 := w.getD 14 0
  let w2 := w.getD 1 0
  let s0 := rotr w15 7 ^^^ rotr w15 18 ^^^ (w15 >>> 3)
  let s1 := rotr w2 17 ^^^ rotr w2 19 ^^^ (w2 >>> 10)
  (w.getD 15 0 + s0 + w.getD 6 0 + s1) :: w

/-- The 64 schedule words of one block, in order. -/
def schedule (block : List (BitVec 32)) : List (BitVec 32) :=
  ((List.range 48).foldl (fun w _ => schedStep w) block.reverse).reverse

/-- One round on the eight working words. -/
def round (v : List (BitVec 32)) (kw : BitVec 32 × BitVec 32) : List (BitVec 32) :=
  match v with
  | [a, b, c, d, e, f, g, h] =>
    let s1 := rotr e 6 ^^^ rotr e 11 ^^^ rotr e 25
    let ch := (e &&& f) ^^^ (~~~e &&& g)
    let t1 := h + s1 + ch + kw.1 + kw.2
    let s0 := rotr a 2 ^^^ rotr a 13 ^^^ rotr a 22
    let mj := (a &&& b) ^^^ (a &&& c) ^^^ (b &&& c)
    [t1 + (s0 + mj), a, b, c, d + t1, e, f, g]
  | other => other

/-- Compress one block into the hash value. -/
def compress (h block : List (BitVec 32)) : List (BitVec 32) :=
  List.zipWith (· + ·) h ((k256.zip (schedule block)).foldl round h)

/-- Big-endian 32-bit words of a byte string, with fuel for its length. -/
def wordsBE : Nat → Bytes → List (BitVec 32)
  | 0, _ => []
  | n + 1, bs => BitVec.ofNat 32 (beNat (bs.take 4)) :: wordsBE n (bs.drop 4)

/-- Compress successive 64-byte blocks. -/
def blocks : Nat → List (BitVec 32) → Bytes → List (BitVec 32)
  | 0, h, _ => h
  | n + 1, h, bs => blocks n (compress h (wordsBE 16 (bs.take 64))) (bs.drop 64)

/-- SHA-256. -/
def sha256 (m : Bytes) : Bytes :=
  let padded := m ++ [0x80] ++ zeros ((119 - m.length % 64) % 64) ++ be 8 (m.length * 8)
  (blocks (padded.length / 64) h256 padded).flatMap (fun w => be 4 w.toNat)

/-- HMAC-SHA-256. -/
def hmac (key m : Bytes) : Bytes :=
  let k := toLen 64 (if key.length > 64 then sha256 key else key)
  sha256 (k.map (· ^^^ 0x5c) ++ sha256 (k.map (· ^^^ 0x36) ++ m))

/-- The 16-byte tag of R79. -/
def tag16 (key m : Bytes) : Bytes := (hmac key m).take 16

/-- HKDF-SHA-256 with empty salt, 32 bytes of output (R104). -/
def hkdf32 (ikm info : Bytes) : Bytes := hmac (hmac (zeros 32) ikm) (info ++ [0x01])

/-! AES-256, the inverse cipher that unwrapping needs. -/

/-- Multiply by x in GF(2^8). -/
def xtime (b : Byte) : Byte := if b.getLsbD 7 then (b <<< 1) ^^^ 0x1b else b <<< 1

/-- Multiply in GF(2^8). -/
def gmul (a b : Byte) : Byte :=
  ((List.range 8).foldl (fun (acc : Byte × Byte) i =>
    (if b.getLsbD i then acc.1 ^^^ acc.2 else acc.1, xtime acc.2)) ((0 : Byte), a)).1

/-- The inverse in GF(2^8), a^254. -/
def ginv (a : Byte) : Byte :=
  let a2 := gmul a a
  let a4 := gmul a2 a2
  let a8 := gmul a4 a4
  let a16 := gmul a8 a8
  let a32 := gmul a16 a16
  let a64 := gmul a32 a32
  let a128 := gmul a64 a64
  gmul a2 (gmul a4 (gmul a8 (gmul a16 (gmul a32 (gmul a64 a128)))))

/-- The S-box. -/
def sbox (b : Byte) : Byte :=
  let i := ginv b
  i ^^^ i.rotateLeft 1 ^^^ i.rotateLeft 2 ^^^ i.rotateLeft 3 ^^^ i.rotateLeft 4 ^^^ 0x63

/-- The inverse S-box. -/
def invSbox (b : Byte) : Byte :=
  ginv (b.rotateLeft 1 ^^^ b.rotateLeft 3 ^^^ b.rotateLeft 6 ^^^ 0x05)

def xorB (a b : Bytes) : Bytes := List.zipWith (· ^^^ ·) a b

/-- The expanded key of AES-256 as words, newest first. -/
def expandStep (ws : List Bytes) (i : Nat) (rcon : Byte) : List Bytes × Byte :=
  let prev := ws.getD 0 []
  let base := ws.getD 7 []
  let t := if i % 8 = 0 then
      xorB ((prev.drop 1 ++ prev.take 1).map sbox) [rcon, 0, 0, 0]
    else if i % 8 = 4 then prev.map sbox else prev
  (xorB base t :: ws, if i % 8 = 0 then xtime rcon else rcon)

/-- The 15 round keys of AES-256. -/
def roundKeys (key : Bytes) : List Bytes :=
  let ws0 := (List.range 8).map (fun i => slice key (4 * i) 4)
  let ws := ((List.range 52).foldl (fun (a : List Bytes × Byte) j => expandStep a.1 (j + 8) a.2)
    (ws0.reverse, (0x01 : Byte))).1.reverse
  (List.range 15).map (fun r => (slice ws.flatten (16 * r) 16))

/-- The inverse of ShiftRows on a column-major state. -/
def invShiftRows (s : Bytes) : Bytes :=
  (List.range 16).map (fun i => byteAt s ((i + 16 - 4 * (i % 4)) % 16))

/-- The inverse of MixColumns. -/
def invMixColumn (c : Bytes) : Bytes :=
  let a := byteAt c
  [gmul (a 0) 14 ^^^ gmul (a 1) 11 ^^^ gmul (a 2) 13 ^^^ gmul (a 3) 9,
   gmul (a 0) 9 ^^^ gmul (a 1) 14 ^^^ gmul (a 2) 11 ^^^ gmul (a 3) 13,
   gmul (a 0) 13 ^^^ gmul (a 1) 9 ^^^ gmul (a 2) 14 ^^^ gmul (a 3) 11,
   gmul (a 0) 11 ^^^ gmul (a 1) 13 ^^^ gmul (a 2) 9 ^^^ gmul (a 3) 14]

def invMixColumns (s : Bytes) : Bytes :=
  (List.range 4).flatMap (fun c => invMixColumn (slice s (4 * c) 4))

/-- AES-256 decryption of one block. -/
def aesDec (key block : Bytes) : Bytes :=
  let ks := roundKeys key
  let s0 := xorB block (ks.getD 14 [])
  let s := (List.range 13).foldl (fun s r =>
    invMixColumns (xorB ((invShiftRows s).map invSbox) (ks.getD (13 - r) []))) s0
  xorB ((invShiftRows s).map invSbox) (ks.getD 0 [])

/-- One step of unwrapping: t counts down from 6n. -/
def unwrapStep (kek : Bytes) (n : Nat) (a : Bytes × List Bytes) (t : Nat) : Bytes × List Bytes :=
  let i := (t - 1) % n
  let b := aesDec kek (xorB a.1 (be 8 t) ++ a.2.getD i [])
  (b.take 8, a.2.set i (b.drop 8))

/-- RFC 3394 unwrapping of a 40-byte wrapped key; `none` where the integrity check fails (R104). -/
def unwrap (kek wrapped : Bytes) : Option Bytes :=
  let r := (List.range 4).map (fun i => slice wrapped (8 + 8 * i) 8)
  let (a, rs) := (List.range 24).foldl (fun acc j => unwrapStep kek 4 acc (24 - j)) (wrapped.take 8, r)
  if a = List.replicate 8 (0xA6 : Byte) then some rs.flatten else none

end Sys2Proof.Crypto
end

