-- ==== Sys2Proof/Machine/StSys.lean ====
section
/-! DEFINITION. The state of the system part: modes and boot, power, debug, the Negative, the command protocol, interrupts, the host-memory rings, and what the block has sent outside. -/

namespace Sys2Proof.Machine

/-- The six modes (R36). -/
inductive Mode where
  | safe | provision | run | coast | maintenance | quiesce
  deriving DecidableEq, Repr

/-- The mode's code in `SYS_MODE.MODE` (R36). -/
def Mode.code : Mode → Nat
  | .safe => 0 | .provision => 1 | .run => 2 | .coast => 3 | .maintenance => 4 | .quiesce => 5

/-- The lifecycles (R98). -/
inductive Lifecycle where
  | blank | owned | locked | retired
  deriving DecidableEq, Repr

/-- The lifecycle's code (R98). -/
def Lifecycle.code : Lifecycle → Nat
  | .blank => 0 | .owned => 1 | .locked => 2 | .retired => 3

/-- The power states that have a code (R115). -/
inductive PState where
  | full | trim | ride | sleep
  deriving DecidableEq, Repr

/-- The power state's code (R115). -/
def PState.code : PState → Nat
  | .full => 0 | .trim => 1 | .ride => 2 | .sleep => 3

/-- What the device has sent outside, one entry per sending (the model's own record, newest first in `State.out`). -/
inductive Out where
  /-- A DMA write to host memory. -/
  | hostWrite (addr : Nat) (data : Bytes)
  /-- An MSI-X message on a vector (R532). -/
  | msix (vector : Nat)
  /-- The answer to an I2C read transfer of the sideband (R74). -/
  | i2cReply (bytes : Bytes)
  /-- A frame transmitted on a port. -/
  | frame (port : Nat) (bytes : Bytes)
  /-- A PFC or PAUSE frame: the priorities named and the pause time (R203). -/
  | pause (port : Nat) (pfc : Bool) (prio : Nat) (quanta : Nat)
  /-- A Dalom tile: global lane, type and the 680 bytes of its codeword (R154). -/
  | tile (lane : Nat) (kind : Nat) (bytes : Bytes)
  /-- A value shifted out of the test access port (R550). -/
  | jtag (code : Nat) (value : Bytes)
  /-- A write of the channel-select byte to an I2C multiplexer: master, address, speed code, byte (R215). -/
  | moduleMux (master addr speed select : Nat)
  /-- A transfer to a module's I2C memory (R218). -/
  | moduleI2c (port : Nat) (write : Bool) (bytes : Bytes)
  /-- The 128 output bits of a scan of the serial GPIO chain (R216). -/
  | modulePins (bits : Nat)
  /-- A voltage write on the AVSBus in mV (R548). -/
  | avs (mv : Nat)
  /-- A PTP message sent on a port (R401). -/
  | ptp (port : Nat) (kind : Nat) (bytes : Bytes)
  /-- An ESMC information PDU sent on a port with its SSM and eSSM (R350). -/
  | esmc (port : Nat) (ssm : Nat) (essm : Nat)
  /-- A TOD message on TOD_TX (R391). -/
  | tod (bytes : Bytes)
  /-- An edge of a PPS output (R388). -/
  | pps (which : Nat) (high : Bool)
  /-- The value a register read returned to the host (R531, R535). -/
  | readData (value : Nat)
  deriving DecidableEq, Repr

/-- What the boot ROM or firmware knows of an image: FW_STATUS STATE (R519), what reading it showed, and whether an update has left it partly written (R55, R91). -/
structure Img where
  state : Nat
  facts : Option ImageFacts
  torn : Bool
  deriving DecidableEq, Repr

/-- A start of firmware in progress (R59): the image started, those still to try, and the transport of the ENTER_PROVISION that asked for it, if one did. -/
structure FwStart where
  image : Nat
  rest : List Nat
  asked : Option Transport
  deriving DecidableEq, Repr

/-- Modes, reset and boot (R36 to R60), the SYS registers that hold state (R528) and DEVICE_CONFIG (R506). -/
structure Sys where
  mode : Mode
  paused : Bool
  draining : Bool
  drainEnd : Nat
  drainLanesOff : Bool
  lanesOff : Bool
  resetCode : Nat
  resetData : Nat
  lastStart : Nat
  running : Nat
  fwAlive : Bool
  fallback : Bool
  noImage : Bool
  verifying : Bool
  autoWaits : Bool
  start : Option FwStart
  imgA : Img
  imgB : Img
  deviceMac : Mac
  mgmtVid : Nat
  scratch : BitVec 32
  gpioOut : BitVec 8
  gpioOe : BitVec 8
  straps : Fin 4
  sysRst : Bool
  thermTrip : Bool
  tripWait : Bool
  auxDown : Bool
  perst : Bool
  d3hot : Bool
  resetDue : Option Nat
  deriving DecidableEq, Repr

/-- Power states and thresholds (R115 to R120), and the measured supplies and junction (R528). -/
structure Power where
  state : PState
  remembered : PState
  portOff : BitVec 64
  laneOff : BitVec 256
  waking : Bool
  auxWarn : Bool
  nvInhibit : Bool
  critAux : Bool
  coreWarn : Bool
  coreSag : Bool
  critCore : Bool
  thermWarn : Bool
  thermCrit : Bool
  auxMv : Nat
  coreMv : Nat
  tj : Int
  sensor : Fin 16
  deriving DecidableEq, Repr

/-- An open debug session (R110, R114). -/
structure DbgSession where
  level : Nat
  slot : Nat
  lifetime : Nat
  deadline : Nat
  deriving DecidableEq, Repr

/-- A debug challenge not yet used (R111). -/
structure Challenge where
  level : Nat
  nonce : Bytes
  deadline : Nat
  deriving DecidableEq, Repr

/-- Debug (R110 to R114) and the TAP's selected instruction, boundary cells preloaded and driven (R550). -/
structure Dbg where
  session : Option DbgSession
  challenge : Option Challenge
  ir : Nat
  cells : Bytes
  driven : Bool
  deriving DecidableEq, Repr

/-- One slot of the Contact sheet: its 64-byte header with COMMIT, and the bytes it archives (R469). -/
structure ContactSlot where
  bytes : Bytes
  deriving DecidableEq, Repr

/-- The non-volatile state that a reset keeps (R54, R105). -/
structure Nv where
  lifecycle : Lifecycle
  keys : Tab Bytes
  counters : Tab Nat
  ownerPolicy : Bool
  ownerHash : Bytes
  minVersion : Nat
  rk : Option Bytes
  retiring : Bool
  hold : Bool
  preferred : Nat
  attempts : Nat
  timeGen : Nat
  contact : Tab ContactSlot
  slots : Tab Bytes
  nextSeq : Nat
  lastChain : Bytes
  ringNext : Nat
  deriving DecidableEq, Repr

/-- A Negative record not yet written: every field of R480 but SEQ, the placement flag and CHAIN. -/
structure NegRec where
  todSec : Nat
  todNs : Nat
  ts32 : Nat
  frac : Nat
  timeGen : Nat
  mode : Nat
  power : Nat
  cause : Nat
  lifecycle : Nat
  todValid : Bool
  data : Bytes
  suppressed : Nat
  deriving DecidableEq, Repr

/-- A limited cause's subject (R484): when its last record was written, and the events counted since. -/
structure Limited where
  last : Nat
  count : Nat
  deriving DecidableEq, Repr

/-- The volatile part of the Negative writer (R484, R485, R491, R520). -/
structure Neg where
  deferred : List NegRec
  lost : Nat
  firstLost : Nat
  overflowed : Bool
  repaired : Bool
  limits : Tab Limited
  keptFw : Option NegRec
  deriving DecidableEq, Repr

/-- The IRQ block (R531 to R534) and the MSI-X table and pending bits (R527). -/
structure Irq where
  cause : BitVec 128
  mask : BitVec 128
  pinEn : Bool
  evqEnable : Bool
  evqBase : BitVec 64
  evqLog : Nat
  evqPi : Nat
  evqCi : Nat
  evqLost : Nat
  lostSince : Nat
  vec : Tab Nat
  holdoff : Tab Nat
  lastMsg : Tab Nat
  pendingMsg : BitVec 64
  msix : Tab Nat
  held : List Bytes
  seq : Nat
  deriving DecidableEq, Repr

/-- The MBX block (R529) and the replies and notices it still has to post (R68, R70). -/
structure Mbx where
  cmdBase : BitVec 64
  rplBase : BitVec 64
  cmdPi : Nat
  cmdCi : Nat
  rplPi : Nat
  rplCi : Nat
  enable : Bool
  held : List Bytes
  deriving DecidableEq, Repr

/-- A command received and not yet started (R86, R87); `expired` marks a PCIe entry whose deadline has been answered and which still stands in the ring. -/
structure Waiting where
  pkt : Bytes
  origin : Origin
  received : Nat
  expired : Bool
  deriving DecidableEq, Repr

/-- What a short command whose reply is still due waits for (R501). -/
inductive DueKind where
  /-- ENTER_PROVISION, until firmware is alive or the last start has failed. -/
  | provision
  /-- SET_POWER_STATE FULL from SLEEP, until the wake reaches FULL. -/
  | wakeFull
  /-- RETURN_SERVICE from SLEEP: the target it goes on to. -/
  | wakeReturn (target : Nat)
  /-- INTERVAL_MEASURE, until its window closes: the claim it waits on. -/
  | measure (engine : Nat)
  /-- POOL_CONFIG, until every buffer is FREE or 10 ms have passed (R292): the counts asked for. -/
  | pools (counts : List Nat)
  deriving DecidableEq, Repr

/-- A short command that has started and whose reply is not yet written. -/
structure Due where
  pkt : Bytes
  origin : Origin
  tagKey : Option Bytes
  persisted : Bool
  kind : DueKind
  deriving DecidableEq, Repr

/-- A cached reply (R88): the command's 32 header bytes and tag, and the reply sent. -/
structure Cached where
  header : Bytes
  tag : Bytes
  reply : Bytes
  key : Option Bytes
  deriving DecidableEq, Repr

/-- One transport's commands: those waiting, the one whose reply is due, and the reply cache (R86, R88). -/
structure Chan where
  waiting : List Waiting
  due : Option Due
  cache : List Cached
  deriving DecidableEq, Repr

/-- The command protocol's state: three transports, the next in turn (R86), in-band command frames of a port in the current second (R73), the sideband's reply and counts (R74, R75), command frames received whole and not yet judged (R71, R176), and a failure inside the device that the next command to be persisted or executed meets (R80, R85). -/
structure GcpSt where
  pcie : Chan
  inband : Chan
  sideband : Chan
  turn : Nat
  rateSecond : Nat
  rateCount : Tab Nat
  sbReply : Option Bytes
  sbBad : Nat
  arrived : List InbandFrame
  failing : Option InternalFault
  deriving DecidableEq, Repr

/-- The states of a long operation (R92). -/
inductive OpState where
  | running | suspending | suspended | cancelling | done | cancelled | failed
  deriving DecidableEq, Repr

/-- The state code of R92. -/
def OpState.code : OpState → Nat
  | .running => 0 | .suspending => 1 | .suspended => 2 | .cancelling => 3 | .done => 4 | .cancelled => 5 | .failed => 6

/-- The suspension reason (R96). -/
inductive Reason where
  | none | host | supply
  deriving DecidableEq, Repr

/-- The reason's code (R96). -/
def Reason.code : Reason → Nat
  | .none => 0 | .host => 1 | .supply => 2

/-- Statistics configuration (R536). -/
structure StatBlk where
  enable : Bool
  periodMs : Nat
  base : BitVec 64
  slots : Nat
  pi : Nat
  seq : Nat
  restarted : Bool
  lastAt : Nat
  deriving DecidableEq, Repr

/-- A CPU-port DMA ring (R540): the descriptors posted and not yet used, with the frames of inject descriptors; whether an inject descriptor has been taken, and the write-back of one that is done. -/
structure CpuRing where
  base : BitVec 64
  log : Nat
  hostIdx : Nat
  devIdx : Nat
  enable : Bool
  posted : List (Bytes × Bytes)
  taken : Bool
  fin : Option Bytes
  deriving DecidableEq, Repr

end Sys2Proof.Machine
end

