-- ==== Sys2Proof/Machine/StTime.lean ====
section
/-! DEFINITION. The state of the timing part: oscillator, references and DPLLs (R338 to R371, R570), synthesizers and outputs (R372 to R400), time distribution (R401 to R435), time-interval engines (R436 to R459) and calibration (R460 to R477). -/

namespace Sys2Proof.Machine

/-! ### Oscillator, references, DPLLs -/

/-- The oven oscillator (R338 to R340, R365). `present` is the boot ROM's detection; `rdyAt` is since when XO_RDY has been held in the present WARM evaluation. -/
structure Xo where
  freq : Nat
  present : Bool
  lost : Bool
  rdyPin : Bool
  activeLow : Bool
  noPin : Bool
  holdS : Nat
  wander : Nat
  warm : Bool
  rdyAt : Nat
  deriving DecidableEq, Repr

/-- Qualification states (R346). -/
inductive RefSt where
  | disabled | unqualified | qualifying | qualified
  deriving DecidableEq, Repr

/-- The STATE code of REF_STATUS (R369). -/
def RefSt.code : RefSt → Nat
  | .disabled => 0 | .unqualified => 1 | .qualifying => 2 | .qualified => 3

/-- A reference (R341 to R347, R360, R366). `remain` is the qualification time left, counted from `timerAt`; `fresh` is true until a monitor mean has been taken; `absentUntil` is the end of a withdrawal (R421). -/
structure Ref where
  fromEsmc : Bool
  edge : Bool
  lane : Nat
  freq : Nat
  hostRank : Nat
  prio : Nat
  qualS : Nat
  accept : Nat
  reject : Nat
  st : RefSt
  remain : Nat
  timerAt : Nat
  activity : Bool
  measured : Bool
  offset : Int
  slope : Int
  disqual : Nat
  drift : Bool
  driftAt : Option Nat
  driftTod : Nat
  absentUntil : Option Nat
  deriving DecidableEq, Repr

/-- ESMC on a port (R349, R350, R368): what was last received and when, and what was last sent. -/
structure Esmc where
  enable : Bool
  ssm : Nat
  essm : Nat
  got : Option Nat
  timeout : Bool
  sent : Option (Nat × Nat)
  deriving DecidableEq, Repr

/-- DPLL states (R355). -/
inductive DpllSt where
  | freerun | acquire | locked | holdover
  deriving DecidableEq, Repr

/-- The STATE code of DPLL_STATUS (R370). -/
def DpllSt.code : DpllSt → Nat
  | .freerun => 0 | .acquire => 1 | .locked => 2 | .holdover => 3

/-- A DPLL (R354 to R362, R367, R370). Frequencies in 10^-12, phases in 2^-16 ns, bandwidths in µHz, a slew's rest in 2^-16 ns / 10^13; `hist` holds the 1 s means, newest first, as (second, mean). `ho` is holdover as R411 counts it, `specOut` whether it has lasted HOLDOVER_SPEC_S; `judge` says whether STEP_LIMIT acts (R361, R420). -/
structure Dpll where
  force : Bool
  cands : Nat
  acqBw : Nat
  trackBw : Nat
  thresh : Nat
  dwell : Nat
  hoAvg : Nat
  hoGuard : Nat
  agree : Nat
  stepLimit : Nat
  slope : Nat
  ownRank : Nat
  st : DpllSt
  selected : Option Nat
  lossAt : Option Nat
  bw : Nat
  phase : Int
  steer : Int
  hoFreq : Int
  hoWindow : Nat
  hoStart : Nat
  hoSeconds : Nat
  cold : Bool
  noHist : Bool
  jump : Option Int
  conflict : List Nat
  freqOnly : Bool
  slew : Option Int
  switches : Nat
  limited : Bool
  hist : List (Nat × Int)
  secSum : Int
  secCount : Nat
  specOut : Bool
  ho : Bool
  judge : Bool
  deriving DecidableEq, Repr

/-! ### Synthesizers and outputs -/

/-- A band entry (R377). -/
structure Band where
  code : Nat
  valid : Bool
  tempco : Int
  minK : Nat
  maxK : Nat
  deriving DecidableEq, Repr

/-- A synthesizer (R372 to R380, R399): state 0 locking, 1 settled, 2 relocking; the host's band table where one was loaded; `inForce` the entry of the band in force as it was selected (none: the boot ROM's), which a new table leaves (R380). -/
structure Syn where
  st : Nat
  band : Nat
  path : Nat
  shifted : Bool
  freq : Nat
  table : Option (List Band)
  inForce : Option Band
  deriving DecidableEq, Repr

/-- States of a clock output (R384). -/
inductive OutSt where
  | off | run | squelched | bridged
  deriving DecidableEq, Repr

/-- The OUT_STATE code (R399). -/
def OutSt.code : OutSt → Nat
  | .off => 0 | .run => 1 | .squelched => 2 | .bridged => 3

/-- A clock output (R381 to R386, R396). `relock` is true from the start of a relock until it ends; `held` is the frequency in mHz measured before it. -/
structure CkOut where
  st : OutSt
  fmt : Nat
  source : Nat
  policy : Nat
  div : Nat
  phase : Int
  glide : Nat
  invert : Bool
  relocks : Nat
  relock : Bool
  oldFreq : Nat
  phaseMeas : Int
  deriving DecidableEq, Repr

/-- A PPS output (R388, R389, R397): `width` in ns as configured, `pulse` that of the pulse last begun. -/
structure PpsOut where
  gate : Nat
  width : Nat
  pulse : Nat
  phase : Int
  high : Bool
  lastRise : Option Nat
  skipped : Nat
  phaseMeas : Int
  deriving DecidableEq, Repr

/-- A valid TOD message waiting for its pulse (R392). -/
structure TodMsg where
  sec : Nat
  utc : Int
  leap : Nat
  cls : Nat
  acc : Nat
  deriving DecidableEq, Repr

/-- TOD_TX and TOD_RX (R390 to R392, R398, R399). -/
structure TodBlk where
  tx : Bool
  rx : Bool
  pps : Nat
  delayMs : Nat
  msg : Option TodMsg
  paired : Option TodMsg
  valid : Nat
  bad : Nat
  missing : Nat
  late : Nat
  extra : Nat
  lastHad : Bool
  deriving DecidableEq, Repr

/-! ### Time distribution -/

/-- Quality and path as an Announce or an ANNOUNCE block carries them (R411, R412). -/
structure Ann where
  prio1 : Nat
  cls : Nat
  acc : Nat
  oslv : Nat
  prio2 : Nat
  source : Nat
  steps : Nat
  utc : Int
  flags : Nat
  gm : Nat
  te : Nat
  path : List Nat
  trunc : Bool
  ssm : Nat
  essm : Nat
  offer : Bool
  sender : Nat
  senderPort : Nat
  deriving DecidableEq, Repr

/-- PTP port states by the codes of R424. -/
inductive PtpSt where
  | disabled | listening | preMaster | master | passive | uncalibrated | slave | faulty
  deriving DecidableEq, Repr

/-- The PTP_STATE code (R424). -/
def PtpSt.code : PtpSt → Nat
  | .disabled => 0 | .listening => 1 | .preMaster => 2 | .master => 3 | .passive => 4 | .uncalibrated => 5
  | .slave => 6 | .faulty => 7

/-- A sender heard on a port: its last Announce, and when its last two arrived. -/
structure Foreign where
  ann : Ann
  at1 : Nat
  at0 : Option Nat
  deriving DecidableEq, Repr

/-- PTP on a port (R401 to R408, R424, R431). Times in 2^-16 ns. -/
structure PtpPort where
  enable : Bool
  oneStep : Bool
  linkDelay : Bool
  masterOnly : Bool
  l1sync : Bool
  refPlane : Bool
  transport : Nat
  l2addr : Nat
  logSync : Int
  logDelay : Int
  logAnnounce : Int
  logPdelay : Int
  annTimeout : Nat
  localPrio : Nat
  extTx : Nat
  extRx : Nat
  asym : Int
  st : PtpSt
  foreign : List Foreign
  got : Option Ann
  sync : Option (Nat × Int × Int)
  syncAt : Option Nat
  respAt : Option Nat
  pairAt : Option Nat
  req : Option (Nat × Int)
  ms : Option Int
  meanPath : Int
  delayKnown : Bool
  pReq : Option (Nat × Int)
  pResp : Option (Nat × Int × Int × Int)
  meanLink : Option Int
  seqSync : Nat
  seqAnn : Nat
  seqReq : Nat
  seqPreq : Nat
  unsupported : Nat
  refused : Nat
  offsets : List (Nat × Int)
  l1Up : Bool
  annLost : Bool
  deriving DecidableEq, Repr

/-- A run of refused samples (R420, R421): its source (a port, or 100 + the PPSIN), since when, and the latest sample. -/
structure JumpRun where
  source : Nat
  since : Nat
  sample : Int
  deriving DecidableEq, Repr

/-- The time part (R401 to R434): PTP clock configuration, properties, parent, refusal runs, counts, snapshot, and the last finished report. -/
structure TimeBlk where
  profile : Nat
  clockType : Nat
  domain : Nat
  prio1 : Nat
  prio2 : Nat
  gmAcc : Nat
  gmOslv : Nat
  clockIdSet : Nat
  stepLimit : Nat
  confirmMs : Nat
  hoSpec : Nat
  gmTe : Nat
  ppsDelay : Int
  utc : Int
  flags : Nat
  source : Nat
  fromTod : Bool
  parent : Option Nat
  run : Option JumpRun
  lastSample : Int
  refused : Nat
  accepted : Nat
  snapDone : Bool
  snapSec : Nat
  snapGen : Nat
  snapNs : Nat
  snapTs : Nat
  snapFrac : Nat
  report : Option Bytes
  deriving DecidableEq, Repr

/-! ### Time-interval engines -/

/-- Roles of an engine (R441): rotating; pinned by the host or automatically; claimed. -/
inductive TdeRole where
  | rotating
  | pinned (source : Nat) (auto : Bool)
  | claimed (start stop handle : Nat)
  deriving DecidableEq, Repr

/-- One measurement or statistics run on a claimed engine: parameters, stamps and samples (R446 to R450); `queued` is a start stamped after the window's end and before the sample closes, which begins the next one. Stamps in 2^-16 ps. -/
structure Meter where
  start : Nat
  stop : Nat
  stops : Nat
  window : Nat
  lookback : Nat
  waitMs : Nat
  granted : Bool
  armedAt : Nat
  startStamp : Option Int
  startTs : Bytes
  found : List Int
  early : Bool
  lastEnd : Option Int
  lastStart : Option Int
  queued : Option (Int × Bytes)
  n : Nat
  accepted : Nat
  order : Nat
  noStop : Nat
  coincident : Nat
  skipped : Nat
  spacing : Nat
  sum : Int
  sumSq : Int
  minV : Int
  maxV : Int
  deriving DecidableEq, Repr

/-- An engine (R441, R458). -/
structure Engine where
  role : TdeRole
  meter : Option Meter
  stamps : Nat
  visits : Nat
  deriving DecidableEq, Repr

/-- A rotating source's settings (R453). -/
structure TdeSource where
  enable : Bool
  weight : Nat
  prescale : Nat
  deriving DecidableEq, Repr

/-- An event input (R439, R454). -/
structure EvInput where
  enable : Bool
  slope : Nat
  thresh : Int
  deriving DecidableEq, Repr

/-- The engines' shared state: pins, sources, event inputs, the last stamps of each input (R446), the mismatch count, the rotation's round: when it began and the sources visited in it, newest first (R444), and by how much an engine's stamp of each PPSIN's last edge differs from its coarse capture (R445). -/
structure TdeBlk where
  hostMode : Bool
  pins : List Nat
  sources : Tab TdeSource
  evs : Tab EvInput
  engines : Tab Engine
  rings : Tab (List Int)
  passed : Tab Nat
  mismatch : Nat
  roundAt : Nat
  visited : List Nat
  pulses : Tab Int
  deriving DecidableEq, Repr

/-! ### Calibration -/

/-- A calibration block (R460 to R465). `live` and `staged` list words that differ from the factory value, and words written since the last APPLY; `run` counts consecutive accepted steps since the last load, `small` whether each of them moved no word by more than 4 units, `applied` the instant of an APPLY that no step has followed. -/
structure CalBlk where
  hold : Bool
  converged : Bool
  restored : Bool
  stall : Bool
  sweep : Bool
  consec : Nat
  cause : Nat
  steps : Nat
  discards : Nat
  temp : Int
  live : Tab Nat
  staged : Tab Nat
  run : Nat
  small : Bool
  applied : Option Nat
  deriving DecidableEq, Repr

/-- The timing part. -/
structure Timing where
  xo : Xo
  refs : Tab Ref
  esmc : Tab Esmc
  dplls : Tab Dpll
  syns : Tab Syn
  outs : Tab CkOut
  ppsOuts : Tab PpsOut
  tod : TodBlk
  ptp : Tab PtpPort
  time : TimeBlk
  tde : TdeBlk
  cal : Tab CalBlk
  published : Tab (Tab Nat)
  calDirty : List Nat
  pubAt : Option Nat
  deriving DecidableEq, Repr

/-! ### Values after reset -/

/-- The oscillator after a reset (R340, R365): not yet detected. -/
def Xo.reset : Xo :=
  { freq := 0, present := false, lost := false, rdyPin := false, activeLow := false, noPin := false, holdS := 600,
    wander := 10, warm := false, rdyAt := 0 }

/-- A reference after reset (R341, R343, R366): disabled, but for the parent candidate. -/
def Ref.reset (r : Nat) : Ref :=
  { fromEsmc := false, edge := false, lane := 0, freq := 0, hostRank := 0, prio := 0, qualS := 10, accept := 4000,
    reject := 9200, st := if r = 15 then .unqualified else .disabled, remain := 0, timerAt := 0, activity := false,
    measured := false, offset := 0, slope := 0, disqual := 0, drift := false, driftAt := none, driftTod := 0,
    absentUntil := none }

/-- ESMC of a port after reset (R368). -/
def Esmc.reset : Esmc := { enable := false, ssm := 0, essm := 0, got := none, timeout := false, sent := none }

/-- A DPLL after reset (R354, R367). -/
def Dpll.reset (d : Nat) : Dpll :=
  { force := false, cands := if d = 0 then 2 ^ 15 else 0, acqBw := if d ≤ 1 then 10 else 100,
    trackBw := if d = 0 then 100000 else if d = 1 then 1000000 else 10000000,
    thresh := if d = 0 then 1000 else 10000, dwell := 1000, hoAvg := 1000, hoGuard := 60, agree := 50,
    stepLimit := 10000, slope := 1000, ownRank := 1, st := .freerun, selected := none, lossAt := none, bw := 0,
    phase := 0, steer := 0, hoFreq := 0, hoWindow := 0, hoStart := 0, hoSeconds := 0, cold := false, noHist := false,
    jump := none, conflict := [], freqOnly := false, slew := none, switches := 0, limited := false, hist := [],
    secSum := 0, secCount := 0, specOut := false, ho := false, judge := true }

/-- A synthesizer after reset (R395, R399): locking, on the boot ROM's band. -/
def Syn.reset (i : Nat) : Syn :=
  { st := 0, band := 0xFF, path := 0, shifted := false,
    freq := if i = 0 then 1250000000 else if i ≤ 4 then 156250000 else 2500000000, table := none, inForce := none }

/-- A clock output after reset (R382). -/
def CkOut.reset : CkOut :=
  { st := .squelched, fmt := 0, source := 0, policy := 0, div := 1, phase := 0, glide := 100000, invert := false,
    relocks := 0, relock := false, oldFreq := 0, phaseMeas := 0 }

/-- A PPS output after reset (R397). -/
def PpsOut.reset : PpsOut :=
  { gate := 0, width := 100000000, pulse := 100000000, phase := 0, high := false, lastRise := none, skipped := 0, phaseMeas := 0 }

/-- TOD after reset (R398). -/
def TodBlk.reset : TodBlk :=
  { tx := false, rx := false, pps := 0, delayMs := 10, msg := none, paired := none, valid := 0, bad := 0, missing := 0,
    late := 0, extra := 0, lastHad := false }

/-- PTP on a port after reset (R431): every field 0 or its default, rates those of PROFILE 2. -/
def PtpPort.reset : PtpPort :=
  { enable := false, oneStep := false, linkDelay := false, masterOnly := false, l1sync := false, refPlane := false,
    transport := 0, l2addr := 0, logSync := -4, logDelay := -4, logAnnounce := -3, logPdelay := 0, annTimeout := 3,
    localPrio := 128, extTx := 0, extRx := 0, asym := 0, st := .disabled, foreign := [], got := none, sync := none,
    syncAt := none, respAt := none, pairAt := none, req := none, ms := none, meanPath := 0, delayKnown := false,
    pReq := none, pResp := none, meanLink := none, seqSync := 0, seqAnn := 0, seqReq := 0, seqPreq := 0,
    unsupported := 0, refused := 0, offsets := [], l1Up := false, annLost := false }

/-- The time part after reset (R430, R432): PROFILE 2, CLOCK_TYPE 1, domain 24. -/
def TimeBlk.reset : TimeBlk :=
  { profile := 2, clockType := 1, domain := 24, prio1 := 128, prio2 := 128, gmAcc := 0x21, gmOslv := 0x4E5D,
    clockIdSet := 0, stepLimit := 50000, confirmMs := 2000, hoSpec := 1000, gmTe := 100, ppsDelay := 0, utc := 0,
    flags := 0, source := 0x20, fromTod := true, parent := none, run := none, lastSample := 0, refused := 0,
    accepted := 0, snapDone := false, snapSec := 0, snapGen := 0, snapNs := 0, snapTs := 0, snapFrac := 0,
    report := none }

/-- An engine after reset. -/
def Engine.reset : Engine := { role := .rotating, meter := none, stamps := 0, visits := 0 }

/-- A source's settings after reset (R453). -/
def TdeSource.reset (c : Nat) : TdeSource := { enable := decide (c < 64), weight := 1, prescale := 0 }

/-- An event input after reset (R439). -/
def EvInput.reset : EvInput := { enable := false, slope := 0, thresh := 1200 }

/-- The engines after reset (R442). -/
def TdeBlk.reset : TdeBlk :=
  { hostMode := false, pins := [], sources := [], evs := [], engines := [], rings := [], passed := [], mismatch := 0, roundAt := 0, visited := [], pulses := [] }

/-- A calibration block after reset (R461, R464). -/
def CalBlk.reset : CalBlk :=
  { hold := false, converged := false, restored := false, stall := false, sweep := false, consec := 0, cause := 0,
    steps := 0, discards := 0, temp := 0, live := [], staged := [], run := 0, small := true, applied := none }

/-- The timing part after reset. -/
def Timing.reset : Timing :=
  { xo := Xo.reset, refs := [], esmc := [], dplls := [], syns := [], outs := [], ppsOuts := [], tod := TodBlk.reset,
    ptp := [], time := TimeBlk.reset, tde := TdeBlk.reset, cal := [], published := [], calDirty := [], pubAt := none }

end Sys2Proof.Machine
end

