-- ==== Sys2Proof/Machine/StOps.lean ====
section
/-! DEFINITION. Long operations (R89 to R97): the record of each and the work it still has to do. -/

namespace Sys2Proof.Machine

/-- A firmware update's work (R520, R521): what was asked, the bytes accepted and not yet written, the bytes written, the running CRC of them, and when data was last accepted. -/
structure FwWork where
  target : Nat
  source : Nat
  size : Nat
  addr : Nat
  crc : Nat
  accepted : Nat
  buffer : Bytes
  written : Nat
  crcNow : BitVec 32
  lastData : Nat
  version : Nat
  deriving DecidableEq, Repr

/-- A Negative export's work (R493, R494): the range, NEXT_SEQ and the tag's key at the start, the next SEQ to copy, the header's fixed fields, and the bytes copied so far. -/
structure ExportWork where
  first : Nat
  last : Nat
  upto : Nat
  key : Option Bytes
  next : Nat
  addr : Nat
  lifecycle : Nat
  copied : Bytes
  count : Nat
  missing : Nat
  prevChain : Option Bytes
  todSec : Nat
  todNs : Nat
  timeGen : Nat
  deriving DecidableEq, Repr

/-- A bulk load's work (R259): what was asked, the records still to apply (inline ones), and the number of the next. -/
structure BulkWork where
  table : Nat
  op : Nat
  source : Nat
  count : Nat
  addr : Nat
  firstIndex : Nat
  records : List Bytes
  next : Nat
  deriving DecidableEq, Repr

/-- A Stop bath's work (R318, R330): its selection, the hold time, since when the selected queues have been empty, and how many frames they held when last looked at. -/
structure BathWork where
  discard : Bool
  classMask : Nat
  inPort : Nat
  outPort : Nat
  holdMs : Nat
  mc : Bool
  emptyAt : Option Nat
  left : Nat
  deriving DecidableEq, Repr

/-- A calibration sweep's work (R468): the blocks, whether it saves, the blocks as they stood at the start, the accepted steps, and the save in progress as the slot written. -/
structure SweepWork where
  first : Nat
  count : Nat
  save : Bool
  before : List (Nat × List (Nat × Nat) × Bool × Bool)
  saving : Option (Nat × Bytes)
  deriving DecidableEq, Repr

/-- A traceability report's work (R426): the bytes built so far, and K1 as the command was accepted. -/
structure TraceWork where
  built : Bytes
  key : Bytes
  deriving DecidableEq, Repr

/-- The type-specific work of an operation (R91). -/
inductive Work where
  | fw (w : FwWork)
  | negExport (w : ExportWork)
  | bulk (w : BulkWork)
  /-- A TCAM rebuild (R233): the slice, and whether a self-test goes first. -/
  | rebuild (slice : Nat) (selftest : Bool)
  | bath (w : BathWork)
  /-- A FENCE (R253): the frames looked up before its point, how many they were, and its limit. -/
  | fence (ids : List Nat) (total : Nat) (limitMs : Nat)
  | sweep (w : SweepWork)
  /-- A statistics run (R450), with its last meter once it has let its engine go. -/
  | stats (engine : Nat) (m : Option Meter)
  | trace (w : TraceWork)
  deriving DecidableEq, Repr

/-- A long operation (R89, R96): its record, the command it answers to, and its work. `since` is when it entered its present state; `elapsed` counts earlier periods RUNNING or CANCELLING. -/
structure Op where
  handle : Nat
  typ : Nat
  state : OpState
  progress : Nat
  finalStatus : Nat
  reason : Reason
  transport : Transport
  origin : Option Origin
  tagKey : Option Bytes
  elapsed : Nat
  since : Nat
  units : Nat
  nvWrite : Bool
  work : Work
  deriving DecidableEq, Repr

end Sys2Proof.Machine
end

