-- ==== Sys2Proof/Machine/StPorts.lean ====
section
/-! DEFINITION. The state of lanes, ports, modules, Dalom links, flow control, frames, buffer pools, queues and slices. -/

namespace Sys2Proof.Machine

/-- Port states by the codes of R149 and R193. -/
inductive PortSt where
  | disabled | waitSignal | an | train | adapt | align | up | fault | backoff
  | detect | dlkTrain | lock | exchange | active
  deriving DecidableEq, Repr

/-- The STATE code of PORT_STATUS (R149, R193). -/
def PortSt.code : PortSt → Nat
  | .disabled => 0 | .waitSignal => 1 | .an => 2 | .train => 3 | .adapt => 4 | .align => 5 | .up => 6
  | .fault => 7 | .backoff => 8 | .detect => 9 | .dlkTrain => 10 | .lock => 11 | .exchange => 12 | .active => 13

/-- What PORT_CONFIG set (R146); `configured` is false until one is accepted. -/
structure PortCfg where
  configured : Bool
  dalom : Bool
  speed : Nat
  lanes : Nat
  fec : Nat
  media : Nat
  an : Bool
  mgmt : Bool
  maxFrame : Nat
  deriving DecidableEq, Repr

/-- A lane test on a port (R510, R511): state 0 none, 1 running, 2 ended. -/
structure LaneTest where
  state : Nat
  loopback : Nat
  pattern : Nat
  flags : Nat
  duration : Nat
  started : Nat
  ended : Nat
  nonce : Nat
  deriving DecidableEq, Repr

/-- A port's module (R216, R217): presence as latched and as it is becoming, readiness, the level policies and what firmware drives; the host interfaces of its applications, whether it is a passive copper cable, and the application selected. -/
structure Module where
  present : Bool
  seen : Bool
  scans : Nat
  releaseDue : Bool
  resetLow : Bool
  lpMode : Bool
  ready : Bool
  noApp : Bool
  initDone : Bool
  apps : List HostIf
  passive : Bool
  app : Option HostIf
  resetPolicy : Nat
  lpPolicy : Nat
  cmis : Nat
  flags : Nat
  intL : Bool
  deriving DecidableEq, Repr

/-- A port's bring-up (R139, R177) and configuration (R146, R147); `hot` says that a thermal-critical event in PROVISION stopped it and PORT_SET_STATE has not enabled it since (R42). -/
structure PortRec where
  cfg : PortCfg
  enabled : Bool
  hot : Bool
  st : PortSt
  cause : Nat
  downLane : Nat
  attempts : Nat
  upCount : Nat
  downCount : Nat
  txMap : List Nat
  rxMap : List Nat
  polarity : BitVec 8
  test : LaneTest
  module : Module
  deriving DecidableEq, Repr

/-- A lane (R131 to R137, R148, R150). Taps are signed, in the order pre2, pre1, main, post1, post2. -/
structure LaneRec where
  los : Bool
  lol : Bool
  converged : Bool
  trainedTaps : Bool
  txTrained : Bool
  txSet : Bool
  hostTaps : List Int
  taps : List Int
  ctleFrozen : Bool
  dfeFrozen : Bool
  ctle : Nat
  dfe : List Int
  losThresh : Nat
  losCount : Nat
  lolCount : Nat
  fecCorrected : Nat
  txLatency : Nat
  rxLatency : Nat
  freqOffset : Int
  deriving DecidableEq, Repr

/-- Class maps of an Ethernet port (R196). -/
structure ClassMap where
  trust : Nat
  defaultTc : Nat
  pcpToTc : List Nat
  tcToPcp : List Nat
  dscpToTc : List Nat
  deriving DecidableEq, Repr

/-- A reservation that its class has left and that is held until its headroom in use is zero (R201, R571): its generation, tier and bytes. -/
structure OldResv where
  gen : Nat
  deep : Bool
  bytes : Nat
  deriving DecidableEq, Repr

/-- Flow control and admission of a port's class (R200 to R204, R213, R290): the reservation in force in bytes, its tier, its generation and the delay it was sized from; the reservations left behind and not yet released; a smaller size, with its delay, that waits for the headroom in use to fall; XOFF, a pause received until an instant, and thresholds. `pausedSince` is since when the partner has paused the class (R316). -/
structure FlowClass where
  reserved : Nat
  deep : Bool
  gen : Nat
  delayUsed : Nat
  olds : List OldResv
  shrinkTo : Option (Nat × Nat)
  short : Bool
  xoff : Bool
  xoffCount : Nat
  paused : Bool
  pauseEnd : Nat
  pausedSince : Option Nat
  lastMoved : Nat
  alphaVoq : Nat
  alphaClass : Nat
  deepAllow : Bool
  minKiB : Nat
  ecnK : Nat
  deriving DecidableEq, Repr

/-- Flow control of a port (R197, R198, R210, R211): delays in 2^-16 ns, the host's in ns; the last peer-delay values. -/
structure Flow where
  mode : Nat
  lossless : Nat
  prio : List Nat
  xonDelta : Nat
  hostDelay : Option Nat
  measured : Option Nat
  exchanges : List Nat
  classes : Tab FlowClass
  deriving DecidableEq, Repr

/-- A shaper's token bucket (R307), in thousandths of a byte, and when it was last filled. -/
structure Bucket where
  level : Int
  filled : Nat
  deriving DecidableEq, Repr

/-- Egress scheduling of a port (R306 to R308, R331). -/
structure Egress where
  express : Option Nat
  permil7 : Nat
  permil6 : Nat
  burst7 : Nat
  burst6 : Nat
  weights : List Nat
  bucket7 : Bucket
  bucket6 : Bucket
  deficits : List Nat
  visit : Nat
  deriving DecidableEq, Repr

/-- A Dalom port's CAP content as R181 lays it out for kind 0, the partner's last accepted one, or this end's. -/
structure CapRec where
  version : Nat
  seq : Nat
  ack : Nat
  speed : Nat
  lanes : Nat
  rxGood : Nat
  role : Nat
  maxFrame : Nat
  lossless : Nat
  grant : List Nat
  clockId : BitVec 64
  mac : Mac
  txFixed : List Nat
  rxFixed : List Nat
  calStamp : Nat
  deriving DecidableEq, Repr

/-- The training of one Dalom lane at this end (R178 to R180): the good codewords in a row (at most 8), whether a MARK has been received, RX_READY seen and sent in a row, requests asked and answered, TRAIN tiles in a row, and the pattern's register. -/
structure DlkTrain where
  run8 : Nat
  marked : Bool
  good : Nat
  sent : Nat
  complete : Bool
  rxReady : Bool
  lastReq : Nat
  respStatus : Nat
  reqTap : Nat
  reqAction : Nat
  reqSeq : Nat
  trainRun : Nat
  prbs : BitVec 31
  deriving DecidableEq, Repr

/-- A frame being received in segments on a Dalom port, by class (R163, R164): the timestamp of the first data byte of its FIRST segment (R166). -/
structure SegRx where
  bytes : Bytes
  oversize : Bool
  frame : Option Nat
  stamp : Int
  deriving DecidableEq, Repr

/-- A frame being sent in segments on a Dalom port, by class: what is still to send, its charge, the frame it is a copy of, the departure of the first data byte of its FIRST segment (R166), and for an injected frame its ring and TS_REQ. -/
structure SegTx where
  bytes : Bytes
  first : Bool
  charge : Nat
  abort : Bool
  frame : Nat
  stamp : Int
  inject : Option (Nat × Bool)
  deriving DecidableEq, Repr

/-- What a tile that arrives on a Dalom lane is (R157, R156): a lost one, or one of the types of R157, a TRAIN tile with what the receiver judges and asks, a CAP tile by its kind. -/
inductive RxKind where
  | lost
  | idle
  | data
  | credit
  | time
  | train (eye : Bool) (tap action : Nat)
  | cap (kind : Nat)
  | abort
  deriving DecidableEq, Repr

/-- A tile that has arrived and waits for its turn by slot and logical lane (R158). -/
structure RxTile where
  kind : RxKind
  tile : DlkTile
  deriving DecidableEq, Repr

/-- A mark capture (R171, R172): mark index, logical lane, and the corrected time in 2^-16 ns of the TS counter. -/
structure MarkCap where
  index : Nat
  lane : Nat
  time : Int
  refined : Bool
  deriving DecidableEq, Repr

/-- Per-lane line state of a Dalom port (R160, R161, R172): run level and length, stuff symbols since the last skip, and stuff symbols and skips since the last mark, each way; the position of the last tile received. -/
structure DlkLine where
  level : Nat
  run : Nat
  txStuff : Nat
  rxStuff : Nat
  txSince : Nat
  rxSince : Nat
  txSkips : Nat
  rxSkips : Nat
  rxPos : Nat
  deriving DecidableEq, Repr

/-- The state of a Dalom link (R152 to R193). `rxTileNo` is the LSEQ expected next (16: none yet); `caps` the CAP messages to send as (kind, lane, training block); `laneCap` the slots until a lane-state CAP is repeated (64: the first has not left yet); `striped` whether a striped tile has arrived since LOCK; `readmitWait` lanes added and not yet seen in service; `held4` the lanes in service that the hold-back stands at; `txTime` and `rxTime` the time lanes in use; `bgState` of a lane out of service: 1 retraining, 2 in back-off. Receiving in order of slot and lane (R158): `rxBuf` the tiles that wait, `rxAt` the slot position in turn, `rxDone` the lanes whose tile of it is done, `rxStripe` the lanes on which the partner is taken to stripe, `slotBase` the LSEQ at the start of the slot in turn. `degrades` the reduced masks sent and not yet answered by an ABORT (R183). `depLane` and `arrLane` the lanes whose captures feed time (R175), `offTx` and `offRx` each lane's latest offset from them. `pend` the values of DLK_DELAY that apply from the next mark (R191), `held` the calibration delays of its four lanes, transmit and receive, that stay in force until then after a publication (R466). `shrinkHeld` the returns held back since R20 shrank a reservation (R170), beside `heldBack`, those of R185; `owed` and `owedDirect` the returns that fell due while MAINTENANCE pauses (R170), before and after any hold-back. -/
structure Dlk where
  minLanes : Nat
  role : Nat
  asym : Int
  extTx : Nat
  extRx : Nat
  slot : Nat
  tileNo : Nat
  rxTileNo : Nat
  rxGood : Nat
  txActive : Nat
  txTime : Nat
  rxTime : Nat
  depLane : Nat
  arrLane : Nat
  offTx : Tab Int
  offRx : Tab Int
  pend : Option (Int × Nat × Nat)
  held : Option (List Nat × List Nat)
  rxBuf : List RxTile
  rxAt : Nat
  rxDone : Nat
  rxStripe : Nat
  slotBase : Nat
  degrades : List Nat
  trained : Nat
  trains : Tab DlkTrain
  line : Tab DlkLine
  own : CapRec
  partner : Option CapRec
  caps : List (Nat × Nat × Bytes)
  laneCap : Option Nat
  readmitWait : Nat
  striped : Bool
  abortDue : Bool
  creditDue : Bool
  readmitDue : Bool
  delayValid : Bool
  laneOrder : Bool
  roleClash : Bool
  marksTx : List MarkCap
  marksRx : List MarkCap
  rtt : Nat
  oneWay : Nat
  offset : Int
  oneWays : List Nat
  available : Tab Nat
  taken : Tab Nat
  returnsSeen : Tab Nat
  returned : Tab Nat
  carried : Tab Nat
  heldBack : Tab Nat
  owed : Tab Nat
  owedDirect : Tab Nat
  shrinkHeld : Tab Nat
  accounted : Tab Nat
  recovered : Tab Nat
  consumed : Tab Nat
  carryClass : Nat
  held4 : Nat
  segRx : Tab SegRx
  segTx : Tab SegTx
  sinceFirst : Nat
  tilesLost : Nat
  stuffCount : Nat
  stuffBad : Nat
  segAborts : Nat
  creditRecovered : Nat
  restripes : Nat
  laneRetries : Nat
  marksMissed : Nat
  bgState : Tab Nat
  bgAttempts : Tab Nat
  announce : Bytes
  partnerAnnounce : Bytes
  peerTimeGen : Nat
  deriving DecidableEq, Repr

/-- How a frame's buffer is charged (R283, R287). -/
inductive Charge where
  | minimum | shared | headroom
  deriving DecidableEq, Repr

/-- Where a frame goes (R10, R221): a port, a multicast group or flood set, the CPU port, or nowhere. -/
inductive Dest where
  | port (p : Nat)
  | group (g : Nat)
  | flood (ports : Nat)
  | trap (code : Nat)
  | drop (reason : Nat)
  deriving DecidableEq, Repr

/-- The rewrite a next hop asks for (R238): MAC addresses and VID. -/
structure Rewrite where
  dst : Mac
  src : Mac
  vid : Nat
  deriving DecidableEq, Repr

/-- A result descriptor (R10): the decision by value, with the class, the frame's VID and tagging, the quad's epoch stamped on it, and whether the source's port was at its learn limit (R240). -/
structure Result where
  dest : Dest
  tc : Nat
  vid : Nat
  tagged : Bool
  egressTag : Option Bool
  rewrite : Option Rewrite
  epoch : Nat
  slice : Nat
  excess : Bool
  deriving DecidableEq, Repr

/-- Where a frame stands: being received, in a queue, crossing, leaving (its free is requested and not yet granted, R276), or stuck (its free was rejected, R280, so that its buffer and charges stay). -/
inductive Stage where
  | receiving | queued | crossing | leaving | stuck
  deriving DecidableEq, Repr

/-- A frame the device holds (R8, R271 to R288). `len` counts the bytes received; `crossed` the bytes that have crossed to every output that has it; `residue` the outputs a multicast head still has to reach; `stamp` the ingress timestamp on the TS counter in 2^-16 ns and `gen` its time generation; `rxTc` the class it arrived in; `resv` the generation of the reservation its headroom charge is held against (R571); `resolved` says that its group has been read (R309). -/
structure Frame where
  id : Nat
  inPort : Nat
  tc : Nat
  bytes : Bytes
  len : Nat
  complete : Bool
  good : Bool
  overrun : Bool
  stage : Stage
  size : Nat
  handle : Nat
  buffered : Bool
  owner : Nat
  inFlight : Bool
  charge : Charge
  deep : Bool
  chargeBytes : Nat
  bufBytes : Nat
  stamp : Int
  gen : Nat
  voq : Nat
  result : Option Result
  accepted : Bool
  express : Bool
  crossed : Nat
  residue : Nat
  fanout : Nat
  members : List (Nat × Bool × Nat)
  queueKey : Nat
  rxTc : Nat
  resv : Nat
  resolved : Bool
  deriving DecidableEq, Repr

/-- A frame in an egress store (R302, R311): bytes arrived of the whole, the copies still to send as (VID, tagged), and whether transmission has started; an injected frame names its ring and TS_REQ, a frame built by firmware what its sending is recorded as. -/
structure StoreEntry where
  frame : Nat
  size : Nat
  arrived : Nat
  bytes : Bytes
  copies : List (Nat × Bool)
  started : Bool
  result : Option Result
  inPort : Nat
  stamp : Int
  inject : Option (Nat × Bool)
  fw : Option Out
  deriving DecidableEq, Repr

/-- A frame that firmware has built and that waits for room in an egress store (R271, R306): its class, its bytes without FCS, and what its sending is recorded as (none: a frame on the line). -/
structure FwFrame where
  tc : Nat
  bytes : Bytes
  note : Option Out
  deriving DecidableEq, Repr

/-- A buffer pool (R268, R274): count, cache with the top first, ring as runs of consecutive handles, handles in transit, counters (R294), and the agent its cache served last (R276). -/
structure Pool where
  count : Nat
  cache : List Nat
  ring : List (Nat × Nat)
  refill : Option (List Nat)
  spill : Option (List Nat)
  lowWater : Nat
  fallback : Nat
  drops : Nat
  doubleFree : Nat
  foreignFree : Nat
  stateFault : Nat
  parity : Nat
  low : Bool
  lastEmpty : Option Nat
  lostBytes : Nat
  rr : Nat
  deriving DecidableEq, Repr

/-- Slice states (R324). -/
inductive SliceSt where
  | active | spare | suspect | dead | quarantine
  deriving DecidableEq, Repr

/-- The STATE code of SLICE_STATUS (R335). -/
def SliceSt.code : SliceSt → Nat
  | .active => 0 | .spare => 1 | .suspect => 2 | .dead => 3 | .quarantine => 4

/-- A slice's state (R323, R324, R335) and its pace as last measured (R321). -/
structure SliceRec where
  st : SliceSt
  stalled : Nat
  suspects : Nat
  ghosts : Nat
  takeoverDrops : Nat
  rate : Nat
  rateMin : Nat
  paceDrops : Nat
  dropsHi : Nat
  lpmExtra : Nat
  deriving DecidableEq, Repr

/-- A deadlock detector record (R317, R332). -/
structure Deadlock where
  port : Nat
  tc : Nat
  since : Nat
  xoffMask : Nat
  mac : Mac
  dalom : Bool
  cycle : Bool
  deriving DecidableEq, Repr

/-- The pace and voltage loop (R322, R329, R535, R548). -/
structure Avs where
  vmin : Nat
  vmax : Nat
  margin : Nat
  hold : Bool
  target : Nat
  above : Nat
  fault : Bool
  fails : Nat
  lastShort : Option Nat
  minMargin : Nat
  minSlice : Nat
  deriving DecidableEq, Repr

/-- The switch core: frames, queues (keys of frame ids in order), stores, pools, the ledger, crossbar pointers, slices and detectors. `taking` the takeovers in progress as (spare, quad), oldest first; `fwQueue` the frames firmware has built, by port; `expressCauses` the bad express frames by egress port, class and cause (R315); `poolsHold` the instant at which a POOL_CONFIG that waits for buffers ends (R292). -/
structure Core where
  frames : List Frame
  nextFrame : Nat
  queues : Tab (List Nat)
  store : Tab (List StoreEntry)
  pools : Tab Pool
  ledger : Tab Nat
  grantPtr : Tab Nat
  acceptPtr : Tab Nat
  toggle : Tab Bool
  trapRr : Tab Nat
  slices : Tab SliceRec
  quads : Tab Nat
  unserved : Tab Bool
  spare : Option Nat
  epochs : Tab Nat
  taking : List (Nat × Nat)
  avs : Avs
  dlTime : Nat
  deadlocks : List Deadlock
  mcAlpha : Nat
  groups : Tab (List (Nat × Bool × Nat))
  nearBudget : Nat
  deepBudget : Nat
  moduleBus : Tab (Nat × Nat)
  fwQueue : Tab (List FwFrame)
  expressCauses : Tab Nat
  poolsHold : Option Nat
  deriving DecidableEq, Repr

/-! ### Values after reset -/

/-- A module after reset: nothing latched yet, ResetL held low (R217). -/
def Module.reset : Module :=
  { present := false, seen := false, scans := 0, releaseDue := false, resetLow := true, lpMode := true,
    ready := false, noApp := false, initDone := false, apps := [], passive := false, app := none, resetPolicy := 0, lpPolicy := 0, cmis := 0, flags := 0,
    intL := false }

/-- No lane test since reset (R511). -/
def LaneTest.reset : LaneTest :=
  { state := 0, loopback := 0, pattern := 0, flags := 0, duration := 0, started := 0, ended := 0, nonce := 0 }

/-- A port without a PORT_CONFIG (R139, R147). -/
def PortCfg.reset : PortCfg :=
  { configured := false, dalom := false, speed := 0, lanes := 0, fec := 0, media := 0, an := false, mgmt := false,
    maxFrame := 9216 }

/-- A port after reset (R139, R147, R149). -/
def PortRec.reset : PortRec :=
  { cfg := PortCfg.reset, enabled := false, hot := false, st := .disabled, cause := 0, downLane := 0xFF, attempts := 0,
    upCount := 0, downCount := 0, txMap := [0, 1, 2, 3], rxMap := [0, 1, 2, 3], polarity := 0,
    test := LaneTest.reset, module := Module.reset }

/-- A lane after reset: neither detector asserted, LOS threshold 80 mV (R136). DESIGN CHOICE (log 8): the spec gives no transmit mode before the first LANE_TX_EQ; the model takes FIXED (`txTrained` false), so a copper port's training changes no taps until the host asks for TRAINED. -/
def LaneRec.reset : LaneRec :=
  { los := false, lol := false, converged := false, trainedTaps := false, txTrained := false, txSet := false,
    hostTaps := [0, 0, 0, 0, 0], taps := [0, 0, 0, 0, 0], ctleFrozen := false, dfeFrozen := false, ctle := 0,
    dfe := List.replicate 12 0, losThresh := 8, losCount := 0, lolCount := 0, fecCorrected := 0, txLatency := 0,
    rxLatency := 0, freqOffset := 0 }

/-- Class maps after reset (R196). -/
def ClassMap.reset : ClassMap :=
  { trust := 1, defaultTc := 0, pcpToTc := List.range 8, tcToPcp := List.range 8,
    dscpToTc := (List.range 64).map (· / 8) }

/-- A class of a port after reset (R210, R213, R290): DEEP_ALLOW for TC0 to TC5. -/
def FlowClass.reset (c : Nat) : FlowClass :=
  { reserved := 0, deep := false, gen := 0, delayUsed := 0, olds := [], shrinkTo := none, short := false, xoff := false,
    xoffCount := 0, paused := false, pauseEnd := 0, pausedSince := none, lastMoved := 0, alphaVoq := 3, alphaClass := 6,
    deepAllow := decide (c ≤ 5), minKiB := 0, ecnK := 0 }

/-- Flow control of a port after reset (R210). -/
def Flow.reset : Flow :=
  { mode := 0, lossless := 0, prio := List.range 8, xonDelta := 18432, hostDelay := none, measured := none,
    exchanges := [], classes := [] }

/-- Egress scheduling of a port after reset (R331); full buckets. -/
def Egress.reset : Egress :=
  { express := none, permil7 := 50, permil6 := 0, burst7 := 18432, burst6 := 18432, weights := List.replicate 6 16,
    bucket7 := { level := 18432000, filled := 0 }, bucket6 := { level := 18432000, filled := 0 },
    deficits := List.replicate 6 0, visit := 5 }

/-- A CAP record with nothing in it. -/
def CapRec.zero : CapRec :=
  { version := 1, seq := 0, ack := 0xFFFF, speed := 0, lanes := 4, rxGood := 0, role := 2, maxFrame := 9216,
    lossless := 0, grant := List.replicate 8 0, clockId := 0, mac := 0, txFixed := List.replicate 4 0,
    rxFixed := List.replicate 4 0, calStamp := 0 }

/-- A lane's training at its start. DESIGN CHOICE (log 108): the spec gives neither the start value nor the bit sense of the PRBS31 sequence of a lane's TRAIN tiles; the model starts it from all ones and sends the bit shifted in. DESIGN CHOICE (log 109): nor the start values of REQ_SEQ and of the request last acted on; both are 0, so that a partner's first request is taken as already acted on where it carries REQ_SEQ 0. -/
def DlkTrain.reset : DlkTrain :=
  { run8 := 0, marked := false, good := 0, sent := 0, complete := false, rxReady := false, lastReq := 0,
    respStatus := 0, reqTap := 0, reqAction := 0, reqSeq := 0, trainRun := 0, prbs := BitVec.allOnes 31 }

/-- A lane trains again: its pattern goes on, and requests go on counting. -/
def DlkTrain.again (t : DlkTrain) : DlkTrain :=
  { DlkTrain.reset with prbs := t.prbs, lastReq := t.lastReq, respStatus := t.respStatus, reqSeq := t.reqSeq }

/-- A lane's line at its start. -/
def DlkLine.reset : DlkLine :=
  { level := 0, run := 0, txStuff := 0, rxStuff := 0, txSince := 0, rxSince := 0, txSkips := 0, rxSkips := 0, rxPos := 1023 }

/-- A Dalom link after reset (R190, R191). -/
def Dlk.reset : Dlk :=
  { minLanes := 1, role := 2, asym := 0, extTx := 0, extRx := 0, slot := 0, tileNo := 0, rxTileNo := 16, rxGood := 0,
    txActive := 0, txTime := 0, rxTime := 0, depLane := 0, arrLane := 0, offTx := [], offRx := [], pend := none, held := none,
    rxBuf := [], rxAt := 0, rxDone := 0, rxStripe := 0, slotBase := 0, degrades := [], trained := 0, trains := [], line := [], own := CapRec.zero, partner := none, caps := [],
    laneCap := none, readmitWait := 0, striped := false, abortDue := false, creditDue := false, readmitDue := false, delayValid := false,
    laneOrder := false, roleClash := false, marksTx := [], marksRx := [], rtt := 0, oneWay := 0, offset := 0,
    oneWays := [], available := [], taken := [], returnsSeen := [], returned := [], carried := [], heldBack := [], owed := [], owedDirect := [], shrinkHeld := [],
    accounted := [], recovered := [], consumed := [], carryClass := 0, held4 := 4, segRx := [], segTx := [], sinceFirst := 84,
    tilesLost := 0, stuffCount := 0, stuffBad := 0, segAborts := 0, creditRecovered := 0, restripes := 0,
    laneRetries := 0, marksMissed := 0, bgState := [], bgAttempts := [], announce := zeros 204,
    partnerAnnounce := zeros 204, peerTimeGen := 0 }

/-- The buffer size of a pool (R268). -/
def poolBufSize : Nat → Nat
  | 0 => 256 | 1 => 1024 | 2 => 2048 | 3 => 16384 | 4 => 2048 | _ => 16384

/-- The default count of a pool (R268). -/
def poolDefault : Nat → Nat
  | 0 => 65536 | 1 => 16384 | 2 => 24576 | 3 => 1024 | 4 => 1572864 | _ => 65536

/-- A pool as it is built (R274): indices 0 to 255 in the cache with 0 on top, the rest in the ring. -/
def Pool.build (n : Nat) : Pool :=
  { count := n, cache := List.range 256, ring := [(256, n - 256)], refill := none, spill := none, lowWater := n,
    fallback := 0, drops := 0, doubleFree := 0, foreignFree := 0, stateFault := 0, parity := 0, low := false,
    lastEmpty := none, lostBytes := 0, rr := 21 }

/-- The pool that a pool ID reads as where the table lists none: built at its default count. -/
def Pool.reset (p : Nat) : Pool := Pool.build (poolDefault p)

/-- A slice after reset (R3, R324): PL16 is the spare. -/
def SliceRec.reset (i : Nat) : SliceRec :=
  { st := if i = 16 then .spare else .active, stalled := 0, suspects := 0, ghosts := 0, takeoverDrops := 0, rate := 0,
    rateMin := 0, paceDrops := 0, dropsHi := 0, lpmExtra := 0 }

/-- The voltage loop after reset (R322, R329). -/
def Avs.reset : Avs :=
  { vmin := 700, vmax := 850, margin := 1050, hold := false, target := 750, above := 0, fault := false, fails := 0,
    lastShort := none, minMargin := 0, minSlice := 0 }

/-- The switch core after reset (R3, R199, R268, R324, R332, R336). -/
def Core.reset : Core :=
  { frames := [], nextFrame := 0, queues := [], store := [], pools := [], ledger := [],
    grantPtr := [], acceptPtr := [], toggle := [], trapRr := [], slices := [], quads := [], unserved := [],
    spare := some 16, epochs := [], taking := [], avs := Avs.reset, dlTime := 500, deadlocks := [], mcAlpha := 3,
    groups := [], nearBudget := 16384 * 1024, deepBudget := 2048 * 1048576, moduleBus := (List.range 8).map (fun m => (m, 0x70, 1)),
    fwQueue := [], expressCauses := [], poolsHold := none }

end Sys2Proof.Machine
end

