-- ==== Sys2Proof/Machine/StTables.lean ====
section
/-! DEFINITION. The state of the forwarding tables, one copy per slice (R220), the table access windows (R244), learning and the shadow regions. -/

namespace Sys2Proof.Machine

/-- An exact-match entry (R227): its key bytes (R224), DATA0 without the read-only bits, and whether it is learned and hit. -/
structure KEntry where
  key : Bytes
  data : Nat
  dyn : Bool
  hit : Bool
  deriving DecidableEq, Repr

/-- A way of an exact-match table: an entry, or the tombstone a relocation left with the new index (R226). -/
inductive KSlot where
  | entry (e : KEntry)
  | tomb (newIndex : Nat)
  deriving DecidableEq, Repr

/-- An LPM route (R228, R229): family, prefix length, prefix (first address bit most significant of 128), DATA0 without HIT, HIT, and whether its hash-store entry is known uncorrectable (R254). -/
structure Route where
  v6 : Bool
  len : Nat
  pfx : Nat
  data : Nat
  hit : Bool
  bad : Bool
  deriving DecidableEq, Repr

/-- A classification entry (R237, R238): 320-bit key and mask, DATA0 and DATA1, the match counter, and whether a parity error makes it inert (R255). -/
structure ClsEntry where
  key : Nat
  mask : Nat
  data0 : Nat
  data1 : Nat
  count : Nat
  inert : Bool
  deriving DecidableEq, Repr

/-- A next hop's three data words (R235). -/
structure NhEntry where
  d0 : Nat
  d1 : Nat
  d2 : Nat
  deriving DecidableEq, Repr

/-- The LPM lookup mode of a slice (R233). -/
inductive LpmMode where
  | tcam | unloaded | rebuild | selftest | fault
  deriving DecidableEq, Repr

/-- The LPM_MODE code of TABLE_STATUS (R266). -/
def LpmMode.code : LpmMode → Nat
  | .tcam => 0 | .unloaded => 1 | .rebuild => 2 | .selftest => 3 | .fault => 4

/-- One slice's tables and counters (R220, R266). `lpm` is keyed by half slots counted over the usable ones; `badSlots` are the slots found unusable; `store` is the hash store of R230 by way; `filterA` and `filterB` the two banks of the length filter (R232) as the keys (family, length, masked prefix) whose bits are set in them, `bank` true where B is in service, and `deletes` the deletes since the last rebuild of a bank. `ecc` marks entries known uncorrectable by table × 2^20 + index; `bucket` is the learning token bucket in tokens per 1,250,000,000; `extra` the tokens that LPM lookups took beyond one each since the pace monitor last read them (R231). -/
structure SliceTab where
  fdb : Tab KSlot
  host : Tab KSlot
  lpm : Tab Route
  lpmTomb : Tab Nat
  nh : Tab NhEntry
  grp : Tab Nat
  mbr : Tab Nat
  cls : Tab ClsEntry
  ecc : Tab Bool
  mode : LpmMode
  badSlots : List Nat
  store : Tab KSlot
  filterA : List (Bool × Nat × Nat)
  filterB : List (Bool × Nat × Nat)
  bank : Bool
  deletes : Nat
  extra : Nat
  bucket : Nat
  bucketAt : Nat
  learnFull : Nat
  learnLimit : Nat
  rateSkip : Nat
  moves : Nat
  aged : Nat
  eccCorrected : Nat
  eccUncorrected : Nat
  lpmSlow : Nat
  shadowMismatch : Nat
  routeMiss : Nat
  learnEvict : Nat
  staticConflict : Nat
  deriving DecidableEq, Repr

/-- A table access window (R244). Key and mask are 320-bit numbers, KEY0 bit 0 lowest. -/
structure Window where
  op : Nat
  table : Nat
  busy : Bool
  index : Nat
  limit : Nat
  code : Nat
  moves : Nat
  dyn : Bool
  overflow : Bool
  rindex : Nat
  overrun : Bool
  key : Nat
  mask : Nat
  data : List Nat
  deriving DecidableEq, Repr

/-- A shadow region (R256, R261): where it lies, its length and rate, the next record, and differences seen once, as (slice, index, when). -/
structure Shadow where
  addr : Nat
  count : Nat
  rate : Nat
  next : Nat
  seen : List (Nat × Nat × Nat)
  deriving DecidableEq, Repr

/-- Learning of a port (R263). -/
structure L2Port where
  pvid : Nat
  limit : Nat
  drop : Bool
  deriving DecidableEq, Repr

/-- Tables, windows, shadows and learning (R244, R261 to R263); `turns` the contender of each slice's maintenance port that is next in turn (R251). -/
structure Tables where
  slices : Tab SliceTab
  windows : Tab Window
  shadows : Tab Shadow
  ageOn : Bool
  agePeriod : Nat
  learnRate : Nat
  learnBurst : Nat
  l2 : Tab L2Port
  turns : Tab Nat
  deriving DecidableEq, Repr

/-- A slice's tables after reset. -/
def SliceTab.reset : SliceTab :=
  { fdb := [], host := [], lpm := [], lpmTomb := [], nh := [], grp := [], mbr := [], cls := [], ecc := [],
    mode := .unloaded, badSlots := [], store := [], filterA := [], filterB := [], bank := false, deletes := 0, extra := 0,
    bucket := 4096 * 1250000000, bucketAt := 0, learnFull := 0,
    learnLimit := 0, rateSkip := 0, moves := 0, aged := 0, eccCorrected := 0, eccUncorrected := 0,
    lpmSlow := 0, shadowMismatch := 0, routeMiss := 0, learnEvict := 0, staticConflict := 0 }

/-- A window after reset (R244). -/
def Window.reset : Window :=
  { op := 0, table := 0, busy := false, index := 0, limit := 0, code := 0, moves := 0, dyn := false,
    overflow := false, rindex := 0, overrun := false, key := 0, mask := 0, data := [0, 0, 0] }

/-- A port's learning settings after reset (R263). -/
def L2Port.reset : L2Port := { pvid := 1, limit := 65535, drop := false }

/-- Tables after reset (R54, R262). -/
def Tables.reset : Tables :=
  { slices := [], windows := [], shadows := [], ageOn := true, agePeriod := 300, learnRate := 1000000,
    learnBurst := 4096, l2 := [], turns := [] }

end Sys2Proof.Machine
end

