-- ==== Sys2Proof/Machine/State.lean ====
section
/-! DEFINITION. The state of the block: every piece the spec gives it, as plain data; the queue of commands; the reasons a command stops; and the state after reset. -/

namespace Sys2Proof.Machine

/-- The device's clock: elapsed timebase periods, the TS counter in units of 2^-16 ns / 10^13 (R416), and time of day as its difference from the TS counter in 2^-16 ns, once set (R416, R419). -/
structure Clk where
  now : Nat
  acc : Nat
  todSet : Bool
  off : Int
  deriving DecidableEq, Repr

/-- The state of the block. `pending` is the queue of commands, first in first out; `free` counts the free values drawn; `out` is what the block has sent outside, newest first. -/
structure State where
  clk : Clk
  sys : Sys
  pwr : Power
  dbg : Dbg
  nv : Nv
  neg : Neg
  irq : Irq
  mbx : Mbx
  gcp : GcpSt
  ops : List Op
  finished : List Nat
  nextHandle : Nat
  stat : StatBlk
  trap : Tab CpuRing
  inject : Tab CpuRing
  portCnt : Tab Nat
  classCnt : Tab Nat
  ports : Tab PortRec
  lanes : Tab LaneRec
  maps : Tab ClassMap
  flows : Tab Flow
  egress : Tab Egress
  dlks : Tab Dlk
  core : Core
  tables : Tables
  tim : Timing
  free : Nat
  out : List Out
  pending : List Instr
  deriving DecidableEq, Repr

/-- Why the machine stops with a fault. -/
inductive Fault where
  /-- Raised by FACTORY_TEST at an open D3 level: the spec gives the factory instructions no effect (R550). Safe: the model stops where the part goes on in a way the spec does not give. -/
  | factoryTest
  deriving DecidableEq, Repr

/-- Why a command is refused. -/
inductive Refusal where
  /-- A command without a meaning; only the dispatch answers with it. Safe. -/
  | notModelled (mnemonic : String)
  /-- Raised by DBG_WRITE at an open D2 level: the debug address map ships outside the spec (R550), so what the write changes is not given. Safe: the model stops there. -/
  | debugSpaceWrite
  deriving DecidableEq, Repr

/-- An empty channel. -/
def Chan.empty : Chan := { waiting := [], due := none, cache := [] }

/-- The Negative after delivery: every slot empty (R478). -/
def Nv.delivered : Nv :=
  { lifecycle := .blank, keys := [], counters := [], ownerPolicy := false, ownerHash := zeros 48,
    minVersion := 0, rk := none, retiring := false, hold := false, preferred := 1, attempts := 0,
    timeGen := 0, contact := [], slots := [], nextSeq := 0, lastChain := zeros 4, ringNext := 1024 }

/-- The SYS state after a reset (R40, R528), but for the latched cause. -/
def Sys.reset : Sys :=
  { mode := .safe, paused := false, draining := false, drainEnd := 0, drainLanesOff := false, lanesOff := false,
    resetCode := 0x01, resetData := 0, lastStart := 0, running := 0, fwAlive := false,
    fallback := false, noImage := false, verifying := true, autoWaits := false, start := none,
    imgA := { state := 0, facts := none, torn := false }, imgB := { state := 0, facts := none, torn := false },
    deviceMac := Config.baseMac, mgmtVid := 0, scratch := 0, gpioOut := 0, gpioOe := 0,
    straps := 0, sysRst := false, thermTrip := false, tripWait := false, auxDown := false, perst := false,
    d3hot := false, resetDue := none }

/-- The power part after a reset (R116, R528). -/
def Power.reset : Power :=
  { state := .full, remembered := .full, portOff := 0, laneOff := 0, waking := false,
    auxWarn := false, nvInhibit := false, critAux := false, coreWarn := false, coreSag := false,
    critCore := false, thermWarn := false, thermCrit := false, auxMv := 0, coreMv := 0, tj := 0,
    sensor := 0 }

/-- The IRQ block after a reset (R531). -/
def Irq.reset : Irq :=
  { cause := 0, mask := 0, pinEn := false, evqEnable := false, evqBase := 0, evqLog := 8,
    evqPi := 0, evqCi := 0, evqLost := 0, lostSince := 0, vec := [], holdoff := [], lastMsg := [],
    pendingMsg := 0, msix := [], held := [], seq := 0 }

/-- The MBX block after a reset (R529). -/
def Mbx.reset : Mbx :=
  { cmdBase := 0, rplBase := 0, cmdPi := 0, cmdCi := 0, rplPi := 0, rplCi := 0, enable := false,
    held := [] }

/-- A CPU-port ring after a reset (R540). -/
def CpuRing.reset : CpuRing := { base := 0, log := 8, hostIdx := 0, devIdx := 0, enable := false, posted := [], taken := false, fin := none }

/-- The STAT block after a reset (R536). -/
def StatBlk.reset : StatBlk :=
  { enable := false, periodMs := 100, base := 0, slots := 2, pi := 0, seq := 0, restarted := false,
    lastAt := 0 }

/-- The machine right after its first power-on reset, released and with the boot ROM at work (R40, R56). -/
def State.reset : State :=
  { clk := { now := 0, acc := 0, todSet := false, off := 0 },
    sys := Sys.reset, pwr := Power.reset,
    dbg := { session := none, challenge := none, ir := 0xFE, cells := [], driven := false },
    nv := Nv.delivered,
    neg := { deferred := [], lost := 0, firstLost := 0, overflowed := false, repaired := false,
             limits := [], keptFw := none },
    irq := Irq.reset, mbx := Mbx.reset,
    gcp := { pcie := Chan.empty, inband := Chan.empty, sideband := Chan.empty, turn := 0,
             rateSecond := 0, rateCount := [], sbReply := none, sbBad := 0, arrived := [], failing := none },
    ops := [], finished := [], nextHandle := 1, stat := StatBlk.reset, trap := [], inject := [],
    portCnt := [], classCnt := [], ports := [], lanes := [], maps := [], flows := [],
    egress := [], dlks := [], core := Core.reset, tables := Tables.reset, tim := Timing.reset, free := 0, out := [], pending := [] }

end Sys2Proof.Machine
end

