-- ==== Sys2Proof/Machine/Ops.lean ====
section
/-! DEFINITION. The named operations every family uses: time stamps, events and interrupt messages (R531 to R534), Negative records (R478 to R488), replies and notices (R66 to R79), operation records (R89 to R97), and small shared helpers. -/

namespace Sys2Proof.Machine

/-- Timebase periods of 800 ps in a millisecond, and in a second. -/
def msTicks : Nat := 1250000
def secTicks : Nat := 1250000000

/-- Does reset hold the device (R52, R567)? -/
def State.held (s : State) : Bool := s.sys.sysRst || s.sys.thermTrip || s.sys.tripWait || s.sys.auxDown

/-- A meaning that takes effect only while reset does not hold the device. -/
def live (s : State) (f : State → State) : Host.Outcome State Fault Refusal :=
  .next (if s.held then s else f s)

/-- May the device master DMA and send messages: PERST_N is high and the endpoint not in D3hot (R53, R525)? -/
def State.dma (s : State) : Bool := !s.sys.perst && !s.sys.d3hot

/-- Record something sent outside. -/
def State.send (s : State) (o : Out) : State := { s with out := o :: s.out }

/-- Draw a free value's index. -/
def State.draw (s : State) : State := { s with free := s.free + 1 }

/-- `n` timebase periods pass (R416): the TS counter follows DPLL-T's steering and a slew in progress, at SLOPE_LIMIT (R358). -/
def passTicks (n : Nat) (s : State) : State :=
  let q := s.tim.dplls.get (Dpll.reset 0) 0
  let adv : Int := (n * 524288 : Nat) * (1000000000000 + q.steer)
  match q.slew with
  | none => { s with clk := { s.clk with now := s.clk.now + n, acc := ((s.clk.acc : Int) + adv).toNat } }
  | some r =>
    let lim : Int := (n * 524288 * q.slope : Nat)
    let m := max (-lim) (min r lim)
    { s with clk := { s.clk with now := s.clk.now + n, acc := ((s.clk.acc : Int) + adv + m).toNat },
             tim := { s.tim with dplls := s.tim.dplls.set 0 { q with slew := some (r - m) } } }

/-- Let the clock stand at least at a deadline that an expiry row states has passed. -/
def advanceTo (t : Nat) (s : State) : State := if s.clk.now < t then passTicks (t - s.clk.now) s else s

/-! ### Time stamps (R2, R416) -/

/-- The TS counter in units of 2^-16 ns. -/
def State.ts16 (s : State) : Nat := (s.clk.acc / 10 ^ 13) % 2 ^ 64

/-- TS32: the low 32 bits of the counter's nanoseconds. -/
def State.ts32 (s : State) : Nat := s.ts16 / 65536 % 2 ^ 32

/-- The fraction of TS32 in 2^-16 ns. -/
def State.frac (s : State) : Nat := s.ts16 % 65536

/-- Time of day in 2^-16 ns (meaningful once set). -/
def State.tod16 (s : State) : Int := (s.clk.acc / 10 ^ 13 : Nat) + s.clk.off

/-- 2^-16 ns in a second. -/
def sec16 : Int := 65536000000000

/-- Seconds of time of day, 0 when it is not set. -/
def State.todSec (s : State) : Nat := if s.clk.todSet then (s.tod16 / sec16).toNat % 2 ^ 48 else 0

/-- Nanoseconds of time of day, 0 when it is not set. -/
def State.todNs (s : State) : Nat := if s.clk.todSet then (s.tod16 % sec16 / 65536).toNat else 0

/-- TS32, fraction and time generation as the 8 bytes every delivered stamp carries (R416). -/
def State.stampBytes (s : State) : Bytes := le 4 s.ts32 ++ le 2 s.frac ++ le 2 s.nv.timeGen

/-! ### Interrupt messages (R531, R532) -/

/-- The vector a cause is mapped to. -/
def Irq.vectorOf (q : Irq) (c : Nat) : Nat := q.vec.get 0 c

/-- An MSI-X vector's mask bit: bit 0 of its vector control word, set after reset as PCIe gives it. -/
def Irq.masked (q : Irq) (v : Nat) : Bool := (q.msix.get 1 (4 * v + 3)).testBit 0

/-- Send the message of vector `v` now, or leave it pending while it is masked or within its holdoff. -/
def message (v : Nat) (s : State) : State :=
  let ready : Bool := match s.irq.lastMsg.find? v with
    | none => true
    | some t => decide (t + s.irq.holdoff.get 0 v * 1250 ≤ s.clk.now)
  if ready && !s.irq.masked v && s.dma then
    { s with irq := { s.irq with lastMsg := s.irq.lastMsg.set v s.clk.now,
                                 pendingMsg := s.irq.pendingMsg &&& ~~~ (BitVec.twoPow 64 v) },
             out := .msix v :: s.out }
  else { s with irq := { s.irq with pendingMsg := s.irq.pendingMsg ||| BitVec.twoPow 64 v } }

/-- Set a cause bit; an enabled cause that goes from 0 to 1 sends its message (R532). -/
def setCause (c : Nat) (s : State) : State :=
  let was := s.irq.cause.getLsbD c
  let s := { s with irq := { s.irq with cause := s.irq.cause ||| BitVec.twoPow 128 c } }
  if !was && s.irq.mask.getLsbD c then message (s.irq.vectorOf c) s else s

/-! ### The event queue (R533, R534) -/

/-- Entries of the event queue. -/
def Irq.evqEntries (q : Irq) : Nat := 2 ^ (min 16 (max 8 q.evqLog))

/-- Room for one record: the queue is armed and not full. -/
def Irq.evqRoom (q : Irq) : Bool :=
  q.evqEnable && (q.evqPi + 1) % q.evqEntries != q.evqCi % q.evqEntries

/-- Write one event record to the queue and advance the producer index. -/
def evqWrite (r : Bytes) (s : State) : State :=
  { s with out := .hostWrite (s.irq.evqBase.toNat / 4096 * 4096 + 32 * (s.irq.evqPi % s.irq.evqEntries)) r :: s.out,
           irq := { s.irq with evqPi := (s.irq.evqPi + 1) % s.irq.evqEntries } }

/-- Queue a record: written at once where there is room and nothing is held, else held, else lost (R534). -/
def evqPut (r : Bytes) (s : State) : State :=
  if s.irq.held.isEmpty && s.irq.evqRoom && s.dma then evqWrite r s
  else if s.irq.held.length < 256 then { s with irq := { s.irq with held := s.irq.held ++ [r] } }
  else { s with irq := { s.irq with evqLost := satAdd 32 s.irq.evqLost 1, lostSince := s.irq.lostSince + 1 } }

/-- An event record (R534): SEQ, CAUSE, FLAGS, SUBJECT, DATA and the stamp. -/
def evRecord (seq c : Nat) (cleared : Bool) (subject : Nat) (data stamp : Bytes) : Bytes :=
  le 4 seq ++ b1 c ++ b1 (if cleared then 1 else 0) ++ le 2 subject ++ toLen 8 data ++ stamp ++ zeros 8

/-- Causes that queue no record (R533). -/
def unqueued (c : Nat) : Bool := c == 0 || c == 3 || (8 ≤ c && c ≤ 23)

/-- Queue the record of an event. -/
def evQueue (c : Nat) (cleared : Bool) (subject : Nat) (data : Bytes) (s : State) : State :=
  let r := evRecord s.irq.seq c cleared subject data s.stampBytes
  evqPut r { s with irq := { s.irq with seq := (s.irq.seq + 1) % 2 ^ 32 } }

/-- Raise an event: latch its cause and queue its record (R531 to R534). -/
def raise (c subject : Nat) (data : Bytes) (s : State) : State :=
  let s := if unqueued c then s else evQueue c false subject data s
  setCause c s

/-- The clearing of a cause of R120: a record with FLAGS bit 0 and no cause bit. -/
def raiseClear (c subject : Nat) (data : Bytes) (s : State) : State := evQueue c true subject data s

/-- Write held records in order while there is room. -/
def evqDrainLoop : Nat → State → State
  | 0, s => s
  | n + 1, s =>
    match s.irq.held with
    | [] => s
    | r :: rs => if s.irq.evqRoom && s.dma then evqDrainLoop n (evqWrite r { s with irq := { s.irq with held := rs } }) else s

/-- Write held records, then raise EVQ_OVERFLOW once room has returned after a loss (R534). -/
def evqDrain (s : State) : State :=
  let s := evqDrainLoop 256 s
  if s.irq.lostSince ≠ 0 && s.irq.held.length < 256 && s.irq.evqRoom && s.dma then
    let n := s.irq.lostSince
    raise 4 0 (le 4 n) { s with irq := { s.irq with lostSince := 0 } }
  else s

/-! ### The Negative (R478 to R488) -/

/-- The cause codes that are limited, with the key of their subject (R484): key slot, pool, slice, table and slice. -/
def negSubject (cause : Nat) (data : Bytes) : Option Nat :=
  if cause = 0x0004 then some (byteAt data 2).toNat
  else if cause = 0x0021 then some (byteAt data 0).toNat
  else if cause = 0x0022 then some ((byteAt data 3).toNat / 32)
  else if cause = 0x0023 ∨ cause = 0x0024 then some ((byteAt data 0).toNat * 256 + (byteAt data 1).toNat)
  else none

/-- The record of an event happening now. -/
def negNow (cause : Nat) (data : Bytes) (s : State) : NegRec :=
  { todSec := s.todSec, todNs := s.todNs, ts32 := s.ts32, frac := s.frac, timeGen := s.nv.timeGen,
    mode := s.sys.mode.code, power := s.pwr.state.code, cause := cause,
    lifecycle := s.nv.lifecycle.code, todValid := s.clk.todSet, data := toLen 28 data, suppressed := 0 }

/-- Bytes 0 to 59 of a record (R480). -/
def NegRec.body (r : NegRec) (seq : Nat) (deferred pinned : Bool) : Bytes :=
  le 4 seq ++ le 6 r.todSec ++ le 4 r.todNs ++ le 4 r.ts32 ++ le 2 r.frac ++ le 2 r.timeGen ++
  b1 r.mode ++ b1 r.power ++ le 2 r.cause ++ b1 r.lifecycle ++
  b1 (bitsNat [r.todValid, deferred, pinned]) ++ r.data ++ le 4 r.suppressed

/-- The lowest empty slot among `n` slots from `lo` (R479). -/
def freePinned (slots : Tab Bytes) (lo n : Nat) : Option Nat :=
  ((List.range n).map (· + lo)).find? (fun i => (slots.find? i).isNone)

/-- Write a record to its slot (R479 to R481): the pinned area of the lifecycle (of the one entered, for a LIFECYCLE record) while it has an empty slot, else the ring. -/
def negStore (r : NegRec) (deferred : Bool) (s : State) : State :=
  let life := if r.cause = 0x0003 then (byteAt r.data 1).toNat else s.nv.lifecycle.code
  let pin := freePinned s.nv.slots (256 * life) 256
  let seq := s.nv.nextSeq
  let body := r.body seq deferred pin.isSome
  let chain := (Crypto.sha256 ((if seq = 0 then zeros 4 else s.nv.lastChain) ++ body)).take 4
  let slot := pin.getD s.nv.ringNext
  let ring := if pin.isSome then s.nv.ringNext
              else if s.nv.ringNext = 32767 then 1024 else s.nv.ringNext + 1
  { s with nv := { s.nv with slots := s.nv.slots.set slot (body ++ chain), nextSeq := seq + 1,
                             lastChain := chain, ringNext := ring } }

/-- A record falls due: written, or deferred while NV-inhibit holds (R485), or counted where the queue is full. -/
def negPut (r : NegRec) (s : State) : State :=
  if s.pwr.nvInhibit then
    if s.neg.deferred.length < 128 then { s with neg := { s.neg with deferred := s.neg.deferred ++ [r] } }
    else { s with neg := { s.neg with lost := s.neg.lost + 1, firstLost := if s.neg.lost = 0 then r.cause else s.neg.firstLost } }
  else negStore r false s

/-- An event with a Negative record (R488): limited causes are written at most once a second per subject (R484). -/
def negWrite (cause : Nat) (data : Bytes) (s : State) : State :=
  match negSubject cause data with
  | none => negPut (negNow cause data s) s
  | some sub =>
    let key := cause * 65536 + sub
    match s.neg.limits.find? key with
    | some l =>
      if s.clk.now < l.last + secTicks then
        { s with neg := { s.neg with limits := s.neg.limits.set key { l with count := l.count + 1 } } }
      else
        negPut { negNow cause data s with suppressed := l.count }
          { s with neg := { s.neg with limits := s.neg.limits.set key { last := s.clk.now, count := 0 } } }
    | none =>
      negPut (negNow cause data s)
        { s with neg := { s.neg with limits := s.neg.limits.set key { last := s.clk.now, count := 0 } } }

/-- The INTERNAL record of a failure that is not fatal (R85, R488), with the opcode it met (0 none): its SEQ, 0xFFFFFFFF where NV-inhibit defers it (log 21), and the state. -/
def negInternal (f : InternalFault) (opcode : Nat) (s : State) : Nat × State :=
  (if s.pwr.nvInhibit then 0xFFFFFFFF else s.nv.nextSeq,
   negWrite 0x00FF (b1 ((f.proc.map (·.val)).getD 0xFF) ++ b1 0 ++ le 2 opcode ++ le 4 f.code.toNat ++ le 4 f.addr.toNat) s)

/-- Write the deferred records in event order, then NEG_OVERFLOW where events were lost (R485). -/
def negFlush (s : State) : State :=
  let s1 := s.neg.deferred.foldl (fun s r => negStore r true s) { s with neg := { s.neg with deferred := [] } }
  if s1.neg.lost = 0 then s1
  else
    let r := negNow 0x00F1 (le 4 s1.neg.lost ++ le 2 s1.neg.firstLost) s1
    negStore r false { s1 with neg := { s1.neg with lost := 0, firstLost := 0, overflowed := true } }

/-! ### Status codes (R85) -/

def stDone : Nat := 0x0000
def stStarted : Nat := 0x0001
def stBadVersion : Nat := 0x0100
def stBadOpcode : Nat := 0x0101
def stBadLength : Nat := 0x0102
def stBadParam : Nat := 0x0103
def stBadCrc : Nat := 0x0104
def stAuthRequired : Nat := 0x0200
def stAuthFailed : Nat := 0x0201
def stCounterStale : Nat := 0x0202
def stKeySlotEmpty : Nat := 0x0203
def stWrongMode : Nat := 0x0300
def stWrongLifecycle : Nat := 0x0301
def stSupplyLow : Nat := 0x0302
def stBusy : Nat := 0x0303
def stLimit : Nat := 0x0304
def stNoSuchHandle : Nat := 0x0400
def stNotSuspendable : Nat := 0x0401
def stAlreadyFinished : Nat := 0x0402
def stInternal : Nat := 0x0500

/-! ### Replies and notices (R66 to R79) -/

/-- A reply packet (R77), tagged under `key` where one is given (R79). -/
def replyPacket (flags opcode seq status handle counter : Nat) (result : Bytes) (key : Option Bytes) (s : State) : Bytes :=
  let fl := flags ||| 2 ||| (if key.isSome then 1 else 0)
  let hdr := b1 4 ++ b1 fl ++ le 2 opcode ++ le 4 seq ++ le 2 result.length ++ le 2 status ++ le 4 handle ++
    le 8 counter ++ b1 s.sys.mode.code ++ b1 s.pwr.state.code ++ le 2 s.nv.timeGen ++ le 4 (crc32 result)
  let body := hdr ++ result
  match key with
  | none => body
  | some k => body ++ Crypto.tag16 k body

/-- Free entries of the reply ring (R67). -/
def Mbx.freeEntries (m : Mbx) : Nat := (m.rplCi + 255 - m.rplPi % 256) % 256

/-- Is there a free reply entry (R67, R68)? -/
def Mbx.replyRoom (m : Mbx) : Bool := decide (0 < m.freeEntries)

/-- Reply entries reserved for commands taken and not yet answered (R68): one while a reply on PCIe is due. -/
def State.reserved (s : State) : Nat := if s.gcp.pcie.due.isSome then 1 else 0

/-- Can a notice, or a reply held earlier, be posted: the ring is armed, and an entry is free beside those reserved? -/
def postRoom (s : State) : Bool := s.mbx.enable && s.dma && decide (s.reserved < s.mbx.freeEntries)

/-- Write one packet to the reply ring, advance the index and raise REPLY (R69). -/
def mbxPost (p : Bytes) (s : State) : State :=
  let s1 := { s with out := .hostWrite (s.mbx.rplBase.toNat / 4096 * 4096 + 4096 * s.mbx.rplPi) p :: s.out,
                     mbx := { s.mbx with rplPi := (s.mbx.rplPi + 1) % 256 } }
  raise 0 0 [] s1

/-- Post held replies and notices in order while the rings are armed and entries are free that no command has reserved. -/
def mbxDrain : Nat → State → State
  | 0, s => s
  | n + 1, s =>
    match s.mbx.held with
    | [] => s
    | p :: ps =>
      if postRoom s then
        mbxDrain n (mbxPost p { s with mbx := { s.mbx with held := ps } })
      else s

/-- Put a notice on the reply ring, or hold it until it can be posted (R68, R70). -/
def mbxNotice (p : Bytes) (s : State) : State :=
  let s := { s with mbx := { s.mbx with held := s.mbx.held ++ [p] } }
  mbxDrain s.mbx.held.length s

/-- Put the reply of a command that was taken in the entry reserved for it (R68), or hold it while the rings are not armed (R70). -/
def mbxReply (p : Bytes) (s : State) : State :=
  if s.mbx.enable && s.dma && s.mbx.replyRoom then mbxPost p s
  else { s with mbx := { s.mbx with held := s.mbx.held ++ [p] } }

/-- Is a port UP or ACTIVE, so that frames can leave it? -/
def State.portUp (s : State) (p : Nat) : Bool :=
  let r := s.ports.get PortRec.reset p
  r.st == .up || r.st == .active

/-- A frame that firmware has built waits for its port's egress store (R271, R306); on a port that is not up nothing is sent (R15, R142). -/
def fwSend (p tc : Nat) (b : Bytes) (note : Option Out) (s : State) : State :=
  if s.portUp p then
    { s with core := { s.core with fwQueue := s.core.fwQueue.modify [] p (· ++ [{ tc := tc, bytes := b, note := note }]) } }
  else s

/-- The Ethernet frame, without FCS, of an in-band packet sent out of a port (R72): to a MAC, from the device MAC, on a VLAN or none, with EtherType 0x88B5. -/
def inbandBytes (s : State) (p : Nat) (dst : Mac) (vlan : Option (BitVec 12)) (pkt : Bytes) : Bytes :=
  be 6 dst.toNat ++ be 6 s.sys.deviceMac.toNat ++
  (match vlan with
   | some v => be 2 0x8100 ++ be 2 ((s.maps.get ClassMap.reset p).tcToPcp.getD 7 7 * 8192 + v.toNat)
   | none => []) ++ be 2 0x88B5 ++ pkt

/-- Send an in-band reply or notice: a frame in TC7 of its port (R72, R306). -/
def inbandSend (p : Nat) (dst : Mac) (vlan : Option (BitVec 12)) (pkt : Bytes) (s : State) : State :=
  fwSend p 7 (inbandBytes s p dst vlan pkt) none s

/-- Deliver a reply on the transport its command came by (R66, R68, R72, R74). -/
def deliver (o : Origin) (p : Bytes) (s : State) : State :=
  match o with
  | .pcie => mbxReply p s
  | .inband port src vlan => inbandSend port.val src vlan p s
  | .sideband => { s with gcp := { s.gcp with sbReply := some p } }

/-- Send a notice, or the reply to a command that was not taken, on a transport (R87, R97): on PCIe it takes no reserved entry. -/
def notify (o : Origin) (p : Bytes) (s : State) : State :=
  match o with
  | .pcie => mbxNotice p s
  | o => deliver o p s

/-! ### Operation records (R89 to R97) -/

/-- Is an operation live (R90)? -/
def Op.live (o : Op) : Bool := !(o.state == .done || o.state == .cancelled || o.state == .failed)

/-- Milliseconds spent RUNNING or CANCELLING (R96). -/
def Op.elapsedMs (o : Op) (now : Nat) : Nat :=
  (o.elapsed + (if o.state == .running || o.state == .cancelling then now - o.since else 0)) / msTicks

/-- The ORIGIN code of R96. -/
def Transport.code : Transport → Nat
  | .pcie => 0 | .inband => 1 | .sideband => 2 | .firmware => 3

/-- The operation record (R96). -/
def Op.record (o : Op) (now : Nat) : Bytes :=
  le 4 o.handle ++ b1 o.typ ++ b1 o.state.code ++ le 2 o.progress ++ le 2 o.finalStatus ++ b1 o.reason.code ++
  b1 (Transport.code o.transport) ++ le 4 (o.elapsedMs now) ++ le 8 o.units

/-- The operation of a handle. -/
def State.op? (s : State) (h : Nat) : Option Op := s.ops.find? (fun o => o.handle == h)

/-- Replace an operation's record. -/
def setOp (o : Op) (s : State) : State :=
  { s with ops := s.ops.map (fun p => if p.handle == o.handle then o else p) }

/-- Move an operation to a state, closing its account of time. -/
def Op.move (o : Op) (st : OpState) (now : Nat) : Op :=
  { o with state := st, since := now,
           elapsed := o.elapsed + (if o.state == .running || o.state == .cancelling then now - o.since else 0) }

/-- Operations that writing non-volatile memory binds to the supply warning (R92). -/
def liveOps (s : State) : Nat := (s.ops.filter (fun o => o.live && o.transport != .firmware)).length

/-- Finish an operation (R89, R92, R97): final state and status, a notice on the starting transport or FW_OP_END, the FW_IMAGE record of an update (R488, R520), and the release of operations that finished 64 finishes ago. -/
def opFinish (h : Nat) (st : OpState) (status : Nat) (s : State) : State :=
  match s.op? h with
  | none => s
  | some o =>
    let o := { o.move st s.clk.now with finalStatus := status, reason := .none,
                                        progress := if st == .done then 10000 else o.progress }
    let fin := s.finished ++ [h]
    let drop := fin.take (fin.length - 64)
    let s := { setOp o s with finished := fin.drop (fin.length - 64) }
    let s := { s with ops := s.ops.filter (fun p => !(drop.contains p.handle)) }
    let s := match o.work with
      | .fw w =>
        let d := b1 w.target ++ b1 st.code ++ le 2 status ++ le 4 w.version
        if s.sys.mode = .safe then { s with neg := { s.neg with keptFw := some { negNow 0x0040 d s with mode := 0 } } }
        else negWrite 0x0040 d s
      | _ => s
    match o.origin with
    | none => raise 2 o.typ (le 4 h ++ b1 st.code ++ le 2 status) s
    | some .sideband => s
    | some g =>
      notify g (replyPacket 0x10 0x0B00 0 0 h 0 (o.record s.clk.now) o.tagKey s) s

/-- Create an operation (R89, R92): the handle, and SUSPENDED with reason SUPPLY where the type writes non-volatile memory and the supply warning holds. Answers the handle. -/
def opStart (typ : Nat) (t : Transport) (origin : Option Origin) (key : Option Bytes) (nv : Bool) (w : Work) (s : State) : Nat × State :=
  let h := s.nextHandle
  let wait := nv && s.pwr.auxWarn
  let o : Op := { handle := h, typ := typ, state := if wait then .suspended else .running, progress := 0,
                  finalStatus := 0, reason := if wait then .supply else .none, transport := t,
                  origin := origin, tagKey := key, elapsed := 0, since := s.clk.now, units := 0,
                  nvWrite := nv, work := w }
  (h, { s with ops := s.ops ++ [o], nextHandle := if h + 1 = 2 ^ 32 then 1 else h + 1 })

/-- A suspend point of an operation (R92): a SUSPENDING one stops. -/
def suspendPoint (h : Nat) (s : State) : State :=
  match s.op? h with
  | some o => if o.state == .suspending then setOp (o.move .suspended s.clk.now) s else s
  | none => s

/-- An operation's work is complete (R92, R94): DONE where it is RUNNING; one asked to suspend stops first. -/
def opComplete (h : Nat) (s : State) : State :=
  match s.op? h with
  | some o => if o.state == .running then opFinish h .done 0 s else suspendPoint h s
  | none => s

/-- An operation's work fails with a status: FAILED where it is RUNNING; one asked to suspend stops first. -/
def opFail (h status : Nat) (s : State) : State :=
  match s.op? h with
  | some o => if o.state == .running then opFinish h .failed status s else suspendPoint h s
  | none => s

/-- May an operation's work go on: it is RUNNING, or SUSPENDING on its way to a suspend point (R92). -/
def Op.working (o : Op) : Bool := o.state == .running || o.state == .suspending

/-! ### Counters of R539 -/

/-- Add to a counter of a port's block (R539); `idx` is the field's offset / 8. -/
def cntPort (p idx n : Nat) (s : State) : State :=
  { s with portCnt := s.portCnt.modify 0 (p * 32 + idx) (fun v => wrapAdd 64 v n) }

/-- Add to a counter of a port's class block (R539); `idx` is the field's offset / 8. -/
def cntClass (p tc idx n : Nat) (s : State) : State :=
  { s with classCnt := s.classCnt.modify 0 ((p * 8 + tc) * 16 + idx) (fun v => wrapAdd 64 v n) }

/-! ### Mode changes and debug sessions (R41, R47, R114) -/

/-- Close the open debug session with a reason: the DEBUG record and event (R114, R488). -/
def dbgClose (reason : Nat) (s : State) : State :=
  match s.dbg.session with
  | none => s
  | some d =>
    let s := negWrite 0x0005 (b1 d.level ++ b1 d.slot ++ b1 1 ++ b1 reason ++ le 2 d.lifetime) s
    let s := { s with dbg := { s.dbg with session := none, driven := false } }
    raise 40 d.level (b1 1 ++ b1 reason) s

/-- Close a D1 or D2 session on leaving MAINTENANCE (R47). -/
def dbgCloseHost (reason : Nat) (s : State) : State :=
  match s.dbg.session with
  | some d => if d.level = 3 then s else dbgClose reason s
  | none => s

/-- Change the mode (R41, R47): the MODE record first, D1 and D2 sessions closed on leaving MAINTENANCE, then `SYS_MODE.MODE` and the MODE_CHANGE event. `trigger` is coded as in R488. -/
def setMode (m : Mode) (trigger slot opcode flag : Nat) (s : State) : State :=
  let old := s.sys.mode
  let s := negWrite 0x0002 (b1 old.code ++ b1 m.code ++ b1 trigger ++ b1 slot ++ le 2 opcode ++ b1 flag) s
  let s := if old = .maintenance then dbgCloseHost 3 s else s
  let s := { s with sys := { s.sys with mode := m } }
  raise 1 m.code (b1 old.code ++ b1 trigger) s

end Sys2Proof.Machine
end

