-- ==== Sys2Proof/Machine/Acc.lean ====
section
/-! DEFINITION. Reading and changing one entry of each sparse table of the state, with its value after reset as the default. -/

namespace Sys2Proof.Machine

/-- Port `p`. -/
def State.port (s : State) (p : Nat) : PortRec := s.ports.get PortRec.reset p
/-- Change port `p`. -/
def modPort (p : Nat) (f : PortRec → PortRec) (s : State) : State := { s with ports := s.ports.modify PortRec.reset p f }
/-- Global lane `l`. -/
def State.lane (s : State) (l : Nat) : LaneRec := s.lanes.get LaneRec.reset l
/-- Change global lane `l`. -/
def modLane (l : Nat) (f : LaneRec → LaneRec) (s : State) : State := { s with lanes := s.lanes.modify LaneRec.reset l f }
/-- The class maps of port `p`. -/
def State.map (s : State) (p : Nat) : ClassMap := s.maps.get ClassMap.reset p
/-- Flow control of port `p`. -/
def State.flow (s : State) (p : Nat) : Flow := s.flows.get Flow.reset p
/-- Change the flow control of port `p`. -/
def modFlow (p : Nat) (f : Flow → Flow) (s : State) : State := { s with flows := s.flows.modify Flow.reset p f }
/-- Class `c` of a port's flow control. -/
def Flow.cls (f : Flow) (c : Nat) : FlowClass := f.classes.get (FlowClass.reset c) c
/-- Class `c` of port `p`. -/
def State.fc (s : State) (p c : Nat) : FlowClass := (s.flow p).cls c
/-- Change class `c` of port `p`. -/
def modFc (p c : Nat) (g : FlowClass → FlowClass) (s : State) : State :=
  modFlow p (fun f => { f with classes := f.classes.modify (FlowClass.reset c) c g }) s
/-- Egress scheduling of port `p`. -/
def State.eg (s : State) (p : Nat) : Egress := s.egress.get Egress.reset p
/-- Change egress scheduling of port `p`. -/
def modEg (p : Nat) (f : Egress → Egress) (s : State) : State := { s with egress := s.egress.modify Egress.reset p f }
/-- The Dalom link of port `p`. -/
def State.dlk (s : State) (p : Nat) : Dlk := s.dlks.get Dlk.reset p
/-- Change the Dalom link of port `p`. -/
def modDlk (p : Nat) (f : Dlk → Dlk) (s : State) : State := { s with dlks := s.dlks.modify Dlk.reset p f }
/-- Pool `p`. -/
def State.pool (s : State) (p : Nat) : Pool := s.core.pools.get (Pool.reset p) p
/-- Change pool `p`. -/
def modPool (p : Nat) (f : Pool → Pool) (s : State) : State :=
  { s with core := { s.core with pools := s.core.pools.modify (Pool.reset p) p f } }
/-- Slice `i`. -/
def State.slice (s : State) (i : Nat) : SliceRec := s.core.slices.get (SliceRec.reset i) i
/-- Change slice `i`. -/
def modSlice (i : Nat) (f : SliceRec → SliceRec) (s : State) : State :=
  { s with core := { s.core with slices := s.core.slices.modify (SliceRec.reset i) i f } }
/-- The tables of slice `i`. -/
def State.tab (s : State) (i : Nat) : SliceTab := s.tables.slices.get SliceTab.reset i
/-- Change the tables of slice `i`. -/
def modTab (i : Nat) (f : SliceTab → SliceTab) (s : State) : State :=
  { s with tables := { s.tables with slices := s.tables.slices.modify SliceTab.reset i f } }
/-- Table access window `w` (17 is the broadcast window). -/
def State.win (s : State) (w : Nat) : Window := s.tables.windows.get Window.reset w
/-- Change window `w`. -/
def modWin (w : Nat) (f : Window → Window) (s : State) : State :=
  { s with tables := { s.tables with windows := s.tables.windows.modify Window.reset w f } }
/-- Learning settings of port `p`. -/
def State.l2 (s : State) (p : Nat) : L2Port := s.tables.l2.get L2Port.reset p
/-- Change the core part. -/
def modCore (f : Core → Core) (s : State) : State := { s with core := f s.core }
/-- Change the SYS part. -/
def modSys (f : Sys → Sys) (s : State) : State := { s with sys := f s.sys }
/-- Change the power part. -/
def modPwr (f : Power → Power) (s : State) : State := { s with pwr := f s.pwr }

/-- The quad of a port (R3). -/
def quadOf (p : Nat) : Nat := p / 4
/-- The slice assigned to a quad (R3, R333). -/
def State.quadSlice (s : State) (q : Nat) : Nat := s.core.quads.get q q
/-- Is a quad unserved (R326)? -/
def State.quadDown (s : State) (q : Nat) : Bool := s.core.unserved.get false q
/-- A quad's epoch (R324). -/
def State.epoch (s : State) (q : Nat) : Nat := s.core.epochs.get 0 q

/-- Does the device forward (R37, R45)? -/
def State.forwarding (s : State) : Bool :=
  s.sys.mode == .run || s.sys.mode == .coast || (s.sys.mode == .maintenance && !s.sys.paused)

/-- Is a port UP or ACTIVE? -/
def PortRec.isUp (r : PortRec) : Bool := r.st == .up || r.st == .active

/-- Port rate in bytes per second for a speed code (R128). -/
def speedBytes : Nat → Nat
  | 5 => 50000000000 | 4 => 25000000000 | 3 => 12500000000 | 2 => 6250000000 | 1 => 3125000000 | _ => 1250000000

/-- Is bit `c` of the lossless mask of port `p` set? -/
def State.lossless (s : State) (p c : Nat) : Bool := (s.flow p).lossless.testBit c

end Sys2Proof.Machine
end

