-- ==== Sys2Proof/Machine/Parse.lean ====
section
/-! DEFINITION. Ethernet frames as bytes: header fields, the class of a frame (R194), and the rewrites of the egress stage (R208, R222, R311). -/

namespace Sys2Proof.Machine

/-- Skip IEEE 802.1Q tags: the number of tags from an offset. -/
def tagsFrom (b : Bytes) : Nat → Nat → Nat
  | 0, _ => 0
  | n + 1, off => if beNat (slice b off 2) = 0x8100 ∧ off + 4 ≤ b.length then 1 + tagsFrom b n (off + 4) else 0

/-- The number of IEEE 802.1Q tags of a frame. -/
def tagCount (b : Bytes) : Nat := tagsFrom b 8 12

/-- The tag control word of the outer tag, if the frame has one. -/
def tci? (b : Bytes) : Option Nat := if tagCount b = 0 then none else some (beNat (slice b 14 2))

/-- The EtherType. -/
def etherType (b : Bytes) : Nat := beNat (slice b (12 + 4 * tagCount b) 2)

/-- The offset of the layer-3 header. -/
def l3Off (b : Bytes) : Nat := 14 + 4 * tagCount b

/-- Is the frame IPv4 (by EtherType and version)? -/
def isV4 (b : Bytes) : Bool := etherType b == 0x0800 && (byteAt b (l3Off b)).toNat / 16 == 4

/-- Is the frame IPv6? -/
def isV6 (b : Bytes) : Bool := etherType b == 0x86DD && (byteAt b (l3Off b)).toNat / 16 == 6

/-- Destination MAC. -/
def dstMac (b : Bytes) : Nat := beNat (slice b 0 6)
/-- Source MAC. -/
def srcMac (b : Bytes) : Nat := beNat (slice b 6 6)
/-- Is a MAC address a multicast one: the lowest bit of its first byte? -/
def macMulticast (m : Nat) : Bool := m.testBit 40

/-- The traffic-class byte: TOS of IPv4, Traffic Class of IPv6. -/
def tosByte (b : Bytes) : Nat :=
  let o := l3Off b
  if isV4 b then (byteAt b (o + 1)).toNat
  else (byteAt b o).toNat % 16 * 16 + (byteAt b (o + 1)).toNat / 16

/-- DSCP of an IP frame. -/
def dscp (b : Bytes) : Nat := tosByte b / 4
/-- ECN field of an IP frame. -/
def ecn (b : Bytes) : Nat := tosByte b % 4

/-- TTL or hop limit. -/
def ttl (b : Bytes) : Nat :=
  let o := l3Off b
  if isV4 b then (byteAt b (o + 8)).toNat else (byteAt b (o + 7)).toNat

/-- IPv4 header bytes. -/
def ihl (b : Bytes) : Nat := (byteAt b (l3Off b)).toNat % 16 * 4

/-- Protocol or next header. -/
def ipProto (b : Bytes) : Nat :=
  let o := l3Off b
  if isV4 b then (byteAt b (o + 9)).toNat else (byteAt b (o + 6)).toNat

/-- Source address bytes. -/
def ipSrc (b : Bytes) : Bytes := if isV4 b then slice b (l3Off b + 12) 4 else slice b (l3Off b + 8) 16
/-- Destination address bytes. -/
def ipDst (b : Bytes) : Bytes := if isV4 b then slice b (l3Off b + 16) 4 else slice b (l3Off b + 24) 16

/-- Is an IPv4 frame a fragment? -/
def isFragment (b : Bytes) : Bool := isV4 b && beNat (slice b (l3Off b + 6) 2) % 16384 != 0

/-- The offset of the layer-4 header. -/
def l4Off (b : Bytes) : Nat := if isV4 b then l3Off b + ihl b else l3Off b + 40

/-- Has the frame a TCP or UDP header to read? -/
def hasL4 (b : Bytes) : Bool := (isV4 b || isV6 b) && !isFragment b && (ipProto b == 6 || ipProto b == 17)

/-- L4 source port, zero without one. -/
def l4Src (b : Bytes) : Nat := if hasL4 b then beNat (slice b (l4Off b) 2) else 0
/-- L4 destination port, zero without one. -/
def l4Dst (b : Bytes) : Nat := if hasL4 b then beNat (slice b (l4Off b + 2) 2) else 0
/-- TCP flags, zero without a TCP header. -/
def tcpFlags (b : Bytes) : Nat := if hasL4 b && ipProto b == 6 then (byteAt b (l4Off b + 13)).toNat else 0

/-- The VID of a frame: its tag's, or the port's PVID (R221). -/
def frameVid (s : State) (p : Nat) (b : Bytes) : Nat :=
  match tci? b with
  | some t => t % 4096
  | none => (s.l2 p).pvid

/-- The class of a received frame by R194, after rule 1 (a SET_TC action) has not applied; on a Dalom port the segments' class governs (R195). -/
def mapClass (s : State) (p : Nat) (b : Bytes) : Nat :=
  let m := s.map p
  if m.trust = 2 ∧ (isV4 b || isV6 b) then m.dscpToTc.getD (dscp b) 0
  else match tci? b with
    | some t => if m.trust ≥ 1 then m.pcpToTc.getD (t / 8192) 0 else m.defaultTc
    | none => m.defaultTc

/-- The size a frame's buffer is chosen by at the grant point (R271). -/
def grantSize (maxFrame : Nat) (head : Bytes) (ended : Bool) : Nat :=
  if ended then head.length
  else if isV4 head then min maxFrame (max 64 (l3Off head + beNat (slice head (l3Off head + 2) 2) + 4))
  else if isV6 head then min maxFrame (max 64 (l3Off head + 40 + beNat (slice head (l3Off head + 4) 2) + 4))
  else maxFrame

/-- The IPv4 header checksum of a header whose checksum field is skipped. -/
def ipChecksum (h : Bytes) : Nat :=
  let words := (List.range (h.length / 2)).map (fun i => if i = 5 then 0 else beNat (slice h (2 * i) 2))
  let fold (x : Nat) := x % 65536 + x / 65536
  65535 - fold (fold words.sum)

/-- Replace `size` bytes at an offset. -/
def patch (b : Bytes) (off : Nat) (v : Bytes) : Bytes := b.take off ++ v ++ b.drop (off + v.length)

/-- Rewrite the IPv4 checksum of a frame after a header change. -/
def fixV4 (b : Bytes) : Bytes :=
  if isV4 b then patch b (l3Off b + 10) (be 2 (ipChecksum (slice b (l3Off b) (ihl b)))) else b

/-- Decrement TTL or hop limit (R222). -/
def decTtl (b : Bytes) : Bytes :=
  if isV4 b then fixV4 (patch b (l3Off b + 8) (b1 (ttl b - 1)))
  else if isV6 b then patch b (l3Off b + 7) (b1 (ttl b - 1))
  else b

/-- Set CE in an ECT frame (R208). -/
def setCe (b : Bytes) : Bytes :=
  if isV4 b then fixV4 (patch b (l3Off b + 1) (b1 (tosByte b ||| 3)))
  else if isV6 b then patch b (l3Off b + 1) [byteAt b (l3Off b + 1) ||| 0x30]
  else b

/-- Is a frame ECN-capable and not yet marked: ECT(0) or ECT(1)? -/
def isEct (b : Bytes) : Bool := (isV4 b || isV6 b) && (ecn b == 1 || ecn b == 2)

/-- Give a frame (without FCS) a tag, or none: the outer tag is replaced, added or taken away. -/
def retag (b : Bytes) (vid : Nat) (tagged : Bool) (pcp dei : Nat) : Bytes :=
  let rest := if tagCount b = 0 then b.drop 12 else b.drop 16
  b.take 12 ++ (if tagged then be 2 0x8100 ++ be 2 (pcp * 8192 + dei * 4096 + vid % 4096) else []) ++ rest

/-- The frame without its FCS. -/
def noFcs (b : Bytes) : Bytes := b.take (b.length - 4)

/-- Append the FCS, padding to 64 bytes. -/
def withFcs (b : Bytes) : Bytes :=
  let b := b ++ zeros (60 - b.length)
  b ++ le 4 (crc32 b)

/-- The bytes a copy of a frame leaves an egress port with (R194, R195, R222, R311): the next hop's MACs and TTL for a routed frame, the copy's VID and tagging where they are given, TC_TO_PCP of an Ethernet port for the frame's class in the tag, CE where it is marked, and a fresh FCS. -/
def egressBytes (s : State) (port tc : Nat) (r : Option Result) (copy : Option (Nat × Bool)) (ce : Bool) (raw : Bytes) : Bytes :=
  let b := noFcs raw
  let oldTci := (tci? b).getD 0
  let b := match r.bind (·.rewrite) with
    | some w => decTtl (be 6 w.dst.toNat ++ be 6 w.src.toNat ++ b.drop 12)
    | none => b
  let dalom := (s.port port).cfg.dalom
  let had := (tci? b).isSome
  let pcp := if dalom && had then oldTci / 8192 else (s.map port).tcToPcp.getD tc tc
  let dei := oldTci / 4096 % 2
  let b := match copy, r.bind (·.rewrite), r.bind (·.egressTag) with
    | some (v, t), _, _ => retag b v t pcp dei
    | none, some w, some t => retag b w.vid t pcp dei
    | none, _, _ => if had then retag b (oldTci % 4096) true pcp dei else b
  withFcs (if ce then setCe b else b)

end Sys2Proof.Machine
end

