-- ==== Sys2Proof/Machine/Timing.lean ====
section
/-! DEFINITION. Timebase, references and DPLLs: accessors, quality ranks (R348, R349), qualification (R346), selection (R351), loss and holdover (R353, R359), slews. -/

namespace Sys2Proof.Machine

/-- Change the timing part. -/
def modTim (f : Timing → Timing) (s : State) : State := { s with tim := f s.tim }
/-- Reference `r` (15 is the parent candidate). -/
def State.ref (s : State) (r : Nat) : Ref := s.tim.refs.get (Ref.reset r) r
/-- Change reference `r`. -/
def modRef (r : Nat) (f : Ref → Ref) (s : State) : State :=
  modTim (fun t => { t with refs := t.refs.modify (Ref.reset r) r f }) s
/-- DPLL `d` (0 T, 1 F, 2 A, 3 B). -/
def State.dpll (s : State) (d : Nat) : Dpll := s.tim.dplls.get (Dpll.reset d) d
/-- Change DPLL `d`. -/
def modDpll (d : Nat) (f : Dpll → Dpll) (s : State) : State :=
  modTim (fun t => { t with dplls := t.dplls.modify (Dpll.reset d) d f }) s
/-- ESMC of port `p`. -/
def State.esmc (s : State) (p : Nat) : Esmc := s.tim.esmc.get Esmc.reset p
/-- Change ESMC of port `p`. -/
def modEsmc (p : Nat) (f : Esmc → Esmc) (s : State) : State :=
  modTim (fun t => { t with esmc := t.esmc.modify Esmc.reset p f }) s
/-- PTP on port `p`. -/
def State.ptp (s : State) (p : Nat) : PtpPort := s.tim.ptp.get PtpPort.reset p
/-- Change PTP on port `p`. -/
def modPtp (p : Nat) (f : PtpPort → PtpPort) (s : State) : State :=
  modTim (fun t => { t with ptp := t.ptp.modify PtpPort.reset p f }) s
/-- Change the time part. -/
def modTime (f : TimeBlk → TimeBlk) (s : State) : State := modTim (fun t => { t with time := f t.time }) s
/-- Change the oscillator. -/
def modXo (f : Xo → Xo) (s : State) : State := modTim (fun t => { t with xo := f t.xo }) s
/-- Change the TOD part. -/
def modTod (f : TodBlk → TodBlk) (s : State) : State := modTim (fun t => { t with tod := f t.tod }) s

/-- |x|. -/
def mag (x : Int) : Nat := x.natAbs

/-- A signed value held within a field of `bits` bits. -/
def clampInt (bits : Nat) (v : Int) : Int := max (-(2 ^ (bits - 1) : Nat)) (min v ((2 ^ (bits - 1) : Nat) - 1))

/-- Is XO_RDY asserted (R365)? -/
def Xo.ready (x : Xo) : Bool := x.noPin || x.rdyPin != x.activeLow

/-- Is XO_IN missing: not detected, or lost (R338, R339)? -/
def Xo.missing (x : Xo) : Bool := !x.present || x.lost

/-- Change WARM and raise its event where it changes (R340). -/
def setWarm (v : Bool) (s : State) : State :=
  if s.tim.xo.warm == v then s else raise 97 0 (b1 (if v then 1 else 0)) (modXo (fun x => { x with warm := v }) s)

/-! ### Quality levels (R348, R349) -/

/-- The SSM and eSSM codes of a rank (R348). -/
def rankCodes : Nat → Nat × Nat
  | 8 => (0x2, 0x21) | 7 => (0x2, 0x20) | 6 => (0x2, 0x23) | 5 => (0x2, 0xFF) | 4 => (0x4, 0xFF)
  | 3 => (0x8, 0xFF) | 2 => (0xB, 0x22) | 1 => (0xB, 0xFF) | _ => (0xF, 0xFF)

/-- The rank of received codes; 0 for a code not in the table (R348). -/
def codesRank (ssm essm : Nat) : Nat :=
  match ssm, essm with
  | 0x2, 0x21 => 8 | 0x2, 0x20 => 7 | 0x2, 0x23 => 6 | 0x2, 0xFF => 5
  | 0x4, _ => 4 | 0x8, _ => 3
  | 0xB, 0x22 => 2 | 0xB, 0xFF => 1
  | _, _ => 0

/-- The rank of the parent candidate from what its grandmaster announces (R410). -/
def classRank (cls acc : Nat) : Nat :=
  if cls = 6 then (if acc ≤ 0x20 then 8 else 7)
  else if cls = 7 ∨ cls = 135 then 6
  else if cls = 52 ∨ cls = 140 then 5
  else if cls = 150 then 4
  else if cls = 160 ∨ cls = 165 ∨ cls = 187 then 3
  else if cls = 248 then 1
  else 0

/-- What the parent port last received (R407). -/
def parentAnn (s : State) : Option Ann := s.tim.time.parent.bind (fun p => (s.ptp p).got)

/-- The rank of a reference in force (R342, R349). -/
def refRank (s : State) (r : Nat) : Nat :=
  if r = 15 then ((parentAnn s).map (fun a => classRank a.cls a.acc)).getD 0
  else if (s.ref r).fromEsmc then
    let e := s.esmc ((s.ref r).lane / 4)
    if e.got.isNone || e.timeout then 0 else codesRank e.ssm e.essm
  else (s.ref r).hostRank

/-- Is a reference QUALIFIED? -/
def refQualified (s : State) (r : Nat) : Bool := (s.ref r).st == .qualified

/-- REF-IDs and the parent candidate. -/
def refIds : List Nat := List.range 14 ++ [15]

/-- Is `r` a time source for DPLL-T (R570)? -/
def timeSource (s : State) (r : Nat) : Bool :=
  r == 15 || ((r == 4 || r == 5) && s.tim.tod.rx && s.tim.tod.pps == r - 4 && s.tim.tod.lastHad)

/-! ### Holdover (R359) -/

/-- What a DPLL holds from a loss at `loss` (R359): the frequency, t_start and t_end in seconds, and whether history served. -/
def holdValue (s : State) (d loss : Nat) : Int × Int × Int × Bool :=
  let q := s.dpll d
  let drift := (q.selected.map (fun r => (s.ref r).driftAt)).getD none
  let t0 := min loss (drift.getD loss)
  let tEnd : Int := (t0 / secTicks : Nat) - q.hoGuard
  let tStart := tEnd - q.hoAvg
  let span := q.hist.filter (fun h => decide (tStart ≤ h.1 ∧ (h.1 : Int) < tEnd))
  if span.length ≥ 1 then ((span.map (·.2)).sum / (span.length : Int), tStart, tEnd, true)
  else (q.steer, tStart, tEnd, false)

/-- DPLL_STATUS FLAGS (R370). -/
def Dpll.flags (q : Dpll) (capped : Bool) : Nat :=
  bitsNat [decide (q.st = .locked ∧ q.trackBw < q.bw), capped, q.cold, q.noHist, q.jump.isSome, !q.conflict.isEmpty,
           q.freqOnly, q.slew.isSome]

/-- The bandwidth cap of a DPLL's source in µHz (R356): a tenth of its phase-sample rate. -/
def bwCap (s : State) (d : Nat) : Option Nat :=
  match (s.dpll d).selected with
  | some 4 => some 100000
  | some 5 => some 100000
  | some 15 =>
    match s.tim.time.parent with
    | some p =>
      if (s.port p).cfg.dalom then none
      else
        let l := (s.ptp p).logSync
        some (if l ≤ 0 then 100000 * 2 ^ l.natAbs else 100000 / 2 ^ l.toNat)
    | none => none
  | _ => none

/-- The bandwidth in force (R356). -/
def bwNow (s : State) (d : Nat) : Nat := match bwCap s d with
  | some c => min (s.dpll d).bw c
  | none => (s.dpll d).bw

/-- Does the cap bind? -/
def bwCapped (s : State) (d : Nat) : Bool := match bwCap s d with
  | some c => decide (c < (s.dpll d).bw)
  | none => false

/-- Raise a DPLL event: 102 DPLL_LOCKED, 103 DPLL_UNLOCK, 104 HOLDOVER, 105 DPLL_LIMIT. -/
def dpllEvent (c d : Nat) (s : State) : State :=
  let q := s.dpll d
  raise c d (b1 (q.selected.getD 0xFF) ++ b1 (q.flags (bwCapped s d))) s

/-- The selected reference of a DPLL is lost (R353): it stops taking phase at once and holds the frequency of R359 for that loss. -/
def dpllLoss (d at' : Nat) (s : State) : State :=
  let q := s.dpll d
  if (q.st = .acquire ∨ q.st = .locked) ∧ q.lossAt = none then
    let h := holdValue s d at'
    modDpll d (fun q => { q with lossAt := some at', steer := h.1, slew := none }) s
  else s

/-- A reference stops being selectable: every DPLL that had it selected loses it. -/
def loseRef (r at' : Nat) (s : State) : State :=
  [0, 1, 2, 3].foldl (fun s d => if (s.dpll d).selected == some r then dpllLoss d at' s else s) s

/-- A QUALIFIED reference is disqualified (R346). -/
def disqualify (r at' : Nat) (s : State) : State :=
  let s := modRef r (fun f => { f with st := .unqualified, disqual := satAdd 32 f.disqual 1 }) s
  let s := raise 99 r (leInt 4 (clampInt 32 (s.ref r).offset)) s
  loseRef r at' s

/-- A reference's activity monitor fails, at the loss instant given (R344, R346). -/
def refFail (r at' : Nat) (s : State) : State :=
  let s := modRef r (fun f => { f with activity := false }) s
  match (s.ref r).st with
  | .qualifying => modRef r (fun f => { f with st := .unqualified, remain := 0 }) s
  | .qualified => disqualify r at' s
  | _ => s

/-- Enter HOLDOVER (R355, R359, R363): the held frequency, the flags, the HOLDOVER_ENTRY record, the event, and from RUN the change to COAST. -/
def enterHoldover (d : Nat) (forced : Bool) (s : State) : State :=
  let q := s.dpll d
  let loss := q.lossAt.getD s.clk.now
  let h := holdValue s d loss
  let noH := !h.2.2.2 || q.st == .freerun
  let f := if q.lossAt.isSome then q.steer else h.1
  let now : Int := (s.clk.now / secTicks : Nat)
  let data := b1 d ++ b1 (q.selected.getD 0xFF) ++
    b1 (bitsNat [!s.tim.xo.warm, noH, forced]) ++ zeros 1 ++ leInt 4 (clampInt 32 f) ++
    le 4 (now - h.2.1).toNat ++ le 4 (now - h.2.2.1).toNat
  let s := negWrite 0x0014 data s
  let s := modDpll d (fun q => { q with
    st := .holdover, hoFreq := f, steer := f, hoWindow := (now - h.2.2.1).toNat, hoStart := s.clk.now, hoSeconds := 0,
    cold := !s.tim.xo.warm, noHist := noH, jump := none, freqOnly := false, slew := none,
    lossAt := none, ho := true, specOut := false }) s
  let s := dpllEvent 104 d s
  let s := modDpll d (fun q => { q with selected := none }) s
  if d = 0 ∧ s.sys.mode = .run then setMode .coast 2 0xFF 0 0 s else s

/-- The time in the current or last holdover in seconds (R370). -/
def holdSeconds (s : State) (d : Nat) : Nat :=
  let q := s.dpll d
  if q.st = .holdover then (s.clk.now - q.hoStart) / secTicks else q.hoSeconds

/-- First setting of time of day after reset (R54, R419): TOD_SET and one generation more. -/
def firstTod (t16 : Int) (s : State) : State :=
  { s with clk := { s.clk with todSet := true, off := t16 - (s.clk.acc / 10 ^ 13 : Nat) },
           nv := { s.nv with timeGen := (s.nv.timeGen + 1) % 65536 } }

/-- The latched DRIFT time is kept until the reference is deselected: until no DPLL has it selected (R360). -/
def driftRelease (r : Nat) (s : State) : State :=
  if [0, 1, 2, 3].any (fun d => (s.dpll d).selected == some r) then s else modRef r (fun f => { f with driftAt := none }) s

/-- A DPLL takes a reference (R355, R361, R570). `src16` is the source's time of day. -/
def takeRef (d r : Nat) (src16 : Int) (s : State) : State :=
  let q := s.dpll d
  let s := if q.st = .holdover then
      negWrite 0x0015 (b1 d ++ b1 r ++ zeros 2 ++ le 4 (holdSeconds s d))
        (modDpll d (fun q => { q with hoSeconds := holdSeconds s d }) s)
    else s
  let time := d == 0 && timeSource s r
  let setting := time && !s.clk.todSet
  let only := time && !setting && (q.st == .holdover || q.st == .freerun || q.freqOnly || q.jump.isSome)
  let s := if setting then firstTod src16 s else s
  let s := modDpll d (fun q => { q with
    st := .acquire, selected := some r, lossAt := none, bw := q.acqBw * 1000000, jump := none, slew := none,
    freqOnly := only, judge := !only,
    switches := if q.selected.isSome && q.selected != some r then satAdd 32 q.switches 1 else q.switches }) s
  match q.selected with
  | some o => driftRelease o s
  | none => s

/-! ### Selection (R351) -/

/-- Do two references agree within a limit in ppb? -/
def agree (s : State) (limit a b : Nat) : Bool := decide (mag ((s.ref a).offset - (s.ref b).offset) ≤ limit * 1000)

/-- The members of a list where a measure is greatest. -/
def bestBy (f : Nat → Nat) (l : List Nat) : List Nat :=
  let m := (l.map f).foldl max 0
  l.filter (fun x => f x == m)

/-- The members of a list where a measure is least. -/
def leastBy (f : Nat → Nat) (l : List Nat) : List Nat :=
  match l with
  | [] => []
  | x :: xs =>
    let m := (xs.map f).foldl min (f x)
    l.filter (fun y => f y == m)

/-- The outcome of R351: the selected reference, the top candidates, and whether they conflict. -/
def choose (s : State) (d : Nat) : Option Nat × List Nat × Bool :=
  let q := s.dpll d
  let cand := refIds.filter (fun r => q.cands.testBit r && refQualified s r && decide (1 ≤ refRank s r))
  if cand.isEmpty then (none, [], false)
  else
    let top := leastBy (fun r => (s.ref r).prio) (bestBy (refRank s) cand)
    let current := if q.lossAt.isSome then none else q.selected
    let inTop : Bool := match current with
      | some c => top.contains c
      | none => false
    if top.all (fun a => top.all (fun b => agree s q.agree a b)) then
      (if inTop then current else top.head?, top, false)
    else if inTop then (current, top, false)
    else
      let near := leastBy (fun r => mag (s.ref r).offset) top
      let others := refIds.filter (fun r => refQualified s r && !top.contains r)
      let most := bestBy (fun r => (others.filter (agree s q.agree r)).length) top
      if s.tim.xo.warm && near.length == 1 then (near.head?, top, false)
      else if most.length == 1 then (most.head?, top, false)
      else (none, top, true)

/-- A mask of references: bit n REF-ID n, bit 15 the parent. -/
def refMask (l : List Nat) : Nat := (l.map (fun r => 2 ^ r)).sum

/-- One DPLL's tick (R351, R353, R355). -/
def dpllTick (src16 : Int) (s : State) (d : Nat) : State :=
  let s := modDpll d (fun q => { q with conflict := q.conflict.filter (refQualified s) }) s
  let q := s.dpll d
  if q.force then s
  else
    match choose s d with
    | (some r, _, _) =>
      let s := modDpll d (fun q => { q with conflict := [] }) s
      if q.selected = some r ∧ q.lossAt = none ∧ q.st ≠ .holdover ∧ q.st ≠ .freerun then s else takeRef d r src16 s
    | (none, top, clash) =>
      let s := if clash && top != q.conflict then
          negWrite 0x0013 (b1 d ++ zeros 1 ++ le 2 (refMask top))
            (raise 101 d (le 2 (refMask top)) (modDpll d (fun q => { q with conflict := top }) s))
        else s
      if q.st = .acquire ∨ q.st = .locked then
        let s := match q.selected with
          | some r => driftRelease r (enterHoldover d false s)
          | none => enterHoldover d false s
        s
      else s

/-- Let a DPLL's loop stand where it stands at a tick (R357, R359): steering within ±50 ppm and phase error while it takes phase; a 1 s mean of steering closes while LOCKED. -/
def loopTick (d : Nat) (steer phase : Int) (s : State) : State :=
  let q := s.dpll d
  if (q.st = .acquire ∨ q.st = .locked) ∧ q.lossAt = none then
    let lim : Int := 50000000
    let hit := decide (lim < steer ∨ steer < -lim)
    let st := max (-lim) (min steer lim)
    let s := modDpll d (fun q => { q with steer := st, phase := phase, limited := hit }) s
    let s := if hit && !q.limited then dpllEvent 105 d s else s
    if q.st = .locked then
      let sec := s.clk.now / secTicks
      modDpll d (fun q =>
        if q.secCount = 99 then
          { q with hist := ((sec, (q.secSum + st) / 100) :: q.hist).take 13600, secSum := 0, secCount := 0 }
        else { q with secSum := q.secSum + st, secCount := q.secCount + 1 }) s
    else modDpll d (fun q => { q with secSum := 0, secCount := 0 }) s
  else s

/-! ### ESMC sent (R350) -/

/-- The reference whose lane a port owns, where DPLL-F has it selected. -/
def sourcesF (s : State) (p : Nat) : Bool :=
  match (s.dpll 1).selected with
  | some r => decide (6 ≤ r ∧ r ≤ 13) && (s.ref r).lane / 4 == p
  | none => false

/-- The quality codes a port sends (R350). -/
def esmcOut (s : State) (p : Nat) : Nat × Nat :=
  let q := s.dpll 1
  if sourcesF s p then rankCodes 0
  else if q.st = .acquire ∨ q.st = .locked then rankCodes ((q.selected.map (refRank s)).getD 0)
  else rankCodes q.ownRank

/-- Send an ESMC PDU on a port: a frame of firmware, of the least size, in TC7 (log 116). -/
def esmcSend (p : Nat) (s : State) : State :=
  let c := esmcOut s p
  modEsmc p (fun e => { e with sent := some c }) (fwSend p 7 (zeros 60) (some (.esmc p c.1 c.2)) s)

/-- Event PDUs where the quality sent has changed (R350). -/
def esmcChanges (s : State) : State :=
  (List.range 64).foldl (fun s p =>
    let e := s.esmc p
    if e.enable && e.sent.isSome && e.sent != some (esmcOut s p) && !(s.port p).cfg.dalom && (s.port p).st == .up then esmcSend p s else s) s

/-! ### Service grade and locking -/

/-- Is DPLL-T at service grade (R43)? -/
def serviceGrade (s : State) : Bool :=
  let q := s.dpll 0
  q.st == .locked || (q.st == .acquire && !q.freqOnly && q.jump.isNone)

/-- A DPLL enters LOCKED (R355, R363). -/
def enterLocked (d : Nat) (s : State) : State :=
  let s := modDpll d (fun q => { q with st := .locked, bw := q.acqBw * 1000000, ho := false, specOut := false, judge := true }) s
  let s := dpllEvent 102 d s
  if d = 0 ∧ s.sys.mode = .coast then setMode .run 3 0xFF 0 0 s else s

/-- Start a slew of `o` 2^-16 ns (R361, R362). -/
def startSlew (o : Int) (s : State) : State :=
  modDpll 0 (fun q => { q with slew := some (o * 10 ^ 13) }) s

end Sys2Proof.Machine
end

