-- ==== Sys2Proof/Machine/Clocks.lean ====
section
/-! DEFINITION. Synthesizers and outputs: bands (R377 to R380), output states and relocks (R384), PPS (R388, R389), the TOD message (R390 to R392). -/

namespace Sys2Proof.Machine

/-- Synthesizer `i`: 0 SYN-T, 1 to 4 SYN-L, 5 and 6 SYN-O. -/
def State.syn (s : State) (i : Nat) : Syn := s.tim.syns.get (Syn.reset i) i
/-- Change synthesizer `i`. -/
def modSyn (i : Nat) (f : Syn → Syn) (s : State) : State :=
  modTim (fun t => { t with syns := t.syns.modify (Syn.reset i) i f }) s
/-- Clock output `n`. -/
def State.cko (s : State) (n : Nat) : CkOut := s.tim.outs.get CkOut.reset n
/-- Change clock output `n`. -/
def modCko (n : Nat) (f : CkOut → CkOut) (s : State) : State :=
  modTim (fun t => { t with outs := t.outs.modify CkOut.reset n f }) s
/-- PPS output `n`. -/
def State.pps (s : State) (n : Nat) : PpsOut := s.tim.ppsOuts.get PpsOut.reset n
/-- Change PPS output `n`. -/
def modPps (n : Nat) (f : PpsOut → PpsOut) (s : State) : State :=
  modTim (fun t => { t with ppsOuts := t.ppsOuts.modify PpsOut.reset n f }) s

/-! ### Bands -/

/-- A band entry from its 16 bytes (R377). -/
def bandOf (b : Bytes) : Band :=
  { code := field b 0 1, valid := (field b 1 1).testBit 0, tempco := fieldInt b 2 2, minK := field b 4 4, maxK := field b 8 4 }

/-- The firmware's default table (R380). -/
def defaultBands (i : Nat) : List Band :=
  (List.range 64).map (fun k => bandOf (le 16 (Config.bandEntry i k).toNat))

/-- The table in force: the host's, else the default. -/
def Syn.bands (y : Syn) (i : Nat) : List Band := y.table.getD (defaultBands i)

/-- An adjusted limit in units of kHz × 16 × 10^7 (R378), at a junction temperature in 1/16 °C. -/
def bandLimit (k : Nat) (tempco tj16 : Int) : Int := (k : Int) * (160000000 + tempco * (tj16 - 400))

/-- Does an entry cover a frequency in kHz at a junction temperature (R378)? -/
def Band.covers (b : Band) (kHz : Nat) (tj16 : Int) : Bool :=
  b.valid && decide (bandLimit b.minK b.tempco tj16 ≤ (kHz : Int) * 160000000) &&
  decide ((kHz : Int) * 160000000 ≤ bandLimit b.maxK b.tempco tj16)

/-- The coverage R379 requires of a synthesizer at a frequency in Hz: every temperature for SYN-T and SYN-L, over ±100 ppm; the present one for SYN-O. A band's limits are linear in temperature, so the ends 0 and 105 °C decide. -/
def Band.serves (b : Band) (i freq : Nat) (tj16 : Int) : Bool :=
  if i ≤ 4 then
    let lo := (freq : Int) * 999900
    let hi := (freq : Int) * 1000100
    b.valid && [(0 : Int), 1680].all (fun t =>
      decide (bandLimit b.minK b.tempco t * 1000 * 1000000 ≤ lo * 160000000) &&
      decide (hi * 160000000 ≤ bandLimit b.maxK b.tempco t * 1000 * 1000000))
  else
    b.valid && decide (bandLimit b.minK b.tempco tj16 * 1000 ≤ (freq : Int) * 160000000) &&
    decide ((freq : Int) * 160000000 ≤ bandLimit b.maxK b.tempco tj16 * 1000)

/-- Twice the distance of an entry's adjusted centre from a frequency in Hz. -/
def Band.centreOff (b : Band) (freq : Nat) (tj16 : Int) : Nat :=
  mag ((bandLimit b.minK b.tempco tj16 + bandLimit b.maxK b.tempco tj16) * 1000 - 2 * (freq : Int) * 160000000)

/-- The band a synthesizer selects (R378, R379): the serving entry whose adjusted centre is nearest, the lower index of two equally near. -/
def pickBand (bands : List Band) (i freq : Nat) (tj16 : Int) : Option Nat :=
  let ok := (List.range bands.length).filter (fun k => match bands[k]? with
    | some b => b.serves i freq tj16
    | none => false)
  (leastBy (fun k => (bands[k]?.map (fun b => b.centreOff freq tj16)).getD 0) ok).head?

/-- A synthesizer takes entry `k` of its table as its band. -/
def takeBand (i k : Nat) (s : State) : State := modSyn i (fun y => { y with band := k, inForce := (y.bands i)[k]? }) s

/-- Select a synthesizer's band from the table in force; the band is kept where none serves. -/
def selectBand (i : Nat) (s : State) : State :=
  match pickBand ((s.syn i).bands i) i (s.syn i).freq s.pwr.tj with
  | some k => takeBand i k s
  | none => s

/-- The range of R372 of a band table in kHz. -/
def bandRange (i : Nat) : Nat × Nat :=
  if i = 0 then (1000000, 1500000) else if i ≤ 4 then (125000, 187500) else (900000, 2750000)

/-! ### Reference paths (R373, R375, R376) -/

/-- XO_IN in Hz by its code (R370). -/
def xoHz : Nat → Nat
  | 1 => 10000000 | 2 => 12800000 | 3 => 20000000 | 4 => 25000000 | 5 => 40000000 | _ => 0

/-- Twice a reference frequency after a path: ×1, ×2, /2. -/
def pathTwice (hz path : Nat) : Nat := if path = 1 then 4 * hz else if path = 2 then hz else 2 * hz

/-- Is a SYN-L path within R373: reference 5 to 80 MHz, N from 3 up to 256? -/
def pathOkL (xo path : Nat) : Bool :=
  let r2 := pathTwice (xoHz xo) path
  decide (10000000 ≤ r2 ∧ r2 ≤ 160000000 ∧ 3 * r2 ≤ 312500000 ∧ 312500000 < 256 * r2)

/-- Is a SYN-O path within R375: an even M from 16 to 80 with F / M from 25 to 160 MHz, and so too the resulting M (half or twice it) and reference (R376)? -/
def pathOkO (freq path : Nat) : Bool :=
  (List.range 33).any (fun k =>
    let m := 16 + 2 * k
    let r2 := pathTwice freq path
    decide (25000000 * m ≤ freq ∧ freq ≤ 160000000 * m ∧ 50000000 * m ≤ r2 ∧ r2 ≤ 320000000 * m) &&
    (if path = 1 then m % 4 == 0 && decide (32 ≤ m) else if path = 2 then decide (m ≤ 40) else true))

/-! ### Outputs -/

/-- The synthesizer that feeds a source code of OUT_CONFIG (R396). -/
def sourceSyn : Nat → Nat
  | 0 => 5 | 1 => 6 | 2 => 1 | 3 => 2 | 4 => 3 | 5 => 4 | _ => 0

/-- Is the output's source settled? -/
def sourceSettled (s : State) (src : Nat) : Bool := (s.syn (sourceSyn src)).st == 1

/-- The frequency of an output in mHz. -/
def outMilli (s : State) (src div : Nat) : Nat := (s.syn (sourceSyn src)).freq * 1000 / div

/-- Is an output's frequency within R381 for its format? -/
def outFreqOk (srcHz div fmt : Nat) : Bool :=
  decide (div ≤ srcHz ∧ srcHz ≤ 1250000000 * div) && (fmt != 4 || decide (srcHz ≤ 200000000 * div))

/-- A relock starts on an output (R384). -/
def relockStart (n : Nat) (s : State) : State :=
  let o := s.cko n
  match o.st with
  | .run =>
    modCko n (fun o => { o with st := if o.policy = 0 then .squelched else .bridged, relock := true,
                                oldFreq := outMilli s o.source o.div }) s
  | .squelched => modCko n (fun o => { o with relock := o.fmt != 0 }) s
  | _ => s

/-- A relock starts on every output that a synthesizer feeds. -/
def relockFed (i : Nat) (s : State) : State :=
  (List.range 8).foldl (fun s n => if sourceSyn (s.cko n).source = i && (s.cko n).fmt != 0 then relockStart n s else s) s

/-- A synthesizer re-bands or changes: it relocks, and so do its outputs. -/
def synRelock (i : Nat) (s : State) : State := relockFed i (modSyn i (fun y => { y with st := 2 }) s)

/-- Is the output squelched or bridged in a relock (R396)? -/
def CkOut.busy (o : CkOut) : Bool := o.st == .bridged || (o.st == .squelched && o.relock)

/-- Squelch every output as in SAFE (R37, R382): used by reset. -/
def squelchAll (s : State) : State := modTim (fun t => { t with outs := [], ppsOuts := [] }) s

/-! ### TOD messages (R390) -/

/-- A decimal number as `n` ASCII digits. -/
def dec : Nat → Nat → Bytes
  | 0, _ => []
  | n + 1, v => dec n (v / 10) ++ [BitVec.ofNat 8 (48 + v % 10)]

/-- One hexadecimal digit in upper case. -/
def hexDigit (v : Nat) : Byte := BitVec.ofNat 8 (if v < 10 then 48 + v else 55 + v)

/-- A byte as two hexadecimal digits. -/
def hex2 (v : Nat) : Bytes := [hexDigit (v / 16 % 16), hexDigit (v % 16)]

/-- The letter of a DPLL-T state. -/
def stateLetter : DpllSt → Byte
  | .freerun => 70 | .acquire => 65 | .locked => 76 | .holdover => 72

/-- The XOR of bytes. -/
def xorAll (b : Bytes) : Byte := b.foldl (· ^^^ ·) 0

/-- The 47-byte TOD message (R390). -/
def todMessage (sec : Nat) (utc : Int) (leap cls acc gen : Nat) (st : DpllSt) : Bytes :=
  let c : Bytes := [44]
  let body := [69, 84, 79, 68] ++ c ++ dec 15 sec ++ c ++ [if utc < 0 then 45 else 43] ++ dec 3 utc.natAbs ++ c ++
    [if leap = 1 then 43 else if leap = 2 then 45 else 48] ++ c ++ dec 3 cls ++ c ++ hex2 acc ++ c ++ dec 5 gen ++ c ++
    [stateLetter st]
  body ++ [42] ++ hex2 (xorAll body).toNat ++ [13, 10]

/-- A decimal field, if every byte is a digit. -/
def decOf (b : Bytes) : Option Nat :=
  b.foldl (fun a d => a.bind (fun v => if 48 ≤ d.toNat ∧ d.toNat ≤ 57 then some (10 * v + (d.toNat - 48)) else none)) (some 0)

/-- A hexadecimal digit's value. -/
def hexOf (d : Byte) : Option Nat :=
  let v := d.toNat
  if 48 ≤ v ∧ v ≤ 57 then some (v - 48) else if 65 ≤ v ∧ v ≤ 70 then some (v - 55) else none

/-- Read a TOD message: well formed and with a correct checksum, or none (R392). -/
def todParse (b : Bytes) : Option TodMsg :=
  let commas := [4, 20, 25, 27, 31, 34, 40].all (fun i => byteAt b i == 44)
  let sum := (hexOf (byteAt b 43)).bind (fun h => (hexOf (byteAt b 44)).map (fun l => 16 * h + l))
  let sign := byteAt b 21
  let leapC := byteAt b 26
  let st := byteAt b 41
  if b.length = 47 && slice b 0 4 == [69, 84, 79, 68] && commas && slice b 45 2 == [13, 10] && byteAt b 42 == 42 &&
     sum == some (xorAll (b.take 42)).toNat && (sign == 43 || sign == 45) && (leapC == 48 || leapC == 43 || leapC == 45) &&
     (st == 70 || st == 65 || st == 76 || st == 72) && (decOf (slice b 35 5)).isSome then
    match decOf (slice b 5 15), decOf (slice b 22 3), decOf (slice b 28 3), hexOf (byteAt b 32), hexOf (byteAt b 33) with
    | some sec, some u, some c, some ah, some al =>
      some { sec := sec, utc := if sign = 45 then -(u : Int) else u, leap := if leapC = 43 then 1 else if leapC = 45 then 2 else 0,
             cls := c, acc := 16 * ah + al }
    | _, _, _, _, _ => none
  else none

end Sys2Proof.Machine
end

