-- ==== Sys2Proof/Machine/Cal.lean ====
section
/-! DEFINITION. Calibration blocks: geometry (R460), values (R461, R464, R465), steps (R462), published delays and CAL_STAMP (R466, R467), the Contact sheet (R469 to R471). -/

namespace Sys2Proof.Machine

/-- Calibration block `i`. -/
def State.cal (s : State) (i : Nat) : CalBlk := s.tim.cal.get CalBlk.reset i
/-- Change calibration block `i`. -/
def modCal (i : Nat) (f : CalBlk → CalBlk) (s : State) : State :=
  modTim (fun t => { t with cal := t.cal.modify CalBlk.reset i f }) s

/-- The number of blocks (R460). -/
def calBlocks : Nat := 356

/-- The kind code of a block (R460). -/
def calKind (i : Nat) : Nat :=
  if i < 256 then 0 else if i < 320 then 1 else if i < 328 then 2 else if i < 335 then 3 else if i < 345 then 4
  else if i < 355 then 5 else 6

/-- The instance within its kind (R464). -/
def calInstance (i : Nat) : Nat :=
  if i < 256 then i else if i < 320 then i - 256 else if i < 328 then i - 320 else if i < 335 then i - 328
  else if i < 345 then i - 335 else if i < 355 then i - 345 else 0

/-- Value words of a block (R460). -/
def calWords (i : Nat) : Nat := match calKind i with
  | 0 => 32 | 1 => 16 | 2 => 520 | 3 => 16 | 4 => 8 | 5 => 8 | _ => 32

/-- Accepted steps to converge (R460). -/
def calSteps (i : Nat) : Nat := match calKind i with
  | 0 => 256 | 1 => 1024 | 2 => 64 | 3 => 16 | 4 => 64 | 5 => 64 | _ => 16

/-- A live word: the factory value where no other is listed. -/
def calLive (s : State) (i w : Nat) : Nat := (s.cal i).live.get (Config.calFactory i w).toNat w

/-- The live words of a block. -/
def calLiveWords (s : State) (i : Nat) : List Nat := (List.range (calWords i)).map (calLive s i)

/-- The CRC-32 of the live words (R464). -/
def calCrc (s : State) (i : Nat) : Nat := crc32 ((calLiveWords s i).flatMap (le 4))

/-- A published word (R466). -/
def calPub (s : State) (i w : Nat) : Nat := Tab.get (Config.calFactory i w).toNat (Tab.get [] s.tim.published i) w

/-- Do the block's values change the delay paths when they change (R466)? -/
def calDelay (i : Nat) : Bool := decide (i < 320)

/-- Mark a block's delay values as changed since the last publication. -/
def calTouch (i : Nat) (s : State) : State :=
  if calDelay i && !s.tim.calDirty.contains i then modTim (fun t => { t with calDirty := t.calDirty ++ [i] }) s else s

/-- Make words live. -/
def calSet (i : Nat) (ws : List (Nat × Nat)) (s : State) : State :=
  calTouch i (modCal i (fun b => { b with live := ws.foldl (fun t (w, v) => t.set w v) b.live }) s)

/-- Reload the factory values, with CONVERGED and RESTORED clear (R461, R464). -/
def calReload (i : Nat) (s : State) : State :=
  calTouch i (modCal i (fun b => { b with live := [], converged := false, restored := false, run := 0, small := true }) s)

/-- Make staged or restored words live at one instant (R465): RESTORED set, CONVERGED clear. A step that ends at this instant will be dropped (R477). -/
def calApply (i : Nat) (ws : List (Nat × Nat)) (s : State) : State :=
  let s := calSet i ws s
  modCal i (fun b => { b with restored := true, converged := false, run := 0, small := true, applied := some s.clk.now }) s

/-- Is a block's lane or port powered off (R461)? -/
def calPowered (s : State) (i : Nat) : Bool :=
  let dark (l : Nat) : Bool := s.pwr.laneOff.getLsbD l || s.pwr.portOff.getLsbD (l / 4) || s.sys.lanesOff || s.pwr.state == .sleep || (s.port (l / 4)).hot
  if i < 256 then !dark i
  else if i < 320 then !((List.range 4).all (fun l => dark ((i - 256) * 4 + l)))
  else true

/-- An IN block of a REFIN or EV input with edges nominally less than 2 µs apart, while the input is enabled (R460): a REFIN above 500 kHz. -/
def calFastInput (s : State) (i : Nat) : Bool :=
  decide (347 ≤ i ∧ i ≤ 350) && (s.ref (i - 347)).st != .disabled && decide (500000 < (s.ref (i - 347)).freq)

/-- Is background calibration of a block paused (R460, R461, R463)? -/
def calPaused (s : State) (i : Nat) : Bool :=
  s.pwr.state == .ride || (s.cal i).hold || !calPowered s i || calFastInput s i

/-- CAL_ID (R464). -/
def calId (i : Nat) : Nat := calKind i + 256 * calInstance i % 65536 + 65536 * calWords i

/-- CAL_STATE (R464). -/
def calState (s : State) (i : Nat) : Nat :=
  let b := s.cal i
  bitsNat [b.converged, b.restored, b.stall, b.sweep, calPaused s i]

/-- The eight window registers of a block in offset order (R464, R474). -/
def calRegs (s : State) (i : Nat) : List Nat :=
  let b := s.cal i
  [calId i, if b.hold then 1 else 0, calState s i, min b.consec 65535 + 65536 * b.cause, b.steps % 2 ^ 32,
   b.discards % 2 ^ 32, (b.temp % 65536).toNat, calCrc s i]

/-- Is a port calibrated (R467)? -/
def calibrated (s : State) (p : Nat) : Bool :=
  let ok (i : Nat) : Bool := (s.cal i).converged || (s.cal i).restored
  (List.range 4).all (fun l => ok (4 * p + l)) && ok (256 + p)

/-- CAL_STAMP of a port (R467). -/
def calStamp (s : State) (p : Nat) : Nat :=
  if !calibrated s p then 0
  else
    let lanes := (List.range 4).flatMap (fun l => le 4 (calPub s (4 * p + l) 0) ++ le 4 (calPub s (4 * p + l) 1))
    let cap := (List.range 16).flatMap (fun w => le 4 (calPub s (256 + p) w))
    let c := crc32 (lanes ++ cap)
    if c = 0 then 1 else c

/-- The delays of a Dalom port's physical lanes in force (R466): as published, or until the port's next mark as they were before. -/
def txInForce (s : State) (p k : Nat) : Nat := match (s.dlk p).held with
  | some x => x.1.getD k 0
  | none => calPub s (4 * p + k) 0
def rxInForce (s : State) (p k : Nat) : Nat := match (s.dlk p).held with
  | some x => x.2.getD k 0
  | none => calPub s (4 * p + k) 1

/-- The fixed delay in force on a port's logical lane, transmit and receive. -/
def txFixedNow (s : State) (p l ext : Nat) : Nat := (txInForce s p ((s.port p).txMap.getD l l) + ext) % 2 ^ 32
def rxFixedNow (s : State) (p l ext : Nat) : Nat := (rxInForce s p ((s.port p).rxMap.getD l l) + ext) % 2 ^ 32

/-- The fixed delay of a port's logical lane, transmit and receive, in 0.78125 ps (R181): published value of the physical lane plus the external delay. -/
def txFixed (s : State) (p l ext : Nat) : Nat := (calPub s (4 * p + (s.port p).txMap.getD l l) 0 + ext) % 2 ^ 32
def rxFixed (s : State) (p l ext : Nat) : Nat := (calPub s (4 * p + (s.port p).rxMap.getD l l) 1 + ext) % 2 ^ 32

/-- 0.78125 ps units as 2^-16 ns. -/
def unit16 (v : Int) : Int := v * 256 / 5

/-! ### The Contact sheet (R469, R470) -/

/-- The bytes of a slot, empty where nothing was ever saved. -/
def contactBytes (s : State) (k : Nat) : Bytes := ((s.nv.contact.find? k).map (·.bytes)).getD []

/-- Is a slot valid (R470)? -/
def contactValid (s : State) (k : Nat) : Bool :=
  let b := contactBytes s k
  field b 0 2 == 1 && field b 60 4 == 0xA5C35A3C && field b 12 4 == crc32 (slice b 64 57568) &&
  slice b 16 8 == le 8 Config.deviceId.toNat

/-- The slot in force: 0 none, 1 A, 2 B (R470). -/
def contactInForce (s : State) : Nat :=
  let a := contactValid s 1
  let b := contactValid s 2
  if a && b then (if field (contactBytes s 1) 4 4 < field (contactBytes s 2) 4 4 then 2 else 1)
  else if a then 1 else if b then 2 else 0

/-- The record of one block (R469). -/
def contactRecord (s : State) (i : Nat) : Bytes :=
  let b := s.cal i
  le 2 i ++ le 2 (calWords i) ++ leInt 2 b.temp ++ b1 (bitsNat [b.converged, b.restored]) ++ b1 0 ++
  (calLiveWords s i).flatMap (le 4)

/-- What the boot ROM knows of the running image. -/
def runningFacts (s : State) : Option ImageFacts :=
  if s.sys.running = 1 then s.sys.imgA.facts else if s.sys.running = 2 then s.sys.imgB.facts else none

/-- The running image's version, 0 in SAFE. -/
def runningVersion (s : State) : Nat := match runningFacts s with
  | some f => f.version.toNat
  | none => 0

/-- The buffer a save copies: header without COMMIT, and the records (R469, R470). -/
def contactImage (s : State) : Bytes :=
  let recs := (List.range calBlocks).flatMap (contactRecord s)
  let seq := if contactInForce s = 0 then 1 else field (contactBytes s (contactInForce s)) 4 4 + 1
  le 2 1 ++ le 2 356 ++ le 4 seq ++ le 4 57568 ++ le 4 (crc32 recs) ++ le 8 Config.deviceId.toNat ++ le 6 s.todSec ++
  le 2 s.nv.timeGen ++ le 4 (runningVersion s) ++ zeros 24 ++ zeros 4 ++ recs

/-- The slot a save writes (R470). -/
def contactTarget (s : State) : Nat := if contactInForce s = 1 then 2 else 1

/-- Start a save: the buffer is copied, and COMMIT of the target slot is set to 0 (R470). -/
def contactBegin (s : State) : Nat × Bytes × State :=
  let k := contactTarget s
  let img := contactImage s
  let old := contactBytes s k
  let blank := if old.length < 64 then old else old.take 60 ++ zeros 4 ++ old.drop 64
  (k, img, { s with nv := { s.nv with contact := s.nv.contact.set k { bytes := blank } } })

/-- The save's last write: the slot holds the records and header, and COMMIT makes it valid. -/
def contactCommit (k : Nat) (img : Bytes) (s : State) : State :=
  { s with nv := { s.nv with contact := s.nv.contact.set k { bytes := img.take 60 ++ le 4 0xA5C35A3C ++ img.drop 64 } } }

/-! ### Steps (R462, R465, R468) -/

/-- The live sweep that names a block, if one does. -/
def sweepOf (s : State) (i : Nat) : Option Op :=
  s.ops.find? (fun o => o.live && (match o.work with
    | .sweep w => decide (w.first ≤ i ∧ i < w.first + w.count)
    | _ => false))

/-- An accepted step (R460, R462, R465): the words it gives, the temperature, and convergence. -/
def calAccept (i : Nat) (ws : List (Nat × Nat)) (s : State) : State :=
  let ws := ws.filter (fun p => decide (p.1 < calWords i))
  let small := ws.all (fun (w, v) => decide (mag ((v : Int) - calLive s i w) ≤ 4))
  let s := calSet i (ws.map (fun (w, v) => (w, v % 2 ^ 32))) s
  modCal i (fun b =>
    let run := b.run + 1
    let sm := b.small && small
    let restored := b.restored && sm
    let full := decide (calSteps i ≤ run)
    { b with steps := wrapAdd 32 b.steps 1, consec := 0, stall := false, temp := s.pwr.tj, run := run, small := sm,
             converged := b.converged || full, restored := restored && !full }) s

/-- A discarded step (R462): counted, and CAL_STALL at 64 in a row. Cause 1 STATE, 2 NO_GAP. -/
def calDiscard (i cause : Nat) (s : State) : State :=
  let s := modCal i (fun b => { b with consec := satAdd 16 b.consec 1, discards := wrapAdd 32 b.discards 1, cause := cause, run := 0 }) s
  let b := s.cal i
  if decide (64 ≤ b.consec) && !b.stall then raise 41 i (b1 cause) (modCal i (fun b => { b with stall := true }) s) else s

end Sys2Proof.Machine
end

