-- ==== Sys2Proof/Machine/Buffers.lean ====
section
/-! DEFINITION. The buffer pool manager: handles, caches and rings (R270 to R277), the ownership ledger (R278 to R282), charges and thresholds (R283 to R288). -/

namespace Sys2Proof.Machine

/-- A pool's tier: the deep pools are DL and DJ (R268). -/
def poolDeep (p : Nat) : Bool := decide (4 ≤ p)

/-- The handle of a pool's buffer (R270). -/
def mkHandle (pool idx : Nat) : Nat := pool * 2 ^ 29 + idx

/-- The pool of a handle (R270). -/
def handlePool (h : Nat) : Nat := h / 2 ^ 29

/-- Even parity over a whole byte holds (R278). -/
def evenParity (v : Nat) : Bool := popcount 8 v % 2 == 0

/-- A ledger byte from OWNER and STATE, with its parity bit (R278). -/
def ledgerByte (owner state : Nat) : Nat :=
  let v := owner % 32 + 32 * (state % 4)
  if evenParity v then v else v + 128

/-- The ledger byte of a handle. -/
def State.ledgerOf (s : State) (h : Nat) : Nat := s.core.ledger.get 0 h

/-- Write a ledger byte. -/
def setLedger (h v : Nat) (s : State) : State := modCore (fun c => { c with ledger := c.ledger.set h v }) s

/-- OWNER of a ledger byte. -/
def ledgerOwner (v : Nat) : Nat := v % 32
/-- STATE of a ledger byte: 0 FREE, 1 HELD, 2 IN_FLIGHT. -/
def ledgerState (v : Nat) : Nat := v / 32 % 4

/-- Handles in a pool's ring. -/
def Pool.ringCount (p : Pool) : Nat := (p.ring.map (·.2)).sum

/-- The pool's free count: ring, cache and handles in transit (R274, R275). -/
def Pool.free (p : Pool) : Nat :=
  p.ringCount + p.cache.length + (p.refill.getD []).length + (p.spill.getD []).length

/-- Take up to `n` handles from the head of a ring of runs. -/
def takeRuns : Nat → List (Nat × Nat) → List Nat × List (Nat × Nat)
  | _, [] => ([], [])
  | n, (start, len) :: rest =>
    if n < len then ((List.range n).map (· + start), (start + n, len - n) :: rest)
    else
      let r := takeRuns (n - len) rest
      ((List.range len).map (· + start) ++ r.1, r.2)

/-- Keep the low-water mark and the POOL_LOW flag; raise POOL_LOW where FREE falls below COUNT / 16, and clear it where FREE has risen to COUNT / 8, both unrounded (R295). -/
def poolWatch (p : Nat) (s : State) : State :=
  let q := s.pool p
  let f := q.free
  let s := modPool p (fun q => { q with lowWater := min q.lowWater f }) s
  if !q.low && decide (16 * f < q.count) then raise 75 p (le 4 f) (modPool p (fun q => { q with low := true }) s)
  else if q.low && decide (q.count ≤ 8 * f) then modPool p (fun q => { q with low := false }) s
  else s

/-- Start a refill where the cache holds 128 or fewer, none is pending and the ring is not empty (R274). -/
def refillStart (p : Nat) (s : State) : State :=
  let q := s.pool p
  if q.cache.length ≤ 128 ∧ q.refill = none ∧ q.spill = none ∧ q.ring ≠ [] then
    let r := takeRuns 256 q.ring
    modPool p (fun q => { q with refill := some r.1, ring := r.2 }) s
  else s

/-- A ledger parity error is found (R281): counted, raised and recorded. -/
def ledgerParity (h owner : Nat) (s : State) : State :=
  let p := handlePool h
  let s := modPool p (fun q => { q with parity := satAdd 16 q.parity 1 }) s
  let s := raise 78 p (le 4 h ++ b1 3) s
  negWrite 0x0022 (le 4 h ++ b1 owner ++ b1 0xFF ++ b1 (s.ledgerOf h) ++ b1 3) s

/-- A rejected ledger operation (R280): kind 0 DOUBLE_FREE, 1 FOREIGN_FREE, 2 STATE_FAULT. -/
def ledgerReject (h owner expect kind : Nat) (s : State) : State :=
  let p := handlePool h
  let s := modPool p (fun q =>
    if kind = 0 then { q with doubleFree := satAdd 32 q.doubleFree 1 }
    else if kind = 1 then { q with foreignFree := satAdd 32 q.foreignFree 1 }
    else { q with stateFault := satAdd 32 q.stateFault 1 }) s
  let s := raise 77 p (le 4 h ++ b1 kind) s
  negWrite 0x0022 (le 4 h ++ b1 owner ++ b1 expect ++ b1 (s.ledgerOf h) ++ b1 kind) s

/-- The handle on top of a pool's cache, skipping handles whose ledger byte has bad parity (R281). -/
def grantLoop (p owner : Nat) : Nat → State → Option Nat × State
  | 0, s => (none, s)
  | n + 1, s =>
    match (s.pool p).cache with
    | [] => (none, s)
    | i :: rest =>
      let h := mkHandle p i
      let s := modPool p (fun q => { q with cache := rest }) s
      if evenParity (s.ledgerOf h) then (some h, setLedger h (ledgerByte owner 1) s)
      else grantLoop p owner n (modPool p (fun q => { q with lostBytes := q.lostBytes + poolBufSize p }) (ledgerParity h owner s))

/-- The arbiter of a pool's cache has served an agent (R276): 0 to 16 the slices, 17 the replication engine, 18 host DMA, 19 firmware, 20 the Stop bath, 21 refill and spill. -/
def served (p agent : Nat) (s : State) : State := modPool p (fun q => { q with rr := agent }) s

/-- A grant from a pool's cache (R275, R279): the handle, HELD by its owner; a refill starts where the cache runs low. -/
def poolGrant (p owner : Nat) (s : State) : Option Nat × State :=
  let r := grantLoop p owner 1024 (served p owner s)
  (r.1, poolWatch p (refillStart p r.2))

/-- The pools of a tier whose buffers hold `size` bytes, smallest first (R273). -/
def poolsFor (deep : Bool) (size : Nat) : List Nat :=
  ((if deep then [4, 5] else [0, 1, 2, 3])).filter (fun p => decide (size ≤ poolBufSize p))

/-- Try pools in order (R273). One that cannot grant passes the frame to the next larger pool or the next tier and counts FALLBACK_OUT; the last one passes it nowhere (R294). -/
def tryPools (owner : Nat) : List Nat → State → Option Nat × State
  | [], s => (none, s)
  | p :: ps, s =>
    match poolGrant p owner s with
    | (some h, s) => (some h, s)
    | (none, s) => tryPools owner ps (if ps.isEmpty then s else modPool p (fun q => { q with fallback := satAdd 32 q.fallback 1 }) s)

/-- Count a drop in a pool's DROPS; POOL_EMPTY at most once a second per pool (R273, R295). -/
def poolDrop (p : Nat) (s : State) : State :=
  let q := s.pool p
  let s := modPool p (fun q => { q with drops := satAdd 32 q.drops 1 }) s
  let quiet : Bool := match q.lastEmpty with
    | none => false
    | some t => decide (s.clk.now < t + secTicks)
  if quiet then s
  else raise 76 p (le 4 q.free) (modPool p (fun q => { q with lastEmpty := some s.clk.now }) s)

/-- Find a buffer for `size` bytes over the tiers in order (R273); where none can be granted, count the drop in the smallest pool that fits in the first tier. -/
def allocate (owner size : Nat) (tiers : List Bool) (s : State) : Option Nat × State :=
  let r := tryPools owner (tiers.flatMap (fun d => poolsFor d size)) s
  match r with
  | (some h, s) => (some h, s)
  | (none, s) => (none, poolDrop ((tiers.flatMap (fun d => poolsFor d size)).headD 3) s)

/-- A spill of the 256 handles at the bottom of the cache starts at 448 handles (R274). -/
def spillStart (p : Nat) (s : State) : State :=
  let q := s.pool p
  if 448 ≤ q.cache.length ∧ q.refill = none ∧ q.spill = none then
    modPool p (fun q => { q with cache := q.cache.take (q.cache.length - 256),
                                 spill := some ((q.cache.drop (q.cache.length - 256)).reverse) }) s
  else s

/-- What the ledger says of an operation by a claimed owner that expects a state (R280, R281): none where it may go on, else the rejection's kind (3 for parity). -/
def ledgerCheck (v owner expect : Nat) (isFree : Bool) : Option Nat :=
  if !evenParity v then some 3
  else if isFree && ledgerState v == 0 then some 0
  else if ledgerOwner v ≠ owner then some 1
  else if ledgerState v ≠ expect then some 2
  else none

/-- Free a handle (R279 to R281). -/
def freeHandle (h owner expect : Nat) (s : State) : State :=
  let v := s.ledgerOf h
  let p := handlePool h
  let s := served p owner s
  match ledgerCheck v owner expect true with
  | some 3 => modPool p (fun q => { q with lostBytes := q.lostBytes + poolBufSize p }) (ledgerParity h owner s)
  | some k => ledgerReject h owner expect k s
  | none =>
    let s := setLedger h (ledgerByte (ledgerOwner v) 0) s
    poolWatch p (spillStart p (modPool p (fun q => { q with cache := (h % 2 ^ 29) :: q.cache }) s))

/-- Transfer a HELD buffer to a new owner, or move it to a new state (R279); answers whether it was done. -/
def ledgerMove (h owner expect newOwner newState : Nat) (s : State) : Bool × State :=
  match ledgerCheck (s.ledgerOf h) owner expect false with
  | some 3 => (false, ledgerParity h owner s)
  | some k => (false, ledgerReject h owner expect k s)
  | none => (true, setLedger h (ledgerByte newOwner newState) s)

/-! ### Charges and thresholds (R283 to R286) -/

/-- Sum over the frames that hold a buffer and meet a test. -/
def sumFrames (s : State) (t : Frame → Bool) (f : Frame → Nat) : Nat :=
  ((s.core.frames.filter (fun x => x.buffered && t x)).map f).sum

/-- Headroom bytes of a port's class that are held against the reservation of a generation (R571). -/
def headroomOf (s : State) (p c gen : Nat) : Nat :=
  sumFrames s (fun x => x.inPort == p && x.tc == c && x.charge == .headroom && x.resv == gen) (·.chargeBytes)

/-- Headroom bytes in use of a port's class (R203). -/
def headroomUse (s : State) (p c : Nat) : Nat :=
  sumFrames s (fun x => x.inPort == p && x.tc == c && x.charge == .headroom) (·.chargeBytes)

/-- Bytes of a port's class charged to its reserved minimum. -/
def minUse (s : State) (p c : Nat) : Nat :=
  sumFrames s (fun x => x.inPort == p && x.tc == c && x.charge == .minimum) (·.bufBytes)

/-- Shared buffer bytes of a port's class in a tier. -/
def sharedUse (s : State) (p c : Nat) (deep : Bool) : Nat :=
  sumFrames s (fun x => x.inPort == p && x.tc == c && x.charge == .shared && x.deep == deep) (·.bufBytes)

/-- Buffer bytes of a queue in a tier, by the key of the VOQ the frames count in. -/
def queueUse (s : State) (key : Nat) (deep : Bool) : Nat :=
  sumFrames s (fun x => x.voq == key && x.deep == deep) (·.bufBytes)

/-- The pools of a tier. -/
def tierPools (deep : Bool) : List Nat := if deep then [4, 5] else [0, 1, 2, 3]

/-- Total bytes of a tier's pools. -/
def tierTotal (s : State) (deep : Bool) : Nat :=
  ((tierPools deep).map (fun p => (s.pool p).count * poolBufSize p)).sum

/-- Buffer bytes in use in a tier, with those lost to parity errors (R281). -/
def tierUsed (s : State) (deep : Bool) : Nat :=
  sumFrames s (fun x => x.deep == deep) (·.bufBytes) + ((tierPools deep).map (fun p => (s.pool p).lostBytes)).sum

/-- The ports and classes that hold a reservation or a setting of their own. -/
def flowKeys (s : State) : List (Nat × Nat) :=
  s.flows.flatMap (fun (p, f) => f.classes.map (fun (c, _) => (p, c)))

/-- The reservations a class holds in a tier, as generation and bytes: the one in force and those left behind and not yet released. -/
def FlowClass.resvs (k : FlowClass) (deep : Bool) : List (Nat × Nat) :=
  (if k.deep == deep then [(k.gen, k.reserved)] else []) ++
    (k.olds.filter (fun o => o.deep == deep)).map (fun o => (o.gen, o.bytes))

/-- Headroom reserved in a tier, old reservations awaiting release included (R199, R571). -/
def tierReserved (s : State) (deep : Bool) : Nat :=
  ((flowKeys s).map (fun (p, c) => (((s.fc p c).resvs deep).map (·.2)).sum)).sum

/-- The unused part of every reservation in a tier (R284). -/
def tierUnused (s : State) (deep : Bool) : Nat :=
  ((flowKeys s).map (fun (p, c) =>
    let k := s.fc p c
    let m := if !deep && s.lossless p c then k.minKiB * 1024 - minUse s p c else 0
    ((k.resvs deep).map (fun (g, n) => n - headroomOf s p c g)).sum + m)).sum

/-- A tier's free bytes (R284). -/
def tierFree (s : State) (deep : Bool) : Nat := tierTotal s deep - tierUsed s deep - tierUnused s deep

/-- α × free for a code (R285). -/
def alphaLimit (code free : Nat) : Nat := free * 2 ^ code / 64

/-- The key of VOQ (i, j, c) (R297). -/
def voqKey (i j c : Nat) : Nat := (i * 64 + j) * 8 + c
/-- The key under which a multicast queue's frames are counted. -/
def mcKey (i c : Nat) : Nat := 100000 + i * 8 + c
/-- The key under which a trap queue's frames are counted. -/
def trapKey (i c : Nat) : Nat := 200000 + i * 8 + c
/-- Frames that count in no queue. -/
def noKey : Nat := 300000

/-- The queue an admission is tested against and its α code: the VOQ and ALPHA_VOQ of the egress port, the multicast queue and MC_ALPHA, or the trap queue and ALPHA_VOQ of port 64 (R286, R299). -/
def queueOf (s : State) (i c : Nat) : Dest → Option (Nat × Nat)
  | .port p => if p < 64 then some (voqKey i p c, (s.fc p c).alphaVoq) else some (trapKey i c, (s.fc 64 c).alphaVoq)
  | .group _ => some (mcKey i c, s.core.mcAlpha)
  | .flood _ => some (mcKey i c, s.core.mcAlpha)
  | .trap _ => some (trapKey i c, (s.fc 64 c).alphaVoq)
  | .drop _ => none

/-- Does a tier have room for `bytes` of buffer to its shared space (R286)? -/
def sharedAdmits (s : State) (i c bytes : Nat) (dest : Dest) (deep : Bool) : Bool :=
  let free := tierFree s deep
  let voqOk : Bool := match queueOf s i c dest with
    | none => true
    | some (k, a) => decide (queueUse s k deep + bytes ≤ alphaLimit a free)
  voqOk && decide (sharedUse s i c deep + bytes ≤ alphaLimit (s.fc i c).alphaClass free)

/-- The smallest buffer of a tier that holds `size` bytes. -/
def bufFor (deep : Bool) (size : Nat) : Nat := ((poolsFor deep size).head?.map poolBufSize).getD 16384

end Sys2Proof.Machine
end

