-- ==== Sys2Proof/Machine/Flow.lean ====
section
/-! DEFINITION. Flow control: delays and headroom (R17 to R20, R197 to R201, R571), XOFF and XON (R203), credit returns of Dalom ports (R167 to R170). -/

namespace Sys2Proof.Machine

/-- 2^-16 ns in a nanosecond. -/
def ns16 : Nat := 65536

/-- The one-way delay in use for a port in 2^-16 ns (R198). -/
def delayInUse (s : State) (p : Nat) : Option Nat :=
  match (s.flow p).measured with
  | some m => some m
  | none => (s.flow p).hostDelay.map (· * ns16)

/-- Headroom of a class in bytes (R17): 2 × rate × delay + 2 × 9,216 B + rate × 1 µs, rounded up to the byte. -/
def headroomBytes (rate delay : Nat) : Nat :=
  let d := 10 ^ 9 * ns16
  (2 * rate * delay + d - 1) / d + 18432 + rate / 1000000

/-- The tier of a class's headroom (R18): deep on a Dalom port and above 512 kB. -/
def headroomDeep (dalom : Bool) (bytes : Nat) : Bool := dalom || decide (512000 < bytes)

/-- A tier's headroom budget (R199). -/
def budget (s : State) (deep : Bool) : Nat := if deep then s.core.deepBudget else s.core.nearBudget

/-- The credits a reservation grants (R170). -/
def grantOf (bytes : Nat) : Nat := bytes / 640

/-- Is class `c` of port `p` credit-controlled for what the port receives (R167)? -/
def creditClass (s : State) (p c : Nat) : Bool := (s.port p).cfg.dalom && s.lossless p c

/-- Is class `c` of a Dalom port credit-controlled for what the port sends (R167): does the partner list it? -/
def creditTx (s : State) (p c : Nat) : Bool := (s.port p).cfg.dalom && (((s.dlk p).partner.map (fun (r : CapRec) => r.lossless)).getD 0).testBit c

/-- Is MAINTENANCE with forwarding PAUSE in force (R45)? -/
def State.pausedMode (s : State) : Bool := s.sys.mode == .maintenance && s.sys.paused

/-- Add `n` to RETURNED[c] (R168); an additional CREDIT tile falls due before it runs 32 ahead of the value last carried. -/
def addReturned (p c n : Nat) (s : State) : State :=
  modDlk p (fun d =>
    let r := wrapAdd 32 (d.returned.get 0 c) n
    { d with returned := d.returned.set c r,
             creditDue := d.creditDue || decide (31 ≤ (r + 2 ^ 32 - d.carried.get 0 c) % 2 ^ 32) }) s

/-- Returns that no hold-back takes (R170, R185): added to RETURNED[c], or owed while MAINTENANCE with forwarding PAUSE holds. -/
def returnDirect (p c n : Nat) (s : State) : State :=
  if s.pausedMode then modDlk p (fun d => { d with owedDirect := d.owedDirect.modify 0 c (· + n) }) s
  else addReturned p c n s

/-- A return of `n` credits falls due (R168, R170, R185): owed while MAINTENANCE with forwarding PAUSE holds, else taken first by the returns held back for a smaller reservation and for lanes out of service. -/
def creditReturn (p c n : Nat) (s : State) : State :=
  if s.pausedMode then modDlk p (fun d => { d with owed := d.owed.modify 0 c (· + n) }) s
  else
    let d := s.dlk p
    let a := min n (d.shrinkHeld.get 0 c)
    let b := min (n - a) (d.heldBack.get 0 c)
    addReturned p c (n - a - b) (modDlk p (fun d => { d with
      shrinkHeld := d.shrinkHeld.modify 0 c (· - a), heldBack := d.heldBack.modify 0 c (· - b) }) s)

/-- The grant of a class goes from that of `old` bytes to that of `new` (R170): an increase ends what is held back of an earlier decrease and adds the rest to RETURNED[c]; a decrease is held back. -/
def grantShift (p c old new : Nat) (s : State) : State :=
  let a := grantOf old
  let b := grantOf new
  if a < b then
    let k := min (b - a) ((s.dlk p).shrinkHeld.get 0 c)
    returnDirect p c (b - a - k) (modDlk p (fun d => { d with shrinkHeld := d.shrinkHeld.modify 0 c (· - k) }) s)
  else if b < a then modDlk p (fun d => { d with shrinkHeld := d.shrinkHeld.modify 0 c (· + (a - b)) }) s
  else s

/-- Send a PFC frame for the class's priority, or a PAUSE frame, with a pause time (R203). -/
def sendPause (p c quanta : Nat) (s : State) : State :=
  let f := s.flow p
  if f.mode = 2 then
    let s := s.send (.pause p true (2 ^ (f.prio.getD c c)) quanta)
    if quanta = 0 then s else cntClass p c 15 1 s
  else if f.mode = 1 then cntPort p 11 1 (s.send (.pause p false 0 quanta))
  else s

/-- Does any lossless class of a port assert XOFF? -/
def anyXoff (s : State) (p : Nat) : Bool := (List.range 8).any (fun c => s.lossless p c && (s.fc p c).xoff)

/-- Assert XOFF for a class of an Ethernet port (R203). -/
def assertXoff (p c : Nat) (s : State) : State :=
  if (s.fc p c).xoff then s
  else
    let quiet := (s.flow p).mode == 1 && anyXoff s p
    let s := modFc p c (fun k => { k with xoff := true, xoffCount := wrapAdd 32 k.xoffCount 1 }) s
    if quiet then s else sendPause p c 0xFFFF s

/-- Could the next frame of the class again be admitted to shared space (R203)? -/
def xonTier (s : State) (p c : Nat) (deep : Bool) : Bool :=
  decide (sharedUse s p c deep + (s.flow p).xonDelta < alphaLimit (s.fc p c).alphaClass (tierFree s deep))

/-- End XOFF for a class and send the pause time 0 (R203). -/
def endXoff (p c : Nat) (s : State) : State :=
  let s := modFc p c (fun k => { k with xoff := false }) s
  if (s.flow p).mode = 1 && anyXoff s p then s else sendPause p c 0 s

/-- XOFF ends where its conditions hold (R203); never while MAINTENANCE with forwarding PAUSE holds (R45). -/
def xonCheck (p c : Nat) (s : State) : State :=
  let k := s.fc p c
  if k.xoff && !s.pausedMode && headroomUse s p c == 0 && (xonTier s p c false || (k.deepAllow && xonTier s p c true))
  then endXoff p c s else s

/-- XOFF is looked at again for every class that asserts it: buffers freed, thresholds and reservations change the free bytes that R203 compares with. -/
def xonAll (s : State) : State := ((flowKeys s).filter (fun x => (s.fc x.1 x.2).xoff)).foldl (fun s x => xonCheck x.1 x.2 s) s

/-- The size a class's reservation has, or waits to fall to (R20). -/
def FlowClass.target (k : FlowClass) : Nat := (k.shrinkTo.map (·.1)).getD k.reserved

/-- Let go of reservations that are no longer in use: of a disabled class (R201), those left in another tier or by an earlier enabling (R571), the excess of a smaller one (R20). -/
def releaseCheck (p c : Nat) (s : State) : State :=
  let k := s.fc p c
  let used := headroomOf s p c k.gen
  let gone := !s.lossless p c && k.reserved != 0 && used == 0
  let cut : Option (Nat × Nat) := if s.lossless p c then k.shrinkTo.filter (fun x => decide (used < x.1)) else none
  let left := k.olds.filter (fun o => headroomOf s p c o.gen != 0)
  if gone || cut.isSome || left.length != k.olds.length then
    modFc p c (fun k =>
      { k with reserved := if gone then 0 else (cut.map (·.1)).getD k.reserved,
               delayUsed := (cut.map (·.2)).getD k.delayUsed,
               shrinkTo := if gone || cut.isSome then none else k.shrinkTo, olds := left }) s
  else s

/-- After a buffer charged to a port's class is freed: its reservations, and XOFF wherever it is asserted, are looked at again (R201, R203). -/
def afterFree (p c : Nat) (s : State) : State := xonAll (releaseCheck p c s)

/-- The reservations left behind when a class takes a new one: those before it and the present one, if it holds anything. -/
def FlowClass.leave (k : FlowClass) : List OldResv :=
  if k.reserved = 0 then k.olds else k.olds ++ [{ gen := k.gen, deep := k.deep, bytes := k.reserved }]

/-- A class takes a new reservation in a tier, beside those it leaves behind (R571, R200). -/
def FlowClass.renew (k : FlowClass) (need : Nat) (deep : Bool) (delay : Nat) : FlowClass :=
  { k with reserved := need, deep := deep, gen := k.gen + 1, delayUsed := delay, olds := k.leave, shrinkTo := none, short := false }

/-- A larger headroom cannot be reserved (R20): HEADROOM_SHORT and its event. -/
def headroomShort (p c : Nat) (s : State) : State := raise 72 p (b1 c) (modFc p c (fun k => { k with short := true }) s)

/-- Recompute a lossless class's reservation for the delay in use (R20, R571, R170). A recomputation ends a shrink that an earlier one left waiting; the value used stays that of the reservation in force. A smaller size clears HEADROOM_SHORT (log 119). -/
def recomputeClass (p c : Nat) (delay : Nat) (s : State) : State :=
  let k := s.fc p c
  let cfg := (s.port p).cfg
  let need := headroomBytes (speedBytes cfg.speed) delay
  let deep := headroomDeep cfg.dalom need
  let old := k.reserved
  let shift (n : Nat) (s : State) : State := if cfg.dalom then grantShift p c k.target n s else s
  if deep == k.deep then
    if need < old then
      releaseCheck p c (shift need (modFc p c (fun k => { k with shrinkTo := some (need, delay), short := false }) s))
    else if need = old then
      shift need (modFc p c (fun k => { k with delayUsed := delay, shrinkTo := none, short := false }) s)
    else if tierReserved s deep + (need - old) ≤ budget s deep then
      shift need (modFc p c (fun k => { k with reserved := need, delayUsed := delay, shrinkTo := none, short := false }) s)
    else headroomShort p c (shift old (modFc p c (fun k => { k with shrinkTo := none }) s))
  else if tierReserved s deep + need ≤ budget s deep then
    releaseCheck p c (modFc p c (fun k => k.renew need deep delay) s)
  else
    let s := modFc p c (fun k => { k with shrinkTo := none }) s
    if old < need then headroomShort p c s else s

/-- Does the delay in use differ by more than 1% from the one a reservation used (R20)? -/
def delayMoved (used now : Nat) : Bool :=
  decide (used < 100 * (now - used)) || decide (used < 100 * (used - now))

/-- Recompute the headroom of a port's lossless classes where the delay in use has moved by more than 1% (R20). -/
def headroomRecompute (p : Nat) (s : State) : State :=
  match delayInUse s p with
  | none => s
  | some d =>
    xonAll ((List.range 8).foldl (fun s c =>
      if s.lossless p c && delayMoved (s.fc p c).delayUsed d then recomputeClass p c d s else s) s)

end Sys2Proof.Machine
end

