-- ==== Sys2Proof/Machine/TimeDist.lean ====
section
/-! DEFINITION. Time distribution: identities, parent election (R407), presence (R408), phase samples and refused jumps (R409, R420, R421), advertised quality (R411), ANNOUNCE blocks (R412), records and bounds (R424, R425). -/

namespace Sys2Proof.Machine

/-- The device's clock identity (R430): the one set, else the EUI-64 of the device MAC. -/
def clockId (s : State) : Nat :=
  if s.tim.time.clockIdSet ≠ 0 then s.tim.time.clockIdSet
  else
    let m := s.sys.deviceMac.toNat
    m / 2 ^ 24 * 2 ^ 40 + 0xFFFE * 2 ^ 24 + m % 2 ^ 24

/-- Roles of R403. -/
def isGm (s : State) : Bool := s.tim.time.clockType == 0
def isBoundary (s : State) : Bool := s.tim.time.clockType == 1
def isTransparent (s : State) : Bool := decide (2 ≤ s.tim.time.clockType)

/-- The partner's timing role from its CAP. -/
def partnerRole (s : State) (p : Nat) : Nat := ((s.dlk p).partner.map (·.role)).getD 0

/-- May time flow towards this device on a Dalom port (R188)? -/
def timeIn (s : State) (p : Nat) : Bool :=
  let a := (s.dlk p).role
  let b := partnerRole s p
  (b == 1 || b == 2) && (a == 2 || a == 3) && !isTransparent s

/-- May time flow from this device on a Dalom port? -/
def timeOut (s : State) (p : Nat) : Bool :=
  let a := (s.dlk p).role
  let b := partnerRole s p
  (a == 1 || a == 2) && (b == 2 || b == 3) && !isTransparent s

/-- Is a port a time port: an Ethernet port with PTP_ENABLE, or a Dalom port whose roles let time flow? -/
def timePort (s : State) (p : Nat) : Bool :=
  if (s.port p).cfg.dalom then timeIn s p || timeOut s p else (s.ptp p).enable

/-! ### Advertised quality (R411) -/

/-- Is DPLL-T taking a time source, a frequency source, or none? -/
def onTime (s : State) : Option Nat :=
  let q := s.dpll 0
  if q.st = .acquire ∨ q.st = .locked then (match q.selected with
    | some r => if timeSource s r then some r else none
    | none => none)
  else none

/-- Is holdover within specification (R411)? -/
def holdInSpec (s : State) : Bool :=
  let q := s.dpll 0
  q.ho && !q.specOut && !q.cold && !q.noHist

/-- The device's own quality where it passes no parent on. -/
def ownAnn (s : State) (cls acc oslv : Nat) (traceable : Bool) : Ann :=
  let t := s.tim.time
  let base := t.flags % 64
  { prio1 := t.prio1, cls := cls, acc := acc, oslv := oslv, prio2 := t.prio2, source := t.source, steps := 0,
    utc := t.utc, flags := if traceable then base ||| 16 else clearBit base 4, gm := clockId s, te := 0xFFFFFFFF,
    path := [clockId s], trunc := false, ssm := 0, essm := 0, offer := false, sender := clockId s, senderPort := 0 }

/-- The quality the device advertises (R411), without its path: a holdover row wherever holdover lasts, else the row of what DPLL-T takes. -/
def advertised (s : State) : Ann :=
  let t := s.tim.time
  let own2 := t.profile == 2
  let trace := t.flags.testBit 4
  let pps : Bool := match onTime s with
    | some 4 => true | some 5 => true | _ => false
  if isTransparent s then ownAnn s 248 0xFE 0xFFFF false
  else if !s.clk.todSet then ownAnn s 248 0xFE 0xFFFF false
  else if isGm s || pps then
    if (s.dpll 0).ho && holdInSpec s then ownAnn s 7 t.gmAcc t.gmOslv trace
    else if pps && !(s.dpll 0).ho then ownAnn s 6 t.gmAcc t.gmOslv trace
    else ownAnn s (if own2 then 140 else 52) 0xFE 0xFFFF false
  else match onTime s, parentAnn s with
    | some 15, some a =>
      if (s.dpll 0).ho then
        if holdInSpec s then ownAnn s (if own2 then 135 else 7) 0xFE 0xFFFF true
        else ownAnn s (if own2 then 165 else 52) 0xFE 0xFFFF false
      else { a with steps := a.steps + 1 }
    | _, _ =>
      if (s.dpll 0).ho && holdInSpec s then ownAnn s (if own2 then 135 else 7) 0xFE 0xFFFF true
      else ownAnn s (if own2 then 165 else 52) 0xFE 0xFFFF false

/-- Is the parent's quality passed on? -/
def passesParent (s : State) : Bool :=
  isBoundary s && s.clk.todSet && !(s.dpll 0).ho && onTime s == some 15 && (parentAnn s).isSome

/-- The path the device sends: the parent's and its own identity, the last 20 (R412). -/
def ownPath (s : State) : List Nat × Bool :=
  match passesParent s, parentAnn s with
  | true, some a =>
    let l := a.path ++ [clockId s]
    (l.drop (l.length - 20), a.trunc || decide (20 < l.length))
  | _, _ => ([clockId s], false)

/-- TE_BOUND from a clockAccuracy (R425). -/
def accBound : Nat → Nat
  | 0x20 => 25000 | 0x21 => 100000 | 0x22 => 250000 | 0x23 => 1000000 | _ => 0xFFFFFFFF

/-- Does this end report txCoherent, rxCoherent and congruent on a port (R405)? -/
def l1Own (s : State) (p : Nat) : Bool :=
  (s.dpll 1).st == .locked &&
  (isGm s || (isBoundary s && ((s.ptp p).st == .master || (match s.tim.time.parent with
    | some q => sourcesF s q
    | none => false))))

/-- Is a port in L1_SYNC_UP (R405): it exchanges the TLVs, both ends report all three flags, and the port is UP? -/
def l1SyncUp (s : State) (p : Nat) : Bool :=
  s.tim.time.profile == 1 && (s.ptp p).l1sync && (s.ptp p).l1Up && (s.port p).st == .up && l1Own s p

/-- The device's own TE_BOUND in ps (R425). -/
def teBound (s : State) : Nat :=
  if isTransparent s || (s.dpll 0).ho then 0xFFFFFFFF
  else match onTime s with
    | some 15 => (match s.tim.time.parent, parentAnn s with
      | some p, some a =>
        let dal := (s.port p).cfg.dalom
        let base := if dal then a.te else accBound a.acc
        let hop := if dal then
            (if calStamp s p ≠ 0 ∧ ((s.dlk p).partner.map (·.calStamp)).getD 0 ≠ 0 then 20 else 2000)
          else if l1SyncUp s p then 250 else 2000
        if base = 0xFFFFFFFF then 0xFFFFFFFF else min 0xFFFFFFFE (base + hop)
      | _, _ => 0xFFFFFFFF)
    | some _ => min 0xFFFFFFFE (s.tim.time.gmTe * 1000 + 500)
    | none => 0xFFFFFFFF

/-- The 204-byte ANNOUNCE block a port's TIME tiles carry (R412). -/
def announceBlock (s : State) (p : Nat) : Bytes :=
  let a := advertised s
  let path := ownPath s
  let c := esmcOut s p
  let offer := (s.ptp p).st == .master && s.clk.todSet && timeOut s p
  if isTransparent s then zeros 204
  else
    b1 (bitsNat [offer, path.2]) ++ b1 c.1 ++ b1 c.2 ++ b1 a.prio1 ++ b1 a.cls ++ b1 a.acc ++ le 2 a.oslv ++ b1 a.prio2 ++
    b1 a.source ++ le 2 a.steps ++ leInt 2 a.utc ++ b1 a.flags ++ b1 path.1.length ++ be 8 a.gm ++ le 4 (teBound s) ++
    zeros 4 ++ toLen 160 (path.1.flatMap (be 8)) ++ zeros 12

/-- The change to a holdover row is in the first TIME tile after DPLL-T enters HOLDOVER (R411): the blocks are rewritten then. -/
def announceLowered (was : DpllSt) (s : State) : State :=
  if was = .holdover || (s.dpll 0).st != .holdover then s
  else (List.range 64).foldl (fun s p => if (s.port p).cfg.dalom then modDlk p (fun d => { d with announce := announceBlock s p }) s else s) s

/-- Read an ANNOUNCE block from a partner with identity `id` (R407, R412). -/
def annOfBlock (b : Bytes) (id : Nat) : Ann :=
  let n := min 20 (field b 15 1)
  { prio1 := field b 3 1, cls := field b 4 1, acc := field b 5 1, oslv := field b 6 2, prio2 := field b 8 1,
    source := field b 9 1, steps := field b 10 2, utc := fieldInt b 12 2, flags := field b 14 1 % 64, gm := beNat (slice b 16 8),
    te := field b 24 4, path := (List.range n).map (fun k => beNat (slice b (32 + 8 * k) 8)),
    trunc := (field b 0 1).testBit 1, ssm := field b 1 1, essm := field b 2 1, offer := (field b 0 1).testBit 0,
    sender := id, senderPort := 0 }

/-! ### Parent election (R407) -/

/-- Lexicographic comparison of keys of equal length: is the first strictly smaller? -/
def keyLess : List Nat → List Nat → Bool
  | a :: as, b :: bs => decide (a < b) || (a == b && keyLess as bs)
  | _, _ => false

/-- The comparison key of a data set (the lower is the better). -/
def annKey (a : Ann) : List Nat :=
  [a.prio1, a.cls, a.acc, a.oslv, a.prio2, a.gm, a.steps, a.sender, a.senderPort]

/-- May what a sender announces enter the BMCA: its path lacks this device and stepsRemoved is below 255? -/
def annAdmits (s : State) (a : Ann) : Bool := !a.path.contains (clockId s) && decide (a.steps < 255)

/-- 2^k seconds in timebase periods, for a log interval. -/
def logTicks (l : Int) : Nat := if 0 ≤ l then secTicks * 2 ^ l.toNat else secTicks / 2 ^ l.natAbs

/-- Is an Ethernet sender qualified: two Announces within four intervals of IEEE 1588? -/
def foreignOk (s : State) (p : Nat) (f : Foreign) : Bool :=
  match f.at0 with
  | some t => decide (f.at1 ≤ t + 4 * logTicks (s.ptp p).logAnnounce)
  | none => false

/-- The best data set received on a port. -/
def portBest (s : State) (p : Nat) : Option Ann :=
  if (s.port p).cfg.dalom then
    match (s.ptp p).got with
    | some a => if timeIn s p && (s.port p).st == .active && annAdmits s a && !(s.ptp p).masterOnly then some a else none
    | none => none
  else if (s.ptp p).enable && (s.port p).isUp && !(s.ptp p).masterOnly && !(s.ptp p).annLost then
    let l := ((s.ptp p).foreign.filter (foreignOk s p)).map (·.ann) |>.filter (annAdmits s)
    l.foldl (fun b a => match b with
      | none => some a
      | some x => if keyLess (annKey a) (annKey x) then some a else some x) none
  else none

/-- The key of a port's best data set in the comparison of ports: LOCAL_PRIORITY first under PROFILE 2, the port number last. -/
def electKey (s : State) (p : Nat) (a : Ann) : List Nat :=
  (if s.tim.time.profile = 2 then (s.ptp p).localPrio else 0) :: annKey a ++ [p]

/-- The best of all ports. -/
def electBest (s : State) : Option (Nat × Ann) :=
  (List.range 64).foldl (fun b p => match portBest s p with
    | none => b
    | some a => (match b with
      | none => some (p, a)
      | some (q, x) => if keyLess (electKey s p a) (electKey s q x) then some (p, a) else b)) none

/-- The device's own data set: its own quality where no parent is passed on, which is a grandmaster's on a PPSIN time source. -/
def ownSet (s : State) : Ann :=
  if s.clk.todSet && (onTime s == some 4 || onTime s == some 5) then advertised s
  else if (s.dpll 0).ho && holdInSpec s then ownAnn s (if s.tim.time.profile = 2 then 135 else 7) 0xFE 0xFFFF true
  else if (s.dpll 0).ho then ownAnn s (if s.tim.time.profile = 2 then 165 else 52) 0xFE 0xFFFF false
  else ownAnn s 248 0xFE 0xFFFF false

/-- A time port's state after an election (R403, R407). -/
def portState (s : State) (best : Option (Nat × Ann)) (p : Nat) : PtpSt :=
  let dal := (s.port p).cfg.dalom
  if !timePort s p || isTransparent s then .disabled
  else if !(s.port p).isUp then .listening
  else if isGm s || (s.ptp p).masterOnly then .master
  else match best with
    | some (q, a) =>
      if q = p then .slave
      else match portBest s p with
        | some x => if x.gm = a.gm then .passive else if dal && !timeOut s p then .passive else .master
        | none => if dal && !timeOut s p then .passive else .master
    | none => if dal && !timeOut s p then .listening else .master

/-- The receipt timers of a new parent port start at a re-election that finds the candidate present, so that it stays present (R408, log 123). -/
def armReceipt (p : Nat) (s : State) : State :=
  if !(s.ref 15).activity then s
  else modPtp p (fun q =>
    { q with syncAt := q.syncAt.orElse (fun _ => some s.clk.now), respAt := q.respAt.orElse (fun _ => some s.clk.now),
             pairAt := q.pairAt.orElse (fun _ => some s.clk.now) }) s

/-- Run the BMCA (R407): port states and the parent port; a re-election ends a refusal run on the old parent (R420, R435). -/
def bmca (s : State) : State :=
  let best := if isBoundary s then
      (match electBest s with
       | some (q, a) => if keyLess (annKey a) (annKey (ownSet s)) then some (q, a) else none
       | none => none)
    else none
  let parent := best.map (·.1)
  let s := (List.range 64).foldl (fun s p =>
    let st := portState s best p
    if (s.ptp p).st = st then s
    else modPtp p (fun q => { q with st := st, sync := none, req := none, ms := none }) s) s
  if s.tim.time.parent = parent then s
  else
    let s := match s.tim.time.parent, parent with
      | some _, some p => armReceipt p s
      | _, _ => s
    modTime (fun t =>
      { t with parent := parent
               run := match t.run with
                 | some r => if r.source < 64 then none else some r
                 | none => none }) s

/-! ### Presence (R408) -/

/-- Is the parent candidate present? -/
def parentPresent (s : State) : Bool :=
  (s.ref 15).absentUntil.isNone &&
  match s.tim.time.parent with
  | none => false
  | some p =>
    let q := s.ptp p
    if (s.port p).cfg.dalom then
      (s.port p).st == .active && ((q.got.map (·.offer)).getD false) && (s.dlk p).delayValid && q.pairAt.isSome
    else q.st == .slave && q.syncAt.isSome && q.respAt.isSome && !q.annLost

/-- The parent candidate's activity monitor fails where the candidate has become absent (R344). -/
def presence (s : State) : State :=
  if !parentPresent s && (s.ref 15).activity then refFail 15 s.clk.now s else s

/-! ### Samples (R409, R420, R421) -/

/-- The reference a sample's source stands for. -/
def sampleRef (src : Nat) : Nat := if src < 64 then 15 else 4 + (src - 100)

/-- Record a sample in a port's last second (R424). -/
def noteOffset (src : Nat) (v : Int) (s : State) : State :=
  if src < 64 then
    modPtp src (fun q => { q with offsets := ((s.clk.now, v) :: q.offsets).filter (fun o => decide (s.clk.now ≤ o.1 + secTicks)) }) s
  else s

/-- The source's kind and number in a Negative record (R488). -/
def sourceCode (s : State) (src : Nat) : Bytes :=
  if src < 64 then b1 (if (s.port src).cfg.dalom then 1 else 0) ++ b1 src else b1 2 ++ b1 (src - 100)

/-- DPLL-T takes or refuses a phase sample, local minus source, in 2^-16 ns (R409, R420). -/
def takeSample (src : Nat) (v : Int) (s : State) : State :=
  let s := noteOffset src v s
  let q := s.dpll 0
  if q.selected ≠ some (sampleRef src) ∨ q.lossAt ≠ none ∨ !(q.st = .acquire ∨ q.st = .locked) then s
  else
    let s := modTime (fun t => { t with lastSample := v }) s
    if !q.judge then s
    else if mag v * 1000 > s.tim.time.stepLimit * 65536 then
      let s := modTime (fun t => { t with refused := satAdd 32 t.refused 1 }) s
      let s := if src < 64 then modPtp src (fun q => { q with refused := satAdd 32 q.refused 1 }) s else s
      match s.tim.time.run with
      | some r =>
        if r.source = src then modTime (fun t => { t with run := some { r with sample := v } }) s
        else
          let s := modTime (fun t => { t with run := some { source := src, since := s.clk.now, sample := v } }) s
          raise 106 0 (leInt 8 v) (negWrite 0x0010 (sourceCode s src ++ zeros 2 ++ leInt 8 v) s)
      | none =>
        let s := modTime (fun t => { t with run := some { source := src, since := s.clk.now, sample := v } }) s
        raise 106 0 (leInt 8 v) (negWrite 0x0010 (sourceCode s src ++ zeros 2 ++ leInt 8 v) s)
    else
      modDpll 0 (fun q => { q with phase := v }) (modTime (fun t => { t with run := none }) s)

/-! ### Timestamps (R413) -/

/-- The physical lane that carries logical lane 0, transmit and receive. -/
def tsLaneTx (s : State) (p : Nat) : Nat := 4 * p + (s.port p).txMap.getD 0 0
def tsLaneRx (s : State) (p : Nat) : Nat := 4 * p + (s.port p).rxMap.getD 0 0

/-- A transmit timestamp of an Ethernet port from its capture. -/
def txStamp (s : State) (p : Nat) (capture : Int) : Int :=
  let q := s.ptp p
  capture + unit16 (calPub s (tsLaneTx s p) 0 + (s.lane (tsLaneTx s p)).txLatency + (if q.refPlane then q.extTx else 0))

/-- A receive timestamp of an Ethernet port from its capture. -/
def rxStamp (s : State) (p : Nat) (capture : Int) : Int :=
  let q := s.ptp p
  capture - unit16 (calPub s (tsLaneRx s p) 1 + (s.lane (tsLaneRx s p)).rxLatency + (if q.refPlane then q.extRx else 0))

/-- A TS counter value as time of day. -/
def asTod (s : State) (t : Int) : Int := t + s.clk.off

/-- The asymmetry correction of a delay (R414). -/
def asymOf (asym d : Int) : Int := asym * d / 1000000000

/-! ### PTP messages sent -/

/-- A 10-byte IEEE 1588 timestamp. -/
def ptpTime (t : Int) : Bytes := be 6 (t / sec16).toNat ++ be 4 (t % sec16 / 65536).toNat

/-- The 34-byte header of a PTP message: type, length, flags, correctionField, sequence and log interval. -/
def ptpHeader (s : State) (p kind len flags : Nat) (corr : Int) (seq : Nat) (log : Int) : Bytes :=
  let sdo := if kind = 2 ∨ kind = 3 ∨ kind = 10 then 0x20 else 0
  b1 (sdo + kind) ++ b1 0x12 ++ be 2 len ++ b1 s.tim.time.domain ++ b1 0 ++ be 2 flags ++
  (leInt 8 corr).reverse ++ zeros 4 ++ be 8 (clockId s) ++ be 2 (p + 1) ++ be 2 seq ++ b1 0 ++ leInt 1 log

/-- Does a port serve PTP: UP, and not in SAFE? -/
def ptpLive (s : State) (p : Nat) : Bool := s.sys.mode != .safe && (s.port p).st == .up && (s.ptp p).enable

/-- Is a message of this device's domain? -/
def ptpMine (s : State) (m : PtpMsg) : Bool := m.domain.toNat == s.tim.time.domain

/-! ### Records (R424, R434) -/

/-- A port's time-confidence record of 224 bytes (R424). -/
def portTimeRecord (s : State) (p : Nat) : Bytes :=
  let q := s.ptp p
  let dal := (s.port p).cfg.dalom
  let master := q.st == .master
  let own := advertised s
  let a := if master then { own with path := (ownPath s).1, trunc := (ownPath s).2, te := teBound s } else
    q.got.getD { ownAnn s 248 0xFE 0xFFFF false with path := [], gm := 0, sender := 0 }
  let hold := a.cls == 7 || a.cls == 135 || a.cls == 140 || a.cls == 52 || a.cls == 165
  let vals := (q.offsets.filter (fun o => decide (s.clk.now ≤ o.1 + secTicks))).map (·.2)
  let n : Int := vals.length
  let mean := if n = 0 then 0 else vals.sum / n
  let sq := if n = 0 then 0 else (vals.map (fun v => v * v)).sum / n
  let delay : Int := if dal then (s.dlk p).oneWay else if q.delayKnown then q.meanPath else q.meanLink.getD 0
  let run := match s.tim.time.run with
    | some r => r.source == p
    | none => false
  let uncal := dal && (calStamp s p == 0 || ((s.dlk p).partner.map (·.calStamp)).getD 0 == 0)
  b1 p ++ b1 q.st.code ++ b1 (if dal then 1 else 0) ++
  b1 (bitsNat [s.tim.time.parent == some p, l1SyncUp s p, q.refPlane, uncal, a.trunc, !master && hold, q.oneStep, run]) ++
  le 2 a.steps ++ le 2 s.nv.timeGen ++ be 8 (if dal then ((s.dlk p).partner.map (fun (r : CapRec) => r.clockId.toNat)).getD 0 else a.sender) ++
  le 2 (if dal then 0 else if master then p + 1 else a.senderPort) ++ b1 a.cls ++ b1 a.acc ++ be 8 a.gm ++
  le 4 (if dal || master then a.te else accBound a.acc) ++ leInt 8 mean ++ le 4 (min (2 ^ 32 - 1) (Nat.sqrt sq.toNat)) ++ zeros 4 ++
  leInt 8 delay ++ le 4 q.refused ++ b1 a.path.length ++ zeros 3 ++ toLen 160 (a.path.flatMap (be 8))

/-- Seconds of the current holdover, 0 when none (R426, R434). -/
def holdNow (s : State) : Nat :=
  let q := s.dpll 0
  if q.ho then (s.clk.now - q.hoStart) / secTicks else 0

/-- The grandmaster in force: the parent's while it is passed on, else this device. -/
def gmNow (s : State) : Nat := if passesParent s then ((parentAnn s).map (·.gm)).getD 0 else clockId s

/-- stepsRemoved of the device itself. -/
def ownSteps (s : State) : Nat := (advertised s).steps

end Sys2Proof.Machine
end

