-- ==== Sys2Proof/Machine/Rewrite.lean ====
section
/-! DEFINITION. The correction a transparent clock adds to a PTP message as its frame leaves (R404). -/

namespace Sys2Proof.Machine

/-! ### Transparent clock (R404) -/

/-- The offset of a PTP header in a frame, if it carries a PTP message: EtherType 0x88F7, or UDP port 319 or 320. -/
def ptpOff (b : Bytes) : Option Nat :=
  if etherType b = 0x88F7 then some (l3Off b)
  else if hasL4 b && ipProto b == 17 && (l4Dst b == 319 || l4Dst b == 320) then some (l4Off b + 8)
  else none

/-- One's complement sum of a byte string as 16-bit words, folded. -/
def onesSum (b : Bytes) : Nat :=
  let b := if b.length % 2 = 1 then b ++ [0] else b
  let v := ((List.range (b.length / 2)).map (fun i => beNat (slice b (2 * i) 2))).sum
  let f (x : Nat) := x % 65536 + x / 65536
  f (f v)

/-- Rewrite the UDP checksum of a frame whose UDP payload has changed; an absent IPv4 one stays absent. -/
def fixUdp (b : Bytes) : Bytes :=
  if !(hasL4 b && ipProto b == 17) then b
  else
    let o := l4Off b
    if isV4 b && beNat (slice b (o + 6) 2) == 0 then b
    else
      let len := beNat (slice b (o + 4) 2)
      let pseudo := ipSrc b ++ ipDst b ++ be 2 17 ++ be 2 len
      let seg := slice (patch b (o + 6) [0, 0]) o len
      let c := 65535 - onesSum (pseudo ++ seg)
      patch b (o + 6) (be 2 (if c = 0 then 65535 else c))

/-- Add to a frame's correctionField in a transparent clock (R404): the residence time of an event message, and under TRANSPARENT_P2P the ingress port's link delay in Sync and Follow_Up. -/
def correct (s : State) (j : Nat) (e : StoreEntry) (b : Bytes) : Bytes :=
  if !isTransparent s || (s.port j).cfg.dalom || (s.port e.inPort).cfg.dalom || decide (64 ≤ e.inPort) then b
  else match ptpOff b with
    | none => b
    | some o =>
      let kind := (byteAt b o).toNat % 16
      let residence : Int := if kind ≤ 3 then txStamp s j s.ts16 - e.stamp else 0
      let link : Int := if s.tim.time.clockType = 3 ∧ (kind = 0 ∨ kind = 8) then ((s.ptp e.inPort).meanLink.getD 0) else 0
      if residence + link = 0 then b
      else
        let old := fieldInt ((slice b (o + 8) 8).reverse) 0 8
        fixUdp (patch b (o + 8) (leInt 8 (old + residence + link)).reverse)

end Sys2Proof.Machine
end

