-- ==== Sys2Proof/Machine/Queues.lean ====
section
/-! DEFINITION. Frames in queues: release and discard (R279, R318), the down rule (R142), express frames that turn bad (R315), the Stop bath's selection (R318, R330), FENCE (R253), ECN marks and the bytes of a copy (R208, R311), shaper debits (R307, R308). -/

namespace Sys2Proof.Machine

/-- The frame of an identifier. -/
def State.frame? (s : State) (id : Nat) : Option Frame := s.core.frames.find? (fun f => f.id == id)

/-- Replace a frame's record. -/
def setFrame (f : Frame) (s : State) : State :=
  modCore (fun c => { c with frames := c.frames.map (fun g => if g.id == f.id then f else g) }) s

/-- The frames of a queue, in order. -/
def State.queue (s : State) (key : Nat) : List Nat := s.core.queues.get [] key

/-- Append a frame to a queue. -/
def enqueue (key id : Nat) (s : State) : State :=
  modCore (fun c => { c with queues := c.queues.set key (c.queues.get [] key ++ [id]) }) s

/-- Take a frame out of a queue. -/
def unqueue (key id : Nat) (s : State) : State :=
  modCore (fun c =>
    let q := (c.queues.get [] key).filter (· != id)
    { c with queues := if q.isEmpty then c.queues.erase key else c.queues.set key q }) s

/-- The store of an egress port and class. -/
def State.storeOf (s : State) (j c : Nat) : List StoreEntry := s.core.store.get [] (j * 8 + c)

/-- Change the store of an egress port and class; a class that empties loses its round-robin deficit (R308). -/
def modStore (j c : Nat) (g : List StoreEntry → List StoreEntry) (s : State) : State :=
  let e := g (s.storeOf j c)
  let s := modCore (fun k => { k with store := if e.isEmpty then k.store.erase (j * 8 + c) else k.store.set (j * 8 + c) e }) s
  if e.isEmpty && (s.eg j).deficits.getD c 0 != 0 then modEg j (fun q => { q with deficits := q.deficits.set c 0 }) s else s

/-- Credit charge of a frame of `len` bytes (R167). -/
def creditCharge (len : Nat) : Nat := (len + 639) / 640

/-- Is a frame held in a queue: not still being received or judged, nor already on its way out? -/
def Frame.isQueued (f : Frame) : Bool := f.stage == .queued || f.stage == .crossing

/-- Does the ledger refuse the free of a frame's buffer for its owner or state (R280)? A buffer that is free already, or whose ledger byte has bad parity (R281), holds no charge any more (log 117). -/
def freeRefused (f : Frame) (s : State) : Bool :=
  match ledgerCheck (s.ledgerOf f.handle) f.owner (if f.inFlight then 2 else 1) true with
  | some k => k == 1 || k == 2
  | none => false

/-- Free a frame's buffer (R279); answers whether it is free. Where the free is refused (R280) the buffer stays, and its charges (R283) stay with a record that nothing moves. -/
def freeBuffer (f : Frame) (s : State) : Bool × State :=
  if !f.buffered then (true, s)
  else if freeRefused f s then
    (false, modCore (fun c => { c with
      frames := c.frames ++ [{ f with id := c.nextFrame, stage := .stuck, complete := true, queueKey := noKey, fanout := 0, residue := 0 }],
      nextFrame := c.nextFrame + 1 }) (freeHandle f.handle f.owner (if f.inFlight then 2 else 1) s))
  else (true, freeHandle f.handle f.owner (if f.inFlight then 2 else 1) s)

/-- Free a frame's buffer and let the frame go (R279, R283): credits of a whole Dalom frame return, reservations and XOFF are looked at again. -/
def releaseFrame (id : Nat) (s : State) : State :=
  match s.frame? id with
  | none => s
  | some f =>
    let x := freeBuffer f s
    let s := modCore (fun c => { c with frames := c.frames.filter (fun g => g.id != id) }) x.2
    let s := if x.1 && decide (f.inPort < 64) && f.complete && creditClass s f.inPort f.rxTc then
        creditReturn f.inPort f.rxTc (creditCharge f.len) s else s
    afterFree f.inPort f.tc s

/-- Take a frame out of its queue and release it. -/
def dropFrame (id : Nat) (s : State) : State :=
  match s.frame? id with
  | none => s
  | some f => releaseFrame id (unqueue f.queueKey id s)

/-- Give a frame up: it leaves its queue and its buffer. One that is still arriving keeps a record without a buffer, so that what follows is only counted. -/
def giveUp (id : Nat) (s : State) : State :=
  match s.frame? id with
  | none => s
  | some f =>
    if f.complete then dropFrame id s
    else
      let x := freeBuffer f (unqueue f.queueKey id s)
      afterFree f.inPort f.tc (setFrame { f with buffered := false, chargeBytes := 0, bufBytes := 0, voq := noKey,
                                                 queueKey := noKey, stage := .receiving, express := false } x.2)

/-- Is a frame still in the device (R253): in a buffer, in an egress store, or in a Dalom port's segments not yet sent? -/
def frameInside (s : State) (id : Nat) : Bool :=
  s.core.frames.any (fun f => f.id == id && f.buffered) || s.core.store.any (fun (_, q) => q.any (fun e => e.frame == id)) ||
  s.dlks.any (fun (_, d) => d.segTx.any (fun (_, t) => t.frame == id))

/-- Settle every live FENCE: UNITS and PROGRESS count the frames that have left; with none left it is DONE (R253). -/
def fenceCheck (s : State) : State :=
  s.ops.foldl (fun s o =>
    match o.work with
    | .fence ids total lim =>
      if o.state == .running then
        let left := ids.filter (frameInside s)
        let gone := total - left.length
        let o := { o with units := gone, progress := if total = 0 then 10000 else gone * 10000 / total, work := .fence left total lim }
        let s := setOp o s
        if left.isEmpty then opFinish o.handle .done 0 s else s
      else s
    | _ => s) s

/-! ### A copy as it leaves (R208, R307, R308, R311) -/

/-- The egress port of a VOQ key, if it is one. -/
def voqOut (key : Nat) : Option Nat := if key < 32768 then some (key / 8 % 64) else none

/-- Bytes queued for a port and class, in every VOQ and in the egress store, but for one frame (R208). -/
def egressDepth (s : State) (j c except : Nat) : Nat :=
  ((s.core.frames.filter (fun f => f.isQueued && voqOut f.queueKey == some j && f.tc == c && f.id != except)).map
    (fun f => f.len - f.crossed)).sum +
  (((s.storeOf j c).filter (fun e => e.frame != except)).map (·.arrived)).sum

/-- Is a copy of an entry marked (R208)? -/
def marks (s : State) (j c : Nat) (e : StoreEntry) : Bool :=
  let k := (s.fc j c).ecnK
  k != 0 && decide (k * 1024 < egressDepth s j c e.frame) && isEct (noFcs e.bytes)

/-- The copy of an entry that leaves next: rewritten, marked where ECN asks it, corrected in a transparent clock, with its FCS; of an entry that is not whole, what it holds. A frame that firmware built leaves as it is. -/
def copyBytes (s : State) (j c : Nat) (e : StoreEntry) : Bytes :=
  let raw := if e.arrived = e.size then e.bytes else e.bytes ++ zeros 4
  if e.inPort = 65 then withFcs (noFcs raw)
  else withFcs (correct s j e (noFcs (egressBytes s j c e.result e.copies.head? (marks s j c e) raw)))

/-- What a frame of `n` bytes sent by a port debits: the shaper of TC7, that of TC6 if it has one, or the class's round-robin deficit; 20 bytes of preamble and gap are counted (R307, R308). -/
def debit (j c n : Nat) (s : State) : State :=
  modEg j (fun g =>
    if c = 7 then { g with bucket7 := { g.bucket7 with level := g.bucket7.level - 1000 * (n + 20 : Nat) } }
    else if c = 6 then
      if g.permil6 = 0 then g else { g with bucket6 := { g.bucket6 with level := g.bucket6.level - 1000 * (n + 20 : Nat) } }
    else { g with deficits := g.deficits.modify c (· - (n + 20)) }) s

/-! ### Express frames that turn out bad (R315) -/

/-- Count an EXPRESS_ABORT of a port and class with its cause (R315): 0 FCS, 1 overrun, 2 ingress link down, 3 SEG_ABORTS, 4 UNDERRUN. -/
def expressAbort (j c cause : Nat) (s : State) : State :=
  cntClass j c 13 1 (modCore (fun k => { k with expressCauses := k.expressCauses.modify 0 ((j * 8 + c) * 8 + cause) (fun v => wrapAdd 64 v 1) }) s)

/-- Take a frame out of the store of (j, c); if it has started there it is finished visibly bad (R315): with a complemented FCS on Ethernet, with code ABORT on Dalom, and counted. -/
def badExpress (j c id cause : Nat) (s : State) : State :=
  match (s.storeOf j c).find? (fun e => e.frame == id) with
  | none => s
  | some e =>
    if !e.started then modStore j c (fun q => q.filter (fun x => x.frame != id)) s
    else
      let b := copyBytes s j c e
      let s := expressAbort j c cause (debit j c b.length s)
      let s := modStore j c (fun q => q.filter (fun x => x.frame != id)) s
      if (s.port j).cfg.dalom then
        modDlk j (fun d =>
          { d with segTx := d.segTx.set c { bytes := noFcs b, first := true, charge := if creditTx s j c then creditCharge b.length else 0,
                                            abort := true, frame := id, stamp := 0, inject := none } }) s
      else s.send (.frame j (noFcs b ++ le 4 (2 ^ 32 - 1 - crc32 (noFcs b))))

/-- Finish bad every express copy of a frame. -/
def badExpressAll (id cause : Nat) (s : State) : State :=
  s.core.store.foldl (fun s (k, q) => if q.any (fun e => e.frame == id) then badExpress (k / 8) (k % 8) id cause s else s) s

/-! ### Discards -/

/-- Discard queued frames that meet a test, counting each with `cnt`; a started express copy is finished bad for `cause`. -/
def discardWhere (t : Frame → Bool) (cnt : Frame → State → State) (cause : Nat) (s : State) : State :=
  (s.core.frames.filter t).foldl (fun s f => cnt f (giveUp f.id (badExpressAll f.id cause s))) s

/-- A Stop bath discard of a frame: counted per ingress port and class (R318). -/
def cntBath (f : Frame) (s : State) : State := cntClass f.inPort f.tc 9 1 s

/-- Discard every queued frame as a Stop bath discard, in queues and in egress stores (R48, R49, R51). An express frame already started is finished bad, as one whose store empties. -/
def discardAll (s : State) : State :=
  let s := discardWhere Frame.isQueued cntBath 4 s
  let s := s.core.store.foldl (fun s (k, q) =>
    q.foldl (fun s e =>
      if e.started then badExpress (k / 8) (k % 8) e.frame 4 s
      else
        let s := modStore (k / 8) (k % 8) (fun q => q.filter (fun x => x.frame != e.frame)) s
        if e.inPort ≤ 64 then cntClass e.inPort (k % 8) 9 1 s else s) s) s
  fenceCheck s

/-- Frames in reception, or received and not yet queued, are discarded, each counted with `cnt`; their buffers are free at once (R51). -/
def discardArriving (cnt : Frame → State → State) (s : State) : State :=
  fenceCheck ((s.core.frames.filter (fun f => f.stage == .receiving && f.buffered)).foldl (fun s f => cnt f (giveUp f.id s)) s)

/-- Discard the frames queued for port `p` (R142), each counted once as a link-down discard, a multicast frame once per copy: what its stores hold, unicast frames in any VOQ, and its share of the multicast frames that have not crossed to it. -/
def discardFor (p : Nat) (s : State) : State :=
  let mine (f : Frame) : Bool := f.isQueued && voqOut f.queueKey == some p
  let kept := (List.range 8).flatMap (fun c => (s.storeOf p c).map (fun e => (c, e)))
  let s := kept.foldl (fun s x =>
    let s := modStore p x.1 (fun q => q.filter (fun y => y.frame != x.2.frame)) s
    if (s.frame? x.2.frame).any mine then s else cntClass p x.1 11 (max 1 x.2.copies.length) s) s
  let s := discardWhere mine (fun f s => cntClass p f.tc 11 1 s) 2 s
  let s := s.core.frames.foldl (fun s f =>
    if f.fanout.testBit p then
      let n := (f.members.filter (fun m => m.1 == p)).length
      let s := setFrame { f with fanout := clearBit f.fanout p, residue := clearBit f.residue p } s
      if f.residue.testBit p && !(kept.any (fun x => x.2.frame == f.id)) then cntClass p f.tc 11 n s else s
    else s) s
  let s := (s.core.fwQueue.get [] p).foldl (fun s x => cntClass p x.tc 11 1 s) s
  fenceCheck (modCore (fun k => { k with fwQueue := k.fwQueue.erase p }) s)

/-- Discard the frames being received on port `p`, counted as receive errors (R142); one already cut through is finished bad. -/
def discardReceiving (p : Nat) (s : State) : State :=
  (s.core.frames.filter (fun f => f.inPort == p && !f.complete)).foldl (fun s f =>
    cntPort f.inPort 5 1 (dropFrame f.id (badExpressAll f.id 2 s))) s

/-! ### Stop bath selection (R318, R330) -/

/-- Does a Stop bath select the queue of an ingress port, a class and a key? -/
def BathWork.takes (w : BathWork) (i c key : Nat) : Bool :=
  w.classMask.testBit c && (w.inPort == 0xFF || w.inPort == i) &&
  match voqOut key with
  | some j => w.outPort == 0xFF || w.outPort == j
  | none => w.mc && key / 100000 == 1

/-- Does a Stop bath select a frame's queue? -/
def BathWork.selects (w : BathWork) (f : Frame) : Bool := f.isQueued && w.takes f.inPort f.tc f.queueKey

/-- Is an arrival to a queue discarded by a Stop bath at work (R318)? `key` is the queue it would enter. -/
def bathTakes (s : State) (i c key : Nat) : Bool :=
  s.ops.any (fun o => match o.work with
    | .bath w => o.working && w.takes i c key
    | _ => false)

/-- Is a queue held from the crossbar by a DISCARD Stop bath (R318)? -/
def bathHolds (s : State) (i c key : Nat) : Bool :=
  s.ops.any (fun o => match o.work with
    | .bath w => w.discard && o.working && w.takes i c key
    | _ => false)

/-- Look at every Stop bath (R318): the frames that have left its queues since the last look are its UNITS, their share of all its PROGRESS, and each is a suspend point (R91, R96); it notes when the queues became empty, or stopped being so. -/
def bathCheck (s : State) : State :=
  s.ops.foldl (fun s o =>
    match o.work with
    | .bath w =>
      let n := (s.core.frames.filter w.selects).length
      if o.working then
        let gone := w.left - n
        let units := o.units + gone
        let at' := if n = 0 then some (w.emptyAt.getD s.clk.now) else none
        let s := setOp { o with units := units, progress := if gone = 0 then o.progress else units * 10000 / (units + n),
                                work := .bath { w with emptyAt := at', left := n } } s
        if gone = 0 then s else suspendPoint o.handle s
      else if w.left = n then s
      else setOp { o with work := .bath { w with left := n } } s
    | _ => s) s

/-- The bytes a frame takes as a whole: its length once it has ended, else the size decided at its grant point. -/
def Frame.whole (f : Frame) : Nat := if f.complete then f.len else f.size

/-- Is class `c` of a Dalom port short of credits (R167, R316): for a frame queued for the port, or one in its store? -/
def creditShort (s : State) (p c : Nat) : Bool :=
  creditTx s p c &&
  (s.core.frames.any (fun f => f.isQueued && voqOut f.queueKey == some p && f.tc == c &&
      decide ((s.dlk p).available.get 0 c < creditCharge f.whole)) ||
   (s.storeOf p c).any (fun e => !e.started && decide ((s.dlk p).available.get 0 c < creditCharge e.size)))

/-- Is a class of a port paused by its partner (R316): by a PFC or PAUSE frame, or short of credits? -/
def partnerPaused (s : State) (p c : Nat) : Bool := (s.fc p c).paused || creditShort s p c

/-- Note since when each class of a Dalom port has been short of credits; one that is no longer so clears its detector record (R316, R317). -/
def shortsCheck (s : State) : State :=
  (s.dlks.flatMap (fun (p, d) => if d.partner.isSome then (List.range 8).map (fun c => (p, c)) else [])).foldl (fun s (p, c) =>
    let short := creditShort s p c
    match (s.fc p c).pausedSince with
    | none => if short then modFc p c (fun k => { k with pausedSince := some s.clk.now }) s else s
    | some _ =>
      if short || (s.fc p c).paused then s
      else modCore (fun q => { q with deadlocks := q.deadlocks.filter (fun d => !(d.port == p && d.tc == c)) })
        (modFc p c (fun k => { k with pausedSince := none }) s)) s

/-- After frames or credits have moved: Stop baths, FENCEs and the classes short of credits are looked at. -/
def settle (s : State) : State := shortsCheck (fenceCheck (bathCheck s))

end Sys2Proof.Machine
end

