-- ==== Sys2Proof/Machine/Tables.lean ====
section
/-! DEFINITION. The forwarding tables of one slice: cuckoo placement of FDB and HOST (R224 to R226), the sorted LPM TCAM (R228, R229), and the layouts of the window registers (R227, R229, R235, R237, R238). -/

namespace Sys2Proof.Machine

/-- Bits [lo + n − 1 : lo] of a number. -/
def bitsAt (v lo n : Nat) : Nat := v / 2 ^ lo % 2 ^ n

/-! ### Exact match (R224, R225). Table 0 is FDB and 1 is HOST; 2 is the hash store of the LPM (R230). -/

/-- Buckets of a keyed table (R224), and of the hash store (R230). -/
def xBuckets (t : Nat) : Nat := if t = 0 then 16384 else if t = 1 then 8192 else 12288
/-- Overflow entries of a keyed table (R220). -/
def xOver (t : Nat) : Nat := if t = 0 then 1024 else 512
/-- The first bucket of a key. -/
def bucket1 (t : Nat) (key : Bytes) : Nat := crc32 key % xBuckets t
/-- The second bucket of a key. -/
def bucket2 (t : Nat) (key : Bytes) : Nat :=
  let b := crc32c key % xBuckets t
  if b = bucket1 t key then b ^^^ 1 else b
/-- A slice's exact-match table. -/
def SliceTab.x (T : SliceTab) (t : Nat) : Tab KSlot := if t = 0 then T.fdb else T.host
/-- Put a slice's exact-match table. -/
def SliceTab.setX (T : SliceTab) (t : Nat) (m : Tab KSlot) : SliceTab := if t = 0 then { T with fdb := m } else { T with host := m }
/-- The entry at an index, if a valid one stands there. -/
def xAt (m : Tab KSlot) (i : Nat) : Option KEntry :=
  match m.find? i with
  | some (.entry e) => some e
  | _ => none
/-- Where a key is, and its entry. -/
def xFind (m : Tab KSlot) (key : Bytes) : Option (Nat × KEntry) :=
  m.findSome? (fun (i, k) => match k with
    | .entry e => if e.key == key then some (i, e) else none
    | .tomb _ => none)
/-- The four ways of a bucket. -/
def ways (b : Nat) : List Nat := (List.range 4).map (4 * b + ·)
/-- The lowest free way of a bucket. -/
def freeWay (m : Tab KSlot) (b : Nat) : Option Nat := (ways b).find? (fun i => (xAt m i).isNone)
/-- The other bucket of the entry in a way. -/
def otherBucket (t : Nat) (m : Tab KSlot) (w : Nat) : Nat :=
  match xAt m w with
  | some e => if bucket1 t e.key = w / 4 then bucket2 t e.key else bucket1 t e.key
  | none => w / 4
/-- Search chains of relocations level by level, at most `n` further levels: each path lists ways, the last to move first. Among shortest chains the lower bucket and way of the start come first (DESIGN CHOICE). -/
def chainFind (t : Nat) (m : Tab KSlot) : Nat → List (List Nat) → Option (List Nat × Nat)
  | 0, _ => none
  | n + 1, paths =>
    match paths.findSome? (fun p => (freeWay m (otherBucket t m (p.headD 0))).map (fun f => (p, f))) with
    | some r => some r
    | none => chainFind t m n (paths.flatMap (fun p =>
        ((ways (otherBucket t m (p.headD 0))).filter (fun w => !p.contains w)).map (fun w => w :: p)))
/-- Perform a chain from its far end, each move leaving a tombstone (R225, R226). -/
def chainRun (m : Tab KSlot) (free : Nat) : List Nat → Tab KSlot
  | [] => m
  | w :: ws =>
    match xAt m w with
    | some e => chainRun ((m.set free (.entry e)).set w (.tomb free)) w ws
    | none => m

/-- The ECC marks of a keyed table's ways after a chain (R254): a mark goes with the entry that moves. -/
def chainMarks (t : Nat) (ecc : Tab Bool) (free : Nat) : List Nat → Tab Bool
  | [] => ecc
  | w :: ws =>
    let m := if ecc.get false (t * 2 ^ 20 + w) then ecc.set (t * 2 ^ 20 + free) true else ecc.erase (t * 2 ^ 20 + free)
    chainMarks t (m.erase (t * 2 ^ 20 + w)) w ws

/-- Where an insert places its key (R225). -/
inductive Place where
  | replace (i : Nat)
  | at (i : Nat)
  | chain (free : Nat) (path : List Nat)
  | evict (i : Nat)
  | full
  deriving DecidableEq, Repr

/-- Steps 2 and 3 of R225: a free way, or the shortest chain of at most 8 relocations. -/
def placeNew (t : Nat) (m : Tab KSlot) (key : Bytes) : Place :=
  let p := bucket1 t key
  let q := bucket2 t key
  match freeWay m p, freeWay m q with
  | some i, _ => .at i
  | none, some i => .at i
  | none, none =>
    let lo := min p q
    let hi := max p q
    match chainFind t m 8 ((ways lo ++ ways hi).map (fun w => [w])) with
    | some (path, f) => .chain f path
    | none => .full

/-- All steps of R225, for a host insert. -/
def placeHost (t : Nat) (m : Tab KSlot) (key : Bytes) : Place :=
  match xFind m key with
  | some (i, _) => .replace i
  | none =>
    match placeNew t m key with
    | .full =>
      match ((List.range (xOver t)).map (4 * xBuckets t + ·)).find? (fun i => (xAt m i).isNone) with
      | some i => .at i
      | none =>
        if t = 0 then
          let dyn (i : Nat) : Bool := match xAt m i with
            | some e => e.dyn
            | none => false
          match (ways (bucket1 t key) ++ ways (bucket2 t key)).find? dyn with
          | some i => .evict i
          | none => .full
        else .full
    | p => p

/-- The index a placement gives the key, and the relocations it makes. -/
def Place.index : Place → Nat
  | .replace i => i | .at i => i | .evict i => i
  | .chain _ path => path.getLastD 0
  | .full => 0
/-- The relocations of a placement. -/
def Place.moves : Place → Nat
  | .chain _ path => path.length
  | _ => 0

/-- Commit a placement of an entry. -/
def placeCommit (m : Tab KSlot) (e : KEntry) (p : Place) : Tab KSlot :=
  match p with
  | .full => m
  | .chain f path => (chainRun m f path).set p.index (.entry e)
  | p => m.set p.index (.entry e)

/-- The ECC marks after a placement is committed: those of moved entries go with them, and the new entry has none. -/
def placeMarks (t : Nat) (ecc : Tab Bool) (p : Place) : Tab Bool :=
  match p with
  | .full => ecc
  | .chain f path => (chainMarks t ecc f path).erase (t * 2 ^ 20 + p.index)
  | p => ecc.erase (t * 2 ^ 20 + p.index)

/-! ### LPM (R228 to R230) -/

/-- Half slots of a route. -/
def Route.half (r : Route) : Nat := if r.v6 then 2 else 1
/-- Half slots usable (R229). -/
def SliceTab.usable (T : SliceTab) : Nat := 32768 - 2 * T.badSlots.length
/-- Half slots in use. -/
def SliceTab.halfUsed (T : SliceTab) : Nat := (T.lpm.map (fun x => x.2.half)).sum
/-- The half-slot index the host sees for the n-th usable half slot: slots found unusable are passed over. -/
def SliceTab.phys (T : SliceTab) (h : Nat) : Nat :=
  2 * ((T.badSlots.mergeSort (· ≤ ·)).foldl (fun q b => if b ≤ q then q + 1 else q) (h / 2)) + h % 2
/-- The usable half slot a host index names, if its slot is usable. -/
def SliceTab.logical (T : SliceTab) (i : Nat) : Option Nat :=
  if T.badSlots.contains (i / 2) then none else some (i - 2 * (T.badSlots.filter (· < i / 2)).length)
/-- The slot moves of routes that leave their places: two IPv4 routes of one slot move together. -/
def slotMoves (moved : List (Nat × Route)) : Nat := ((moved.map (fun x => x.1 / 2)).dedup).length
/-- One region's routes in whole slots from slot `a` (R228): routes whose slot stays in the region keep their places, the others fill the places left, lowest first. Answers the places, the slot moves, and how many slots the region takes. -/
def placeRegion (old : List (Nat × Route)) (new : List Route) (a : Nat) : List (Nat × Route) × Nat × Nat :=
  let n4 := (old.filter (fun x => !x.2.v6)).length + (new.filter (fun r => !r.v6)).length
  let n6 := (old.filter (fun x => x.2.v6)).length + (new.filter (fun r => r.v6)).length
  let h := (n4 + 1) / 2
  let here (x : Nat × Route) : Bool := decide (a ≤ x.1 / 2) && decide (x.1 / 2 < a + n6 + h)
  let stay6 := old.filter (fun x => x.2.v6 && x.1 % 2 == 0 && here x)
  let slots4 := ((old.filter (fun x => !x.2.v6 && here x)).map (fun x => x.1 / 2)).dedup
  let full (s : Nat) : Bool := old.any (fun x => x.1 == 2 * s && !x.2.v6) && old.any (fun x => x.1 == 2 * s + 1 && !x.2.v6)
  let chosen := (slots4.filter full ++ slots4.filter (fun s => !full s)).take h
  let stay4 := old.filter (fun x => !x.2.v6 && chosen.contains (x.1 / 2))
  let moved := old.filter (fun x => !(stay6.contains x || stay4.contains x))
  let free := ((List.range (n6 + h)).map (a + ·)).filter (fun s => !(chosen.contains s) && !(stay6.any (fun x => x.1 / 2 == s)))
  let more := free.take (h - chosen.length)
  let halves := ((chosen ++ more).flatMap (fun s => [2 * s, 2 * s + 1])).filter (fun i => !(stay4.any (fun x => x.1 == i)))
  let go6 := (moved.filter (fun x => x.2.v6)).map (·.2) ++ new.filter (fun r => r.v6)
  let go4 := (moved.filter (fun x => !x.2.v6)).map (·.2) ++ new.filter (fun r => !r.v6)
  (stay6 ++ stay4 ++ ((free.drop (h - chosen.length)).map (2 * ·)).zip go6 ++ halves.zip go4, slotMoves moved, n6 + h)
/-- Lay routes out region by region, longest first, from the lowest slot; answers the table, the moves, and the slots taken. -/
def layout (old : Tab Route) (new : List Route) : Tab Route × Nat × Nat :=
  ((List.range 129).reverse).foldl (fun (acc : Tab Route × Nat × Nat) l =>
    let o := old.filter (fun x => x.2.len == l)
    let n := new.filter (fun r => r.len == l)
    if o.isEmpty && n.isEmpty then acc
    else
      let r := placeRegion o n acc.2.2
      (r.1.foldl (fun (t : Tab Route) x => t.set x.1 x.2) acc.1, acc.2.1 + r.2.1, acc.2.2 + r.2.2))
    (([] : Tab Route), 0, 0)
/-- The same order without half slots left over between regions, but for an IPv6 route after an odd half slot: answers the table and the half slot where it ends. -/
def layoutTight (routes : List Route) : Tab Route × Nat :=
  ((List.range 129).reverse).foldl (fun (acc : Tab Route × Nat) l =>
    let r6 := routes.filter (fun r => r.len == l && r.v6)
    let r4 := routes.filter (fun r => r.len == l && !r.v6)
    let lead := r4.take (if r6.isEmpty then 0 else acc.2 % 2)
    let a6 := if r6.isEmpty then acc.2 else acc.2 + acc.2 % 2
    let a4 := a6 + 2 * r6.length
    let t := (lead.map (fun r => (acc.2, r)) ++ ((List.range r6.length).map (fun i => a6 + 2 * i)).zip r6 ++
      ((List.range r4.length).map (fun i => a4 + i)).zip (r4.drop lead.length)).foldl (fun (t : Tab Route) x => t.set x.1 x.2) acc.1
    (t, a4 + (r4.length - lead.length))) (([] : Tab Route), 0)
/-- The TCAM's layout after a change, its moves and the half slots it spans. DESIGN CHOICE (log 120): regions take whole slots; where that would pass the last usable slot they share slots, and every route that changes its place is a move. -/
def newLayout (old : Tab Route) (new : List Route) (usable : Nat) : Tab Route × Nat × Nat :=
  let a := layout old new
  if 2 * a.2.2 ≤ usable then (a.1, a.2.1, 2 * a.2.2)
  else
    let t := layoutTight (old.map (·.2) ++ new)
    (t.1, slotMoves (old.filter (fun x => !(t.1.any (fun y => y.1 == x.1 && y.2.len == x.2.len && y.2.pfx == x.2.pfx && y.2.v6 == x.2.v6)))), t.2)
/-- The tombstones moves leave (R228): each old place that no route takes now names the new one. -/
def newTombs (old new : Tab Route) (tombs : Tab Nat) : Tab Nat :=
  let kept := tombs.filter (fun x => (new.find? x.1).isNone)
  old.foldl (fun (t : Tab Nat) x =>
    if (new.find? x.1).isSome then t
    else match List.find? (fun (y : Nat × Route) => y.2.v6 == x.2.v6 && y.2.len == x.2.len && y.2.pfx == x.2.pfx) new with
      | some y => t.set x.1 y.1
      | none => t.erase x.1) kept
/-- Are routes kept in the TCAM as they are written (R233)? In UNLOADED, SELFTEST and FAULT they go to the hash store alone, and a route's index is the place the next rebuild gives it (log 120). -/
def LpmMode.loads (m : LpmMode) : Bool := m == .tcam || m == .rebuild
/-- Lay the TCAM out again after a change; answers the slice and the moves, none where the TCAM is not written. -/
def relayout (old : Tab Route) (new : List Route) (T : SliceTab) : SliceTab × Nat :=
  let r := newLayout old new T.usable
  if T.mode.loads then ({ T with lpm := r.1, lpmTomb := newTombs T.lpm r.1 T.lpmTomb }, r.2.1)
  else ({ T with lpm := r.1, lpmTomb := [] }, 0)
/-- The places of the routes as a rebuild loads them, moves left behind nowhere (R228, R233). -/
def SliceTab.load (T : SliceTab) : SliceTab :=
  { T with lpm := (newLayout [] (T.lpm.map (·.2)) T.usable).1, lpmTomb := [] }
/-- A rebuild of the TCAM begins: lookups come from the hash store (R233). -/
def rebuildBegin (T : SliceTab) : SliceTab := { T.load with mode := .rebuild }
/-- Do the routes and a new one fit the half slots left usable (R229)? -/
def SliceTab.fits (T : SliceTab) (new : List Route) : Bool :=
  decide (T.halfUsed + (new.map Route.half).sum ≤ T.usable) && decide ((newLayout T.lpm new T.usable).2.2 ≤ T.usable)
/-- The key bytes of a route's hash-store entry; an IPv6 route has a second one. DESIGN CHOICE (log 120): the spec names the key's parts and not their bytes. -/
def storeKey (v6 : Bool) (len pfx : Nat) (second : Bool) : Bytes :=
  b1 (if v6 then 1 else 0) ++ b1 len ++ be 16 pfx ++ (if second then b1 1 else [])
/-- Put a hash-store entry (R230): in place, or by steps 1 to 3 of R225. Placement is guaranteed up to a full TCAM: where those steps find no way the entry stands beyond the buckets (log 120). -/
def storePut (k : Bytes) (d : Nat) (m : Tab KSlot) : Tab KSlot :=
  let e : KEntry := { key := k, data := d, dyn := false, hit := false }
  match xFind m k with
  | some (i, _) => m.set i (.entry e)
  | none =>
    match placeNew 2 m k with
    | .full => m.set (49152 + m.length) (.entry e)
    | p => placeCommit m e p
/-- Take a hash-store entry out. -/
def storeCut (k : Bytes) (m : Tab KSlot) : Tab KSlot :=
  match xFind m k with
  | some (i, _) => m.erase i
  | none => m
/-- A route is written in the hash store, and its bits are set in both banks of the filter (R230, R232). -/
def storeWrite (r : Route) (T : SliceTab) : SliceTab :=
  let m := storePut (storeKey r.v6 r.len r.pfx false) r.data T.store
  let k := (r.v6, r.len, r.pfx)
  let add (f : List (Bool × Nat × Nat)) := if f.contains k then f else f ++ [k]
  { T with store := if r.v6 then storePut (storeKey r.v6 r.len r.pfx true) r.data m else m,
           filterA := add T.filterA, filterB := add T.filterB }
/-- A route is deleted from the hash store; no bit of the filter changes, and the delete is counted (R232). -/
def storeErase (v6 : Bool) (len pfx : Nat) (T : SliceTab) : SliceTab :=
  { T with store := storeCut (storeKey v6 len pfx true) (storeCut (storeKey v6 len pfx false) T.store), deletes := T.deletes + 1 }
/-- After 4,096 deletes firmware rebuilds the standby bank from the hash store and swaps the banks (R232). -/
def filterRebuild (T : SliceTab) : SliceTab :=
  if T.deletes < 4096 then T
  else
    let keys := T.lpm.map (fun x => (x.2.v6, x.2.len, x.2.pfx))
    { T with deletes := 0, bank := !T.bank, filterA := if T.bank then keys else T.filterA, filterB := if T.bank then T.filterB else keys }
/-- Does the bank in service name a length for an address (R230): are the three bits of its key set? -/
def SliceTab.named (T : SliceTab) (v6 : Bool) (len pfx : Nat) : Bool :=
  let f := if T.bank then T.filterB else T.filterA
  f.contains (v6, len, pfx) ||
  [0, 1, 2].all (fun i => f.any (fun k => Config.lpmFilter i k.1 k.2.1 k.2.2 % 262144 == Config.lpmFilter i v6 len pfx % 262144))
/-- Find a route by family, length and prefix. -/
def routeFind (T : SliceTab) (v6 : Bool) (len pfx : Nat) : Option (Nat × Route) :=
  List.find? (fun (x : Nat × Route) => x.2.v6 == v6 && x.2.len == len && x.2.pfx == pfx) T.lpm
/-- Does a route match an address of 128 bits, first bit most significant? -/
def Route.covers (r : Route) (v6 : Bool) (addr : Nat) : Bool :=
  r.v6 == v6 && addr / 2 ^ (128 - r.len) == r.pfx / 2 ^ (128 - r.len)
/-- The longest matching route among those a test keeps. -/
def longest (T : SliceTab) (v6 : Bool) (addr : Nat) (keep : Nat → Bool) : Option (Nat × Route) :=
  T.lpm.foldl (fun (best : Option (Nat × Route)) x =>
    if x.2.covers v6 addr && keep x.1 then
      match best with
      | some b => if b.2.len < x.2.len then some x else best
      | none => some x
    else best) none

/-- What probing the hash store has found so far (R230): the route, the probes made, and the entries found uncorrectable. -/
structure Probe where
  found : Option (Nat × Route)
  probes : Nat
  bads : List Nat
  deriving DecidableEq, Repr
/-- An LPM lookup in the hash store (R230, R254): the lengths the filter names are probed longest first up to the first entry whose key matches; an uncorrectable entry is absent. -/
def hashLookup (T : SliceTab) (v6 : Bool) (addr : Nat) : Probe :=
  ((List.range (if v6 then 129 else 33)).reverse).foldl (fun (a : Probe) l =>
    let pfx := addr / 2 ^ (128 - l) * 2 ^ (128 - l)
    if a.found.isSome || !T.named v6 l pfx then a
    else match xFind T.store (storeKey v6 l pfx false), routeFind T v6 l pfx with
      | some _, some (i, r) =>
        if r.bad then { a with probes := a.probes + 1, bads := a.bads ++ [i] } else { a with found := some (i, r), probes := a.probes + 1 }
      | _, _ => { a with probes := a.probes + 1 }) { found := none, probes := 0, bads := [] }

/-! ### Window layouts -/

/-- Word `i` of a 320-bit key or mask. -/
def keyWord (k i : Nat) : Nat := bitsAt k (32 * i) 32
/-- The MAC number of an FDB key (R227). -/
def fdbMac (k : Nat) : Nat := bitsAt k 32 16 * 2 ^ 32 + bitsAt k 0 32
/-- FDB key bytes of a MAC and VID (R224). -/
def fdbKey (mac vid : Nat) : Bytes := be 6 mac ++ le 2 vid
/-- HOST key bytes of a family and 16 address bytes (R224). -/
def hostKey (v6 : Bool) (addr : Bytes) : Bytes := b1 (if v6 then 1 else 0) ++ toLen 16 addr
/-- The address of KEY1 to KEY4, first address bit most significant of 128 (R227). -/
def keyAddr (k : Nat) : Nat := ((List.range 4).map (fun i => keyWord k (1 + i) * 2 ^ (32 * (3 - i)))).sum
/-- The words KEY1 to KEY4 of a 128-bit address. -/
def addrKey (a : Nat) : Nat := ((List.range 4).map (fun i => bitsAt a (32 * (3 - i)) 32 * 2 ^ (32 * (1 + i)))).sum
/-- Key bytes of a window's key for FDB or HOST. -/
def xKey (t k : Nat) : Bytes :=
  if t = 0 then fdbKey (fdbMac k) (bitsAt k 48 12) else hostKey (k.testBit 0) (be 16 (keyAddr k))
/-- The window key of FDB or HOST key bytes. -/
def xKeyWords (t : Nat) (b : Bytes) : Nat :=
  if t = 0 then beNat (slice b 0 6) + leNat (slice b 6 2) * 2 ^ 48
  else (byteAt b 0).toNat % 2 + addrKey (beNat (slice b 1 16))
/-- Is a key laid out as its table asks, the fields not named zero (R227, R229, R246)? -/
def keyOk (t k : Nat) : Bool :=
  if t = 0 then bitsAt k 60 260 == 0
  else if t = 1 then bitsAt k 1 31 == 0 && bitsAt k 160 160 == 0 && (k.testBit 0 || bitsAt k 64 96 == 0)
  else bitsAt k 1 7 == 0 && bitsAt k 16 16 == 0 && bitsAt k 160 160 == 0 && (k.testBit 0 || bitsAt k 64 96 == 0)
/-- LEN of an LPM key. -/
def lpmLen (k : Nat) : Nat := bitsAt k 8 8
/-- Is an LPM key's length in range and its prefix zero beyond it (R229)? -/
def lpmKeyOk (k : Nat) : Bool :=
  let l := lpmLen k
  decide (l ≤ if k.testBit 0 then 128 else 32) && keyAddr k % 2 ^ (128 - l) == 0
/-- The bits of a CLS key that a KEY_TYPE uses (R237). -/
def clsUsed (ty : Nat) : Nat :=
  let span (lo hi : Nat) : Nat := 2 ^ (hi + 1) - 2 ^ lo
  span 0 24 + (if ty = 0 then span 32 143
    else if ty = 1 then span 32 152
    else span 32 301 + span 304 319)
/-- Is a classification key and mask legal (R237)? -/
def clsKeyOk (k m : Nat) : Bool :=
  let ty := k % 4
  decide (ty ≤ 2) && (k ||| clsUsed ty) == clsUsed ty && (m ||| clsUsed ty) == clsUsed ty
/-- Are the data of a table legal (R227, R229, R235, R238)? The read-only bits are not judged. -/
def dataOk (t : Nat) (d : List Nat) : Bool :=
  let a := d.getD 0 0
  let b := d.getD 1 0
  let c := d.getD 2 0
  if t = 0 then
    let ty := a % 8
    let dest := bitsAt a 4 14
    decide (ty ≤ 4) && bitsAt a 3 1 == 0 && bitsAt a 18 6 == 0 && bitsAt a 26 6 == 0 &&
    (if ty = 0 then decide (dest ≤ 64) else if ty = 1 then true else dest == 0) && b == 0 && c == 0
  else if t = 1 ∨ t = 2 then
    bitsAt a 2 2 == 0 && bitsAt a 5 11 == 0 && (a % 4 != 1 || decide (bitsAt a 16 16 ≤ 4095)) && b == 0 && c == 0
  else if t = 3 then decide (a % 4 ≤ 2) && bitsAt a 21 11 == 0 && bitsAt c 16 16 == 0
  else if t = 4 then decide (a ≤ 64) && b == 0 && c == 0
  else if t = 5 then decide (a ≤ 65535) && b == 0 && c == 0
  else bitsAt a 17 15 == 0 && bitsAt a 7 1 == 0 && (!a.testBit 1 || decide (0x80 ≤ bitsAt a 8 8)) && bitsAt b 16 16 == 0
/-- DATA0 without its read-only bits. -/
def plainData (t a : Nat) : Nat :=
  if t = 0 then clearBit (clearBit a 24) 25 else if t = 1 ∨ t = 2 then clearBit a 4 else a
/-- Index range of a table (R220). -/
def tableSize (t : Nat) : Nat := [66560, 33280, 32768, 65536, 4096, 262144, 4096].getD t 0
/-- The key of an ECC mark. -/
def eccKey (t i : Nat) : Nat := t * 2 ^ 20 + i
/-- Is an entry known uncorrectable (R254)? An LPM route carries its own mark. -/
def SliceTab.bad (T : SliceTab) (t i : Nat) : Bool :=
  if t = 2 then ((T.logical i).bind T.lpm.find?).any (·.bad) else T.ecc.get false (eccKey t i)
/-- An entry is written again, so its mark goes (R254). -/
def SliceTab.mend (T : SliceTab) (t i : Nat) : SliceTab := { T with ecc := T.ecc.erase (eccKey t i) }

/-- The number of dynamic entries that name a port (R240). -/
def learnCount (T : SliceTab) (p : Nat) : Nat :=
  (T.fdb.filter (fun x => match x.2 with
    | .entry e => e.dyn && e.data % 8 == 0 && bitsAt e.data 4 14 == p
    | .tomb _ => false)).length

/-- Static entries of a keyed table, as (index, entry). -/
def statics (m : Tab KSlot) : List (Nat × KEntry) :=
  m.filterMap (fun (i, k) => match k with
    | .entry e => if e.dyn then none else some (i, e)
    | .tomb _ => none)

/-- The valid entries of a keyed table, as (index, entry). -/
def xEntries (m : Tab KSlot) : List (Nat × KEntry) :=
  m.filterMap (fun (i, k) => match k with
    | .entry e => some (i, e)
    | .tomb _ => none)

end Sys2Proof.Machine
end

