-- ==== Sys2Proof/Machine/Lookup.lean ====
section
/-! DEFINITION. How a slice looks a frame up (R221 to R223, R230, R231, R233, R236 to R238, R254) and learns its source (R239 to R241). -/

namespace Sys2Proof.Machine

/-! ### Integrity -/

/-- A lookup reads an uncorrectable entry (R254): counted, raised, and a dynamic FDB entry deleted. -/
def eccEvent (sl t i : Nat) (s : State) : State :=
  let s := modTab sl (fun T => { T with eccUncorrected := satAdd 32 T.eccUncorrected 1 }) s
  let s := raise 83 sl (b1 t ++ zeros 3 ++ le 4 i) s
  match t, xAt (s.tab sl).fdb i with
  | 0, some e => if e.dyn then modTab sl (fun T => { T.mend 0 i with fdb := T.fdb.erase i }) s else s
  | _, _ => s

/-- The live rebuild operation of a slice, if there is one (R265). -/
def rebuildOp (s : State) (sl : Nat) : Option Op :=
  s.ops.find? (fun o => o.live && match o.work with
    | .rebuild i _ => i == sl
    | _ => false)

/-- An LPM parity error on a slot, as the host numbers slots (R233): in TCAM the slice goes to its hash store and firmware rebuilds; in REBUILD the slot becomes unusable and the rebuild restarts. -/
def tcamParity (sl slot : Nat) (s : State) : State :=
  match (s.tab sl).mode with
  | .tcam =>
    let s := modTab sl (fun T => { T with mode := .rebuild }) s
    let s := raise 85 sl (b1 2 ++ zeros 3 ++ le 2 slot) s
    let s := negWrite 0x0024 (b1 sl ++ b1 2 ++ le 2 slot) s
    (opStart 3 .firmware none none false (.rebuild sl false) s).2
  | .rebuild =>
    let s := modTab sl (fun T => if T.badSlots.contains slot then T else { T with badSlots := slot :: T.badSlots }) s
    match rebuildOp s sl with
    | some o => setOp { o with progress := 0 } s
    | none => s
  | _ => s

/-- What a lookup finds wrong as it reads (R254): a TCAM parity error of table 2 while the TCAM answers, else an uncorrectable entry. -/
def noteFault (sl : Nat) (s : State) (f : Nat × Nat) : State :=
  if f.1 = 2 ∧ (s.tab sl).mode = .tcam then tcamParity sl (f.2 / 2) s
  else if f.1 = 2 then
    modTab sl (fun T => match (T.logical f.2).bind (fun h => (T.lpm.find? h).map (fun r => (h, r))) with
      | some (h, r) => { T with lpm := T.lpm.set h { r with bad := true } }
      | none => T) s
  else modTab sl (fun T => { T with ecc := T.ecc.set (eccKey f.1 f.2) true }) s

/-! ### Keyed lookups -/

/-- An exact-match lookup: an uncorrectable entry is absent (R254). -/
def xLookup (sl t : Nat) (key : Bytes) (s : State) : Option (Nat × KEntry) × State :=
  match xFind ((s.tab sl).x t) key with
  | none => (none, s)
  | some (i, e) => if (s.tab sl).bad t i then (none, eccEvent sl t i s) else (some (i, e), s)

/-- An LPM lookup (R228, R230, R231): the route if any, the tokens it costs, and HIT set. In hash mode `p` probes cost 1 token up to 4, else p / 4 rounded up; the tokens beyond one are counted for the pace monitor. -/
def lpmLookup (sl : Nat) (v6 : Bool) (addr : Nat) (s : State) : Option Route × Nat × State :=
  let T := s.tab sl
  let hit (r : Option (Nat × Route)) (s : State) : State := match r with
    | some (i, x) => modTab sl (fun T => { T with lpm := T.lpm.set i { x with hit := true } }) s
    | none => s
  if T.mode = .tcam then
    let r := longest T v6 addr (fun _ => true)
    (r.map (·.2), 1, hit r s)
  else
    let r := hashLookup T v6 addr
    let s := r.bads.foldl (fun s i => eccEvent sl 2 (T.phys i) s) s
    let cost := if r.probes ≤ 4 then 1 else (r.probes + 3) / 4
    let s := if 4 < r.probes then modTab sl (fun T => { T with lpmSlow := satAdd 32 T.lpmSlow 1, extra := T.extra + (cost - 1) }) s else s
    (r.found.map (·.2), cost, hit r.found s)

/-! ### Classification (R237, R238) -/

/-- The KEY_TYPE a frame is matched under. -/
def keyType (b : Bytes) : Nat := if isV4 b then 1 else if isV6 b then 2 else 0

/-- A frame's classification key. -/
def frameKey (s : State) (p : Nat) (b : Bytes) : Nat :=
  let tci := (tci? b).getD 0
  let base := keyType b + p * 2 ^ 2 + tci / 8192 * 2 ^ 9 + frameVid s p b * 2 ^ 12 + (if (tci? b).isSome then 2 ^ 24 else 0)
  match keyType b with
  | 1 => base + beNat (ipSrc b) * 2 ^ 32 + beNat (ipDst b) * 2 ^ 64 + ipProto b * 2 ^ 96 + dscp b * 2 ^ 104 +
      ecn b * 2 ^ 110 + l4Src b * 2 ^ 112 + l4Dst b * 2 ^ 128 + tcpFlags b * 2 ^ 144 + (if isFragment b then 2 ^ 152 else 0)
  | 2 => base + beNat (ipSrc b) * 2 ^ 32 + beNat (ipDst b) * 2 ^ 160 + ipProto b * 2 ^ 288 + dscp b * 2 ^ 296 +
      l4Dst b * 2 ^ 304
  | _ => base + dstMac b * 2 ^ 32 + srcMac b * 2 ^ 80 + etherType b * 2 ^ 128

/-- Does a classification entry match a key? -/
def ClsEntry.hits (e : ClsEntry) (k : Nat) : Bool := !e.inert && e.key % 4 == k % 4 && (e.key ^^^ k) &&& e.mask == 0

/-- The lowest-index valid entry that matches; its match counter counts (R238). An uncorrectable entry that is read on the way does not match and is reported (R254). -/
def clsLookup (sl : Nat) (k : Nat) (s : State) : Option ClsEntry × State :=
  let T := s.tab sl
  let good := List.find? (fun (x : Nat × ClsEntry) => x.2.hits k && !T.bad 6 x.1) T.cls
  let read := T.cls.filter (fun x => x.2.hits k && T.bad 6 x.1 && (match good with
    | some g => decide (x.1 < g.1)
    | none => true))
  let s := read.foldl (fun s x => eccEvent sl 6 x.1 s) s
  match good with
  | none => (none, s)
  | some (i, e) => (some e, modTab sl (fun T => { T with cls := T.cls.set i { e with count := satAdd 32 e.count 1 } }) s)

/-! ### Next hops and ECMP (R235, R236) -/

/-- The hash of a frame for ECMP (R236). -/
def ecmpHash (s : State) (p : Nat) (b : Bytes) : Nat :=
  if isV4 b || isV6 b then crc32 (ipSrc b ++ ipDst b ++ b1 (ipProto b) ++ be 2 (l4Src b) ++ be 2 (l4Dst b))
  else crc32 (be 6 (srcMac b) ++ be 6 (dstMac b) ++ be 2 (frameVid s p b) ++ be 2 (etherType b))

/-- A decision: where the frame goes, and the rewrite and tagging of a routed one. -/
abbrev Decision := Dest × Option Rewrite × Option Bool

/-- The decision of a next hop (R221). An invalid entry drops as NH_DROP (DEDUCED). -/
def nextHop (sl i : Nat) (s : State) : Decision × State :=
  if (s.tab sl).bad 3 i then ((.drop 21, none, none), eccEvent sl 3 i s)
  else match (s.tab sl).nh.find? i with
    | none => ((.drop 19, none, none), s)
    | some e =>
      match e.d0 % 4 with
      | 0 => ((.port (bitsAt e.d0 2 6),
               some { dst := BitVec.ofNat 48 (bitsAt e.d2 0 16 * 2 ^ 32 + bitsAt e.d1 0 32), src := s.sys.deviceMac,
                      vid := bitsAt e.d0 9 12 },
               some (e.d0.testBit 8)), s)
      | 2 => ((.trap 3, none, none), s)
      | _ => ((.drop 19, none, none), s)

/-- The next hop an ECMP group gives a frame, or a drop. -/
def ecmp (sl g p : Nat) (b : Bytes) (s : State) : Decision × State :=
  if (s.tab sl).bad 4 g then ((.drop 21, none, none), eccEvent sl 4 g s)
  else
    let n := (s.tab sl).grp.get 0 g
    if n = 0 then ((.drop 20, none, none), s)
    else
      let k := g * 64 + ecmpHash s p b / 65536 % n
      if (s.tab sl).bad 5 k then ((.drop 21, none, none), eccEvent sl 5 k s)
      else match (s.tab sl).mbr.find? k with
        | none => ((.drop 19, none, none), s)
        | some i => nextHop sl i s

/-! ### The route of a frame (R221) -/

/-- A frame without a route is counted at its slice too (R221, R266). -/
def routeMissed (sl : Nat) (s : State) : State := modTab sl (fun T => { T with routeMiss := satAdd 32 T.routeMiss 1 }) s

/-- The routing steps of R221: the decision, and the tokens the lookup costs. -/
def route (sl p : Nat) (b : Bytes) (s : State) : Decision × Nat × State :=
  if !(isV4 b || isV6 b) then ((.drop 17, none, none), 1, routeMissed sl s)
  else if ttl b ≤ 1 then ((.trap 4, none, none), 1, s)
  else
    let v6 := isV6 b
    let h := xLookup sl 1 (hostKey v6 (ipDst b)) s
    let found : Option Nat × Nat × State := match h.1 with
      | some (i, e) => (some e.data, 1, modTab sl (fun T => { T with host := T.host.set i (.entry { e with hit := true }) }) h.2)
      | none =>
        let addr := if v6 then beNat (ipDst b) else beNat (ipDst b) * 2 ^ 96
        let r := lpmLookup sl v6 addr h.2
        (r.1.map (·.data), r.2.1, r.2.2)
    match found with
    | (none, cost, s) => ((.drop 17, none, none), cost, routeMissed sl s)
    | (some d, cost, s) =>
      match d % 4 with
      | 0 => let r := nextHop sl (bitsAt d 16 16) s; (r.1, cost, r.2)
      | 1 => let r := ecmp sl (bitsAt d 16 16) p b s; (r.1, cost, r.2)
      | 2 => ((.drop 18, none, none), cost, s)
      | _ => ((.trap 2, none, none), cost, s)

/-- Port 64 as a destination is the CPU port, with trap code 0 (R541). -/
def toPort (p : Nat) : Dest := if p = 64 then .trap 0 else .port p

/-- The decision from the FDB on (R221). -/
def bridge (sl p vid : Nat) (b : Bytes) (s : State) : Decision × Nat × State :=
  let f := xLookup sl 0 (fdbKey (dstMac b) vid) s
  match f.1 with
  | none => ((.flood vid, none, none), 1, f.2)
  | some (_, e) =>
    match e.data % 8 with
    | 0 => ((toPort (bitsAt e.data 4 14), none, none), 1, f.2)
    | 1 => ((.group (bitsAt e.data 4 14), none, none), 1, f.2)
    | 2 => ((.drop 16, none, none), 1, f.2)
    | 3 => ((.trap 1, none, none), 1, f.2)
    | _ => route sl p b f.2

/-- Is a new source on a port at its learn limit (R239, R240)? With LEARN_LIMIT 0 EXCESS is not invoked. -/
def overLimit (s : State) (sl p vid mac : Nat) : Bool :=
  let T := s.tab sl
  let lim := (s.l2 p).limit
  lim != 0 && !macMulticast mac && decide (lim ≤ learnCount T p) &&
  match xFind T.fdb (fdbKey mac vid) with
  | none => true
  | some (_, e) => e.dyn && bitsAt e.data 4 14 != p

/-- The result a slice forms for a frame (R221), with the tokens its lookup costs: classification first, then the EXCESS policy of a source over its limit, then the FDB. -/
def lookup (sl p rxTc : Nat) (b : Bytes) (s : State) : Result × Nat × State :=
  let vid := frameVid s p b
  let c := clsLookup sl (frameKey s p b) s
  let tc := match c.1 with
    | some a => if a.data0.testBit 3 then bitsAt a.data0 4 3
                else if (s.port p).cfg.dalom then rxTc else mapClass s p b
    | none => if (s.port p).cfg.dalom then rxTc else mapClass s p b
  let atLimit := overLimit s sl p vid (srcMac b)
  let s := c.2
  let fdb : Bool × Decision × Nat × State := if atLimit then (true, (.flood vid, none, none), 1, s) else (false, bridge sl p vid b s)
  let rest : Bool × Decision × Nat × State :=
    if atLimit && (s.l2 p).drop then (true, (.drop 23, none, none), 1, s)
    else match c.1 with
      | some a =>
        if a.data0.testBit 0 then (false, (.drop 15, none, none), 1, s)
        else if a.data0.testBit 1 then (false, (.trap (bitsAt a.data0 8 8), none, none), 1, s)
        else if a.data0.testBit 2 then
          if a.data0.testBit 16 then let r := nextHop sl (bitsAt a.data1 0 16) s; (false, r.1, 1, r.2)
          else (false, (toPort (bitsAt a.data1 0 16), none, none), 1, s)
        else fdb
      | none => fdb
  ({ dest := rest.2.1.1, tc := tc, vid := vid, tagged := (tci? b).isSome, egressTag := rest.2.1.2.2, rewrite := rest.2.1.2.1,
     epoch := s.epoch (quadOf p), slice := sl, excess := rest.1 }, rest.2.2.1, rest.2.2.2)

/-- The EXCESS policy has acted on a frame the queue manager took (R240): the slice's limit count, and LEARN_LIMIT_FLOOD of a flooded one; a dropped one is counted as it is dropped. -/
def noteExcess (p : Nat) (r : Result) (s : State) : State :=
  if !r.excess then s
  else
    let s := modTab r.slice (fun T => { T with learnLimit := satAdd 32 T.learnLimit 1 }) s
    match r.dest with
    | .flood _ => cntPort p 24 1 s
    | _ => s

/-! ### Learning (R239 to R241) -/

/-- Fill a slice's learning bucket to now, at most LEARN_BURST inserts (R241). -/
def fillLearn (sl : Nat) (s : State) : State :=
  modTab sl (fun T =>
    { T with bucket := min (s.tables.learnBurst * secTicks) (T.bucket + s.tables.learnRate * (s.clk.now - T.bucketAt)),
             bucketAt := s.clk.now }) s

/-- Insert a dynamic entry for a new source, under the limit, the rate and steps 2 and 3 of R225. -/
def learnNew (sl p : Nat) (key : Bytes) (s : State) : State :=
  let lim := (s.l2 p).limit
  if lim ≤ learnCount (s.tab sl) p then s
  else
    let s := fillLearn sl s
    if (s.tab sl).bucket < secTicks then modTab sl (fun T => { T with rateSkip := satAdd 32 T.rateSkip 1 }) s
    else
      let pl := placeNew 0 (s.tab sl).fdb key
      modTab sl (fun T =>
        let T := { T with bucket := T.bucket - secTicks }
        if pl = .full then { T with learnFull := satAdd 32 T.learnFull 1 }
        else { T with ecc := placeMarks 0 T.ecc pl, fdb := placeCommit T.fdb { key := key, data := p * 16, dyn := true, hit := true } pl }) s

/-- Learn the source of an accepted frame (R239). -/
def learn (sl p : Nat) (b : Bytes) (s : State) : State :=
  let mac := srcMac b
  let key := fdbKey mac (frameVid s p b)
  if macMulticast mac || !s.forwarding then s
  else match xFind (s.tab sl).fdb key with
    | none => learnNew sl p key s
    | some (i, e) =>
      if (s.tab sl).bad 0 i then
        let s := eccEvent sl 0 i s
        if e.dyn then learnNew sl p key s else s
      else if !e.dyn then
        if e.data % 8 = 0 ∧ bitsAt e.data 4 14 = p then s
        else if e.data % 8 = 0 then modTab sl (fun T => { T with staticConflict := satAdd 32 T.staticConflict 1 }) s
        else s
      else if bitsAt e.data 4 14 = p then modTab sl (fun T => { T with fdb := T.fdb.set i (.entry { e with hit := true }) }) s
      else
        let s := modTab sl (fun T => { T with moves := satAdd 32 T.moves 1 }) s
        if (s.l2 p).limit ≤ learnCount (s.tab sl) p then modTab sl (fun T => { T with fdb := T.fdb.erase i }) s
        else modTab sl (fun T => { T with fdb := T.fdb.set i (.entry { e with data := p * 16, hit := true }) }) s

end Sys2Proof.Machine
end

