-- ==== Sys2Proof/Machine/Window.lean ====
section
/-! DEFINITION. The operations of the table access windows (R244 to R250), and the broadcast operations bulk loads make of them (R248, R258, R259). -/

namespace Sys2Proof.Machine

/-- What an operation answers in a window's registers (R244, R246): `load` is the key, mask and data of the entry found. -/
structure TawOut where
  code : Nat
  rindex : Nat
  moves : Nat
  dyn : Bool
  overflow : Bool
  load : Option (Nat × Nat × List Nat)
  deriving DecidableEq, Repr

/-- A bare result code. -/
def TawOut.bare (c : Nat) : TawOut := { code := c, rindex := 0, moves := 0, dyn := false, overflow := false, load := none }

/-- Slices neither DECLARED_DEAD nor in QUARANTINE, lowest first (R248). -/
def healthy (s : State) : List Nat :=
  (List.range 17).filter (fun i => (s.slice i).st != .dead && (s.slice i).st != .quarantine)

/-- Is a half-open write refused: SAFE, SLEEP or RETIRED (R246)? -/
def writesDenied (s : State) : Bool := s.sys.mode == .safe || s.pwr.state == .sleep || s.nv.lifecycle == .retired

/-- Operations that write. -/
def tawWrites (op : Nat) : Bool := op == 2 || op == 3 || op == 4 || op == 6

/-- The slices an operation of a window reaches, and the one that answers (R248, R249). -/
def tawTargets (s : State) (w : Nat) : List Nat × List Nat × Nat :=
  if w < 17 then ([w], [w], w) else (List.range 17, healthy s, (healthy s).headD 0)

/-- The data words of an exact-match entry as a read shows them (R227). -/
def xData (t : Nat) (e : KEntry) : List Nat :=
  if t = 0 then [e.data + (if e.dyn then 2 ^ 24 else 0) + (if e.hit then 2 ^ 25 else 0), 0, 0]
  else [e.data + (if e.hit then 16 else 0), 0, 0]

/-- The answer that loads an exact-match entry. -/
def xLoad (t i : Nat) (e : KEntry) : TawOut :=
  { code := 0, rindex := i, moves := 0, dyn := e.dyn, overflow := decide (4 * xBuckets t ≤ i),
    load := some (xKeyWords t e.key, 0, xData t e) }

/-- The window key of a route (R229). -/
def routeKey (r : Route) : Nat := (if r.v6 then 1 else 0) + r.len * 256 + addrKey r.pfx

/-- The answer that loads a route. -/
def routeLoad (T : SliceTab) (h : Nat) (r : Route) : TawOut :=
  { code := 0, rindex := T.phys h, moves := 0, dyn := false, overflow := false,
    load := some (routeKey r, 0, [r.data + (if r.hit then 16 else 0), 0, 0]) }

/-- READ_INDEX (R226, R247, R254). -/
def tawRead (T : SliceTab) (t i : Nat) : TawOut :=
  if T.bad t i then { TawOut.bare 4 with rindex := i }
  else match t with
  | 0 => match T.fdb.find? i with
    | some (.entry e) => xLoad 0 i e
    | some (.tomb j) => { TawOut.bare 3 with rindex := j }
    | none => TawOut.bare 1
  | 1 => match T.host.find? i with
    | some (.entry e) => xLoad 1 i e
    | some (.tomb j) => { TawOut.bare 3 with rindex := j }
    | none => TawOut.bare 1
  | 2 => match T.logical i with
    | none => TawOut.bare 1
    | some h => match T.lpm.find? h, T.lpmTomb.find? h with
      | some r, _ => routeLoad T h r
      | none, some j => { TawOut.bare 3 with rindex := T.phys j }
      | none, none => TawOut.bare 1
  | 3 => match T.nh.find? i with
    | some e => { TawOut.bare 0 with rindex := i, load := some (0, 0, [e.d0, e.d1, e.d2]) }
    | none => TawOut.bare 1
  | 4 => match T.grp.find? i with
    | some e => { TawOut.bare 0 with rindex := i, load := some (0, 0, [e, 0, 0]) }
    | none => TawOut.bare 1
  | 5 => match T.mbr.find? i with
    | some e => { TawOut.bare 0 with rindex := i, load := some (0, 0, [e, 0, 0]) }
    | none => TawOut.bare 1
  | _ => match T.cls.find? i with
    | some e => { TawOut.bare 0 with rindex := i, load := some (e.key, e.mask, [e.data0, e.data1, e.count]) }
    | none => TawOut.bare 1

/-- Write an indexed entry in one slice (R247); a rewritten CLS slot matches again (R255). -/
def idxWrite (t i key mask : Nat) (d : List Nat) (T : SliceTab) : SliceTab :=
  let T := T.mend t i
  match t with
  | 3 => { T with nh := T.nh.set i { d0 := d.getD 0 0, d1 := d.getD 1 0, d2 := d.getD 2 0 } }
  | 4 => { T with grp := T.grp.set i (d.getD 0 0) }
  | 5 => { T with mbr := T.mbr.set i (d.getD 0 0) }
  | _ => { T with cls := T.cls.set i { key := key, mask := mask, data0 := d.getD 0 0, data1 := d.getD 1 0, count := 0, inert := false } }

/-- Invalidate an indexed entry in one slice. -/
def idxErase (t i : Nat) (T : SliceTab) : SliceTab :=
  let T := T.mend t i
  match t with
  | 3 => { T with nh := T.nh.erase i }
  | 4 => { T with grp := T.grp.erase i }
  | 5 => { T with mbr := T.mbr.erase i }
  | _ => { T with cls := T.cls.erase i }

/-- Is an indexed entry valid? -/
def idxValid (t i : Nat) (T : SliceTab) : Bool :=
  match t with
  | 3 => (T.nh.find? i).isSome
  | 4 => (T.grp.find? i).isSome
  | 5 => (T.mbr.find? i).isSome
  | _ => (T.cls.find? i).isSome

/-- Apply a change to the tables of every slice of a list. -/
def onSlices (l : List Nat) (f : SliceTab → SliceTab) (s : State) : State := l.foldl (fun s i => modTab i f s) s

/-- Insert into FDB or HOST in one slice (R225), as planned. -/
def xInsert (t : Nat) (key : Bytes) (data : Nat) (T : SliceTab) : SliceTab :=
  let p := placeHost t (T.x t) key
  let e : KEntry := { key := key, data := data, dyn := false, hit := match xFind (T.x t) key with
    | some (_, o) => o.hit
    | none => false }
  let T := match p with
    | .evict _ => { T with learnEvict := satAdd 32 T.learnEvict 1 }
    | _ => T
  if p = .full then T else ({ T with ecc := placeMarks t T.ecc p }).setX t (placeCommit (T.x t) e p)

/-- Insert a route in one slice (R228, R229); answers the moves, or none where it is full. -/
def routeInsert (r : Route) (T : SliceTab) : Option (SliceTab × Nat) :=
  match routeFind T r.v6 r.len r.pfx with
  | some (h, o) => some (storeWrite { o with data := r.data, bad := false } { T with lpm := T.lpm.set h { o with data := r.data, bad := false } }, 0)
  | none => if T.fits [r] then some (relayout T.lpm [r] (storeWrite r T)) else none

/-- Delete a route in one slice (R228); the filter's delete count rises (R232). -/
def routeDelete (v6 : Bool) (len pfx : Nat) (T : SliceTab) : SliceTab × Nat :=
  match routeFind T v6 len pfx with
  | none => (T, 0)
  | some (h, _) => relayout (T.lpm.erase h) [] (storeErase v6 len pfx T)

/-- The answer of a DELETE or CLEAR_HIT by key (R244): OK where a slice the operation reaches holds the key, with the index, DYNAMIC and OVERFLOW of the answering slice's entry. DESIGN CHOICE (log 61): a key that only slices in quarantine or dead ones hold answers OK, with those fields zero. -/
def keyedOut (found : Bool) (t : Nat) (e : Option (Nat × KEntry)) : TawOut :=
  { TawOut.bare (if found then 0 else 1) with
    rindex := (e.map (·.1)).getD 0, dyn := e.any (fun x => x.2.dyn), overflow := e.any (fun x => decide (4 * xBuckets t ≤ x.1)) }

/-- Operations on FDB and HOST by key. -/
def tawExact (w op t key : Nat) (data : List Nat) (i : Nat) (s : State) : TawOut × State :=
  let tg := tawTargets s w
  let k := xKey t key
  let d := plainData t (data.getD 0 0)
  let A := s.tab tg.2.2
  match op with
  | 5 => match xFind (A.x t) k with
    | some (j, e) => if A.bad t j then ({ TawOut.bare 4 with rindex := j }, s) else (xLoad t j e, s)
    | none => (TawOut.bare 1, s)
  | 2 =>
    let fits := (ways (bucket1 t k) ++ ways (bucket2 t k)).contains i || decide (4 * xBuckets t ≤ i)
    if !fits then (TawOut.bare 7, s)
    else
      let f (T : SliceTab) : SliceTab :=
        let m := match xFind (T.x t) k with
          | some (j, _) => (T.x t).erase j
          | none => T.x t
        (T.mend t i).setX t (m.set i (.entry { key := k, data := d, dyn := false, hit := (xFind (T.x t) k).any (fun x => x.2.hit) }))
      ({ TawOut.bare 0 with rindex := i, overflow := decide (4 * xBuckets t ≤ i) }, onSlices tg.1 f s)
  | 3 =>
    if tg.2.1.any (fun j => placeHost t ((s.tab j).x t) k == .full) then (TawOut.bare 2, s)
    else
      let p := placeHost t (A.x t) k
      ({ TawOut.bare 0 with rindex := p.index, moves := min 255 p.moves, overflow := decide (4 * xBuckets t ≤ p.index) },
       onSlices tg.1 (xInsert t k d) s)
  | 4 =>
    let found := tg.1.any (fun j => (xFind ((s.tab j).x t) k).isSome)
    let f (T : SliceTab) : SliceTab := match xFind (T.x t) k with
      | some (j, _) => (T.mend t j).setX t ((T.x t).erase j)
      | none => T
    (keyedOut found t (xFind (A.x t) k), onSlices tg.1 f s)
  | _ =>
    let found := tg.1.any (fun j => (xFind ((s.tab j).x t) k).isSome)
    let f (T : SliceTab) : SliceTab := match xFind (T.x t) k with
      | some (j, e) => T.setX t ((T.x t).set j (.entry { e with hit := false }))
      | none => T
    (keyedOut found t (xFind (A.x t) k), onSlices tg.1 f s)

/-- Operations on LPM by key. -/
def tawLpm (w op key : Nat) (data : List Nat) (i : Nat) (s : State) : TawOut × State :=
  let tg := tawTargets s w
  let A := s.tab tg.2.2
  let v6 := key.testBit 0
  let len := lpmLen key
  let pfx := keyAddr key
  let d := plainData 2 (data.getD 0 0)
  if op = 5 && len = 0xFF then
    match longest A v6 pfx (fun h => A.mode == .tcam || !((A.lpm.find? h).any (·.bad))) with
    | some (h, r) => (routeLoad A h r, s)
    | none => (TawOut.bare 1, s)
  else if !lpmKeyOk key then (TawOut.bare 7, s)
  else match op with
  | 5 => match routeFind A v6 len pfx with
    | some (h, r) => if r.bad then ({ TawOut.bare 4 with rindex := A.phys h }, s) else (routeLoad A h r, s)
    | none => (TawOut.bare 1, s)
  | 2 =>
    if A.mode = .rebuild ∨ A.mode = .selftest then (TawOut.bare 5, s)
    else match routeFind A v6 len pfx with
      | some (h, r) =>
        if A.phys h = i then
          ({ TawOut.bare 0 with rindex := i },
           onSlices tg.1 (fun T => storeWrite { r with data := d } { T with lpm := T.lpm.set h { r with data := d, bad := false } }) s)
        else (TawOut.bare 7, s)
      | none => (TawOut.bare 7, s)
  | 3 =>
    let r : Route := { v6 := v6, len := len, pfx := pfx, data := d, hit := false, bad := false }
    if tg.2.1.any (fun j => (routeInsert r (s.tab j)).isNone) then (TawOut.bare 2, s)
    else
      let f (T : SliceTab) : SliceTab := match routeInsert r T with
        | some x => x.1
        | none => T
      let s' := onSlices tg.1 f s
      let B := s'.tab tg.2.2
      ({ TawOut.bare 0 with rindex := B.phys (((routeFind B v6 len pfx).map (·.1)).getD 0),
                            moves := min 255 (((routeInsert r A).map (·.2)).getD 0) }, s')
  | 4 =>
    let found := tg.1.any (fun j => (routeFind (s.tab j) v6 len pfx).isSome)
    ({ TawOut.bare (if found then 0 else 1) with
        rindex := ((routeFind A v6 len pfx).map (fun x => A.phys x.1)).getD 0, moves := min 255 (routeDelete v6 len pfx A).2 },
     onSlices tg.1 (fun T => (routeDelete v6 len pfx T).1) s)
  | _ =>
    let found := tg.1.any (fun j => (routeFind (s.tab j) v6 len pfx).isSome)
    let f (T : SliceTab) : SliceTab := match routeFind T v6 len pfx with
      | some (h, r) => { T with lpm := T.lpm.set h { r with hit := false } }
      | none => T
    ({ TawOut.bare (if found then 0 else 1) with rindex := ((routeFind A v6 len pfx).map (fun x => A.phys x.1)).getD 0 },
     onSlices tg.1 f s)

/-- Operations on indexed tables. -/
def tawIndexed (w op t key mask : Nat) (data : List Nat) (i : Nat) (s : State) : TawOut × State :=
  let tg := tawTargets s w
  let had := idxValid t i (s.tab tg.2.2)
  match op with
  | 1 => (tawRead (s.tab tg.2.2) t i, s)
  | 2 =>
    if !dataOk t data || (t == 6 && !clsKeyOk key mask) then (TawOut.bare 7, s)
    else ({ TawOut.bare 0 with rindex := i }, onSlices tg.1 (idxWrite t i key mask data) s)
  | 4 => ({ TawOut.bare (if had then 0 else 1) with rindex := i }, onSlices tg.1 (idxErase t i) s)
  | _ =>
    let f (T : SliceTab) : SliceTab := match T.cls.find? i with
      | some e => { T with cls := T.cls.set i { e with count := 0 } }
      | none => T
    ({ TawOut.bare (if had then 0 else 1) with rindex := i }, onSlices tg.1 f s)

/-- An operation of window `w` (17 is the broadcast window) as it runs (R246 to R249). -/
def tawExec (w op t key mask : Nat) (data : List Nat) (i : Nat) (s : State) : TawOut × State :=
  let keyed := decide (t ≤ 2)
  if 6 < t ∨ op = 0 ∨ 6 < op then (TawOut.bare 7, s)
  else if tawWrites op && writesDenied s then (TawOut.bare 5, s)
  else if w = 17 && (healthy s).isEmpty then (TawOut.bare 5, s)
  else if tawWrites op && decide (w < 17) && (s.slice w).st == .dead then (TawOut.bare 5, s)
  else if keyed && (op == 1 || op == 2) && w == 17 then (TawOut.bare 7, s)
  else if !keyed && (op == 3 || op == 5 || (op == 6 && t != 6)) then (TawOut.bare 7, s)
  else if (op == 1 || op == 2 || !keyed) && decide (tableSize t ≤ i) then (TawOut.bare 7, s)
  else if keyed && op == 1 then (tawRead (s.tab w) t i, s)
  else if keyed && !keyOk t key then (TawOut.bare 7, s)
  else if keyed && (op == 2 || op == 3) && !dataOk t data then (TawOut.bare 7, s)
  else if t = 2 then tawLpm w op key data i s
  else if keyed then tawExact w op t key data i s
  else tawIndexed w op t key mask data i s

/-- Put an answer into a window's registers, and BUSY ends (R244). -/
def tawFinish (w : Nat) (o : TawOut) (s : State) : State :=
  modWin w (fun q =>
    let q := { q with busy := false, code := o.code, rindex := o.rindex, moves := o.moves, dyn := o.dyn, overflow := o.overflow }
    match o.load with
    | some (k, m, d) => { q with key := k, mask := m, data := d }
    | none => q) s

/-- Run the operation a window holds. -/
def tawRun (w : Nat) (s : State) : State :=
  let q := s.win w
  let r := tawExec w q.op q.table q.key q.mask q.data q.index s
  tawFinish w r.1 r.2

/-- The windows that wait at a slice's maintenance port and come before contender `k` in turn (R251): 0 is the slice's own window, 1 the broadcast window, 2 bulk load, 3 learning, 4 the ageing sweep, 5 shadow compare, 6 the scrub. Only windows wait in the state; the other contenders ask by their rows. -/
def portAhead (sl k : Nat) (s : State) : List Nat :=
  let t := s.tables.turns.get 0 sl
  ([(0, sl), (1, 17)].filter (fun (x : Nat × Nat) => x.1 != k && decide ((x.1 + 7 - t % 7) % 7 < (k + 7 - t % 7) % 7) && (s.win x.2).busy)).map (·.2)

/-- Contender `k` of a slice's maintenance port is granted, after the windows ahead of it; the one after it is next in turn (R251). -/
def portGrant (sl k : Nat) (s : State) : State :=
  let s := (portAhead sl k s).foldl (fun s w => tawRun w s) s
  { s with tables := { s.tables with turns := s.tables.turns.set sl ((k + 1) % 7) } }

/-- The same on every slice, for a contender that reaches them all. -/
def portGrants (k : Nat) (s : State) : State := (List.range 17).foldl (fun s sl => portGrant sl k s) s

/-- The host writes TAW_CMD (R244): ignored with OVERRUN while BUSY is set; OP non-zero starts an operation. -/
def tawCommand (w op t : Nat) (s : State) : State :=
  if (s.win w).busy then modWin w (fun q => { q with overrun := true }) s
  else modWin w (fun q => { q with op := op, table := t, busy := decide (op ≠ 0) }) s

/-- One record of a bulk load as a broadcast operation (R248, R258, R259); answers its result code. -/
def bulkRecord (t op : Nat) (r : Bytes) (i : Nat) (s : State) : Nat × State :=
  if r.length < 96 then (7, s)
  else
    let data := [field r 80 4, field r 84 4, field r 88 4]
    if field r 92 4 / 2 ≠ 0 then (7, s)
    else if op = 2 && field r 92 4 == 0 then
      let x := tawExec 17 4 t 0 0 data i s
      (if x.1.code = 1 then 0 else x.1.code, x.2)
    else
      let x := tawExec 17 op t (field r 0 40) (field r 40 40) data i s
      (x.1.code, x.2)

end Sys2Proof.Machine
end

