-- ==== Sys2Proof/Machine/Frames.lean ====
section
/-! DEFINITION. A received frame on its way to a queue: the grant point (R271 to R273, R286 to R288), its end (R142, R146, R272), the slice's lookup (R22, R221), the acceptance of its result (R9, R298, R314, R324), and received pause frames (R205, R206). -/

namespace Sys2Proof.Machine

/-- Does the core move and transmit frames (R37, R45, R48): while the device forwards, and while a commanded QUIESCE drains? -/
def State.moves (s : State) : Bool := s.forwarding || s.sys.draining

/-! ### Grant (R271, R273, R287, R288) -/

/-- What admission decides (R287): the charge, the tiers to try, and the headroom bytes charged; or a drop counted at a class counter of the ingress port. -/
inductive Admit where
  | take (c : Charge) (tiers : List Bool) (head : Nat)
  | drop (idx : Nat)
  deriving DecidableEq, Repr

/-- Headroom bytes of a frame (R283): its length on an Ethernet port, its credit charge × 640 on a Dalom port. -/
def headroomCharge (dalom : Bool) (size : Nat) : Nat := if dalom then creditCharge size * 640 else size

/-- Admission into headroom, or an overflow (R204). -/
def admitHeadroom (p tc size : Nat) (s : State) : Admit × State :=
  let k := s.fc p tc
  let need := headroomCharge (s.port p).cfg.dalom size
  if k.reserved < headroomOf s p tc k.gen + need then (.drop 6, raise 73 p (b1 tc) s)
  else (.take .headroom [k.deep] need, s)

/-- Tier and charge of a frame (R287): minimum, headroom under XOFF, shared near then deep, headroom with XOFF asserted, or a threshold drop. -/
def admission (p tc size : Nat) (dest : Dest) (s : State) : Admit × State :=
  let k := s.fc p tc
  let dal := (s.port p).cfg.dalom
  let ll := s.lossless p tc
  if ll && (dal || !k.xoff) && decide (minUse s p tc + bufFor false size ≤ k.minKiB * 1024) then (.take .minimum [false] 0, s)
  else if ll && !dal && k.xoff then admitHeadroom p tc size s
  else
    let near := sharedAdmits s p tc (bufFor false size) dest false
    let deep := k.deepAllow && sharedAdmits s p tc (bufFor true size) dest true
    if near || deep then (.take .shared ((if near then [false] else []) ++ (if deep then [true] else [])) 0, s)
    else if ll then admitHeadroom p tc size (if dal then s else assertXoff p tc s)
    else (.drop 4, s)

/-- A frame record with no buffer yet. -/
def newFrame (s : State) (p rxTc tc : Nat) (head : Bytes) (size : Nat) (stamp : Int) : Frame :=
  { id := s.core.nextFrame, inPort := p, tc := tc, bytes := head, len := head.length, complete := false, good := true,
    overrun := false, stage := .receiving, size := size, handle := 0, buffered := false,
    owner := s.quadSlice (quadOf p), inFlight := false, charge := .shared, deep := false, chargeBytes := 0, bufBytes := 0,
    stamp := stamp, gen := s.nv.timeGen, voq := noKey, result := none, accepted := false, express := false,
    crossed := 0, residue := 0, fanout := 0, members := [], queueKey := noKey, rxTc := rxTc, resv := 0, resolved := false }

/-- Frames that are not switched: MAC control (R206), ESMC, and in-band commands to the device (R71). -/
def ownTraffic (s : State) (b : Bytes) : Bool :=
  etherType b == 0x8808 || etherType b == 0x8809 || (etherType b == 0x88B5 && dstMac b == s.sys.deviceMac.toNat)

/-- Is a port's quad served by no working slice: unserved, or between a declaration and the takeover (R325, R326)? -/
def quadLost (s : State) (p : Nat) : Bool :=
  s.quadDown (quadOf p) || (s.slice (s.quadSlice (quadOf p))).st == .dead || (s.slice (s.quadSlice (quadOf p))).st == .quarantine

/-- Count a takeover drop of a port's class and of the slice that served its quad (R325, R326, R335). -/
def takeoverDrop (p tc : Nat) (s : State) : State :=
  modSlice (s.quadSlice (quadOf p)) (fun r => { r with takeoverDrops := satAdd 32 r.takeoverDrops 1 }) (cntClass p tc 8 1 s)

/-- Put a buffer under a frame as admission and the pools allow (R273, R287). -/
def buffer (f : Frame) (dest : Dest) (s : State) : Frame × State :=
  match admission f.inPort f.tc f.size dest s with
  | (.drop k, s) => (f, cntClass f.inPort f.tc k 1 s)
  | (.take c tiers head, s) =>
    match allocate f.owner f.size tiers s with
    | (none, s) => (f, cntClass f.inPort f.tc 5 1 s)
    | (some h, s) =>
      ({ f with handle := h, buffered := true, charge := c, deep := poolDeep (handlePool h), chargeBytes := head,
                bufBytes := poolBufSize (handlePool h), resv := (s.fc f.inPort f.tc).gen, voq := ((queueOf s f.inPort f.tc dest).map (·.1)).getD noKey }, s)

/-- Put a buffer under a frame that no threshold judges: own traffic and frames of firmware, from the near tier, then the deep one (log 115). While POOL_CONFIG waits for buffers it is refused one; a refusal is counted in DROPS of the smallest pool that fits (R273, R292). -/
def ownBuffer (f : Frame) (s : State) : Frame × State :=
  if s.core.poolsHold.isSome then (f, poolDrop ((poolsFor false f.size).headD 3) s)
  else match allocate f.owner f.size [false, true] s with
    | (none, s) => (f, s)
    | (some h, s) =>
      ({ f with handle := h, buffered := true, deep := poolDeep (handlePool h), bufBytes := poolBufSize (handlePool h) }, s)

/-- A frame that a row brings whole is granted a buffer and lets it go once it is processed (R271, R292); answers whether it was granted one. -/
def passBuffer (owner size : Nat) (s : State) : Bool × State :=
  if s.core.poolsHold.isSome then (false, poolDrop ((poolsFor false size).headD 3) s)
  else match allocate owner size [false, true] s with
    | (none, s) => (false, s)
    | (some h, s) => (true, freeHandle h owner 1 s)

/-- A frame that a row brings to a port for firmware: where the port is up it is granted a buffer, and it is lost where it finds none (R271, R292). -/
def heard (p size : Nat) (f : State → State) (s : State) : State :=
  if !(s.port p).isUp then f s
  else
    let x := passBuffer (s.quadSlice (quadOf p)) size s
    if x.1 then f x.2 else x.2

/-- The grant point of a frame (R271): its class and queue from the lookup as it stands, then a buffer; outside the modes that forward the frame takes none and is counted (R37, R45, R48). A frame that is not switched is marked accepted, without a result. Answers the frame's identifier. -/
def grantPoint (p rxTc : Nat) (head : Bytes) (ended : Bool) (stamp : Int) (s : State) : Nat × State :=
  let size := grantSize (s.port p).cfg.maxFrame head ended
  let r := (lookup (s.quadSlice (quadOf p)) p rxTc head s).1
  let f := newFrame s p rxTc r.tc head size stamp
  let x : Frame × State :=
    if ownTraffic s head then ownBuffer { f with accepted := true } s
    else if s.sys.mode = .provision ∨ s.sys.mode = .quiesce ∨ s.sys.mode = .safe then (f, cntPort p 8 1 s)
    else if s.pausedMode && !s.lossless p r.tc then (f, cntClass p r.tc 4 1 s)
    else if quadLost s p then (f, takeoverDrop p r.tc s)
    else buffer f r.dest s
  (f.id, modCore (fun c => { c with frames := c.frames ++ [x.1], nextFrame := c.nextFrame + 1 }) x.2)

/-! ### Received flow control (R205, R206) -/

/-- The pause of a class ends, and a detector record of it clears (R317). -/
def unpause (p c : Nat) (s : State) : State :=
  modCore (fun q => { q with deadlocks := q.deadlocks.filter (fun d => !(d.port == p && d.tc == c)) })
    (modFc p c (fun k => { k with paused := false, pauseEnd := s.clk.now, pausedSince := none }) s)

/-- Pause a class until an instant; a pause time of 0 ends it. -/
def pauseClass (p c quanta : Nat) (s : State) : State :=
  let rate := speedBytes (s.port p).cfg.speed
  let k := s.fc p c
  if quanta = 0 then unpause p c s
  else modFc p c (fun _ => { k with paused := true, pauseEnd := s.clk.now + quanta * 64 * secTicks / rate,
                                    pausedSince := some (k.pausedSince.getD s.clk.now) }) s

/-- A PFC frame on an UP or ACTIVE port: a vector of priorities and a time for each (R205, R206). A Dalom port has FC_MODE 0 (R197), so there it is only counted. -/
def pfcRx (p vec : Nat) (times : List Nat) (s : State) : State :=
  if !(s.port p).isUp then s
  else if (s.flow p).mode ≠ 2 then cntPort p 10 1 s
  else
    (List.range 8).foldl (fun s c =>
      let prio := (s.flow p).prio.getD c c
      if vec.testBit prio then pauseClass p c (times.getD prio 0) s else s) (cntPort p 13 1 s)

/-- A PAUSE frame (R205, R206). -/
def pauseRx (p quanta : Nat) (s : State) : State :=
  if !(s.port p).isUp then s
  else if (s.flow p).mode ≠ 1 then cntPort p 10 1 s
  else (List.range 8).foldl (fun s c => pauseClass p c quanta s) (cntPort p 12 1 s)

/-- A MAC control frame, by its opcode: 0x0101 PFC, 0x0001 PAUSE, any other discarded and counted. -/
def macControl (p : Nat) (b : Bytes) (s : State) : State :=
  let o := l3Off b
  match beNat (slice b o 2) with
  | 0x0101 => pfcRx p (beNat (slice b (o + 2) 2)) ((List.range 8).map (fun i => beNat (slice b (o + 4 + 2 * i) 2))) s
  | 0x0001 => pauseRx p (beNat (slice b (o + 2) 2)) s
  | _ => cntPort p 10 1 s

/-! ### Into the queues (R9, R298) -/

/-- Send an accepted frame where its result says (R221, R298): dropped and counted, trapped, or queued. Towards a port that is not up it is a link-down discard (R142), and a Stop bath takes arrivals of its selection (R318). Where the device does not forward it goes no further: in PROVISION counted as R37 has it, in QUIESCE as an arrival to a drained queue, or as a QUIESCE drop once the drain has ended (R48). -/
def dispose (f : Frame) (r : Result) (s : State) : State :=
  let put (key : Nat) (s : State) : State :=
    if bathTakes s f.inPort f.tc key then giveUp f.id (cntBath f s)
    else enqueue key f.id (setFrame { f with stage := .queued, queueKey := key } s)
  if s.sys.mode = .provision ∨ s.sys.mode = .safe then giveUp f.id (cntPort f.inPort 8 1 s)
  else if s.sys.mode = .quiesce then giveUp f.id (if s.sys.draining then cntBath f s else cntPort f.inPort 8 1 s)
  else match r.dest with
  | .drop k => giveUp f.id (cntPort f.inPort k 1 s)
  | .trap _ => put (trapKey f.inPort f.tc) (cntPort f.inPort 14 1 s)
  | .group _ => put (mcKey f.inPort f.tc) s
  | .flood _ => put (mcKey f.inPort f.tc) s
  | .port j =>
    if (s.port j).isUp then put (voqKey f.inPort j f.tc) s
    else giveUp f.id (cntClass j f.tc 11 1 s)

/-- Is a slice dead or in quarantine (R324, R327)? -/
def sliceOut (s : State) (i : Nat) : Bool := (s.slice i).st == .dead || (s.slice i).st == .quarantine

/-- A frame that is complete with a good FCS and whose result is accepted is learned from, by a slice in service (R327), and becomes eligible (R9, R239). -/
def eligible (id : Nat) (s : State) : State :=
  match s.frame? id with
  | none => s
  | some f =>
    match f.result with
    | some r =>
      if f.complete && f.good && f.accepted && f.buffered then
        let s := noteExcess f.inPort r s
        let s := if sliceOut s r.slice || !s.forwarding then s else learn r.slice f.inPort f.bytes (portGrant r.slice 3 s)
        if f.stage = .receiving then dispose f r s else s
      else s
    | none => s

/-! ### The end of a frame -/

/-- Is the FCS of a frame good? -/
def fcsGood (b : Bytes) : Bool := crc32 (b.take (b.length - 4)) == leNat (b.drop (b.length - 4))

/-- The verdict on an ended frame: the port counter of what is wrong, if anything is (R142, R146, R164). -/
def endFault (maxFrame : Nat) (b : Bytes) : Option Nat :=
  if b.length < 64 then some 6
  else if maxFrame < b.length then some 7
  else if !fcsGood b then some 4
  else none

/-- Discard a frame that ended badly: one that had cut through is finished bad for `cause` (R315). -/
def endBad (id cause : Nat) (s : State) : State := settle (dropFrame id (badExpressAll id cause s))

/-- An in-band command frame as it was received (R71, R176). -/
def inbandOf (p : Nat) (b : Bytes) : InbandFrame :=
  { port := Fin.ofNat 64 p, dst := BitVec.ofNat 48 (dstMac b), src := BitVec.ofNat 48 (srcMac b),
    vlan := (tci? b).map (BitVec.ofNat 12), payload := noFcs (b.drop (l3Off b)) }

/-- A frame that is not switched has ended well: a MAC control frame acts at its port, an in-band command goes on to be judged where it was granted a buffer. -/
def ownEnd (f : Frame) (b : Bytes) (s : State) : State :=
  if etherType b = 0x8808 then macControl f.inPort b s
  else if etherType b = 0x88B5 ∧ f.buffered = true then
    { s with gcp := { s.gcp with arrived := s.gcp.arrived ++ [inbandOf f.inPort b] } }
  else s

/-- A frame's last byte arrives (R9, R142, R272): counted, judged, and eligible if its result is already accepted. One that outgrew its buffer is a LEN_OVERRUN whatever else is wrong with it; a started express copy of a bad frame is finished bad, for overrun where it grew too long. -/
def endFrame (id : Nat) (rest : Bytes) (s : State) : State :=
  match s.frame? id with
  | none => s
  | some f =>
    let b := f.bytes ++ rest
    let overrun := f.buffered && decide (f.bufBytes < b.length)
    let charge := if f.charge = .headroom then headroomCharge (s.port f.inPort).cfg.dalom b.length else 0
    let f := { f with bytes := b, len := b.length, complete := true, overrun := overrun, chargeBytes := charge }
    let s := if overrun then cntClass f.inPort f.tc 7 1 s else s
    match endFault (s.port f.inPort).cfg.maxFrame b with
    | some k => endBad id (if overrun || k == 7 then 1 else 0) (cntPort f.inPort k 1 (setFrame { f with good := false } s))
    | none =>
      let s := setFrame f s
      let s := cntPort f.inPort 0 1 (cntPort f.inPort 1 b.length s)
      let s := cntClass f.inPort f.tc 0 1 (cntClass f.inPort f.tc 1 b.length s)
      if f.accepted && f.result.isNone then endBad id 0 (ownEnd f b s)
      else if !f.buffered then endBad id 0 s
      else if overrun then endBad id 1 (setFrame { f with good := false } s)
      else settle (eligible id s)

/-! ### Lookup and result -/

/-- The oldest frame of a port that no slice has looked up yet. -/
def awaitingLookup (s : State) (p : Nat) : Option Frame :=
  s.core.frames.find? (fun f => f.inPort == p && f.stage == .receiving && f.buffered && f.result.isNone && !f.accepted)

/-- Discard a frame the slice or the queue manager does not take: its buffer goes at once, and what is still arriving is only counted. -/
def shed (f : Frame) (s : State) : State := settle (giveUp f.id s)

/-- The slice looks a frame up and issues its result (R22, R221): a frame that costs more tokens than are left is a pace drop. -/
def sliceLookup (p tokens : Nat) (faults : List (Nat × Nat)) (corrected : Nat) (s : State) : State :=
  match awaitingLookup s p with
  | none => s
  | some f =>
    if quadLost s p then s
    else
      let sl := s.quadSlice (quadOf p)
      let s := faults.foldl (noteFault sl) s
      let s := modTab sl (fun T => { T with eccCorrected := satAdd 32 T.eccCorrected corrected }) s
      let r := lookup sl p f.rxTc f.bytes s
      if tokens < r.2.1 then
        shed f (modSlice sl (fun q => { q with paceDrops := satAdd 64 q.paceDrops 1 }) r.2.2)
      else
        setFrame { f with result := some r.1, tc := r.1.tc,
                          voq := ((queueOf s p r.1.tc r.1.dest).map (·.1)).getD noKey } r.2.2

/-- Current rate of a port in bytes per second: a degraded Dalom port counts at k / 4 (R184, R314). -/
def rateNow (s : State) (p : Nat) (tx : Bool) : Nat :=
  let c := (s.port p).cfg
  let full := speedBytes c.speed
  if c.dalom then full * popcount 4 (if tx then (s.dlk p).txActive else (s.dlk p).rxGood) / 4 else full

/-- Is an egress port and class paused in the sense of R303, but for store room? `charge` is the credit charge of the frame in question. -/
def egressPaused (s : State) (j c charge : Nat) : Bool :=
  !(s.port j).isUp || !s.moves || (s.fc j c).paused ||
  (creditTx s j c && decide ((s.dlk j).available.get 0 c < charge))

/-- Does a frame cut through (R314)? -/
def cutsThrough (s : State) (f : Frame) (r : Result) : Bool :=
  match r.dest with
  | .port j =>
    (s.eg j).express == some f.tc && rateNow s f.inPort false == rateNow s j true &&
    !(s.core.frames.any (fun g => g.isQueued && voqOut g.queueKey == some j && g.tc == f.tc)) &&
    (s.storeOf j f.tc).isEmpty && !egressPaused s j f.tc (creditCharge f.size)
  | _ => false

/-- The oldest frame of a port whose result is issued and not yet judged by the queue manager. -/
def awaitingResult (s : State) (p : Nat) : Option Frame :=
  s.core.frames.find? (fun f => f.inPort == p && f.stage == .receiving && f.buffered && f.result.isSome && !f.accepted)

/-- A ghost result (R324): discarded and counted; the first of a dead slice is recorded and disconnects its paths. -/
def ghost (sl q stale : Nat) (s : State) : State :=
  let s := modSlice sl (fun r => { r with ghosts := satAdd 32 r.ghosts 1 }) s
  if (s.slice sl).st = .dead then
    modSlice sl (fun r => { r with st := .quarantine }) (negWrite 0x0021 (b1 sl ++ b1 q ++ b1 stale ++ b1 (s.epoch q)) s)
  else s

/-- The queue manager accepts a frame's result (R9, R298, R314): whether it cuts through is decided now; a frame that cuts through is queued once 256 bytes or the whole of it have been written, any other once it is whole and good. -/
def acceptResult (f : Frame) (r : Result) (s : State) : State :=
  let x := cutsThrough s f r && f.good
  let f := { f with accepted := true, express := x }
  let s := setFrame f s
  if x && !f.complete then
    if 256 ≤ f.len then settle (dispose f r s) else s
  else settle (eligible f.id s)

/-- A result reaches the queue manager (R298, R314, R324): accepted only from the quad's own slice in service with the quad's current epoch; a dead slice's is refused, and a ghost where its epoch is stale. `more` are the frame's bytes that have arrived since the grant point. -/
def resultArrival (sl p epoch : Nat) (more : Bytes) (s : State) : State :=
  let q := quadOf p
  if sliceOut s sl then
    if epoch ≠ s.epoch q then ghost sl q epoch s else s
  else match awaitingResult s p with
    | none => s
    | some f =>
      match f.result with
      | none => s
      | some r =>
        if r.slice ≠ sl then s
        else if epoch ≠ s.epoch q ∨ sl ≠ s.quadSlice q then shed f (takeoverDrop p f.tc s)
        else acceptResult (if f.complete then f else { f with bytes := f.bytes ++ more, len := f.bytes.length + more.length }) r s

end Sys2Proof.Machine
end

