-- ==== Sys2Proof/Machine/Crossbar.lean ====
section
/-! DEFINITION. The crossbar (R300 to R304), the replication of multicast (R309 to R311), and what a dequeue means to the deadlock detector (R316, R317). -/

namespace Sys2Proof.Machine

/-- A segment left a queue of port `j` and class `c`, or a frame its store: the detector's timer restarts and a record clears (R316, R317). -/
def dequeued (j c : Nat) (s : State) : State :=
  let s := modFc j c (fun k => { k with lastMoved := s.clk.now }) s
  modCore (fun q => { q with deadlocks := q.deadlocks.filter (fun d => !(d.port == j && d.tc == c)) }) s

/-- Pick the element with the least measure, the first among equals. -/
def leastOf {α : Type} (m : α → Nat) : List α → Option α
  | [] => none
  | x :: xs =>
    match leastOf m xs with
    | some y => if m x ≤ m y then some x else some y
    | none => some x

/-! ### Replication (R309, R311) -/

/-- Resolve the frame at the head of a multicast queue, once (R309, R311): its members, without copies back to its own port and VID, owner 17, and copies for ports that are down counted; an empty group drops it. -/
def resolveHead (f : Frame) (s : State) : State :=
  match f.result with
  | none => s
  | some r =>
    let flood : Bool := match r.dest with
      | .flood _ => true
      | _ => false
    let g := match r.dest with
      | .flood v => v
      | .group v => v
      | _ => 0
    let all := s.core.groups.get [] g
    let here := all.filter (fun m => !(m.1 == f.inPort && m.2.2 == r.vid))
    let live := here.filter (fun m => (s.port m.1).isUp)
    let s := (here.filter (fun m => !(s.port m.1).isUp)).foldl (fun s m => cntClass m.1 f.tc 11 1 s) s
    let fan := live.foldl (fun a m => setBit a m.1) 0
    let x := ledgerMove f.handle f.owner 1 17 1 s
    let f := { f with owner := if x.1 then 17 else f.owner, members := live, fanout := fan, residue := fan, resolved := true }
    let s := setFrame f x.2
    if all.isEmpty then dropFrame f.id (if flood then cntPort f.inPort 22 1 s else s)
    else if fan = 0 then dropFrame f.id s
    else s

/-- Resolve the heads of the multicast queues that are not resolved yet. -/
def resolveHeads (s : State) : State :=
  s.core.queues.foldl (fun s (k, ids) =>
    if k / 100000 = 1 then
      match (ids.head?).bind s.frame? with
      | some f => if f.resolved then s else resolveHead f s
      | none => s
    else s) s

/-! ### Eligibility (R303) -/

/-- Store bytes taken or reserved at a port and class (R302). -/
def storeUsed (s : State) (j c : Nat) : Nat := ((s.storeOf j c).map (·.size)).sum

/-- Has a frame's transmission started at an output: an express frame that has left it in part? -/
def startedAt (s : State) (f : Frame) (j : Nat) : Bool := (s.storeOf j f.tc).any (fun e => e.frame == f.id && e.started)

/-- Is a head frame eligible towards output `j` (R303)? Room for the whole frame is asked at its first segment (R302). A frame whose transmission there has started goes on crossing while the port is up, whatever pauses its class (R205, R45, log 118); one in flight is passed over by a Stop bath (R296). -/
def headEligible (s : State) (f : Frame) (j : Nat) : Bool :=
  decide (f.crossed < f.len) &&
  (if startedAt s f j then (s.port j).isUp else !egressPaused s j f.tc (creditCharge f.whole)) &&
  ((s.storeOf j f.tc).any (fun e => e.frame == f.id) || decide (storeUsed s j f.tc + f.whole ≤ 16384)) &&
  (f.inFlight || !bathHolds s f.inPort f.tc f.queueKey)

/-- The head frame of a queue. -/
def headOf (s : State) (key : Nat) : Option Frame := ((s.queue key).head?).bind s.frame?

/-- A possible pairing: input, output, class, and whether it is of the multicast queue. -/
structure Req where
  i : Nat
  j : Nat
  c : Nat
  mc : Bool
  deriving DecidableEq, Repr

/-- Every request of a round. -/
def requests (s : State) : List Req :=
  s.core.queues.flatMap (fun (k, _) =>
    match headOf s k with
    | none => []
    | some f =>
      match voqOut k with
      | some j => if headEligible s f j then [{ i := f.inPort, j := j, c := f.tc, mc := false }] else []
      | none =>
        if k / 100000 = 1 then
          ((List.range 64).filter (fun j => f.residue.testBit j && headEligible s f j)).map
            (fun j => { i := f.inPort, j := j, c := f.tc, mc := true })
        else [])

/-- One iteration of request, grant and accept (R304) over what is still unmatched; `first` is iteration 1, the one that moves pointers. Answers the matches so far and the state. Where a class's toggle selects a queue that is not eligible towards the output, the other queue of the class is taken (DEDUCED). -/
def iteration (reqs : List Req) (first : Bool) (done : List Req) (s : State) : List Req × State :=
  let openReqs := reqs.filter (fun r => !(done.any (fun d => d.i == r.i || d.j == r.j)))
  let outs := (List.range 64).filter (fun j => openReqs.any (fun r => r.j == j))
  let grants := outs.filterMap (fun j =>
    leastOf (fun (r : Req) => (r.i * 8 + r.c + 512 - s.core.grantPtr.get 0 j % 512) % 512) (openReqs.filter (fun r => r.j == j)))
  let ins := (List.range 64).filter (fun i => grants.any (fun r => r.i == i))
  ins.foldl (fun (acc : List Req × State) i =>
    let mine := grants.filter (fun r => r.i == i)
    match leastOf (fun (r : Req) => (r.j + 64 - acc.2.core.acceptPtr.get 0 i % 64) % 64) mine with
    | none => acc
    | some g =>
      let uni := openReqs.contains { i := i, j := g.j, c := g.c, mc := false }
      let mul := openReqs.contains { i := i, j := g.j, c := g.c, mc := true }
      let useMc := mul && (acc.2.core.toggle.get false (i * 8 + g.c) || !uni)
      let taken : List Req :=
        if useMc then (mine.filter (fun r => r.c == g.c && openReqs.contains { i := i, j := r.j, c := g.c, mc := true })).map
          (fun r => { i := i, j := r.j, c := g.c, mc := true })
        else [{ i := i, j := g.j, c := g.c, mc := false }]
      let s := acc.2
      let s := if first then
          modCore (fun q =>
            { q with acceptPtr := q.acceptPtr.set i ((g.j + 1) % 64),
                     grantPtr := taken.foldl (fun (t : Tab Nat) r => t.set r.j ((i * 8 + r.c + 1) % 512)) q.grantPtr,
                     toggle := if uni && mul then q.toggle.set (i * 8 + g.c) (!q.toggle.get false (i * 8 + g.c)) else q.toggle }) s
        else s
      (acc.1 ++ taken, s)) (done, s)

/-! ### Moving segments (R300, R302, R310) -/

/-- Land `n` bytes of a frame in the store of a port and class, opening its entry at the first. -/
def land (f : Frame) (j n : Nat) (copies : List (Nat × Bool)) (s : State) : State :=
  modStore j f.tc (fun q =>
    if q.any (fun e => e.frame == f.id) then
      q.map (fun e => if e.frame == f.id then { e with arrived := e.arrived + n, size := f.whole, bytes := f.bytes.take (e.arrived + n) } else e)
    else q ++ [{ frame := f.id, size := f.whole, arrived := n, bytes := f.bytes.take n, copies := copies, started := false,
                 result := f.result, inPort := f.inPort, stamp := f.stamp, inject := none, fw := none }]) s

/-- A frame's first transmission begins: HELD to IN_FLIGHT (R279, R302). -/
def takeOff (f : Frame) (s : State) : Frame × State :=
  if f.inFlight then (f, s)
  else
    let x := ledgerMove f.handle f.owner 1 f.owner 2 s
    let f := { f with inFlight := x.1, stage := .crossing }
    (f, setFrame f x.2)

/-- A frame has crossed whole to its last output: it leaves its queue, and its free is requested (R276, R279). -/
def leaveQueue (f : Frame) (s : State) : State := setFrame { f with stage := .leaving, queueKey := noKey } (unqueue f.queueKey f.id s)

/-- The free that the caches' arbiters grant next (R276): the frame whose owner follows soonest, in round-robin order, on the agent that its pool's cache served last. -/
def nextFree (s : State) : Option Frame :=
  leastOf (fun (f : Frame) => (f.owner + 43 - (s.pool (handlePool f.handle)).rr) % 22) (s.core.frames.filter (fun f => f.stage == .leaving))

/-- Serve the frees requested, one handle per grant (R276). -/
def serveFrees : Nat → State → State
  | 0, s => s
  | n + 1, s =>
    match nextFree s with
    | none => s
    | some f => serveFrees n (releaseFrame f.id s)

/-- Move up to `room` bytes of a VOQ: the end of one frame may be followed by the start of the next (R300). -/
def moveUnicast (key j : Nat) : Nat → Nat → State → State
  | 0, _, s => s
  | fuel + 1, room, s =>
    match headOf s key with
    | none => s
    | some f =>
      if room = 0 ∨ !headEligible s f j then s
      else
        let n := min room (f.len - f.crossed)
        let x := takeOff f s
        let f : Frame := { x.1 with crossed := f.crossed + n }
        let s := dequeued j f.tc (land f j n [] (setFrame f x.2))
        if f.complete && f.crossed == f.len then moveUnicast key j fuel (room - n) (leaveQueue f s) else s

/-- The copies of a multicast frame for a port, in member order (R311). -/
def copiesFor (f : Frame) (j : Nat) : List (Nat × Bool) :=
  (f.members.filter (fun m => m.1 == j)).map (fun m => (m.2.2, m.2.1))

/-- Move the head segment of a multicast queue to the outputs matched in this round (R310). -/
def moveMulticast (i c : Nat) (js : List Nat) (s : State) : State :=
  match headOf s (mcKey i c) with
  | none => s
  | some f =>
    let n := min 256 (f.len - f.crossed)
    let x := takeOff f s
    let f : Frame := { x.1 with residue := js.foldl clearBit x.1.residue }
    let s := setFrame f x.2
    let s := js.foldl (fun s j => dequeued j c (land f j n (copiesFor f j) s)) s
    if f.residue ≠ 0 then s
    else
      let f : Frame := { f with crossed := f.crossed + n, residue := f.fanout }
      if f.crossed = f.len then leaveQueue f s else setFrame f s

/-- A multicast head whose residue has emptied because its last ports went down moves on (R310). -/
def advanceHeads (s : State) : State :=
  s.core.queues.foldl (fun s (k, ids) =>
    if k / 100000 = 1 then
      match (ids.head?).bind s.frame? with
      | some f =>
        if !f.resolved || f.residue ≠ 0 then s
        else if f.fanout = 0 then dropFrame f.id s
        else
          let n := min 256 (f.len - f.crossed)
          let f : Frame := { f with crossed := f.crossed + n, residue := f.fanout }
          if f.crossed = f.len then leaveQueue f s else setFrame f s
      | none => s
    else s) s

/-- A crossbar round (R301, R304): three iterations, then one segment across every matched pair, then the frees of the frames that have crossed whole. -/
def crossbarRound (s : State) : State :=
  let s := resolveHeads (advanceHeads s)
  let reqs := requests s
  let a := iteration reqs true [] s
  let b := iteration reqs false a.1 a.2
  let m := iteration reqs false b.1 b.2
  let s := m.1.foldl (fun s r => if r.mc then s else moveUnicast (voqKey r.i r.j r.c) r.j 256 256 s) m.2
  let heads := ((m.1.filter (·.mc)).map (fun r => (r.i, r.c))).dedup
  let s := heads.foldl (fun s (i, c) =>
    moveMulticast i c ((m.1.filter (fun r => r.mc && r.i == i && r.c == c)).map (·.j)) s) s
  settle (serveFrees (s.core.frames.filter (fun f => f.stage == .leaving)).length s)

end Sys2Proof.Machine
end

