-- ==== Sys2Proof/Machine/Egress.lean ====
section
/-! DEFINITION. The egress class scheduler (R306 to R308, R312, R315), copies on the line and into Dalom segments (R163, R167), and the frames that firmware builds (R271, R306). -/

namespace Sys2Proof.Machine

/-! ### Shapers and round robin (R307, R308) -/

/-- Fill a bucket to now. -/
def Bucket.fill (b : Bucket) (rate permil burst now : Nat) : Bucket :=
  { level := min (burst * 1000 : Nat) (b.level + (rate * permil * (now - b.filled) / secTicks : Nat)), filled := now }

/-- Fill the shapers of a port to now (R307). -/
def fillShapers (j : Nat) (s : State) : State :=
  let r := rateNow s j true
  modEg j (fun e => { e with bucket7 := e.bucket7.fill r e.permil7 e.burst7 s.clk.now,
                             bucket6 := e.bucket6.fill r e.permil6 e.burst6 s.clk.now }) s

/-- The first frame of a class that can start: a whole frame, or an express frame whose first segment is in (R312). -/
def startable (s : State) (j c : Nat) : Option StoreEntry :=
  (s.storeOf j c).find? (fun e => e.arrived == e.size || e.started ||
    (decide (0 < e.arrived) && (s.frame? e.frame).any (fun f => f.express)))

/-- The length an entry is taken to leave with: that of its copy once it is whole, else its size. -/
def sendLength (s : State) (j c : Nat) (e : StoreEntry) : Nat := if e.arrived = e.size then (copyBytes s j c e).length else e.size

/-- Is a frame of the class still in segments on a Dalom port (R163)? -/
def segBusy (s : State) (j c : Nat) : Bool := (s.port j).cfg.dalom && ((s.dlk j).segTx.find? c).isSome

/-- Is class `c` of port `j` ready: not paused and with a frame to start? The credits asked for are those of the frame as it leaves (R167). On a Dalom port a class whose frame is still in segments waits (R163). -/
def classReady (s : State) (j c : Nat) : Option StoreEntry :=
  match startable s j c with
  | none => none
  | some e =>
    if egressPaused s j c (creditCharge (sendLength s j c e)) || segBusy s j c then none else some e

/-- Deficit-weighted round robin (R308) over the ready classes with the wire bytes of their heads: stay with the class being visited while its head fits its deficit, else visit the next ready class with its quantum added. -/
def dwrr (ready : List (Nat × Nat)) (weights : List Nat) : Nat → Nat → List Nat → Option (Nat × List Nat)
  | 0, _, _ => none
  | fuel + 1, v, d =>
    let n := (v + 1) % 6
    let d' := if ready.any (fun x => x.1 == n) then d.set n (d.getD n 0 + weights.getD n 16 * 256) else d
    match List.find? (fun (x : Nat × Nat) => x.1 == v) ready with
    | some (_, bytes) => if bytes ≤ d.getD v 0 then some (v, d) else dwrr ready weights fuel n d'
    | none => dwrr ready weights fuel n d'

/-! ### Sending a copy -/

/-- Count a frame that a port transmits. -/
def cntSent (j c n : Nat) (s : State) : State := cntPort j 2 1 (cntPort j 3 n (cntClass j c 2 1 (cntClass j c 3 n s)))

/-- Put a copy of an entry on the line of a port and count it; on a Dalom port into segments, whose FIRST takes the charge (R163, R167). A frame beyond the partner's MAX_FRAME is dropped there. -/
def sendCopy (j c : Nat) (b : Bytes) (e : StoreEntry) (s : State) : State :=
  if (s.port j).cfg.dalom then
    let lim := ((s.dlk j).partner.map (fun (r : CapRec) => r.maxFrame)).getD 9216
    if lim < b.length then cntClass j c 14 1 s
    else
      let x : SegTx := { bytes := b, first := true, charge := if creditTx s j c then creditCharge b.length else 0, abort := false,
                         frame := e.frame, stamp := 0, inject := e.inject }
      cntSent j c b.length (modDlk j (fun d => { d with segTx := d.segTx.set c x }) s)
  else cntSent j c b.length (s.send (e.fw.getD (.frame j b)))

/-- An injected frame has been transmitted: status 0 and its egress timestamp where one was asked for (R543, R544). -/
def injectSent (ring : Nat) (ts : Bool) (stamp : Int) (s : State) : State :=
  let t := stamp.toNat
  let w := if ts then b1 0 ++ le 2 (t % 65536) ++ le 4 (t / 65536 % 2 ^ 32) ++ le 2 s.nv.timeGen else b1 0 ++ zeros 8
  { s with inject := s.inject.modify CpuRing.reset ring (fun r => { r with fin := some w }) }

/-- An injected frame leaves an Ethernet port; on a Dalom port it is done when its last segment is sent (R166). -/
def injectEnd (j : Nat) (e : StoreEntry) (s : State) : State :=
  match e.inject with
  | some (r, ts) => if (s.port j).cfg.dalom && ((s.dlk j).segTx.any (fun x => x.2.frame == e.frame)) then s else injectSent r ts (txStamp s j s.ts16) s
  | none => s

/-- Transmit one copy of an entry that is whole in its store (R306, R311); it debits what it takes of the line, and the entry goes with its last copy. -/
def transmit (j c : Nat) (e : StoreEntry) (s : State) : State :=
  let b := copyBytes s j c e
  let s := if marks s j c e then cntClass j c 12 1 s else s
  let s := dequeued j c (sendCopy j c b e (debit j c b.length s))
  if 1 < e.copies.length then
    modStore j c (fun q => q.map (fun x => if x.frame == e.frame then { x with copies := x.copies.drop 1 } else x)) s
  else injectEnd j e (modStore j c (fun q => q.filter (fun x => x.frame != e.frame)) s)

/-- Start or send an entry the scheduler chose: an express frame not yet whole starts, and one that has started and is not whole at the next choice has run its store empty (R312, R315). -/
def serve (j c : Nat) (e : StoreEntry) (s : State) : State :=
  if e.arrived = e.size ∧ (s.frame? e.frame).all (fun f => f.complete) then settle (transmit j c e s)
  else if e.started then settle (giveUp e.frame (badExpress j c e.frame 4 s))
  else modStore j c (fun q => q.map (fun x => if x.frame == e.frame then { x with started := true } else x)) s

/-! ### Frames that firmware built (R271, R306) -/

/-- A buffer of owner 19 for a frame of firmware, held until the frame is in its store (log 115). -/
def fwBuffer (size : Nat) (s : State) : Bool × State :=
  if s.core.poolsHold.isSome then (false, poolDrop ((poolsFor false size).headD 3) s)
  else match allocate 19 size [false, true] s with
    | (none, s) => (false, s)
    | (some h, s) => (true, freeHandle h 19 2 (ledgerMove h 19 1 19 2 s).2)

/-- The frames of firmware that wait for a port enter their stores in order, as long as there is room; one that finds no buffer is dropped and counted (R271, R273, R306). -/
def fwAdmit (j : Nat) : Nat → State → State
  | 0, s => s
  | n + 1, s =>
    match s.core.fwQueue.get [] j with
    | [] => s
    | f :: rest =>
      let b := withFcs f.bytes
      if 16384 < storeUsed s j f.tc + b.length then s
      else
        let s := modCore (fun k => { k with fwQueue := if rest.isEmpty then k.fwQueue.erase j else k.fwQueue.set j rest }) s
        let x := fwBuffer b.length s
        if !x.1 then fwAdmit j n x.2
        else
          let e : StoreEntry := {
            frame := x.2.core.nextFrame, size := b.length, arrived := b.length, bytes := b, copies := [], started := false,
            result := none, inPort := 65, stamp := 0, inject := none, fw := f.note }
          fwAdmit j n (modCore (fun k => { k with nextFrame := k.nextFrame + 1 }) (modStore j f.tc (· ++ [e]) x.2))

/-- Where the device moves no frames, firmware's still leave (R37): the first of them in TC7, if its class is not paused and its shaper allows it. -/
def fwReady (s : State) (j : Nat) : Option StoreEntry :=
  if (s.fc j 7).paused || decide ((s.eg j).bucket7.level < 0) || segBusy s j 7 then none
  else (s.storeOf j 7).find? (fun e => e.inPort == 65)

/-- A port chooses what to start (R306): a started express frame, TC7 under its shaper, TC6, then TC0 to TC5. Pause frames that are due have gone out when they fell due. Where nothing moves (R37, R45, R48), a frame already started is finished and firmware's frames leave. -/
def egressSelect (j : Nat) (s : State) : State :=
  if !(s.port j).isUp then s
  else
    let s := fillShapers j (fwAdmit j (s.core.fwQueue.get [] j).length s)
    let g := s.eg j
    match (List.range 8).findSome? (fun c => if segBusy s j c then none else ((s.storeOf j c).find? (fun e => e.started)).map (fun e => (c, e))) with
    | some (c, e) => serve j c e s
    | none =>
      if !s.moves then
        match fwReady s j with
        | some e => serve j 7 e s
        | none => s
      else
        let seven := if 0 ≤ g.bucket7.level then classReady s j 7 else none
        let six := if g.permil6 = 0 ∨ 0 ≤ g.bucket6.level then classReady s j 6 else none
        match seven, six with
        | some e, _ => serve j 7 e s
        | none, some e => serve j 6 e s
        | none, none =>
          let ready := (List.range 6).filterMap (fun c => (classReady s j c).map (fun e => (c, sendLength s j c e + 20)))
          match dwrr ready g.weights 400 g.visit g.deficits with
          | none => s
          | some (c, d) =>
            match classReady s j c with
            | none => s
            | some e => serve j c e (modEg j (fun q => { q with visit := c, deficits := d }) s)

end Sys2Proof.Machine
end

