-- ==== Sys2Proof/Machine/Ports.lean ====
section
/-! DEFINITION. Ports and lanes: which lanes a port uses (R127), equaliser limits (R131), power (R117), and the Ethernet bring-up moves (R139 to R142). -/

namespace Sys2Proof.Machine

/-- A lane rate by its modulation and speed (R126). -/
inductive LaneRate where
  | r106 | r53 | r25 | r10
  deriving DecidableEq, Repr

/-- The lane rate of a port configuration (R128, R152). -/
def PortCfg.rate (c : PortCfg) : LaneRate :=
  match c.speed, c.lanes with
  | 5, _ => .r106
  | 4, _ => .r53
  | 3, 1 => .r106
  | 3, _ => .r25
  | 2, _ => .r53
  | 1, _ => .r25
  | _, _ => .r10

/-- PAM4 lanes (R126). -/
def LaneRate.pam4 : LaneRate → Bool
  | .r106 => true | .r53 => true | _ => false

/-- Default taps of a lane rate (R131). -/
def LaneRate.taps : LaneRate → List Int
  | .r106 => [0, -12, 100, -16, 0]
  | .r53 => [0, -8, 108, -12, 0]
  | .r25 => [0, -6, 114, -8, 0]
  | .r10 => [0, 0, 120, -8, 0]

/-- Are five taps inside the ranges and the sum limit of R131? -/
def tapsOk : List Int → Bool
  | [p2, p1, m, q1, q2] =>
    decide (-16 ≤ p2 ∧ p2 ≤ 16 ∧ -48 ≤ p1 ∧ p1 ≤ 0 ∧ 64 ≤ m ∧ m ≤ 128 ∧ -48 ≤ q1 ∧ q1 ≤ 0 ∧ -16 ≤ q2 ∧ q2 ≤ 16 ∧
      p2.natAbs + p1.natAbs + m.natAbs + q1.natAbs + q2.natAbs ≤ 128)
  | _ => false

/-- The combinations an Ethernet port supports (R128, R129). -/
def ethCombo (c : PortCfg) : Bool :=
  let base : Bool := match c.speed, c.lanes, c.fec with
    | 5, 4, 2 => true | 4, 4, 2 => true | 3, 1, 2 => true | 2, 1, 2 => true
    | 3, 4, 0 => c.media == 0 | 3, 4, 1 => c.media == 0
    | 1, 1, 0 => c.media == 0 | 1, 1, 1 => c.media == 0
    | 0, 1, 0 => c.media == 0
    | _, _, _ => false
  base && (c.media == 1) == c.an

/-- The combinations a Dalom port supports (R152). -/
def dlkCombo (c : PortCfg) : Bool := (c.speed == 5 || c.speed == 4) && c.lanes == 4 && c.fec == 2 && !c.an

/-- Is a configuration one the device supports (R128, R152)? -/
def PortCfg.combo (c : PortCfg) : Bool := if c.dalom then dlkCombo c else ethCombo c

/-- The physical lanes a port receives on (R127). -/
def PortRec.rxLanes (r : PortRec) : List Nat :=
  if !r.cfg.configured then [] else if r.cfg.lanes = 4 then [0, 1, 2, 3] else [r.rxMap.getD 0 0]

/-- The physical lanes a port transmits on (R127). -/
def PortRec.txLanes (r : PortRec) : List Nat :=
  if !r.cfg.configured then [] else if r.cfg.lanes = 4 then [0, 1, 2, 3] else [r.txMap.getD 0 0]

/-- The physical lanes a port uses in either direction. -/
def PortRec.usedLanes (r : PortRec) : List Nat := (List.range 4).filter (fun l => r.rxLanes.contains l || r.txLanes.contains l)

/-- Global lane number (R3). -/
def gLane (p l : Nat) : Nat := p * 4 + l

/-- The host's taps of a lane, or the defaults of its port's rate where none were set (R131). DESIGN CHOICE (log 48): the spec gives no default to a lane whose port has had no PORT_CONFIG, since such a lane has no rate; the model shows the defaults of 10.3125 Gbit/s there. -/
def hostTapsOf (s : State) (l : Nat) : List Int :=
  let r := s.lane l
  if r.txSet then r.hostTaps else (s.port (l / 4)).cfg.rate.taps

/-- Does training run on a port: MEDIA 1, or a Dalom port (R132)? -/
def PortCfg.trains (c : PortCfg) : Bool := c.dalom || c.media == 1

/-- Are trained taps in use on a lane: only where training runs (R132)? -/
def trainedInUse (s : State) (l : Nat) : Bool := (s.lane l).trainedTaps && (s.port (l / 4)).cfg.trains

/-- The taps a lane transmits: the trained ones while they are in use, else the host's (R132). -/
def tapsInUse (s : State) (l : Nat) : List Int := if trainedInUse s l then (s.lane l).taps else hostTapsOf s l

/-- Is a lane the port uses, or the port itself, powered off by TRIM, QUIESCE or SLEEP (R117, R139)? -/
def poweredOff (s : State) (p : Nat) : Bool :=
  s.sys.lanesOff || s.pwr.state == .sleep || s.pwr.portOff.getLsbD p ||
  (s.port p).usedLanes.any (fun l => s.pwr.laneOff.getLsbD (gLane p l))

/-- Is the receive direction of a global lane powered off: by the masks of TRIM, by QUIESCE, in SLEEP, by a thermal-critical event, because the port's maps do not use it, or because its port is DISABLED and runs no test (R42, R117, R127, R139, R151)? -/
def laneRxOff (s : State) (l : Nat) : Bool :=
  let r := s.port (l / 4)
  s.sys.lanesOff || s.pwr.state == .sleep || s.pwr.portOff.getLsbD (l / 4) || s.pwr.laneOff.getLsbD l || r.hot ||
  !r.rxLanes.contains (l % 4) || (r.st == .disabled && r.test.state != 1)

/-- The back-off wait after `k` attempts, in ms (R139). -/
def backoffMs (k : Nat) : Nat := if k = 0 then 10 else min 2560 (10 * 2 ^ (min (k - 1) 8))

/-- DATA of a link event (R533). -/
def linkData (r : PortRec) : Bytes := b1 r.cause ++ b1 r.downLane ++ le 2 r.attempts

/-- Raise LINK_UP (64), LINK_DOWN (65) or LINK_RETRY (66). -/
def linkEvent (c p : Nat) (s : State) : State := raise c p (linkData (s.port p)) s

/-- The down rule on leaving UP or ACTIVE (R142). -/
def downRule (p : Nat) (s : State) : State := discardReceiving p (discardFor p s)

/-- Move a port to a state with a cause and the lowest lane concerned. -/
def moveTo (p : Nat) (st : PortSt) (cause lane : Nat) (s : State) : State :=
  modPort p (fun r => { r with st := st, cause := cause, downLane := lane }) s

/-- Leave UP, ACTIVE or FAULT for `st` (R139, R177): the down rule and DOWN_COUNT on leaving UP or ACTIVE, LINK_DOWN from any of the three. -/
def leaveUp (p : Nat) (st : PortSt) (cause lane : Nat) (s : State) : State :=
  let r := s.port p
  if r.isUp then
    let s := downRule p s
    let s := modPort p (fun r => { r with downCount := wrapAdd 32 r.downCount 1 }) s
    linkEvent 65 p (moveTo p st cause lane s)
  else if r.st = .fault then linkEvent 65 p (moveTo p st cause lane s)
  else moveTo p st cause lane s

/-- Enter UP or ACTIVE: attempt count 0, UP_COUNT, LINK_UP (R139, R177). -/
def enterUp (p : Nat) (st : PortSt) (s : State) : State :=
  linkEvent 64 p (modPort p (fun r => { r with st := st, attempts := 0, upCount := wrapAdd 32 r.upCount 1 }) s)

/-- Enter BACKOFF: the attempt count rises (R139, R177). -/
def enterBackoff (p cause lane : Nat) (s : State) : State :=
  modPort p (fun r => { r with st := .backoff, cause := cause, downLane := lane, attempts := min 65535 (r.attempts + 1) }) s

/-- Enter TRAIN: the host's taps are the starting point (R132). -/
def enterTrain (p : Nat) (s : State) : State :=
  let s := modPort p (fun r => { r with st := .train }) s
  (s.port p).usedLanes.foldl (fun s l =>
    let t := hostTapsOf s (gLane p l)
    modLane (gLane p l) (fun r => { r with taps := t, trainedTaps := r.txTrained }) s) s

/-- Is the module present and ready (R217)? -/
def moduleReady (s : State) (p : Nat) : Bool := (s.port p).module.ready

/-- The receive lanes of a port with LOS. -/
def losLanes (s : State) (p : Nat) : List Nat := (s.port p).rxLanes.filter (fun l => (s.lane (gLane p l)).los)

/-- The receive lanes of a port with LOL. -/
def lolLanes (s : State) (p : Nat) : List Nat := (s.port p).rxLanes.filter (fun l => (s.lane (gLane p l)).lol)

/-- LOS on a used lane of an Ethernet port (R139, R140). -/
def ethLos (p l : Nat) (s : State) : State :=
  match (s.port p).st with
  | .train => moveTo p .waitSignal 1 l s
  | .adapt => moveTo p .waitSignal 1 l s
  | .align => moveTo p .waitSignal 1 l s
  | .up => leaveUp p .waitSignal 1 l s
  | .fault => leaveUp p .waitSignal 1 l s
  | _ => s

/-- LOL on a used lane of an Ethernet port (R139, R141). -/
def ethLol (p l : Nat) (s : State) : State :=
  match (s.port p).st with
  | .align => enterBackoff p 2 l s
  | .up => leaveUp p .waitSignal 2 l s
  | .fault => leaveUp p .waitSignal 2 l s
  | _ => s

/-- Loss of alignment or hi_ber in UP or FAULT (R139). -/
def ethLoss (p cause : Nat) (s : State) : State :=
  if (s.port p).st = .up ∨ (s.port p).st = .fault then leaveUp p .waitSignal cause 0xFF s else s

end Sys2Proof.Machine
end

