-- ==== Sys2Proof/Machine/Tde.lean ====
section
/-! DEFINITION. Time-interval engines: sources (R436 to R438), roles and sharing (R441, R442), measurements and samples (R446 to R450). -/

namespace Sys2Proof.Machine

/-- Change the engines' part. -/
def modTde (f : TdeBlk → TdeBlk) (s : State) : State := modTim (fun t => { t with tde := f t.tde }) s
/-- Engine `e`. -/
def State.engine (s : State) (e : Nat) : Engine := s.tim.tde.engines.get Engine.reset e
/-- Change engine `e`. -/
def modEngine (e : Nat) (f : Engine → Engine) (s : State) : State :=
  modTde (fun t => { t with engines := t.engines.modify Engine.reset e f }) s
/-- A source's settings. -/
def State.tdeSource (s : State) (c : Nat) : TdeSource := s.tim.tde.sources.get (TdeSource.reset c) c
/-- An event input. -/
def State.ev (s : State) (i : Nat) : EvInput := s.tim.tde.evs.get EvInput.reset i

/-- The eight engines. -/
def engineIds : List Nat := List.range 8

/-- Is an engine rotating? -/
def isRotating (s : State) (e : Nat) : Bool := (s.engine e).role == .rotating
/-- Is an engine claimed? -/
def isClaimed (s : State) (e : Nat) : Bool := match (s.engine e).role with
  | .claimed _ _ _ => true
  | _ => false
/-- The source an engine is pinned to, if it is. -/
def pinOf (s : State) (e : Nat) : Option (Nat × Bool) := match (s.engine e).role with
  | .pinned c a => some (c, a)
  | _ => none

/-- Live claims. -/
def claims (s : State) : Nat := (engineIds.filter (isClaimed s)).length
/-- Engines PINNED or CLAIMED. -/
def heldEngines (s : State) : Nat := (engineIds.filter (fun e => !isRotating s e)).length

/-- The engine pinned to a source. -/
def enginePinned (s : State) (c : Nat) : Option Nat :=
  engineIds.find? (fun e => match pinOf s e with
    | some (x, _) => x == c
    | none => false)

/-- Does a claimed engine's measurement name a source? -/
def claimNames (s : State) (c : Nat) : Bool :=
  engineIds.any (fun e => match (s.engine e).role with
    | .claimed a b _ => a == c || b == c
    | _ => false)

/-- Is a source present (R438)? -/
def sourcePresent (s : State) (c : Nat) : Bool :=
  if c < 64 then (s.port c).cfg.dalom && (s.port c).st == .active
  else (s.tdeSource c).enable || claimNames s c

/-- Present rotating sources: enabled for rotation, present, and pinned to no engine (R444). -/
def rotatingSources (s : State) : List Nat :=
  (List.range 82).filter (fun c => (s.tdeSource c).enable && sourcePresent s c && (enginePinned s c).isNone)

/-- The guaranteed period in µs (R444). -/
def tdePeriod (s : State) : Nat :=
  let n := (rotatingSources s).length
  if n ≤ 60 then 10000 else 10000 * n / 60

/-! ### Automatic pins (R441, R442) -/

/-- The Dalom ports that offer time, the parent first and then in BMCA order. -/
def pinOrder (s : State) : List Nat :=
  let offers := (List.range 64).filter (fun p => (s.port p).cfg.dalom && (s.port p).st == .active && timeIn s p &&
    ((s.ptp p).got.map (·.offer)).getD false && s.tim.time.parent != some p)
  let keyed := offers.map (fun p => (electKey s p ((s.ptp p).got.getD (ownSet s)), p))
  let ins (l : List (List Nat × Nat)) (x : List Nat × Nat) : List (List Nat × Nat) :=
    l.filter (fun y => keyLess y.1 x.1) ++ [x] ++ l.filter (fun y => !keyLess y.1 x.1)
  let rest := (keyed.foldl ins []).map (·.2)
  match s.tim.time.parent with
  | some p => if (s.port p).cfg.dalom then p :: rest else rest
  | none => rest

/-- Pin a source to the lowest rotating engine. -/
def pinTo (c : Nat) (auto : Bool) (s : State) : State :=
  match engineIds.find? (isRotating s) with
  | some e => modEngine e (fun x => { x with role := .pinned c auto }) s
  | none => s

/-- Release every pin that meets a test. -/
def unpin (t : Nat → Bool → Bool) (s : State) : State :=
  engineIds.foldl (fun s e => match pinOf s e with
    | some (c, a) => if t c a then modEngine e (fun x => { x with role := .rotating }) s else s
    | none => s) s

/-- Re-pin automatically (R442): nothing under PIN_MODE HOST. -/
def autoPin (s : State) : State :=
  if s.tim.tde.hostMode then s
  else
    let want := (pinOrder s).take (4 - claims s)
    let s := unpin (fun c a => a && !want.contains c) s
    want.foldl (fun s c => if (enginePinned s c).isSome then s else pinTo c true s) s

/-- The BMCA runs, presence is looked at, and firmware re-pins (R407, R408, R442). -/
def reelect (s : State) : State := autoPin (presence (bmca s))

/-- Take a rotating engine for a claim, named or any (R441, R455): none where the engine is taken or four are. Where four are held and one of them is an automatic pin, the one of the lowest preference is released. -/
def roomForClaim (s : State) : Option State :=
  if heldEngines s < 4 then some s
  else
    let order := pinOrder s
    let autos := engineIds.filter (fun e => match pinOf s e with
      | some (_, a) => a
      | none => false)
    let rank (e : Nat) : Nat := match pinOf s e with
      | some (c, _) => order.findIdx (· == c)
      | none => 0
    match bestBy rank autos with
    | e :: _ => some (modEngine e (fun x => { x with role := .rotating }) s)
    | [] => none

/-! ### Measurements (R446 to R450) -/

/-- 2^-16 ps in a nanosecond. -/
def ns16ps : Int := 65536000

/-- A timebase period in stamp units (R447). -/
def stampTick : Int := 52428800

/-- The present instant as a stamp on the timebase, in 2^-16 ps. -/
def baseStamp (s : State) : Int := (s.clk.now : Int) * stampTick

/-- A meter as a command sets it up (R455). -/
def Meter.new (start stop stops window lookback waitMs n : Nat) : Meter :=
  { start := start, stop := stop, stops := stops, window := window, lookback := lookback, waitMs := waitMs,
    granted := false, armedAt := 0, startStamp := none, startTs := [], found := [], early := false, lastEnd := none,
    lastStart := none, queued := none, n := n, accepted := 0, order := 0, noStop := 0, coincident := 0, skipped := 0, spacing := 0,
    sum := 0, sumSq := 0, minV := 0, maxV := 0 }

/-- Samples closed. -/
def Meter.closed (m : Meter) : Nat := m.accepted + m.order + m.noStop

/-- Does a claimed engine's operation let it start samples: an interval measurement, or a run that works (R450)? -/
def meterWorks (s : State) (h : Nat) : Bool := h == 0 || ((s.op? h).map (·.working)).getD false

/-- The last 16 of a list: what an input's ring keeps (R446). -/
def lastOnes (l : List Int) : List Int := l.drop (l.length - 16)

/-- A stop edge at stamp `t` (R446, R448): inside an open sample's window it is a stop, but for those beyond the 16th; after the window's end, or outside a sample, it is kept for looking back, and one more than 100 ns old before the start is early. -/
def Meter.stopEdge (m : Meter) (t : Int) : Meter :=
  match m.startStamp with
  | some st =>
    let ends := st + m.window * ns16ps
    let within := m.found.filter (fun x => decide (x ≤ ends))
    let later := m.found.filter (fun x => decide (ends < x))
    if t ≤ ends then { m with found := (within ++ [t]).take 16 ++ later }
    else { m with found := within ++ (if m.queued.isSome then later ++ [t] else lastOnes (later ++ [t])) }
  | none =>
    let l := lastOnes (m.found ++ [t])
    { m with found := l.filter (fun x => decide (t - 100 * ns16ps ≤ x)),
             early := m.early || l.any (fun x => decide (x < t - 100 * ns16ps ∧ (m.armedAt : Int) * stampTick ≤ x)) }

/-- Is a start less than 100 ns after the last accepted one (R448)? -/
def Meter.crowded (m : Meter) (t : Int) : Bool := match m.lastStart with
  | some l => decide (t < l + 100 * ns16ps)
  | none => false

/-- A start edge at stamp `t` (R446, R448); inside an open window it starts no sample, and is a stop where one source is both; after the window's end it waits for the sample to close. `ts` is its TS32, fraction and generation. -/
def Meter.startEdge (m : Meter) (t : Int) (ts : Bytes) : Meter :=
  match m.startStamp with
  | some st =>
    let m1 := if m.start = m.stop then m.stopEdge t else m
    if st + m.window * ns16ps < t ∧ m.queued = none ∧ m.crowded t = false then { m1 with queued := some (t, ts) }
    else { m1 with skipped := wrapAdd 32 m.skipped 1 }
  | none =>
    if m.crowded t then { m with skipped := wrapAdd 32 m.skipped 1 }
    else
      let from' := t - (m.lookback : Int) * 65536
      let pre := m.found
      { m with startStamp := some t, startTs := ts, lastStart := some t,
               found := if m.start = m.stop then [] else pre.filter (fun x => decide (from' ≤ x)),
               early := m.early || (m.start != m.stop && pre.any (fun x => decide (x < from' ∧ (m.armedAt : Int) * stampTick ≤ x))) }

/-- An edge on a source reaches the meters that name it. -/
def meterEdge (c : Nat) (t : Int) (s : State) : State :=
  engineIds.foldl (fun s e => match (s.engine e).role, (s.engine e).meter with
    | .claimed a b h, some m =>
      if !m.granted then s
      else
        let hit := a == c || b == c
        let m1 := if b = c ∧ a ≠ c then m.stopEdge t else m
        let m2 := if a = c ∧ (m.startStamp.isSome || meterWorks s h) then m1.startEdge t s.stampBytes else m1
        if hit then modEngine e (fun x => { x with meter := some m2, stamps := wrapAdd 32 x.stamps 1 }) s else s
    | _, _ => s) s

/-- The stops inside an open sample's window (R446). -/
def Meter.inWindow (m : Meter) (st : Int) : List Int :=
  (m.found.filter (fun x => decide (x ≤ st + m.window * ns16ps))).take 16

/-- A sample closes (R448, R450): accepted with its interval, or discarded as ORDER or NO_STOP. -/
def Meter.close (m : Meter) : Meter :=
  match m.startStamp with
  | none => m
  | some st =>
    let m0 := { m with startStamp := none, found := m.found.filter (fun x => decide (st + m.window * ns16ps < x)),
                       early := false, lastEnd := some (st + m.window * ns16ps) }
    match (m.inWindow st)[m.stops - 1]? with
    | some x =>
      let v := x - st
      { m0 with accepted := m.accepted + 1, sum := m.sum + v, sumSq := m.sumSq + v * v,
                coincident := if v = 0 then wrapAdd 32 m.coincident 1 else m.coincident,
                minV := if m.accepted = 0 then v else min m.minV v, maxV := if m.accepted = 0 then v else max m.maxV v }
    | none => if m.early then { m0 with order := m.order + 1 } else { m0 with noStop := m.noStop + 1 }

/-- The start that waited for a sample to close begins the next one, where its run goes on (R446, R448). -/
def startQueued (e h : Nat) (s : State) : State :=
  match (s.engine e).meter.bind (fun m => m.queued.map (fun x => (m, x))) with
  | some (m, t, ts) =>
    let m := { m with queued := none }
    modEngine e (fun x => { x with meter := some (if meterWorks s h then m.startEdge t ts else m) }) s
  | none => s

/-- The result of INTERVAL_MEASURE (R456): OUTCOME 0 measured, 1 NO_START. -/
def meterResult (m : Meter) (outcome : Nat) : Bytes :=
  let st := m.startStamp.getD 0
  let l := if outcome = 1 then [] else ((m.inWindow st).take m.stops).map (fun x => x - st)
  b1 outcome ++ b1 l.length ++ b1 (bitsNat [l.any (· == 0), decide (l.length < m.stops)]) ++ b1 0 ++
  le 2 (bitsNat (l.map (· == 0))) ++ le 2 (bitsNat (l.map (fun v => decide (v < 0)))) ++
  toLen 8 (if outcome = 1 then [] else m.startTs) ++ toLen 128 (l.flatMap (leInt 8))

/-- The standard deviation in 2^-16 ps, rounded down (R450). -/
def Meter.std (m : Meter) : Nat :=
  let n : Int := m.accepted
  if m.accepted < 2 then 0 else Nat.sqrt ((n * m.sumSq - m.sum * m.sum) / (n * (n - 1))).toNat

/-- The result of STATS_READ (R457). -/
def statsResult (h : Nat) (partial' : Bool) (m : Meter) : Bytes :=
  le 4 h ++ b1 (bitsNat [partial', decide (m.accepted < 2)]) ++ zeros 3 ++ le 4 m.accepted ++ le 4 (m.order + m.noStop) ++
  leInt 8 (if m.accepted = 0 then 0 else m.sum / m.accepted) ++ le 8 m.std ++ leInt 8 m.minV ++ leInt 8 m.maxV ++
  le 4 m.order ++ le 4 m.noStop ++ le 4 m.coincident ++ le 4 m.skipped ++ le 4 m.spacing

/-- Let a claimed engine go. -/
def freeEngine (e : Nat) (s : State) : State :=
  autoPin (modEngine e (fun x => { x with role := .rotating, meter := none }) s)

/-- A statistics run lets its engine go, keeping its last meter (R450). -/
def statsRelease (h e : Nat) (s : State) : State :=
  let m := (s.engine e).meter
  let s := match s.op? h with
    | some o => setOp { o with work := .stats e m } s
    | none => s
  freeEngine e s

/-- The TDE_STATUS engine block (R458). -/
def engineBlock (s : State) (e : Nat) : Bytes :=
  let x := s.engine e
  (match x.role with
   | .rotating => [0, 0xFF, 0xFF, 0] ++ zeros 4
   | .pinned c _ => b1 1 ++ b1 c ++ [0xFF, 0] ++ zeros 4
   | .claimed a b h => b1 2 ++ b1 a ++ b1 b ++ [0] ++ le 4 h) ++ le 4 x.stamps ++ le 4 x.visits

end Sys2Proof.Machine
end

