-- ==== Sys2Proof/Machine/Tile.lean ====
section
/-! DEFINITION. Dalom tiles as bits: header (R155), scrambler (R159), RS(544,514) (R154), Gray levels and stuffing (R154, R160), PRBS31 (R178), segments (R162). -/

namespace Sys2Proof.Tile

/-- The header of 20 bits (R155). -/
def header (kind credit : Nat) (mark : Bool) (lseq : Nat) : Nat :=
  let low := kind % 8 + 8 * (credit % 256) + (if mark then 2048 else 0) + 4096 * (lseq % 16)
  low + 65536 * crc4 16 low

/-- One payload byte through the scrambler of R159. -/
def scrambleByte (st : Nat) (b : Byte) : Nat × Byte :=
  (List.range 8).foldl (fun (a : Nat × Byte) i =>
    let bit := Bool.xor (a.1.testBit 22) (a.1.testBit 17)
    ((a.1 * 2 + (if bit then 1 else 0)) % 8388608, if bit then a.2 ^^^ BitVec.twoPow 8 i else a.2)) (st, b)

/-- Scramble or descramble a payload (R159). -/
def scramble (slot lane : Nat) (payload : Bytes) : Bytes :=
  let st := slot % 1024 * 8192 + lane * 2048 + 0x693
  (payload.foldl (fun (a : Nat × Bytes) b =>
    let r := scrambleByte a.1 b
    (r.1, r.2 :: a.2)) (st, [])).2.reverse

/-! ### RS(544,514) over GF(2^10), x^10 + x^3 + 1 -/

/-- Multiply by x. -/
def gfX (a : BitVec 10) : BitVec 10 := if a.getLsbD 9 then (a <<< 1) ^^^ 0x9#10 else a <<< 1

/-- Multiply two field elements. -/
def gfMul (a b : BitVec 10) : BitVec 10 :=
  ((List.range 10).foldl (fun (acc : BitVec 10 × BitVec 10) i =>
    (if b.getLsbD i then acc.1 ^^^ acc.2 else acc.1, gfX acc.2)) ((0#10), a)).1

/-- Multiply a polynomial (lowest degree first) by (x + r). -/
def polyStep (r : BitVec 10) (p : List (BitVec 10)) : List (BitVec 10) :=
  List.zipWith (· ^^^ ·) (p.map (gfMul r) ++ [0]) (0 :: p)

/-- The generator polynomial with roots α^0 to α^29, lowest degree first. -/
def generator : List (BitVec 10) :=
  ((List.range 30).foldl (fun (a : List (BitVec 10) × BitVec 10) _ => (polyStep a.2 a.1, gfX a.2)) ([1], 1)).1

/-- One message symbol into the parity register (highest degree first). -/
def rsStep (g : List (BitVec 10)) (reg : List (BitVec 10)) (m : BitVec 10) : List (BitVec 10) :=
  let fb := m ^^^ reg.headD 0
  List.zipWith (· ^^^ ·) (reg.drop 1 ++ [0]) (g.map (gfMul fb))

/-- The 30 parity symbols of a message, in the order they are sent. -/
def parity (msg : List (BitVec 10)) : List (BitVec 10) :=
  let g := (generator.take 30).reverse
  msg.foldl (rsStep g) (List.replicate 30 0)

/-- The bits of a header and payload, message bit 0 first (R154). -/
def messageBits (hdr : Nat) (payload : Bytes) : List Bool :=
  (List.range 20).map (fun i => hdr.testBit i) ++
  payload.flatMap (fun b => (List.range 8).map (fun i => b.getLsbD i))

/-- Bits as ten-bit symbols, bit 0 first. -/
def symbols : Nat → List Bool → List (BitVec 10)
  | 0, _ => []
  | n + 1, bs => BitVec.ofNat 10 (bitsNat (bs.take 10)) :: symbols n (bs.drop 10)

/-- The 5,440 bits of a tile in the order they leave. -/
def codeword (hdr : Nat) (payload : Bytes) : List Bool :=
  let bits := messageBits hdr payload
  bits ++ (parity (symbols 514 bits)).flatMap (fun x => (List.range 10).map (fun i => x.getLsbD i))

/-- Bits packed into bytes, earlier bit lowest. -/
def packBits : Nat → List Bool → Bytes
  | 0, _ => []
  | n + 1, bs => BitVec.ofNat 8 (bitsNat (bs.take 8)) :: packBits n (bs.drop 8)

/-- A pair of bits as a PAM4 level (R154). -/
def level (a b : Bool) : Nat := match b, a with
  | false, false => 0 | false, true => 1 | true, true => 2 | true, false => 3

/-- The levels of a tile's symbols. -/
def levels : Nat → List Bool → List Nat
  | 0, _ => []
  | n + 1, bs => level (bs.getD 0 false) (bs.getD 1 false) :: levels n (bs.drop 2)

/-- One symbol of a lane's line (R160): the run it makes, and a stuff symbol after 24 alike. State: level, run, stuff symbols sent. -/
def stuffStep (a : Nat × Nat × Nat) (l : Nat) : Nat × Nat × Nat :=
  let run := if l = a.1 then a.2.1 + 1 else 1
  if run = 24 then ((if l ≤ 1 then 3 else 0), 1, a.2.2 + 1) else (l, run, a.2.2)

/-- The first `n` symbols of a tile onto a lane's line: the last level and run, and the stuff symbols inserted. -/
def stuffIn (n lvl run : Nat) (bits : List Bool) : Nat × Nat × Nat := (levels n bits).foldl stuffStep (lvl, run, 0)

/-- A tile onto a lane's line. -/
def stuff (lvl run : Nat) (bits : List Bool) : Nat × Nat × Nat := stuffIn 2720 lvl run bits

/-! ### TRAIN tiles -/

/-- `n` bits of PRBS31, x^31 + x^28 + 1, from a register. -/
def prbs : Nat → BitVec 31 → List Bool → BitVec 31 × List Bool
  | 0, st, acc => (st, acc.reverse)
  | n + 1, st, acc =>
    let b := Bool.xor (st.getLsbD 30) (st.getLsbD 27)
    prbs n ((st <<< 1) ||| (if b then 1 else 0)) (b :: acc)

/-- The control block of a TRAIN tile's payload: the value at least three of its four copies agree on (R178). -/
def control (payload : Bytes) : Option Bytes :=
  let c := (List.range 4).map (fun k => slice payload (8 * k) 8)
  c.find? (fun x => decide (3 ≤ (c.filter (· == x)).length))

/-! ### Segments (R162) -/

/-- A segment: class, FIRST, data, KIND, CODE and CHARGE. -/
def segment (tc : Nat) (first : Bool) (kind code charge : Nat) (data : Bytes) : Bytes :=
  let h := le 2 (tc % 8 + (if first then 8 else 0) + 16 * data.length + 16384 * kind)
  let t0 := code % 4 + 4 * (charge % 16)
  h ++ data ++ b1 t0 ++ b1 (crc8 (h ++ b1 t0))

/-- A segment as received; `off` is the payload offset of its first data byte. -/
structure Seg where
  off : Nat
  tc : Nat
  first : Bool
  kind : Nat
  code : Nat
  charge : Nat
  data : Bytes
  bad : Bool
  deriving DecidableEq, Repr

/-- The segments of a payload in order, the first at offset `o`: parsing stops at bad ones, and where fewer than 4 bytes are left. DESIGN CHOICE (log 112): the spec does not say what the receiver does with a FRAME segment of LEN 0 or a LEN past the end of the payload; it is treated as a bad SCHK. -/
def parse : Nat → Nat → Bytes → List Seg
  | 0, _, _ => []
  | n + 1, o, b =>
    if b.length < 4 then []
    else
      let h := field b 0 2
      let len := h / 16 % 1024
      let t0 := (byteAt b (2 + len)).toNat
      let kind := h / 16384
      let bad := decide (b.length < len + 4) || (byteAt b (3 + len)).toNat != crc8 (b.take 2 ++ b1 t0) || decide (2 ≤ kind) ||
        t0 % 4 == 3 || (kind == 1 && len == 0)
      let sg : Seg := { off := o + 2, tc := h % 8, first := h.testBit 3, kind := kind, code := t0 % 4, charge := t0 / 4 % 16,
                        data := slice b 2 len, bad := bad }
      if bad then [sg] else sg :: parse n (o + len + 4) (b.drop (len + 4))

end Sys2Proof.Tile
end

