-- ==== Sys2Proof/Machine/Dalom.lean ====
section
/-! DEFINITION. The sending side of a Dalom link: training control blocks (R178, R179), CAP messages (R181), segments (R162, R163), credit returns in headers (R168, R169), slots, skips and marks (R158, R161, R171, R172). -/

namespace Sys2Proof.Machine

/-! ### Parts of a link -/

/-- The training of logical lane `l`. -/
def Dlk.train (d : Dlk) (l : Nat) : DlkTrain := d.trains.get DlkTrain.reset l
/-- Change the training of a lane. -/
def modTrain (p l : Nat) (f : DlkTrain → DlkTrain) (s : State) : State :=
  modDlk p (fun d => { d with trains := d.trains.modify DlkTrain.reset l f }) s
/-- The line state of logical lane `l`. -/
def Dlk.lineOf (d : Dlk) (l : Nat) : DlkLine := d.line.get DlkLine.reset l
/-- Change the line state of a lane. -/
def modLine (p l : Nat) (f : DlkLine → DlkLine) (s : State) : State :=
  modDlk p (fun d => { d with line := d.line.modify DlkLine.reset l f }) s

/-- The four logical lanes. -/
def fourLanes : List Nat := [0, 1, 2, 3]

/-- The global lane a logical lane transmits on, and receives on (R138). -/
def txLaneOf (s : State) (p l : Nat) : Nat := gLane p ((s.port p).txMap.getD l l)
def rxLaneOf (s : State) (p l : Nat) : Nat := gLane p ((s.port p).rxMap.getD l l)

/-- The logical lane that receives on a physical lane of its port. -/
def rxLogical (s : State) (p phys : Nat) : Nat := (fourLanes.find? (fun l => (s.port p).rxMap.getD l l == phys)).getD phys

/-- The mask of logical lanes that meet a test. -/
def laneMask (t : Nat → Bool) : Nat := bitsNat (fourLanes.map t)

/-- Logical lanes without LOS. -/
def losClear (s : State) (p : Nat) : Nat := laneMask (fun l => !(s.lane (rxLaneOf s p l)).los)

/-- TIME_LANES (R192): transmit in bits [1:0], receive in bits [5:4]. -/
def Dlk.timeLanes (d : Dlk) : Nat := d.txTime % 4 + 16 * (d.rxTime % 4)

/-- DATA of the Dalom events (R533). -/
def dlkData (d : Dlk) : Bytes := b1 d.rxGood ++ b1 d.txActive ++ b1 d.timeLanes

/-- Raise LANE_DEGRADE (67), LANE_READMIT (68), LANE_RETRY (69) or TIME_LANE (70). -/
def dlkEvent (c p : Nat) (s : State) : State := raise c p (dlkData (s.dlk p)) s

/-- The transmit time lane becomes the lowest lane of TX_ACTIVE; TIME_LANE where it changes (R175). -/
def newTxTime (p : Nat) (s : State) : State :=
  let l := lowestBit 4 (s.dlk p).txActive % 4
  if (s.dlk p).txTime = l then s else dlkEvent 70 p (modDlk p (fun d => { d with txTime := l }) s)

/-- The receive time lane becomes the lowest of the lanes the partner stripes on; TIME_LANE where it changes (R175). -/
def newRxTime (p mask : Nat) (s : State) : State :=
  let l := lowestBit 4 mask % 4
  if (s.dlk p).rxTime = l then s else dlkEvent 70 p (modDlk p (fun d => { d with rxTime := l }) s)

/-- One symbol period as 2^-16 ns, times `n` (R172). -/
def symTime (speed : Nat) (n : Int) : Int := n * 65536 * (if speed = 5 then 16 else 32) / 850

/-- One bit period as 2^-16 ns, times `n` (R166). -/
def bitTime (speed : Nat) (n : Int) : Int := n * 65536 * (if speed = 5 then 8 else 16) / 850

/-- EXT_TX and EXT_RX as this end's CAP tiles carry them: those that apply from the next mark where DLK_DELAY has set new ones (R191). -/
def Dlk.extSaid (d : Dlk) : Nat × Nat := (d.pend.map (fun x => (x.2.1, x.2.2))).getD (d.extTx, d.extRx)

/-! ### CAP (R181) -/

/-- This end's CAP content as it stands; the initial grants, SEQ and ACK are kept. -/
def ownCap (s : State) (p : Nat) : CapRec :=
  let d := s.dlk p
  let c := (s.port p).cfg
  { d.own with
    version := 1, speed := c.speed, lanes := 4, rxGood := d.rxGood, role := d.role, maxFrame := c.maxFrame,
    lossless := (s.flow p).lossless, clockId := BitVec.ofNat 64 (clockId s), mac := s.sys.deviceMac,
    txFixed := fourLanes.map (fun l => txFixed s p l d.extSaid.1),
    rxFixed := fourLanes.map (fun l => rxFixed s p l d.extSaid.2), calStamp := calStamp s p }

/-- Bring the CAP content up to date; CAP_SEQ advances where it changes. -/
def refreshOwn (p : Nat) (s : State) : State :=
  let o := ownCap s p
  if o = (s.dlk p).own then s else modDlk p (fun d => { d with own := { o with seq := (o.seq + 1) % 0xFFFF } }) s

/-- Bytes where a kind carries them, zeros where it does not. -/
def fieldOf (carried : Bool) (b : Bytes) : Bytes := if carried then b else zeros b.length

/-- The payload of a CAP tile (R181). -/
def capPayload (o : CapRec) (kind lane : Nat) (block : Bytes) : Bytes :=
  b1 kind ++ b1 o.version ++ le 2 o.seq ++ le 2 o.ack ++
  fieldOf (kind == 0) (b1 o.speed ++ b1 o.lanes) ++ fieldOf (kind == 0 || kind == 1) (b1 o.rxGood) ++
  fieldOf (kind == 0) (b1 o.role ++ le 2 o.maxFrame ++ b1 o.lossless ++ zeros 3 ++ o.grant.flatMap (le 4) ++
    be 8 o.clockId.toNat ++ be 6 o.mac.toNat ++ zeros 2) ++
  fieldOf (kind == 0 || kind == 2) (o.txFixed.flatMap (le 4) ++ o.rxFixed.flatMap (le 4) ++ le 4 o.calStamp ++ zeros 4) ++
  fieldOf (kind == 3) (b1 lane ++ zeros 3 ++ toLen 8 block) ++ zeros 524

/-- The content of a received CAP payload. -/
def readCap (b : Bytes) : CapRec :=
  { version := field b 1 1, seq := field b 2 2, ack := field b 4 2, speed := field b 6 1, lanes := field b 7 1,
    rxGood := field b 8 1 % 16, role := field b 9 1, maxFrame := field b 10 2, lossless := field b 12 1,
    grant := (List.range 8).map (fun c => field b (16 + 4 * c) 4), clockId := BitVec.ofNat 64 (beNat (slice b 48 8)),
    mac := BitVec.ofNat 48 (beNat (slice b 56 6)), txFixed := fourLanes.map (fun l => field b (64 + 4 * l) 4),
    rxFixed := fourLanes.map (fun l => field b (80 + 4 * l) 4), calStamp := field b 96 4 }

/-- Queue a CAP tile of a kind; one of kind 0 to 2 that is already waiting is not queued twice. -/
def queueCap (p kind lane : Nat) (block : Bytes) (s : State) : State :=
  modDlk p (fun d => if kind ≠ 3 && d.caps.any (fun c => c.1 == kind) then d else { d with caps := d.caps ++ [(kind, lane, block)] }) s

/-! ### Training blocks (R178) -/

/-- The control block this end sends for logical lane `l`. -/
def trainBlock (s : State) (p l : Nat) : Bytes :=
  let t := (s.dlk p).train l
  let fixed := !(s.lane (txLaneOf s p l)).txTrained
  b1 t.reqTap ++ b1 t.reqAction ++ b1 t.reqSeq ++ b1 t.lastReq ++ b1 t.respStatus ++ b1 (bitsNat [t.rxReady, fixed]) ++
  b1 l ++ b1 (s.port p).cfg.speed

/-! ### Credit returns (R168, R169) -/

/-- Returns of every class as eight 4-byte counters. -/
def counters8 (t : Tab Nat) : Bytes := (List.range 8).flatMap (fun c => le 4 (t.get 0 c))

/-- The payload of a CREDIT or ABORT tile (R169). -/
def creditPayload (d : Dlk) : Bytes :=
  counters8 d.consumed ++ counters8 d.returned ++ b1 ((d.partner.map (fun (r : CapRec) => r.lossless)).getD 0) ++ zeros 575

/-- The class a header carries (R168): round robin among the classes whose RETURNED has changed since it was last carried, else the last one. -/
def nextCarried (d : Dlk) : Nat :=
  (((List.range 8).map (fun k => (d.carryClass + 1 + k) % 8)).find? (fun c => d.returned.get 0 c != d.carried.get 0 c)).getD d.carryClass

/-- The CREDIT field of a header. -/
def creditField (d : Dlk) (c : Nat) : Nat := c + 8 * (d.returned.get 0 c % 32)

/-- A frame in progress ends with an ABORT tile: its charge is consumed (R169). -/
def endInProgress (d : Dlk) : Dlk :=
  (List.range 8).foldl (fun d c => match d.segTx.find? c with
    | some t => if t.first then d
      else { d with segTx := d.segTx.erase c, consumed := d.consumed.modify 0 c (fun v => wrapAdd 32 v t.charge) }
    | none => d) d

/-! ### Segments (R162, R163) -/

/-- A payload as it is filled: the link, the bytes so far, the FIRST segments in it by class and the offset of their first data byte, and the frames whose last segment is in it. -/
structure Pack where
  d : Dlk
  out : Bytes
  firsts : List (Nat × Nat)
  dones : List (Nat × SegTx)

/-- A frame's charge is taken at its FIRST segment (R167). -/
def takeCharge (c charge : Nat) (d : Dlk) : Dlk :=
  { d with taken := d.taken.modify 0 c (fun v => wrapAdd 32 v charge), available := d.available.modify 0 c (· - charge) }

/-- A frame's charge is consumed with its closing segment (R169). -/
def consume (c charge : Nat) (d : Dlk) : Dlk := { d with consumed := d.consumed.modify 0 c (fun v => wrapAdd 32 v charge) }

/-- The next segment of class `c`'s frame, with room for `room` bytes in all. -/
def packFrame (c room : Nat) (t : SegTx) (k : Pack) : Nat × Pack :=
  let n := min t.bytes.length (room - 4)
  let fin := n == t.bytes.length
  let sg := Tile.segment c t.first 1 (if fin then (if t.abort then 2 else 1) else 0) (if fin then t.charge else 0) (t.bytes.take n)
  let d := if t.first then takeCharge c t.charge k.d else k.d
  let d := if fin then consume c t.charge { d with segTx := d.segTx.erase c }
    else { d with segTx := d.segTx.set c { t with bytes := t.bytes.drop n, first := false } }
  (n + 4, { d := { d with sinceFirst := min 84 (if t.first then n + 2 else d.sinceFirst + n + 4) }, out := k.out ++ sg,
            firsts := if t.first then k.firsts ++ [(c, k.out.length + 2)] else k.firsts,
            dones := if fin then k.dones ++ [(c, t)] else k.dones })

/-- A PAD segment of `n` data bytes. -/
def packPad (n : Nat) (k : Pack) : Pack :=
  { k with d := { k.d with sinceFirst := min 84 (k.d.sinceFirst + n + 4) }, out := k.out ++ Tile.segment 0 false 0 0 0 (zeros n) }

/-- Fill a payload with segments: the highest class first, FIRST segments at least 84 bytes apart, PAD where needed. -/
def packSegs : Nat → Nat → Pack → Pack
  | 0, room, k => { k with d := { k.d with sinceFirst := k.d.sinceFirst + room }, out := k.out ++ zeros room }
  | n + 1, room, k =>
    let d := k.d
    if room < 4 then { k with d := { d with sinceFirst := d.sinceFirst + room }, out := k.out ++ zeros room }
    else
      let can (c : Nat) : Bool := match d.segTx.find? c with
        | none => false
        | some t => !t.first || decide (84 ≤ d.sinceFirst + 2)
      match (List.range 8).reverse.find? can with
      | some c =>
        if room = 4 then packPad 0 k
        else match d.segTx.find? c with
          | none => { k with out := k.out ++ zeros room }
          | some t =>
            let r := packFrame c room t k
            packSegs n (room - r.1) r.2
      | none =>
        let pad := if d.segTx.isEmpty then room - 4 else min (room - 4) (78 - d.sinceFirst)
        packSegs n (room - 4 - pad) (packPad pad k)

/-! ### Sending a tile -/

/-- A tile's header and payload as it is coded: scrambled but for TRAIN (R155, R159). -/
def tileParts (d : Dlk) (l kind credit lseq : Nat) (payload : Bytes) : Nat × Bytes :=
  (Tile.header kind credit (d.slot % 1024 == 0) lseq, if kind = 4 then payload else Tile.scramble (d.slot % 1024) l payload)

/-- Put a tile on a lane: its codeword, with the stuff symbols it takes (R154, R159, R160). -/
def emitTile (p l kind credit lseq : Nat) (payload : Bytes) (s : State) : State :=
  let d := s.dlk p
  let ln := d.lineOf l
  let x := tileParts d l kind credit lseq payload
  let bits := Tile.codeword x.1 x.2
  let st := Tile.stuff ln.level ln.run bits
  modLine p l (fun x => { x with level := st.1, run := st.2.1, txStuff := x.txStuff + st.2.2, txSince := x.txSince + st.2.2 })
    (s.send (.tile (txLaneOf s p l) kind (Tile.packBits 680 bits)))

/-- A striped tile (R158, R168): the next port tile number, and a credit return in its header. -/
def emitStriped (p l kind : Nat) (payload : Bytes) (s : State) : State :=
  let d := s.dlk p
  let c := nextCarried d
  let s := emitTile p l kind (creditField d c) (d.tileNo % 16) payload s
  modDlk p (fun d => { d with tileNo := (d.tileNo + 1) % 16, carryClass := c, carried := d.carried.set c (d.returned.get 0 c),
                              sinceFirst := if kind = 1 then d.sinceFirst else min 84 (d.sinceFirst + 640) }) s

/-- A CREDIT (2) or ABORT (6) tile, carrying every RETURNED (R168, R169). -/
def emitCredit (p l kind : Nat) (s : State) : State :=
  let s := if kind = 6 then settle (modDlk p endInProgress s) else s
  let s := emitStriped p l kind (creditPayload (s.dlk p)) s
  modDlk p (fun d => { d with carried := d.returned, creditDue := false, abortDue := d.abortDue && kind != 6,
                              readmitDue := false }) s

/-- A TRAIN tile on a lane (R168, R178): four copies of the control block and PRBS31, and a credit return in its header as in every tile's. -/
def emitTrain (p l : Nat) (s : State) : State :=
  let d := s.dlk p
  let t := d.train l
  let c := nextCarried d
  let blk := trainBlock s p l
  let r := Tile.prbs 4864 t.prbs []
  let s := emitTile p l 4 (creditField d c) 0 (blk ++ blk ++ blk ++ blk ++ Tile.packBits 608 r.2) s
  let s := modDlk p (fun d => { d with carryClass := c, carried := d.carried.set c (d.returned.get 0 c) }) s
  modTrain p l (fun t =>
    let n := if t.rxReady then min 16 (t.sent + 1) else 0
    { t with prbs := r.1, sent := n, complete := t.complete || decide (16 ≤ t.good ∧ 16 ≤ n) }) s

/-- When a byte at payload offset `o` of a DATA tile leaves (R166, R415): the tile's captured start, (20 + 8 × o) bit periods, a symbol period for each stuff symbol before it, and TX_FIXED. -/
def byteLeaves (s : State) (p l : Nat) (dep : Int) (payload : Bytes) (o : Nat) : Int :=
  let d := s.dlk p
  let speed := (s.port p).cfg.speed
  let x := tileParts d l 1 (creditField d (nextCarried d)) (d.tileNo % 16) payload
  let stuffed := (Tile.stuffIn (10 + 4 * o) (d.lineOf l).level (d.lineOf l).run ((Tile.messageBits x.1 x.2).take (20 + 8 * o))).2.2
  dep + bitTime speed (20 + 8 * o : Nat) + symTime speed (stuffed : Nat) + unit16 (txFixedNow s p l d.extTx)

/-- A frame's last segment has left: an injected frame is reported with the timestamp of its FIRST (R166, R543). -/
def segSent (t : SegTx) (stamp : Int) (s : State) : State :=
  match t.inject with
  | some (r, ts) => if t.abort then s else injectSent r ts stamp s
  | none => s

/-- A DATA tile (R162, R163, R166): as many segments as it takes, the stamps of the frames that start in it, and the frames that end in it. -/
def emitData (p l : Nat) (dep : Int) (s : State) : State :=
  let k := packSegs 168 640 { d := s.dlk p, out := [], firsts := [], dones := [] }
  let stamps := k.firsts.map (fun x => (x.1, byteLeaves s p l dep k.out x.2))
  let at' (c : Nat) (t : SegTx) : Int := (stamps.lookup c).getD t.stamp
  let s := emitStriped p l 1 k.out (modDlk p (fun _ =>
    { k.d with segTx := k.d.segTx.map (fun (x : Nat × SegTx) => (x.1, { x.2 with stamp := at' x.1 x.2 })) }) s)
  k.dones.foldl (fun s x => segSent x.2 (at' x.1 x.2) s) s

/-! ### TIME tiles (R173) -/

/-- A time of day of 12 bytes from a capture on the TS counter (R2, R173). -/
def capTime (s : State) (t : Int) : Bytes :=
  let v := (asTod s t).toNat
  le 6 (v / 65536000000000) ++ le 4 (v / 65536 % 1000000000) ++ le 2 (v % 65536)

/-- The most recent capture on a lane. DESIGN CHOICE (log 114): before there is one, index 0 and time 0. -/
def lastMark (l : List MarkCap) (lane : Nat) : MarkCap := (l.find? (fun m => m.lane == lane)).getD { index := 0, lane := lane, time := 0, refined := false }

/-- The payload of a TIME tile (R173). -/
def timePayload (s : State) (p : Nat) : Bytes :=
  let d := s.dlk p
  let dep := lastMark d.marksTx d.depLane
  let arr := lastMark d.marksRx d.arrLane
  le 6 dep.index ++ capTime s dep.time ++ le 6 arr.index ++ capTime s arr.time ++ b1 dep.lane ++ b1 arr.lane ++
  le 2 s.nv.timeGen ++ b1 (bitsNat [dep.refined, arr.refined, (s.dpll 0).ho, calStamp s p == 0]) ++ zeros 3 ++
  be 8 (clockId s) ++ toLen 204 d.announce ++ zeros 384

/-- Keep a capture with those of the last 16 marks (R174). -/
def keepMark (m : MarkCap) (l : List MarkCap) : List MarkCap :=
  m :: l.filter (fun x => decide ((m.index + 2 ^ 48 - x.index) % 2 ^ 48 < 16))

/-- The offsets of lanes from the lane in use, brought up to date by the captures of one mark (R175). -/
def laneOffsets (marks : List MarkCap) (index use : Nat) (t : Tab Int) : Tab Int :=
  match marks.find? (fun m => m.index == index && m.lane == use) with
  | none => t
  | some u => (marks.filter (fun m => m.index == index)).foldl (fun t m => t.set m.lane (m.time - u.time)) t

/-- A mark departs on a lane: the raw latch corrected by the stuff symbols and skips since the last one (R171, R172). The time lane's captures are used from its next mark on (R175). -/
def markDeparts (p l : Nat) (raw : Int) (s : State) : State :=
  let d := s.dlk p
  let ln := d.lineOf l
  let t := raw + symTime (s.port p).cfg.speed ((ln.txSince : Int) - 2720 * ln.txSkips)
  let m : MarkCap := { index := d.slot / 1024 % 2 ^ 48, lane := l, time := t, refined := false }
  modLine p l (fun x => { x with txSince := 0, txSkips := 0 }) (modDlk p (fun d =>
    let use := if l = d.txTime then l else d.depLane
    let marks := keepMark m d.marksTx
    { d with marksTx := marks, depLane := use, offTx := laneOffsets marks m.index use d.offTx }) s)

/-- DLK_DELAY's values, and delays published since, apply from the port's next mark (R191, R466). -/
def delayApplies (p : Nat) (s : State) : State :=
  modDlk p (fun d =>
    let x := d.pend.getD (d.asym, d.extTx, d.extRx)
    { d with asym := x.1, extTx := x.2.1, extRx := x.2.2, pend := none, held := none }) s

/-! ### A slot (R158) -/

/-- Does a port send tiles: in every state but DISABLED and BACKOFF (R157, R177)? -/
def sendsTiles (r : PortRec) : Bool := r.cfg.dalom && !(r.st == .disabled || r.st == .backoff)

/-- Does a port stripe: in EXCHANGE and ACTIVE? -/
def stripes (r : PortRec) : Bool := r.st == .exchange || r.st == .active

/-- Is the time lane's tile of this slot fixed by R157 or due, so that no CAP takes it? -/
def timeLaneTaken (d : Dlk) : Bool :=
  d.abortDue || d.readmitDue || d.creditDue || d.slot % 1024 == 256 || d.slot % 1024 == 512

/-- The striped tile of a lane: ABORT, CREDIT, TIME and CAP where R157 places them, DATA where frames wait, else IDLE. DESIGN CHOICE (log 111): the spec gives no order among an ABORT or CREDIT that falls due in the slot of position 512 and the TIME tile; the TIME tile is left out. -/
def stripedTile (p l : Nat) (dep : Int) (laneState : Bool) (s : State) : State :=
  let d := s.dlk p
  let low := l == lowestBit 4 d.txActive
  let pos := d.slot % 1024
  if low && d.abortDue then emitCredit p l 6 s
  else if low && (d.readmitDue || pos == 256 || d.creditDue) then emitCredit p l 2 s
  else if low && pos == 512 then emitStriped p l 3 (timePayload s p) s
  else if laneState then emitStriped p l 5 (capPayload d.own 1 0 []) s
  else
    match if low then d.caps.find? (fun c => c.1 != 1) else none with
    | some c =>
      emitStriped p l 5 (capPayload d.own c.1 c.2.1 c.2.2) (modDlk p (fun d => { d with caps := d.caps.erase c }) s)
    | none =>
      if (s.port p).st = .active && !d.segTx.isEmpty then
        emitData p l dep s
      else emitStriped p l 0 (zeros 640) s

/-- One lane's part of a slot: the mark, then a skip, a TRAIN tile or a striped tile (R158, R161, R171). -/
def laneSlot (p : Nat) (deps : List Int) (laneState : Bool) (s : State) (l : Nat) : State :=
  let d := s.dlk p
  let pos := d.slot % 1024
  let s := if pos = 0 then markDeparts p l (deps.getD l 0) s else s
  let active := stripes (s.port p) && d.txActive.testBit l
  let fixed := pos == 0 || (active && l == lowestBit 4 d.txActive && (pos == 256 || pos == 512))
  if 2720 ≤ (d.lineOf l).txStuff && !fixed then
    modLine p l (fun x => { x with txStuff := x.txStuff - 2720, txSkips := x.txSkips + 1 }) s
  else if active then stripedTile p l (deps.getD l 0) laneState s
  else emitTrain p l s

/-- A slot of a Dalom port (R158): every lane in ascending logical order; then the slot number advances and a lane-state CAP that waits for the partner's ABORT is repeated every 64 slots (R183). -/
def dlkSlot (p : Nat) (deps : List Int) (s : State) : State :=
  if !sendsTiles (s.port p) then s
  else
    let s := if (s.dlk p).slot % 1024 = 0 then delayApplies p s else s
    let s := if stripes (s.port p) then refreshOwn p s else s
    let d := s.dlk p
    let laneState := stripes (s.port p) && d.caps.any (fun c => c.1 == 1) && !timeLaneTaken d
    let s := fourLanes.foldl (laneSlot p deps laneState) s
    let s := if laneState then modDlk p (fun d => { d with caps := d.caps.filter (fun c => c.1 != 1) }) s else s
    let s := modDlk p (fun d => { d with slot := (d.slot + 1) % 2 ^ 58 }) s
    if (s.dlk p).caps.any (fun c => c.1 == 1) then s
    else match (s.dlk p).laneCap with
    | some 0 => queueCap p 1 0 [] (modDlk p (fun d => { d with laneCap := some 63 }) s)
    | some (n + 1) => modDlk p (fun d => { d with laneCap := some n }) s
    | none => s

end Sys2Proof.Machine
end

