-- ==== Sys2Proof/Machine/Links.lean ====
section
/-! DEFINITION. Bring-up of a port from DISABLED and back, Ethernet and Dalom (R139, R177), and what a Dalom link does when its lanes fail and return (R182 to R187). -/

namespace Sys2Proof.Machine

/-! ### Ethernet (R139) -/

/-- WAIT_SIGNAL ends as soon as its condition holds (R139): copper starts Clause 73, a module with LOS clear on every used lane applies the FIXED taps and starts adaptation. -/
def ethTry (p : Nat) (s : State) : State :=
  let r := s.port p
  if r.st ≠ .waitSignal || !moduleReady s p then s
  else if r.cfg.media = 1 then modPort p (fun r => { r with st := .an }) s
  else if (losLanes s p).isEmpty then
    let s := modPort p (fun r => { r with st := .adapt }) s
    let s := r.txLanes.foldl (fun s l => modLane (gLane p l) (fun x => { x with trainedTaps := false }) s) s
    r.rxLanes.foldl (fun s l => modLane (gLane p l) (fun x => { x with converged := false }) s) s
  else s

/-- Leave a state for WAIT_SIGNAL with a cause (R139). -/
def ethWait (p cause lane : Nat) (s : State) : State := ethTry p (reelect (leaveUp p .waitSignal cause lane s))

/-! ### Dalom: leaving and starting (R177) -/

/-- A link starts over: slot 0, nothing learned from the partner; counters and configuration stay. -/
def dlkFresh (d : Dlk) : Dlk :=
  { Dlk.reset with
    minLanes := d.minLanes, role := d.role, asym := d.asym, extTx := d.extTx, extRx := d.extRx, own := d.own,
    announce := d.announce, pend := d.pend, rtt := d.rtt, oneWay := d.oneWay, offset := d.offset, tilesLost := d.tilesLost,
    stuffCount := d.stuffCount, stuffBad := d.stuffBad, segAborts := d.segAborts, creditRecovered := d.creditRecovered,
    restripes := d.restripes, laneRetries := d.laneRetries, marksMissed := d.marksMissed }

/-- The ABORT tile that goes ahead of leaving ACTIVE while a lane is in service (R177). -/
def abortAhead (p : Nat) (s : State) : State :=
  let a := (s.dlk p).txActive
  if (s.port p).st = .active && a != 0 then emitCredit p (lowestBit 4 a) 6 s else s

/-- DETECT ends as soon as its condition holds (R177): the module is ready and LOS is clear on at least MIN_LANES lanes; training starts on each of those. -/
def dlkTry (p : Nat) (s : State) : State :=
  let r := s.port p
  let m := losClear s p
  if r.st ≠ .detect || !moduleReady s p || decide (popcount 4 m < (s.dlk p).minLanes) then s
  else
    let s := enterTrain p s
    let s := modPort p (fun r => { r with st := .dlkTrain }) s
    modDlk p (fun d => { d with trains := [], trained := 0 }) s

/-! ### Frames in progress (R156, R164) -/

/-- The frame a class is receiving is abandoned or discarded (R164): counted, finished bad where it had cut through, its buffer freed. -/
def segDrop (p c : Nat) (s : State) : State :=
  match (s.dlk p).segRx.find? c with
  | none => s
  | some x =>
    let s := modDlk p (fun d => { d with segRx := d.segRx.erase c, segAborts := wrapAdd 32 d.segAborts 1 }) (cntClass p c 10 1 s)
    match x.frame with
    | some id => endBad id 3 s
    | none => s

/-- Every frame in progress on the port is abandoned. -/
def abandonAll (p : Nat) (s : State) : State := (List.range 8).foldl (fun s c => segDrop p c s) s

/-- Go to a state with a cause, an ABORT tile first when leaving ACTIVE, and start the link over where that state is DETECT, BACKOFF or DISABLED: the down rule, and every frame in progress abandoned (R142, R164, R177). -/
def dlkLeave (p : Nat) (st : PortSt) (cause lane : Nat) (s : State) : State :=
  let was := (s.port p).st
  let s := abandonAll p (leaveUp p st cause lane (abortAhead p s))
  let s := settle (modDlk p dlkFresh s)
  dlkTry p (if was = .active then reelect s else s)

/-- Enter BACKOFF from bring-up (R177). -/
def dlkBackoff (p cause lane : Nat) (s : State) : State := modDlk p dlkFresh (enterBackoff p cause lane (abandonAll p s))

/-! ### Enabling and disabling (R139, R177) -/

/-- An enabled port starts: attempt count 0, WAIT_SIGNAL or DETECT. -/
def portStart (p : Nat) (s : State) : State :=
  let dal := (s.port p).cfg.dalom
  let s := modPort p (fun r => { r with st := if dal then .detect else .waitSignal, attempts := 0 }) s
  if dal then dlkTry p (modDlk p dlkFresh s) else ethTry p s

/-- A PREF fed by a global lane loses its edges (R137, R344). -/
def prefLoss (l : Nat) (s : State) : State :=
  [6, 7, 8, 9, 10, 11, 12, 13].foldl (fun s r =>
    if (s.ref r).st ≠ .disabled && (s.ref r).lane == l && (s.ref r).activity then refFail r s.clk.now s else s) s

/-- Every PREF whose lane is powered off, or whose lane's receive direction is, loses its edges (R117, R127, R344). -/
def prefsDark (s : State) : State :=
  [6, 7, 8, 9, 10, 11, 12, 13].foldl (fun s r => if laneRxOff s (s.ref r).lane then prefLoss (s.ref r).lane s else s) s

/-- A port goes to DISABLED with a cause: DISABLED 5, MODULE 6, POWER 7 or THERMAL 8; its lanes are powered down (R139). -/
def portStop (p cause : Nat) (s : State) : State :=
  if (s.port p).cfg.dalom then prefsDark (dlkLeave p .disabled cause 0xFF s)
  else
    let up := (s.port p).isUp
    let s := leaveUp p .disabled cause 0xFF s
    prefsDark (if up then reelect s else s)

/-- An enabled, DISABLED port waits with cause POWER while a lane it uses is powered off (R117, R139). -/
def powerWait (p : Nat) (s : State) : State := modPort p (fun r => { r with cause := 7, downLane := 0xFF }) s

/-- PORT_SET_STATE enable of a DISABLED port (R139, R177): it starts, or waits with cause POWER while a lane it uses is powered off; a lane test that runs still holds it. -/
def portEnable (p : Nat) (s : State) : State :=
  let s := modPort p (fun r => { r with enabled := true, hot := false }) s
  if (s.port p).st ≠ .disabled then s
  else if poweredOff s p then powerWait p s
  else if (s.port p).test.state == 1 then s
  else portStart p s

/-- PORT_SET_STATE disable. -/
def portDisable (p : Nat) (s : State) : State := portStop p 5 (modPort p (fun r => { r with enabled := false }) s)

/-- A DISABLED port whose lanes or configuration have changed (R117, R139): an enabled one starts, or waits with cause POWER; not one that a lane test or a thermal-critical entry holds. -/
def portSettle (p : Nat) (s : State) : State :=
  let r := s.port p
  if !(r.st == .disabled && r.enabled && r.cfg.configured && !r.hot) then s
  else if poweredOff s p then powerWait p s
  else if r.test.state == 1 || s.sys.mode == .safe then s
  else portStart p s

/-- Ports whose lanes lost their power since `old` go to DISABLED with a cause; one that stood there takes the cause (R117, R139, row "Any"). -/
def powerDrop (old : State) (cause : Nat) (s : State) : State :=
  prefsDark ((List.range 64).foldl (fun s p =>
    if !(s.port p).cfg.configured || !poweredOff s p then s
    else if (s.port p).st ≠ .disabled then portStop p cause s
    else if poweredOff old p then s
    else modPort p (fun r => { r with cause := cause, downLane := 0xFF }) s) s)

/-- Lanes are powered on again: every enabled, DISABLED port with no lane off starts (R139, R177), but not one a thermal-critical entry stopped. -/
def powerReturn (s : State) : State :=
  (List.range 64).foldl (fun s p => if poweredOff s p then s else portSettle p s) s

/-- All lanes off in SAFE and PROVISION (R42): every port goes to DISABLED with cause THERMAL, and its lanes stay off until PORT_SET_STATE enables it. -/
def thermalStop (s : State) : State :=
  (List.range 64).foldl (fun s p =>
    let s := if (s.port p).st = .disabled then s else portStop p 8 s
    modPort p (fun r => { r with hot := true, cause := 8, downLane := 0xFF }) s) s

/-! ### Hold-back (R185) -/

/-- Returns withheld of a grant while `k` lanes are in service. -/
def withheld (grant k : Nat) : Nat := grant - grant * k / 4

/-- The hold-back moves to `k` lanes: more returns are held back, or held ones are released (R170, R185). -/
def holdBack (p k : Nat) (s : State) : State :=
  let s := (List.range 8).foldl (fun s c =>
    if !creditClass s p c then s
    else
      let d := s.dlk p
      let g := d.own.grant.getD c 0
      let old := withheld g d.held4
      let new := withheld g k
      if old ≤ new then modDlk p (fun d => { d with heldBack := d.heldBack.modify 0 c (· + (new - old)) }) s
      else
        let r := old - new
        let x := min r (d.heldBack.get 0 c)
        returnDirect p c (r - x) (modDlk p (fun d => { d with heldBack := d.heldBack.modify 0 c (· - x) }) s)) s
  modDlk p (fun d => { d with held4 := k }) s

/-! ### EXCHANGE and ACTIVE (R177, R182) -/

/-- The slot position from which tiles are taken in order (R158): the earliest that some lane has still to deliver. -/
def firstSlot (d : Dlk) (locked : Nat) : Nat :=
  let l0 := lowestBit 4 locked % 4
  fourLanes.foldl (fun a l =>
    let q := ((d.lineOf l).rxPos + 1) % 1024
    if locked.testBit l && decide (512 ≤ (q + 1024 - a) % 1024) then q else a) (((d.lineOf l0).rxPos + 1) % 1024)

/-- Striping starts on the locked lanes (R177): credit counters from zero, the grants of R170, the hold-back for the lanes in service, CAP kind 0 queued; a lane left out trains in the background (R187). -/
def exchangeEnter (p locked : Nat) (s : State) : State :=
  let s := modPort p (fun r => { r with st := .exchange }) s
  let grants := (List.range 8).map (fun c => if creditClass s p c then grantOf (s.fc p c).target else 0)
  let low := lowestBit 4 locked % 4
  let s := modDlk p (fun d =>
    { d with rxGood := locked, txActive := locked, txTime := low, rxTime := low, depLane := low, arrLane := low,
             tileNo := 0, rxTileNo := 16, partner := none, returned := [], carried := [], returnsSeen := [],
             accounted := [], recovered := [], consumed := [], taken := [], heldBack := [], shrinkHeld := [], owed := [],
             owedDirect := [], available := [], held4 := 4, delayValid := false,
             rxBuf := [], rxAt := firstSlot d locked, rxDone := 0, rxStripe := 0, slotBase := 16, degrades := [],
             trains := fourLanes.foldl (fun t l => if locked.testBit l then t else t.modify DlkTrain.reset l DlkTrain.again) d.trains,
             bgState := fourLanes.foldl (fun t l => if locked.testBit l then t else t.set l 1) [], bgAttempts := [],
             own := { d.own with grant := grants, ack := 0xFFFF } }) s
  queueCap p 0 0 [] (refreshOwn p (holdBack p (popcount 4 locked) s))

/-- The credits the sender has: GRANT and returns less charges taken (R167). -/
def recredit (p : Nat) (s : State) : State :=
  let s := modDlk p (fun d => match d.partner with
    | none => d
    | some r => { d with available := (List.range 8).foldl (fun (t : Tab Nat) c =>
        let v := (r.grant.getD c 0 + d.returnsSeen.get 0 c + 2 ^ 32 - d.taken.get 0 c) % 2 ^ 32
        t.set c (if v < 2 ^ 31 then v else 0)) d.available }) s
  shortsCheck s

/-- EXCHANGE completes when a compatible CAP has come, the partner acknowledges this end's, and DELAY_VALID is set (R182). -/
def exchangeCheck (p : Nat) (s : State) : State :=
  let d := s.dlk p
  match d.partner with
  | some r =>
    if (s.port p).st = .exchange && r.ack == d.own.seq && d.delayValid then
      reelect (enterUp p .active (recredit p s))
    else s
  | none => s

/-! ### Lanes leaving and returning (R183 to R187) -/

/-- The cause and lane of a link that falls below MIN_LANES (R177): LOS where every lane has LOS, else MIN_LANES. -/
def minCause (s : State) (p : Nat) : Nat := if losClear s p = 0 then 1 else 15

/-- Has the last lane-state CAP asked for not left yet (R183)? -/
def capUnsent (d : Dlk) : Bool := d.laneCap == some 64 && d.caps.any (fun c => c.1 == 1)

/-- The reduced masks sent and unanswered after one more loss (R183): a loss before the CAP has left is folded into the same mask; a later one asks for a CAP of its own. -/
def Dlk.degraded (d : Dlk) (good : Nat) : List Nat := (if capUnsent d then d.degrades.dropLast else d.degrades) ++ [good]

/-- A lane in receive service fails (R183): taken out, frames in progress abandoned, the reduced mask sent and repeated; in ACTIVE, below MIN_LANES the link goes down (R177). -/
def laneFails (p l : Nat) (s : State) : State :=
  let d := s.dlk p
  let st := (s.port p).st
  let phys := (s.port p).rxMap.getD l l
  let good := clearBit d.rxGood l
  if !(st == .active || st == .exchange) then s
  else if st == .active && decide (popcount 4 good < d.minLanes) then dlkLeave p .detect (minCause s p) phys s
  else
    let s := modDlk p (fun d =>
      { d with rxGood := good, degrades := d.degraded good, laneCap := some 64, readmitWait := clearBit d.readmitWait l,
               trains := d.trains.modify DlkTrain.reset l DlkTrain.again, bgState := d.bgState.set l 1,
               bgAttempts := d.bgAttempts.set l 0 }) (abandonAll p s)
    queueCap p 1 0 [] (refreshOwn p s)

/-- LOS or LOL on receive lane `phys` of a Dalom port (R177, R183). -/
def dlkLaneLoss (p phys : Nat) (los : Bool) (s : State) : State :=
  let l := rxLogical s p phys
  let st := (s.port p).st
  if los && (st == .dlkTrain || st == .lock || st == .exchange) && losClear s p == 0 then dlkLeave p .detect 1 phys s
  else if (s.dlk p).rxGood.testBit l then laneFails p l s
  else s

/-- The lanes of a mask that are in service: those whose return is not still awaited (R187). -/
def Dlk.serving (d : Dlk) (mask : Nat) : Nat := mask - (mask &&& d.readmitWait)

/-- The partner's ABORT has answered the oldest degrade (R183 to R185): counted, both events, and the hold-back for the lanes left; the CAP is repeated no more once none is left. -/
def degradeDone (p : Nat) (s : State) : State :=
  match (s.dlk p).degrades with
  | [] => s
  | m :: rest =>
    let s := modDlk p (fun d =>
      { d with degrades := rest, laneCap := if rest.isEmpty then none else d.laneCap, rxStripe := d.rxStripe &&& m,
               restripes := wrapAdd 16 d.restripes 1 }) s
    let k := (s.dlk p).serving m
    newRxTime p k (dlkEvent 67 p (holdBack p (popcount 4 k) s))

/-- A lane added by this end's CAP is seen in service (R187): LANE_READMIT, and held-back returns released. -/
def readmitDone (p mask : Nat) (s : State) : State :=
  let w := (s.dlk p).readmitWait
  if w &&& mask = 0 then s
  else
    let s := modDlk p (fun d => { d with readmitWait := w - (w &&& mask), restripes := wrapAdd 16 d.restripes 1 }) s
    let k := (s.dlk p).serving (s.dlk p).rxGood
    newRxTime p k (dlkEvent 68 p (holdBack p (popcount 4 k) s))

/-- A lane's skew to another (R158, R180): the captures of the latest mark both have, at most 150 ns apart at 53.125 GBd and 300 ns at 26.5625 GBd. -/
def skewOk (s : State) (p l k : Nat) : Bool :=
  let marks := (s.dlk p).marksRx
  match (marks.filter (fun m => m.lane == l)).findSome? (fun m =>
    (marks.find? (fun x => x.lane == k && x.index == m.index)).map (fun x => mag (m.time - x.time))) with
  | some v => decide (v ≤ (if (s.port p).cfg.speed = 5 then 150 else 300) * 65536)
  | none => false

/-- Does a lane meet what R180 asks of it alone: LOL clear, eight good codewords in a row, a MARK received? -/
def laneReady (s : State) (p l : Nat) : Bool :=
  !(s.lane (rxLaneOf s p l)).lol && decide (8 ≤ ((s.dlk p).train l).run8) && ((s.dlk p).train l).marked

/-- A lane locked in the background returns to receive service (R187): CAP kind 1 with the lane added. Not one in back-off. -/
def laneRelock (p l : Nat) (s : State) : State :=
  let d := s.dlk p
  if !stripes (s.port p) || d.rxGood.testBit l || d.bgState.get 0 l == 2 || !(d.train l).complete || !laneReady s p l ||
      !fourLanes.all (fun k => !d.rxGood.testBit k || skewOk s p l k) then s
  else
    let s := modDlk p (fun d => { d with rxGood := setBit d.rxGood l, readmitWait := setBit d.readmitWait l,
                                         bgState := d.bgState.erase l, bgAttempts := d.bgAttempts.erase l,
                                         trains := d.trains.modify DlkTrain.reset l DlkTrain.again }) s
    queueCap p 1 0 [] (refreshOwn p s)

/-- The transmitter stripes onto other lanes without a degrade or re-admission: the lanes with which the partner starts EXCHANGE (R177). -/
def stripeStart (p mask : Nat) (s : State) : State := newTxTime p (modDlk p (fun d => { d with txActive := mask }) s)

/-- The transmitter re-stripes onto the lanes a CAP names (R184, R187). -/
def restripe (p mask : Nat) (s : State) : State :=
  let d := s.dlk p
  let out := d.txActive - (d.txActive &&& mask)
  let add := mask - (mask &&& d.txActive)
  if mask = d.txActive || !stripes (s.port p) then s
  else if (s.port p).st = .active && out != 0 && decide (popcount 4 mask < d.minLanes) then dlkLeave p .detect (minCause s p) 0xFF s
  else
    let s := modDlk p (fun d =>
      { d with txActive := mask, abortDue := d.abortDue || out != 0, readmitDue := d.readmitDue || add != 0,
               trains := fourLanes.foldl (fun t l => if (out ||| add).testBit l then t.modify DlkTrain.reset l (fun x => { x with sent := 0 }) else t) d.trains,
               restripes := wrapAdd 16 d.restripes ((if out = 0 then 0 else 1) + (if add = 0 then 0 else 1)) }) s
    let s := if out ≠ 0 then dlkEvent 67 p s else s
    let s := if add ≠ 0 then dlkEvent 68 p s else s
    newTxTime p s

end Sys2Proof.Machine
end

