-- ==== Sys2Proof/Machine/TimeRows.lean ====
section
/-! DEFINITION. The rows of the oscillator, the references and the DPLLs (R338 to R363, R570) and of ESMC (R349, R350). -/

namespace Sys2Proof.Machine

/-- Do the monitors and DPLLs work: in every mode but SAFE (R37, R346)? -/
def timingRuns (s : State) : Bool := s.sys.mode != .safe

/-! ### XO_IN and WARM (R339, R340) -/

/-- The XO event and its Negative record. -/
def xoNote (kind : Nat) (s : State) : State :=
  raise 96 0 (b1 kind) (negWrite 0x0016 (b1 kind ++ b1 s.tim.xo.freq) s)

/-- A qualification timer is held: what is left of it counts on from the first mean after XO_IN is back (R339). -/
def holdTimer (s : State) (r : Nat) : State :=
  let f := s.ref r
  if f.st = .disabled then s
  else modRef r (fun f => { f with measured := false, remain := if f.st = .qualifying ∧ f.measured = true then f.remain - (s.clk.now - f.timerAt) else f.remain,
                                   timerAt := s.clk.now }) s

/-- XO_IN is lost (R339). -/
def xoLost (s : State) : State :=
  if !s.tim.xo.present || s.tim.xo.lost then s
  else
    let s := setWarm false (modXo (fun x => { x with lost := true }) s)
    let s := xoNote 0 s
    let s := selectBand 0 (refIds.foldl holdTimer s)
    [0, 1, 2, 3].foldl (fun s d => modDpll d (fun q =>
      if q.st = .locked then { q with bw := q.acqBw * 1000000 }
      else if q.st = .holdover then { q with cold := true } else q) s) s

/-- XO_LOST. -/
def execXoLost (s : State) : Host.Outcome State Fault Refusal := live s xoLost

/-- XO_IN is back (R339): SYN-T changes over, and the hold for WARM starts afresh. -/
def xoRestored (s : State) : State :=
  if !s.tim.xo.lost then s
  else selectBand 0 (xoNote 1 (modXo (fun x => { x with lost := false, rdyAt := s.clk.now }) s))

/-- XO_RESTORED. -/
def execXoRestored (s : State) : Host.Outcome State Fault Refusal := live s xoRestored

/-- XO_RDY changes (R340): deasserted, WARM clears; asserted, the hold starts. -/
def xoReady (level : Bool) (s : State) : State :=
  let was := s.tim.xo.ready
  let s := modXo (fun x => { x with rdyPin := level }) s
  if s.tim.xo.ready = was then s
  else if was then setWarm false s
  else modXo (fun x => { x with rdyAt := s.clk.now }) s

/-- XO_RDY_CHANGE. -/
def execXoRdyChange (level : Bool) (s : State) : Host.Outcome State Fault Refusal := live s (xoReady level)

/-- WARM is judged over the last WARM_HOLD_S (R340): `spread` is the peak-to-peak spread of the 10 s means of XO_IN's offset while a qualified reference existed, in 10^-12. -/
def warmJudge (spread : Nat) (s : State) : State :=
  let x := s.tim.xo
  if !x.ready || x.missing then s
  else
    let s := if x.warm then s else advanceTo (x.rdyAt + x.holdS * secTicks) s
    if spread ≤ x.wander * 1000 then setWarm true s
    else if x.warm then modXo (fun x => { x with rdyAt := s.clk.now }) (setWarm false s)
    else s

/-- WARM_HOLD_EXPIRY. -/
def execWarmHoldExpiry (spread : Nat) (s : State) : Host.Outcome State Fault Refusal := live s (warmJudge spread)

/-! ### References (R344 to R347, R360) -/

/-- REF_ACTIVITY_FAILURE: a pin or port reference's activity monitor fails. -/
def execRefActivityFailure (r : Fin 14) (s : State) : Host.Outcome State Fault Refusal :=
  live s (fun s => if timingRuns s && (s.ref r.val).st != .disabled then refFail r.val s.clk.now s else s)

/-- The activity a monitor finds: the parent's presence, and no PREF without its lane (R344). -/
def activeNow (s : State) (r : Nat) (act : Bool) : Bool :=
  if r = 15 then parentPresent s
  else if 6 ≤ r ∧ r ≤ 13 then act && !(s.lane (s.ref r).lane).lol && !laneRxOff s (s.ref r).lane
  else act && (s.ref r).absentUntil.isNone

/-- The soft limit in 10^-12 (R345). -/
def softLimit (f : Ref) : Nat := f.reject * 500

/-- A QUALIFIED reference's offset crosses the soft limit (R360): DRIFT, with its time latched where the reference is selected. -/
def driftJudge (r : Nat) (s : State) : State :=
  let f := s.ref r
  if softLimit f < mag f.offset && !f.drift then
    let sel := [0, 1, 2, 3].any (fun d => (s.dpll d).selected == some r)
    raise 100 r (leInt 4 (clampInt 32 f.offset)) (modRef r (fun f =>
      { f with drift := true, driftAt := if sel && f.driftAt.isNone then some s.clk.now else f.driftAt,
               driftTod := if sel && f.driftAt.isNone then s.todSec else f.driftTod }) s)
  else s

/-- A QUALIFIED reference's offset is judged: a crossing of the soft limit, and disqualification beyond the reject limit in the same update (R346, R371). -/
def judgeQualified (r : Nat) (s : State) : State :=
  let s := driftJudge r s
  if (s.ref r).reject * 1000 < mag (s.ref r).offset then disqualify r s.clk.now s else s

/-- A reference's offset is judged (R346), but not while XO_IN is missing (R339). -/
def judgeRef (r : Nat) (s : State) : State :=
  let f := s.ref r
  if s.tim.xo.missing then s
  else
    let first := !f.measured
    let s := modRef r (fun f => { f with measured := true, timerAt := if first then s.clk.now else f.timerAt }) s
    let inAccept := decide (mag f.offset ≤ f.accept * 1000)
    match f.st with
    | .unqualified =>
      if inAccept then modRef r (fun f => { f with st := .qualifying, remain := f.qualS * secTicks, timerAt := s.clk.now }) s else s
    | .qualifying => if inAccept then s else modRef r (fun f => { f with st := .unqualified, remain := 0 }) s
    | .qualified => judgeQualified r s
    | .disabled => s

/-- A monitor update (R345): the mean offset as measured, the slope that the trend monitor of a QUALIFIED reference fits while XO_IN is there (R339, R360), and activity. -/
def monitorUpdate (r : Nat) (act : Bool) (offset slope : Int) (s : State) : State :=
  if !timingRuns s || (s.ref r).st == .disabled then s
  else
    let a := activeNow s r act
    let trend := (s.ref r).st == .qualified && !s.tim.xo.missing
    let s := modRef r (fun f => { f with offset := offset, slope := if trend then slope else f.slope }) s
    if a then judgeRef r (modRef r (fun f => { f with activity := true }) s)
    else if (s.ref r).activity then refFail r s.clk.now s
    else s

/-- FREQ_MONITOR_UPDATE: offsets in 10^-12, the slope in 10^-12 per second. -/
def execFreqMonitorUpdate (r : Fin 15) (act : Bool) (offset slope : Int) (s : State) : Host.Outcome State Fault Refusal :=
  live s (monitorUpdate (if r.val = 14 then 15 else r.val) act offset slope)

/-- DRIFT_CLEAR_EXPIRY: the offset has stayed inside the soft limit for QUAL_TIME_S. -/
def execDriftClearExpiry (r : Fin 15) (s : State) : Host.Outcome State Fault Refusal :=
  live s (fun s =>
    let k := if r.val = 14 then 15 else r.val
    if (s.ref k).drift && decide (mag (s.ref k).offset ≤ softLimit (s.ref k)) && !s.tim.xo.missing then
      modRef k (fun f => { f with drift := false }) s
    else s)

/-- The qualification timer of a reference expires (R346). -/
def qualify (r : Nat) (s : State) : State :=
  let f := s.ref r
  if f.st ≠ .qualifying || s.tim.xo.missing || !f.measured then s
  else
    let s := advanceTo (f.timerAt + f.remain) s
    raise 98 r (leInt 4 (clampInt 32 f.offset)) (modRef r (fun f => { f with st := .qualified, remain := 0 }) s)

/-- QUALIFICATION_TIMER_EXPIRY. -/
def execQualificationTimerExpiry (r : Fin 15) (s : State) : Host.Outcome State Fault Refusal :=
  live s (qualify (if r.val = 14 then 15 else r.val))

/-! ### The DPLLs (R351 to R362) -/

/-- The instant of the next selection tick, every 10 ms (R351). -/
def nextTick (now : Nat) : Nat := (now / (10 * msTicks) + 1) * (10 * msTicks)

/-- A selection tick (R351), at the next multiple of 10 ms (log 2): the loops as they stand, then each DPLL's choice, then ESMC changes. `loops` are the steering (10^-12) and phase error (2^-16 ns) of each DPLL, `src` the time of day of a selected time source. -/
def selectionTick (loops : List (Int × Int)) (src : Int) (s : State) : State :=
  if !timingRuns s then s
  else
    let s := advanceTo (nextTick s.clk.now) s
    let s := [0, 1, 2, 3].foldl (fun s d => match loops[d]? with
      | some x => loopTick d x.1 x.2 s
      | none => s) s
    announceLowered (s.dpll 0).st (esmcChanges ([0, 1, 2, 3].foldl (dpllTick src) s))

/-- SELECTION_TICK. -/
def execSelectionTick (loops : List (Int × Int)) (src : Int) (s : State) : Host.Outcome State Fault Refusal :=
  live s (selectionTick loops src)

/-- Is a DPLL's phase error below `k` times LOCK_THRESH (given in ps)? -/
def phaseWithin (q : Dpll) (k : Nat) : Bool := decide (mag q.phase * 1000 < k * q.thresh * 65536)

/-- The lock criterion's dwell ends (R355): not in frequency-only acquisition, with a JUMP pending, or during a slew. -/
def lockDwell (d : Nat) (s : State) : State :=
  let q := s.dpll d
  if q.st = .acquire ∧ q.lossAt = none ∧ q.freqOnly = false ∧ q.jump = none ∧ q.slew = none ∧ phaseWithin q 1 then enterLocked d s else s

/-- DPLL_LOCK_DWELL_EXPIRY. -/
def execDpllLockDwellExpiry (d : Fin 4) (s : State) : Host.Outcome State Fault Refusal := live s (lockDwell d.val)

/-- The phase error has stayed above 8 × LOCK_THRESH (R355). -/
def dpllUnlock (d : Nat) (s : State) : State :=
  let q := s.dpll d
  if q.st = .locked ∧ q.lossAt = none ∧ 8 * q.thresh * 65536 < mag q.phase * 1000 then
    dpllEvent 103 d (modDpll d (fun q => { q with st := .acquire, bw := q.acqBw * 1000000 }) s)
  else s

/-- DPLL_UNLOCK. -/
def execDpllUnlock (d : Fin 4) (s : State) : Host.Outcome State Fault Refusal := live s (dpllUnlock d.val)

/-- A narrowing step (R356): a quarter of the bandwidth in force, but not below TRACK_BW. -/
def narrow (d : Nat) (s : State) : State :=
  let q := s.dpll d
  if q.st = .locked ∧ phaseWithin q 1 ∧ q.trackBw < q.bw then
    modDpll d (fun q => { q with bw := max q.trackBw (bwNow s d / 4) }) s
  else s

/-- BANDWIDTH_NARROW_STEP. -/
def execBandwidthNarrowStep (d : Fin 4) (s : State) : Host.Outcome State Fault Refusal := live s (narrow d.val)

/-- The source of DPLL-T as records name it: 0 Ethernet parent, 1 Dalom parent, 2 PPSIN, and its number (R488). -/
def sourceOfT (s : State) : Bytes :=
  match (s.dpll 0).selected with
  | some 15 => (match s.tim.time.parent with
    | some p => sourceCode s p
    | none => b1 0 ++ b1 0xFF)
  | some r => sourceCode s (100 + (r - 4))
  | none => b1 0 ++ b1 0xFF

/-- Frequency is locked (R361): a small offset is slewed, a large one raises JUMP. `o` is the source's time minus local time in 2^-16 ns. -/
def frequencyLock (o : Int) (s : State) : State :=
  let q := s.dpll 0
  if !(q.st = .acquire ∧ q.freqOnly ∧ q.lossAt = none ∧ q.jump = none) then s
  else
    let s := modDpll 0 (fun q => { q with freqOnly := false }) s
    if mag o * 1000 ≤ q.stepLimit * 65536 then startSlew o s
    else
      let s := modDpll 0 (fun q => { q with jump := some o }) s
      raise 107 0 (leInt 8 o) (negWrite 0x0011 (sourceOfT s ++ zeros 2 ++ leInt 8 o) s)

/-- FREQUENCY_LOCK. -/
def execFrequencyLock (o : Int) (s : State) : Host.Outcome State Fault Refusal := live s (frequencyLock o)

/-- A slew ends (R358, R362): the time it still takes passes, at SLOPE_LIMIT. -/
def slewComplete (s : State) : State :=
  match (s.dpll 0).slew with
  | none => s
  | some r =>
    let per := 524288 * (s.dpll 0).slope
    let s := passTicks (if per = 0 then 0 else (mag r + per - 1) / per) s
    modDpll 0 (fun q => { q with slew := none }) s

/-- SLEW_COMPLETE. -/
def execSlewComplete (s : State) : Host.Outcome State Fault Refusal := live s slewComplete

/-- Holdover reaches HOLDOVER_SPEC_S (R411). -/
def execHoldoverSpecExpiry (s : State) : Host.Outcome State Fault Refusal :=
  live s (fun s =>
    let q := s.dpll 0
    if q.ho then modDpll 0 (fun q => { q with specOut := true }) (advanceTo (q.hoStart + s.tim.time.hoSpec * secTicks) s) else s)

/-! ### ESMC (R349, R350) -/

/-- ESMC_PDU_RX: a PDU on an Ethernet port with ESMC enabled. -/
def execEsmcPduRx (p : Port) (ssm essm : Byte) (s : State) : Host.Outcome State Fault Refusal :=
  live s (heard p.val 64 fun s =>
    if (s.esmc p.val).enable && (s.port p.val).st == .up && timingRuns s then
      modEsmc p.val (fun e => { e with ssm := ssm.toNat, essm := essm.toNat, got := some s.clk.now, timeout := false }) s
    else s)

/-- Does a port await quality levels: an Ethernet port with ESMC enabled, or a Dalom port (R349)? -/
def esmcAwaited (s : State) (p : Nat) : Bool := timingRuns s && ((s.esmc p).enable || (s.port p).cfg.dalom)

/-- ESMC_TIMEOUT: nothing for 5 s. -/
def execEsmcTimeout (p : Port) (s : State) : Host.Outcome State Fault Refusal :=
  live s (fun s =>
    match (s.esmc p.val).got with
    | some t => modEsmc p.val (fun e => { e with timeout := true }) (advanceTo (t + 5 * secTicks) s)
    | none => if esmcAwaited s p.val then modEsmc p.val (fun e => { e with timeout := true }) s else s)

/-- ESMC_INFO_TX: the information PDU of each second. -/
def execEsmcInfoTx (p : Port) (s : State) : Host.Outcome State Fault Refusal :=
  live s (fun s =>
    if (s.esmc p.val).enable && !(s.port p.val).cfg.dalom && (s.port p.val).st == .up && timingRuns s then esmcSend p.val s else s)

end Sys2Proof.Machine
end

