-- ==== Sys2Proof/Machine/ClockRows.lean ====
section
/-! DEFINITION. The rows of synthesizers, clock and PPS outputs and the TOD serial lines (R379, R384, R388 to R392). -/

namespace Sys2Proof.Machine

/-! ### Synthesizers and relocks (R379, R384) -/

/-- The once-per-second check of a SYN-O (R379): where the band in force no longer covers F at the present Tj it re-bands, and its outputs relock. -/
def rebandCheck (i : Nat) (s : State) : State :=
  let y := s.syn i
  let covers : Bool := match y.inForce with
    | some b => b.serves i y.freq s.pwr.tj
    | none => false
  if !timingRuns s || covers then s
  else match pickBand (y.bands i) i y.freq s.pwr.tj with
    | none => s
    | some k =>
      let s := modSyn i (fun y => { y with shifted := true }) (takeBand i k s)
      synRelock i (raise 109 i (b1 k) s)

/-- REBAND_CHECK. -/
def execRebandCheck (i : Fin 2) (s : State) : Host.Outcome State Fault Refusal := live s (rebandCheck (5 + i.val))

/-- SYNTH_LOCK_LOSS: the lock detector reports loss of lock. -/
def execSynthLockLoss (i : Fin 7) (s : State) : Host.Outcome State Fault Refusal := live s (synRelock i.val)

/-- An output whose source has settled (R384): a squelched one resumes; a bridged one waits for its change back. -/
def outSettled (n : Nat) (s : State) : State :=
  let o := s.cko n
  if o.st = .squelched ∧ o.fmt ≠ 0 ∧ timingRuns s then
    modCko n (fun o => { o with st := .run, relocks := if o.relock then satAdd 16 o.relocks 1 else o.relocks, relock := false }) s
  else s

/-- A source stays within 1 ppm of its target for 100 µs. -/
def sourceSettles (i : Nat) (s : State) : State :=
  let s := modSyn i (fun y => { y with st := 1 }) s
  (List.range 8).foldl (fun s n => if sourceSyn (s.cko n).source = i then outSettled n s else s) s

/-- SOURCE_SETTLED. -/
def execSourceSettled (i : Fin 7) (s : State) : Host.Outcome State Fault Refusal := live s (sourceSettles i.val)

/-- BRIDGED_CHANGE_BACK: the phases lie within 50 ps of each other (R384). -/
def execBridgedChangeBack (n : Fin 8) (s : State) : Host.Outcome State Fault Refusal :=
  live s (fun s =>
    let o := s.cko n.val
    if o.st = .bridged && sourceSettled s o.source then
      modCko n.val (fun o => { o with st := .run, relocks := satAdd 16 o.relocks 1, relock := false }) s
    else s)

/-! ### PPS outputs (R388, R389) -/

/-- Timebase periods until time of day next stands at a whole second. -/
def ticksToSecond (s : State) : Nat :=
  let r := ((sec16 - s.tod16 % sec16) % sec16).toNat * 10 ^ 13
  let step := (524288 * (1000000000000 + (s.dpll 0).steer)).toNat
  if step = 0 then 0 else (r + step - 1) / step

/-- Does a PPS output pulse at a boundary, as its gate says? -/
def ppsOpen (s : State) (n : Nat) : Bool :=
  let g := (s.pps n).gate
  s.clk.todSet && (g == 1 || (g == 2 && (s.dpll 0).st == .locked)) && timingRuns s

/-- A PPS output at a second boundary (R388, R389): it rises if its gate is open and its last rise lies at least 0.5 s back. -/
def ppsRise (meas : Int) (s : State) (n : Nat) : State :=
  if !ppsOpen s n then s
  else
    let far : Bool := match (s.pps n).lastRise with
      | some t => decide (t + secTicks / 2 ≤ s.clk.now)
      | none => true
    if far then
      (modPps n (fun p => { p with high := true, pulse := p.width, lastRise := some s.clk.now, phaseMeas := clampInt 32 meas }) s).send (.pps n true)
    else modPps n (fun p => { p with skipped := satAdd 16 p.skipped 1 }) s

/-- A second boundary of DPLL-T's time of day: the PPS outputs, and the meters that start on SECOND (R436). The row is the first timebase edge at or after the boundary, whose own stamp is exact. -/
def secondBoundary (m0 m1 : Int) (s : State) : State :=
  if !s.clk.todSet then s
  else
    let s := passTicks (ticksToSecond s) s
    let s := ppsRise m1 (ppsRise m0 s 0) 1
    meterEdge 0xFE (baseStamp s - s.tod16 % sec16 * 1000) s

/-- PPS_SECOND_BOUNDARY: the feedback paths' measures of the two edges, in 0.78125 ps. -/
def execPpsSecondBoundary (m0 m1 : Int) (s : State) : Host.Outcome State Fault Refusal := live s (secondBoundary m0 m1)

/-- PPS_WIDTH_END: a pulse that has begun completes its width. -/
def execPpsWidthEnd (n : Fin 2) (s : State) : Host.Outcome State Fault Refusal :=
  live s (fun s =>
    let p := s.pps n.val
    if p.high then
      (modPps n.val (fun p => { p with high := false }) (advanceTo (p.lastRise.getD 0 + p.pulse * 10 / 8) s)).send (.pps n.val false)
    else s)

/-! ### TOD lines (R391, R392, R432) -/

/-- The leap code of the time properties: 1 for leap61, 2 for leap59. -/
def leapOf (flags : Nat) : Nat := if flags.testBit 0 then 1 else if flags.testBit 1 then 2 else 0

/-- The message TOD_TX sends, naming the next second boundary (R390, R391). -/
def todOut (s : State) : Bytes :=
  let a := advertised s
  todMessage (s.todSec + 1) a.utc (leapOf a.flags) a.cls a.acc s.nv.timeGen (s.dpll 0).st

/-- TOD_TX_START. -/
def execTodTxStart (s : State) : Host.Outcome State Fault Refusal :=
  live s (fun s => if s.tim.tod.tx && s.clk.todSet && timingRuns s then s.send (.tod (todOut s)) else s)

/-- A valid message's UTC offset and leap flags replace the time properties where FROM_TOD asks for it (R432). -/
def fromTod (m : TodMsg) (s : State) : State :=
  if !s.tim.time.fromTod then s
  else modTime (fun t => { t with utc := m.utc, flags := t.flags / 4 * 4 + (if m.leap = 1 then 1 else if m.leap = 2 then 2 else 0) }) s

/-- A TOD_RX message completes (R392): malformed, late, or valid and waiting for its pulse; `late` says that the pulse it would precede was granted first. -/
def todMessageRx (b : Bytes) (late : Bool) (s : State) : State :=
  if !s.tim.tod.rx || !timingRuns s then s
  else match todParse b with
    | none => modTod (fun t => { t with bad := satAdd 32 t.bad 1 }) s
    | some m =>
      if late then modTod (fun t => { t with late := satAdd 16 t.late 1 }) s
      else
        let s := modTod (fun t =>
          { t with valid := satAdd 32 t.valid 1, extra := if t.msg.isSome then satAdd 16 t.extra 1 else t.extra, msg := some m }) s
        fromTod m s

/-- TOD_RX_MESSAGE. -/
def execTodRxMessage (b : Bytes) (late : Bool) (s : State) : Host.Outcome State Fault Refusal := live s (todMessageRx b late)

/-- PPS_DELAY_PS in 2^-16 ns. -/
def ppsDelay16 (s : State) : Int := s.tim.time.ppsDelay * 65536 / 1000

/-- A PPSIN edge (R392, R409): the pairing closes, and a pulse with a message gives DPLL-T a phase sample. `capture` is the coarse capture of the edge on the TS counter in 2^-16 ns; an engine's stamp of the same edge, which came before, replaces it (R445, log 124). -/
def ppsinPulse (i : Nat) (capture : Int) (s : State) : State :=
  if !(s.tim.tod.rx && s.tim.tod.pps == i) || !timingRuns s then s
  else
    let s := modTod (fun t =>
      { t with paired := t.msg, msg := none, lastHad := t.msg.isSome, missing := if t.msg.isSome then t.missing else satAdd 16 t.missing 1 }) s
    let capture := capture + s.tim.tde.pulses.get 0 i / 1000
    let s := modTde (fun t => { t with pulses := t.pulses.erase i }) s
    match s.tim.tod.paired with
    | some m => if (s.ref (4 + i)).st = .disabled then s
      else takeSample (100 + i) (asTod s capture - ppsDelay16 s - (m.sec : Int) * sec16) s
    | none => s

/-- PPSIN_PULSE. -/
def execPpsinPulse (i : Fin 2) (capture : Int) (s : State) : Host.Outcome State Fault Refusal := live s (ppsinPulse i.val capture)

end Sys2Proof.Machine
end

