-- ==== Sys2Proof/Machine/CalRows.lean ====
section
/-! DEFINITION. Calibration at work (R460 to R470): steps, discards, sweeps, publication and saves. -/

namespace Sys2Proof.Machine

/-! ### Sweeps (R468) -/

/-- The blocks a sweep names. -/
def SweepWork.blocks (w : SweepWork) : List Nat := (List.range w.count).map (· + w.first)

/-- A block as a sweep finds it. -/
def calSnapshot (s : State) (i : Nat) : Nat × List (Nat × Nat) × Bool × Bool :=
  (i, (s.cal i).live, (s.cal i).converged, (s.cal i).restored)

/-- A sweep lets its blocks go. -/
def sweepClear (w : SweepWork) (s : State) : State := w.blocks.foldl (fun s i => modCal i (fun b => { b with sweep := false }) s) s

/-- Every named block returns to the values it held when the sweep started. -/
def sweepRestore (w : SweepWork) (s : State) : State :=
  sweepClear w (w.before.foldl (fun s x =>
    calTouch x.1 (modCal x.1 (fun b => { b with live := x.2.1, converged := x.2.2.1, restored := x.2.2.2, run := 0, small := true }) s)) s)

/-- Accepted steps a sweep needs. -/
def SweepWork.total (w : SweepWork) : Nat := (w.blocks.map calSteps).sum

/-- PROGRESS of a sweep in 1/10,000 (R468): the save counts as one tenth where there is one. -/
def SweepWork.progress (w : SweepWork) (units : Nat) : Nat :=
  let share := if w.save then 9000 else 10000
  if w.total = 0 then 0 else min share (units * share / w.total)

/-- A sweep starts: factory values and SWEEP set on each named block; with no block it goes straight to its save. -/
def sweepStart (w : SweepWork) (s : State) : State :=
  w.blocks.foldl (fun s i => modCal i (fun b => { b with sweep := true }) (calReload i s)) s

/-- The save of a sweep begins: the buffer is copied and COMMIT of the target slot is 0 (R470). -/
def saveBegin (o : Op) (w : SweepWork) (s : State) : State :=
  if s.pwr.nvInhibit then s
  else
    let c := contactBegin s
    setOp { o with work := .sweep { w with saving := some (c.1, c.2.1) } } c.2.2

/-- A sweep looks at its blocks after a step: when all have converged it saves, or is done. -/
def sweepCheck (h : Nat) (s : State) : State :=
  match s.op? h with
  | none => s
  | some o =>
    match o.work with
    | .sweep w =>
      if w.blocks.all (fun i => (s.cal i).converged) then
        if w.save then (if w.saving.isNone && o.state == .running then saveBegin o w s else s)
        else if o.state == .running then opFinish h .done 0 (sweepClear w s)
        else s
      else s
    | _ => s

/-- A step of a sweep's block: UNITS and PROGRESS, a suspend point, and the check. -/
def sweepStep (h : Nat) (s : State) : State :=
  match s.op? h with
  | none => s
  | some o =>
    match o.work with
    | .sweep w =>
      let s := setOp { o with units := o.units + 1, progress := w.progress (o.units + 1) } s
      sweepCheck h (suspendPoint h s)
    | _ => s

/-- A named block has raised CAL_STALL: the sweep fails with BUSY and its blocks return to what they were (R468). -/
def sweepStall (h : Nat) (s : State) : State :=
  match s.op? h with
  | none => s
  | some o =>
    match o.work with
    | .sweep w => if o.state == .running then opFinish h .failed stBusy (sweepRestore w s) else suspendPoint h s
    | _ => s

/-- Does a block step now: not while paused, nor while its sweep does not work (R463, R468)? -/
def calSteps? (s : State) (i : Nat) : Bool :=
  !calPaused s i && s.sys.mode != .safe && ((sweepOf s i).map (fun o => o.working)).getD true

/-- After a discard: a block that raises CAL_STALL by it, where it was not stalled before, ends its sweep (R468). -/
def afterDiscard (i : Nat) (was : Bool) (s : State) : State :=
  if (s.cal i).stall && !was then (match sweepOf s i with
    | some o => sweepStall o.handle s
    | none => s)
  else s

/-- Is a lane's receiver locked to a signal: LOS and LOL clear? -/
def laneLocked (s : State) (l : Nat) : Bool := !(s.lane l).los && !(s.lane l).lol

/-- The assumed state of a block's step so far as the block's state shows it (R31, R32, R460): the words say which lane of a CAPTURE block it measures, and whether a LANE block's step is a latency probe. What lies outside the state (idle time, edges close by, a phase move, the temperature's drift) the step itself reports. -/
def calAssumed (s : State) (i : Nat) (ws : List (Nat × Nat)) : Bool :=
  match calKind i with
  | 0 => laneLocked s i && (!(ws.any (fun w => decide (w.1 < 2))) || (s.port (i / 4)).isUp)
  | 1 => ws.all (fun w => laneLocked s (4 * (i - 256) + w.1 / 4 % 4))
  | 2 => isRotating s (i - 320)
  | 3 => (s.syn (i - 328)).st == 1
  | 4 => if i < 343 then (s.cko (i - 335)).st == .run else ppsOpen s (i - 343)
  | _ => true

/-- A step completes (R460, R462): its words accepted, or discarded because the input left its assumed state; one that an APPLY at the same instant preceded is dropped and counts as neither (R477, log 125). -/
def calStep (i : Nat) (ok : Bool) (ws : List (Nat × Nat)) (s : State) : State :=
  if !calSteps? s i then s
  else if (s.cal i).applied = some s.clk.now then modCal i (fun b => { b with applied := none }) s
  else if ok && calAssumed s i ws then
    let s := calAccept i ws s
    (match sweepOf s i with
     | some o => sweepStep o.handle s
     | none => s)
  else afterDiscard i (s.cal i).stall (calDiscard i 1 s)

/-- CAL_STEP. -/
def execCalStep (i : Fin 356) (ok : Bool) (ws : List (Nat × Nat)) (s : State) : Host.Outcome State Fault Refusal :=
  live s (calStep i.val ok ws)

/-- CAL_NO_GAP_EXPIRY: a due step has found no gap within 1 s. -/
def execCalNoGapExpiry (i : Fin 356) (s : State) : Host.Outcome State Fault Refusal :=
  live s (fun s => if calSteps? s i.val then afterDiscard i.val (s.cal i.val).stall (calDiscard i.val 2 s) else s)

/-! ### Publication (R466) -/

/-- The words of a block that are delay-path values. -/
def delayWords (i : Nat) : List Nat := if i < 256 then [0, 1] else if i < 320 then List.range 16 else []

/-- Publish a block's delay values. -/
def publishBlock (s : State) (i : Nat) : State :=
  let ws := (delayWords i).map (fun w => (w, calLive s i w))
  modTim (fun t => { t with published := t.published.modify [] i (fun m => ws.foldl (fun (m : Tab Nat) x => m.set x.1 x.2) m) }) s

/-- The port of a delay block. -/
def calPort (i : Nat) : Nat := if i < 256 then i / 4 else i - 256

/-- Until its next mark a Dalom port that stripes keeps the delays in force before a publication (R466). -/
def holdDelays (p : Nat) (s : State) : State :=
  let v := (fourLanes.map (txInForce s p), fourLanes.map (rxInForce s p))
  modDlk p (fun d => { d with held := some v }) s

/-- Every changed delay value is published, at least 1 s after the last publication; Dalom ports in EXCHANGE and ACTIVE send CAP kind 2 (R466, R181). -/
def publish (s : State) : State :=
  let l := s.tim.calDirty
  if l.isEmpty then s
  else
    let s := match s.tim.pubAt with
      | some t => advanceTo (t + secTicks) s
      | none => s
    let ports := (List.range 64).filter (fun p => l.any (fun i => calPort i == p) && stripes (s.port p) && (s.port p).cfg.dalom)
    let s := ports.foldl (fun s p => holdDelays p s) s
    let s := modTim (fun t => { t with calDirty := [], pubAt := some s.clk.now }) (l.foldl publishBlock s)
    ports.foldl (fun s p => queueCap p 2 0 [] (refreshOwn p s)) s

/-- DELAY_PUBLICATION. -/
def execDelayPublication (s : State) : Host.Outcome State Fault Refusal := live s publish

/-! ### Saves (R470) -/

/-- The last MRAM write of a save: COMMIT makes the slot valid and the sweep is done. -/
def saveDone (h : Nat) (s : State) : State :=
  match s.op? h with
  | none => s
  | some o =>
    match o.work with
    | .sweep w =>
      if o.state ≠ .running || !w.save || s.pwr.nvInhibit || !(w.blocks.all (fun i => (s.cal i).converged)) then s
      else
        let c : Nat × Bytes × State := match w.saving with
          | some x => (x.1, x.2, s)
          | none => contactBegin s
        opFinish h .done 0 (sweepClear w (contactCommit c.1 c.2.1 c.2.2))
    | _ => s

/-- CONTACT_SHEET_SAVE_DONE. -/
def execContactSheetSaveDone (h : Nat) (s : State) : Host.Outcome State Fault Refusal := live s (saveDone h)

end Sys2Proof.Machine
end

