-- ==== Sys2Proof/Machine/CpuRows.lean ====
section
/-! DEFINITION. The CPU port (R540 to R545): trap rings bring trapped frames to the host, inject rings send the host's frames. -/

namespace Sys2Proof.Machine

/-- A trap ring. -/
def State.trapRing (s : State) (c : Nat) : CpuRing := s.trap.get CpuRing.reset c
/-- An inject ring. -/
def State.injRing (s : State) (c : Nat) : CpuRing := s.inject.get CpuRing.reset c
/-- Change a trap ring. -/
def modTrap (c : Nat) (f : CpuRing → CpuRing) (s : State) : State := { s with trap := s.trap.modify CpuRing.reset c f }
/-- Change an inject ring. -/
def modInj (c : Nat) (f : CpuRing → CpuRing) (s : State) : State := { s with inject := s.inject.modify CpuRing.reset c f }

/-- Descriptors of a ring; sizes outside 2^8 to 2^16 take the nearer limit. -/
def CpuRing.size (r : CpuRing) : Nat := 2 ^ (min 16 (max 8 r.log))

/-- The host address of the descriptor at DEV_IDX. -/
def CpuRing.slot (r : CpuRing) : Nat := r.base.toNat / 4096 * 4096 + 32 * (r.devIdx % r.size)

/-- Advance DEV_IDX past one descriptor. -/
def CpuRing.pop (r : CpuRing) : CpuRing :=
  { r with devIdx := (r.devIdx + 1) % r.size, posted := r.posted.drop 1, taken := false, fin := none }

/-- May a ring use its descriptors now (R545, R525)? -/
def ringLive (s : State) (r : CpuRing) : Bool := r.enable && s.dma

/-- The trapped frame of class `c` served next, round-robin across ingress ports (R542). -/
def nextTrap (s : State) (c : Nat) : Option Frame :=
  ((List.range 65).map (fun k => (s.core.trapRr.get 0 c + k) % 65)).findSome? (fun i => ((s.queue (trapKey i c)).head?).bind s.frame?)

/-- The trap code of a frame's result. -/
def trapCode (f : Frame) : Nat := match f.result with
  | some r => (match r.dest with
    | .trap k => k
    | _ => 0)
  | none => 0

/-- Deliver one trapped frame (R541, R542): the frame, then its descriptor with DONE, then DEV_IDX, then TRAP_DONE; the buffer is freed. -/
def trapDeliver (c : Nat) (s : State) : State :=
  let r := s.trapRing c
  match ringLive s r, r.posted, nextTrap s c with
  | true, (d, _) :: _, some f =>
    let n := min f.len (field d 8 2)
    let tagged := (f.result.map (fun (x : Result) => x.tagged)).getD false
    let vid := (f.result.map (fun (x : Result) => x.vid)).getD 0
    let t := f.stamp.toNat
    let desc := slice d 0 10 ++ le 2 f.len ++ b1 f.inPort ++ b1 c ++ b1 (trapCode f) ++
      b1 (bitsNat [true, decide (n < f.len), tagged]) ++ le 2 vid ++ le 2 (t % 65536) ++ le 4 (t / 65536 % 2 ^ 32) ++
      le 2 f.gen ++ zeros 2 ++ le 4 f.handle
    let s := s.send (.hostWrite (field d 0 8) (f.bytes.take n))
    let s := modTrap c CpuRing.pop (s.send (.hostWrite r.slot desc))
    let s := modCore (fun k => { k with trapRr := k.trapRr.set c ((f.inPort + 1) % 65) }) s
    settle (dropFrame f.id (raise (8 + c) 0 [] s))
  | _, _, _ => s

/-- TRAP_FRAME_DELIVERY. -/
def execTrapFrameDelivery (c : TC) (s : State) : Host.Outcome State Fault Refusal := live s (trapDeliver c.val)

/-- Why an inject descriptor is refused, as its STATUS (R543): length, forwarding, port. -/
def injectRefusal (s : State) (d : Bytes) : Option Nat :=
  let len := field d 8 2
  let port := (byteAt d 10).toNat
  if len < 60 ∨ 9212 < len ∨ 7 < (byteAt d 11).toNat then some 3
  else if !s.moves then some 4
  else if 63 < port || !(s.port port).isUp then some 1
  else none

/-- Take the next inject descriptor of a ring (R544): a buffer of owner 18 charged to port 64, the copy, and its place in the egress store; one descriptor of a ring at a time, and it waits while the store has no room. -/
def injectTake (c : Nat) (s : State) : State :=
  let r := s.injRing c
  match ringLive s r && !r.taken, r.posted with
  | true, (d, b) :: rest =>
    let finish (st handle : Nat) (s : State) : State :=
      modInj c (fun r => { r with taken := true, posted := (d.take 24 ++ le 4 handle ++ d.drop 28, b) :: rest, fin := some (b1 st ++ zeros 8) }) s
    match injectRefusal s d with
    | some k => finish k 0 s
    | none =>
      let j := (byteAt d 10).toNat
      let tc := (byteAt d 11).toNat
      let size := field d 8 2 + 4
      if 16384 < storeUsed s j tc + size then s
      else
        match admission 64 tc size (.port j) s with
        | (.drop _, s) => finish 2 0 s
        | (.take _ tiers _, s) =>
          match allocate 18 size tiers s with
          | (none, s) => finish 2 0 s
          | (some h, s) =>
            let x := ledgerMove h 18 1 18 2 s
            let s := freeHandle h 18 2 x.2
            let id := s.core.nextFrame
            let whole := withFcs (toLen (field d 8 2) b)
            let e : StoreEntry := {
              frame := id, size := whole.length, arrived := whole.length, bytes := whole, copies := [],
              started := false, result := none, inPort := 64, stamp := 0, inject := some (c, (byteAt d 12).toNat.testBit 1), fw := none }
            let s := modCore (fun k => { k with nextFrame := id + 1 }) (modStore j tc (· ++ [e]) s)
            modInj c (fun r => { r with taken := true, posted := (d.take 24 ++ le 4 h ++ d.drop 28, b) :: rest, fin := none }) s
  | _, _ => s

/-- Write back the inject descriptor that is done, raise INJECT_DONE and take the next (R544). -/
def injectDone (c : Nat) (s : State) : State :=
  let r := s.injRing c
  match ringLive s r, r.posted, r.fin with
  | true, (d, _) :: _, some w =>
    let desc := d.take 12 ++ [byteAt d 12 ||| 1] ++ w ++ zeros 2 ++ slice d 24 8
    let s := modInj c CpuRing.pop (s.send (.hostWrite r.slot desc))
    injectTake c (raise (16 + c) 0 [] s)
  | _, _, _ => injectTake c s

/-- INJECT_FRAME_DONE. -/
def execInjectFrameDone (c : TC) (s : State) : Host.Outcome State Fault Refusal := live s (injectDone c.val)

/-- The host posts empty trap descriptors up to an index (R540, R542). -/
def trapPost (c idx : Nat) (ds : List Bytes) (s : State) : State :=
  if s.sys.perst then s
  else
    let r := s.trapRing c
    let n := (idx + r.size - r.hostIdx % r.size) % r.size
    modTrap c (fun r => { r with hostIdx := idx % r.size,
                                 posted := if r.enable then r.posted ++ (ds.take n).map (fun d => (toLen 32 d, [])) else r.posted }) s

/-- TRAP_HOST_IDX_WRITE: the index, and the descriptors as they stand in host memory. -/
def execTrapHostIdxWrite (c : TC) (idx : BitVec 16) (ds : List Bytes) (s : State) : Host.Outcome State Fault Refusal :=
  live s (trapPost c.val idx.toNat ds)

/-- The host posts inject descriptors and their frames (R540, R544). -/
def injectPost (c idx : Nat) (ds : List (Bytes × Bytes)) (s : State) : State :=
  if s.sys.perst then s
  else
    let r := s.injRing c
    let n := (idx + r.size - r.hostIdx % r.size) % r.size
    injectTake c (modInj c (fun r => { r with
      hostIdx := idx % r.size,
      posted := if r.enable then r.posted ++ (ds.take n).map (fun d => (toLen 32 d.1, d.2)) else r.posted }) s)

/-- INJECT_HOST_IDX_WRITE: the index, and descriptors with their frames as they stand in host memory. -/
def execInjectHostIdxWrite (c : TC) (idx : BitVec 16) (ds : List (Bytes × Bytes)) (s : State) : Host.Outcome State Fault Refusal :=
  live s (injectPost c.val idx.toNat ds)

/-- Arm or disarm a ring (R540, R545). -/
def ringEnable (en : Bool) (r : CpuRing) : CpuRing :=
  if en && !r.enable then { r with enable := true, devIdx := r.hostIdx % r.size, posted := [], taken := false, fin := none }
  else if en then r
  else { r with enable := false, posted := [], taken := false, fin := none }

/-- A frame injected before its ring was disarmed is transmitted, its write-back discarded (R545). -/
def forgetInject (c : Nat) (s : State) : State :=
  modCore (fun k => { k with store := k.store.map (fun x => (x.1, x.2.map (fun e => match e.inject with
    | some (r, _) => if r = c then { e with inject := none } else e
    | none => e))) })
    { s with dlks := s.dlks.map (fun (p, d) => (p, { d with segTx := d.segTx.map (fun (k, x) =>
        (k, if (x.inject.map (·.1)) == some c then { x with inject := none } else x)) })) }

/-- Write CPU_CTRL.ENABLE of a ring. -/
def ringControl (trap : Bool) (c : Nat) (en : Bool) (s : State) : State :=
  if s.sys.perst then s
  else if trap then modTrap c (ringEnable en) s
  else if en then modInj c (ringEnable true) s
  else forgetInject c (modInj c (ringEnable false) s)

/-- CPU_RING_ENABLE_WRITE. -/
def execCpuRingEnableWrite (trap : Bool) (c : TC) (en : Bool) (s : State) : Host.Outcome State Fault Refusal :=
  live s (ringControl trap c.val en)

end Sys2Proof.Machine
end

