-- ==== Sys2Proof/Machine/Gcp.lean ====
section
/-! DEFINITION. The Gulro command protocol (R66 to R88): reading a packet, judging it by the steps of R80, and writing its reply. The opcodes themselves stand elsewhere; this file judges and runs any one of them given its row. -/

namespace Sys2Proof.Machine

/-- The transport of an origin (R66). -/
def via : Origin → Transport
  | .pcie => Transport.pcie | .inband .. => .inband | .sideband => .sideband

/-- A command packet as received, and where it came from. -/
structure Cmd where
  origin : Origin
  pkt : Bytes
  deriving DecidableEq, Repr

/-! ### The fields of R76 -/

def Cmd.version (c : Cmd) : Nat := field c.pkt 0 1
def Cmd.flags (c : Cmd) : Nat := field c.pkt 1 1
def Cmd.auth (c : Cmd) : Bool := c.flags.testBit 0
def Cmd.opcode (c : Cmd) : Nat := field c.pkt 2 2
def Cmd.seq (c : Cmd) : Nat := field c.pkt 4 4
def Cmd.len (c : Cmd) : Nat := field c.pkt 8 2
def Cmd.slot (c : Cmd) : Nat := field c.pkt 10 1
def Cmd.handle (c : Cmd) : Nat := field c.pkt 12 4
def Cmd.counter (c : Cmd) : Nat := field c.pkt 16 8
def Cmd.timeout (c : Cmd) : Nat := field c.pkt 24 4
def Cmd.crc (c : Cmd) : Nat := field c.pkt 28 4
def Cmd.params (c : Cmd) : Bytes := slice c.pkt 32 c.len
def Cmd.header (c : Cmd) : Bytes := c.pkt.take 32
def Cmd.tag (c : Cmd) : Bytes := slice c.pkt (32 + c.len) 16

/-- The key slot of an authenticated command, 0xFF for a plain one (R488). -/
def Cmd.slotCode (c : Cmd) : Nat := if c.auth then c.slot else 0xFF

/-- The bytes that PARAM_LEN and the tag require (step 2 of R80). -/
def Cmd.needs (c : Cmd) : Nat := 32 + c.len + (if c.auth then 16 else 0)

/-- Is the opcode of the long-operation control group (R95)? -/
def Cmd.control (c : Cmd) : Bool := c.opcode / 256 == 0x0B

/-- The port of an in-band command, 0xFF otherwise (R488). -/
def Cmd.portCode (c : Cmd) : Nat := match c.origin with
  | .inband p _ _ => p.val
  | _ => 0xFF

/-- The bytes of a packet whose fields an operand gives (R76). -/
def gcpBytes (op : Nat) (g : Gcp) : Bytes :=
  [g.version, g.flags] ++ le 2 op ++ le 4 g.sequence.toNat ++ le 2 g.paramLen.toNat ++ [g.keySlot, g.reserved] ++
  le 4 g.handle.toNat ++ le 8 g.counter.toNat ++ le 4 g.timeout.toNat ++ le 4 g.paramCrc.toNat ++ g.params ++ g.tag

/-! ### What an opcode's row says -/

/-- What running a command answers (step 16 of R80): a result at once, a long operation's handle, a reply that is due later, or a status reached only in executing. -/
inductive Answer where
  | done (result : Bytes)
  | started (handle : Nat)
  | later (k : DueKind)
  | refused (status : Nat) (result : Bytes)

/-- An opcode's row (R496 to R523): class, N marker, long type, PARAM_LEN, transports, reserved bytes of its parameters, modes, lifecycles, resource (step 13), its own conditions (step 14), the trace a refusal at step 14 leaves, its effect, and what follows the reply. -/
structure OpDef where
  clsA : Bool
  nMark : Bool
  long : Bool
  lenOk : Nat → Bool
  inbandOk : Bool
  sidebandOk : Bool
  resv : Bytes → Bool
  modeOk : Cmd → State → Bool
  lifeOk : Cmd → State → Bool
  free : Cmd → State → Bool
  check : Cmd → State → Option (Nat × Bytes)
  trace : Cmd → State → State
  run : Cmd → State → Answer × State
  after : State → State

/-- All modes but SAFE (R496). -/
def notSafe (s : State) : Bool := s.sys.mode != .safe

/-- BLANK, OWNED and LOCKED, the lifecycles of class A (R497). -/
def notRetired (s : State) : Bool := s.nv.lifecycle != .retired

/-- A class A opcode with a fixed PARAM_LEN, in every mode but SAFE. -/
def classA (n : Nat) (run : Cmd → State → Answer × State) : OpDef :=
  { clsA := true, nMark := false, long := false, lenOk := fun k => k == n, inbandOk := true, sidebandOk := false,
    resv := fun _ => true, modeOk := fun _ s => notSafe s, lifeOk := fun _ s => notRetired s, free := fun _ _ => true,
    check := fun _ _ => none, trace := fun _ s => s, run := run, after := fun s => s }

/-- A class P opcode with a fixed PARAM_LEN, in every mode but SAFE. -/
def classP (n : Nat) (run : Cmd → State → Answer × State) : OpDef :=
  { classA n run with clsA := false, lifeOk := fun _ _ => true }

/-- A class P opcode that only reads: its result, refused as `check` says. -/
def reads (n : Nat) (check : Bytes → State → Bool) (result : Bytes → State → Bytes) : OpDef :=
  { classP n (fun c s => (.done (result c.params s), s)) with
    check := fun c s => if check c.params s then none else some (stBadParam, []) }

/-- A class A opcode that only sets state: a check that answers BAD_PARAM, then an effect. -/
def sets (n : Nat) (check : Bytes → State → Bool) (f : Bytes → State → State) : OpDef :=
  { classA n (fun c s => (.done [], f c.params s)) with
    check := fun c s => if check c.params s then none else some (stBadParam, []) }

/-- The key of a slot. -/
def keyOf (s : State) (k : Nat) : Option Bytes := s.nv.keys.find? k

/-- Create a command's long operation (R89): its handle is the answer; its notice will be tagged where the command was (R97). -/
def startOp (typ : Nat) (nv : Bool) (w : Work) (c : Cmd) (s : State) : Answer × State :=
  let x := opStart typ (via c.origin) (some c.origin) (if c.auth then keyOf s c.slot else none) nv w s
  (.started x.1, x.2)

/-! ### Steps 1 to 5 -/

/-- Reserved fields and those that R76 wants zero (step 5). -/
def fieldsOk (d : OpDef) (c : Cmd) : Bool :=
  c.flags / 2 == 0 && byteAt c.pkt 11 == 0 && (if c.auth then decide (c.slot ≤ 3) else c.slot == 0 && c.counter == 0) &&
  (c.control || c.handle == 0) && d.resv c.params

/-- Is the opcode accepted on the transport (step 4, R66)? -/
def transportOk (d : OpDef) (o : Origin) : Bool := match o with
  | .pcie => true | .inband .. => d.inbandOk | .sideband => d.sidebandOk

/-- The first of steps 1 to 5 that fails (R80, R496). -/
def early (d? : Option OpDef) (c : Cmd) : Option Nat :=
  if c.version ≠ 4 then some stBadVersion
  else if 4048 < c.len || decide (c.pkt.length < c.needs) then some stBadLength
  else if crc32 c.params ≠ c.crc then some stBadCrc
  else match d? with
  | none => some stBadOpcode
  | some d =>
    if !transportOk d c.origin then some stBadOpcode
    else if !d.lenOk c.len then some stBadLength
    else if !fieldsOk d c then some stBadParam
    else none

/-! ### Steps 6 to 8 -/

/-- Does a command need a tag (step 6, R64)? -/
def authNeeded (d : OpDef) (c : Cmd) (s : State) : Bool :=
  (via c.origin) == .inband || (d.clsA && (s.nv.lifecycle == .owned || s.nv.lifecycle == .locked))

/-- The first of steps 6 to 8 that fails. -/
def authFail (d : OpDef) (c : Cmd) (s : State) : Option Nat :=
  if !c.auth then (if authNeeded d c s then some stAuthRequired else none)
  else match keyOf s c.slot with
  | none => some stKeySlotEmpty
  | some k => if Crypto.tag16 k (c.pkt.take (32 + c.len)) = c.tag then none else some stAuthFailed

/-- The record and event of a step-8 failure (R84, R488, R533). -/
def authRecord (c : Cmd) (s : State) : State :=
  let t := Transport.code (via c.origin)
  let s := negWrite 0x0004 (b1 t ++ b1 c.portCode ++ b1 c.slot ++ b1 0 ++ le 2 c.opcode ++ zeros 2 ++ le 8 c.counter) s
  raise 39 c.slot (b1 t ++ b1 c.portCode ++ le 2 c.opcode) s

/-! ### Steps 9 to 13 -/

/-- The last-accepted counter of a slot (R82). -/
def lastCounter (s : State) (k : Nat) : Nat := s.nv.counters.get 0 k

/-- Does SLEEP or a wake refuse the command (R119, R499)? -/
def sleepRefuses (d : OpDef) (c : Cmd) (s : State) : Bool :=
  let g := c.opcode / 256
  (s.pwr.state == .sleep && (g == 3 || g == 6 || g == 7)) || (s.pwr.waking && (d.clsA || d.long))

/-- The first of steps 9 to 13 that fails. -/
def midFail (d : OpDef) (c : Cmd) (s : State) : Option (Nat × Bytes) :=
  if (c.auth || d.nMark) && s.pwr.nvInhibit then some (stSupplyLow, [])
  else if c.auth && !(decide (lastCounter s c.slot < c.counter) && decide (c.counter ≤ lastCounter s c.slot + 2 ^ 20)) then
    some (stCounterStale, [])
  else if !d.lifeOk c s then some (stWrongLifecycle, [])
  else if !d.modeOk c s then some (stWrongMode, [])
  else if sleepRefuses d c s then some (stBusy, [])
  else if d.long && decide (16 ≤ liveOps s) then some (stLimit, [])
  else if !d.free c s then some (stBusy, [])
  else none

/-! ### The reply cache (R88) -/

/-- The channel of a transport. -/
def GcpSt.chan (g : GcpSt) : Transport → Chan
  | .pcie => g.pcie | .inband => g.inband | _ => g.sideband

/-- Change the channel of a transport. -/
def modChan (t : Transport) (f : Chan → Chan) (s : State) : State :=
  { s with gcp := match t with
      | .pcie => { s.gcp with pcie := f s.gcp.pcie }
      | .inband => { s.gcp with inband := f s.gcp.inband }
      | _ => { s.gcp with sideband := f s.gcp.sideband } }

/-- A cached reply to an identical authenticated packet. -/
def cached? (c : Cmd) (s : State) : Option Cached :=
  if c.auth then (s.gcp.chan (via c.origin)).cache.find? (fun e => e.header == c.header && e.tag == c.tag) else none

/-- A cached reply with RESENT set, tagged afresh. -/
def Cached.resent (e : Cached) : Bytes :=
  let body := e.reply.take 1 ++ b1 ((byteAt e.reply 1).toNat ||| 4) ++ e.reply.drop 2
  match e.key with
  | none => body
  | some k => body ++ Crypto.tag16 k body

/-! ### Replies -/

/-- The key a reply is tagged under (R79, R102, R490): RK for the reply to a tagged RETIRE_DEVICE and for the Negative opcodes in RETIRED. -/
def replyKey (c : Cmd) (key : Option Bytes) (s : State) : Option Bytes :=
  if s.nv.lifecycle = .retired ∧ (c.opcode / 256 = 8 ∧ c.auth = false ∨ c.opcode = 0x0207 ∧ key.isSome) then s.nv.rk else key

/-- The reply packet of a command (R77). -/
def replyTo (c : Cmd) (key : Option Bytes) (flags status handle : Nat) (result : Bytes) (s : State) : Bytes :=
  replyPacket flags c.opcode c.seq status (if c.control then c.handle else handle) (if c.auth then c.counter else 0)
    result key s

/-- Refuse a command with a status (R80, R81). -/
def refuse (c : Cmd) (key : Option Bytes) (status : Nat) (result : Bytes) (s : State) : State :=
  deliver c.origin (replyTo c key 0 status 0 result s) s

/-- Keep a reply in the transport's cache of the last 32 (R88). -/
def keepReply (c : Cmd) (key : Option Bytes) (p : Bytes) (s : State) : State :=
  let body := if key.isSome then p.take (p.length - 16) else p
  modChan (via c.origin) (fun ch =>
    let l := ch.cache ++ [{ header := c.header, tag := c.tag, reply := body, key := key }]
    { ch with cache := l.drop (l.length - 32) }) s

/-- Reply to a command that passed step 14, and cache the reply where its counter was persisted. -/
def conclude (c : Cmd) (key : Option Bytes) (status handle : Nat) (result : Bytes) (s : State) : State :=
  let key := replyKey c key s
  let p := replyTo c key 0 status handle result s
  let s := if c.auth then keepReply c key p s else s
  deliver c.origin p s

/-- Step 15: the counter becomes the slot's last-accepted one (R82). -/
def persist (c : Cmd) (s : State) : State :=
  if c.auth then { s with nv := { s.nv with counters := s.nv.counters.set c.slot c.counter } } else s

/-- Write the answer of step 16: a reply now, or a command whose reply is due. -/
def answer (c : Cmd) (key : Option Bytes) (a : Answer) (s : State) : State :=
  match a with
  | .done r => conclude c key stDone 0 r s
  | .started h => conclude c key stStarted h [] s
  | .refused st r => conclude c key st 0 r s
  | .later k =>
    modChan (via c.origin) (fun ch => { ch with due := some { pkt := c.pkt, origin := c.origin, tagKey := key, persisted := c.auth, kind := k } }) s

/-- The device fails while persisting or executing a command (R80, R85): INTERNAL with the SEQ of its record. Only where step 15 completed has the counter moved and is the reply kept (R88). What an execution that fails leaves behind the spec does not say; the model has it change nothing (DESIGN CHOICE, log 21). -/
def failCommand (f : InternalFault) (c : Cmd) (s : State) : State :=
  let key := if c.auth then keyOf s c.slot else none
  let x := negInternal f c.opcode { s with gcp := { s.gcp with failing := none } }
  if f.persisting then refuse c (replyKey c key s) stInternal (le 4 x.1) x.2
  else conclude c key stInternal 0 (le 4 x.1) (persist c x.2)

/-- Steps 15 and 16 of R80: persist, execute, answer. -/
def execute (d : OpDef) (c : Cmd) (s : State) : State :=
  match s.gcp.failing with
  | some f => failCommand f c s
  | none =>
    let key := if c.auth then keyOf s c.slot else none
    let (a, s) := d.run c (persist c s)
    d.after (answer c key a s)

/-- Judge a command by R80 and carry it out. -/
def judge (d? : Option OpDef) (c : Cmd) (s : State) : State :=
  match early d? c, d? with
  | some st, _ => refuse c (replyKey c none s) st [] s
  | none, none => s
  | none, some d =>
    match cached? c s with
    | some e => deliver c.origin e.resent s
    | none =>
      match authFail d c s with
      | some st => refuse c none st [] (if st = stAuthFailed then authRecord c s else s)
      | none =>
        let key := replyKey c (if c.auth then keyOf s c.slot else none) s
        match midFail d c s with
        | some (st, r) => refuse c key st r s
        | none =>
          match d.check c s with
          | some (st, r) => refuse c key st r (d.trace c s)
          | none => execute d c s

/-- The reply of a short command that was due (R501): written, cached, and the transport is free again. -/
def dueReply (t : Transport) (status : Nat) (result : Bytes) (s : State) : State :=
  match (s.gcp.chan t).due with
  | none => s
  | some u => conclude ⟨u.origin, u.pkt⟩ u.tagKey status 0 result (modChan t (fun ch => { ch with due := none }) s)

/-- The transports whose due reply waits on `k`. -/
def dueOn (k : DueKind → Bool) (s : State) : List Transport :=
  [Transport.pcie, .inband, .sideband].filter (fun t => match (s.gcp.chan t).due with
    | some u => k u.kind
    | none => false)

end Sys2Proof.Machine
end

