-- ==== Sys2Proof/Machine/LinkRows.lean ====
section
/-! DEFINITION. The rows of lanes, Ethernet bring-up and lane tests (R133 to R144, R151). -/

namespace Sys2Proof.Machine

/-! ### Loss detectors (R136, R137) -/

/-- LOL asserts on a global lane: counted, and its PREF loses its edges. -/
def assertLol (l : Nat) (s : State) : State :=
  if (s.lane l).lol then s
  else prefLoss l (modLane l (fun r => { r with lol := true, converged := false, lolCount := wrapAdd 32 r.lolCount 1 }) s)

/-- An Ethernet port's used lane loses signal or lock; the port may wait for signal at once (R139, R141). -/
def ethLaneLoss (p l : Nat) (los : Bool) (s : State) : State :=
  let was := (s.port p).st
  let s := if los then ethLos p l s else ethLol p l s
  if (s.port p).st = was then s else ethTry p (if was = .up then reelect s else s)

/-- LOS or LOL reaches the port a lane belongs to. -/
def portLaneLoss (l : Nat) (los : Bool) (s : State) : State :=
  let p := l / 4
  let r := s.port p
  if !r.rxLanes.contains (l % 4) then s
  else if r.cfg.dalom then dlkLaneLoss p (l % 4) los s
  else ethLaneLoss p (l % 4) los s

/-- LOS asserts: it forces LOL on the lane. -/
def losAssert (l : Nat) (s : State) : State :=
  if (s.lane l).los then s
  else portLaneLoss l true (assertLol l (modLane l (fun r => { r with los := true, losCount := wrapAdd 32 r.losCount 1 }) s))

/-- LOS_ASSERT. -/
def execLosAssert (l : Fin 256) (s : State) : Host.Outcome State Fault Refusal := live s (losAssert l.val)

/-- LOS clears: a port that waits for signal looks again. -/
def losClears (l : Nat) (s : State) : State :=
  let s := modLane l (fun r => { r with los := false }) s
  dlkTry (l / 4) (ethTry (l / 4) s)

/-- LOS_CLEAR. -/
def execLosClear (l : Fin 256) (s : State) : Host.Outcome State Fault Refusal := live s (losClears l.val)

/-- LOL asserts with its own cause. -/
def lolAssert (l : Nat) (s : State) : State := if (s.lane l).lol then s else portLaneLoss l false (assertLol l s)

/-- LOL_ASSERT. -/
def execLolAssert (l : Fin 256) (s : State) : Host.Outcome State Fault Refusal := live s (lolAssert l.val)

/-- LOL_CLEAR: not while LOS forces it (R137). -/
def execLolClear (l : Fin 256) (s : State) : Host.Outcome State Fault Refusal :=
  live s (fun s => if (s.lane l.val).los then s else modLane l.val (fun r => { r with lol := false }) s)

/-- A tap of the DFE within its span (R133). -/
def dfeClamp (i : Nat) (v : Int) : Int := if i = 0 then max (-128) (min 127 v) else max (-64) (min 64 v)

/-- Does a lane's receiver adapt (R133, R139, R151): its receive direction is on, it has signal, and its port is past the wait for one or under test? -/
def adapts (s : State) (l : Nat) : Bool :=
  !laneRxOff s l && !(s.lane l).los &&
  match (s.port (l / 4)).st with
  | .waitSignal => false
  | .an => false
  | .backoff => false
  | .detect => false
  | _ => true

/-- One update of the LMS loop (R133) of a lane that adapts: the CTLE code and DFE taps that are not frozen, with what the receiver counts and measures. -/
def adaptUpdate (l : Nat) (ctle : Nat) (dfe : List Int) (conv : Bool) (corrected : Nat) (offset : Int) (s : State) : State :=
  modLane l (fun r =>
    { r with ctle := if r.ctleFrozen then r.ctle else ctle,
             dfe := if r.dfeFrozen then r.dfe else (List.range 12).map (fun i => dfeClamp i (dfe.getD i (r.dfe.getD i 0))),
             converged := conv && !r.lol, fecCorrected := wrapAdd 64 r.fecCorrected corrected, freqOffset := clampInt 32 offset }) s

/-- RX_ADAPT_UPDATE. -/
def execRxAdaptUpdate (l : Fin 256) (ctle : Fin 32) (dfe : List Int) (conv : Bool) (corrected : Nat) (offset : Int) (s : State) : Host.Outcome State Fault Refusal :=
  live s (fun s => if adapts s l.val then adaptUpdate l.val ctle.val dfe conv corrected offset s else s)

/-! ### Ethernet bring-up (R139) -/

/-- Is a port an Ethernet port in a state? -/
def ethIn (s : State) (p : Nat) (st : PortSt) : Bool := !(s.port p).cfg.dalom && (s.port p).st == st

/-- The state MODULE_CONTROL and MODULE_EVENT report (R217): 0 absent, 1 not ready, 2 ready, 3 no application. -/
def Module.code (m : Module) : Nat := if !m.present then 0 else if m.noApp then 3 else if m.ready then 2 else 1

/-- Raise MODULE_EVENT. -/
def moduleEvent (p : Nat) (s : State) : State := raise 71 p (b1 (s.port p).module.code ++ b1 (s.port p).module.cmis) s

/-- The module of a port is found present and ready; MODULE_EVENT where it was not (R217). -/
def moduleFound (p : Nat) (s : State) : State :=
  let m := (s.port p).module
  if m.present && m.ready then s
  else moduleEvent p (modPort p (fun r => { r with module := { r.module with present := true, ready := true, noApp := false } }) s)

/-- ETH_MODULE_READY: copper starts Clause 73; with LOS clear on every used lane a module port starts adaptation. -/
def execEthModuleReady (p : Port) (s : State) : Host.Outcome State Fault Refusal :=
  live s (fun s => ethTry p.val (moduleFound p.val s))

/-- AN_COMPLETE: Clause 73 completes with the configured technology. -/
def execAnComplete (p : Port) (s : State) : Host.Outcome State Fault Refusal :=
  live s (fun s => if ethIn s p.val .an then enterTrain p.val s else s)

/-- Training completes on every used lane: the trained taps are in use where the lane's mode is TRAINED (R132). -/
def trainingDone (p : Nat) (taps : List (List Int)) (s : State) : State :=
  let s := (s.port p).usedLanes.foldl (fun s l =>
    modLane (gLane p l) (fun r => { r with taps := if r.txTrained && tapsOk (taps.getD l []) then taps.getD l [] else r.taps }) s) s
  modPort p (fun r => { r with st := .align }) s

/-- ETH_TRAINING_COMPLETE. -/
def execEthTrainingComplete (p : Port) (taps : List (List Int)) (s : State) : Host.Outcome State Fault Refusal :=
  live s (fun s => if ethIn s p.val .train then trainingDone p.val taps s else s)

/-- MAX_WAIT_TIMER_EXPIRY: TRAIN ends without completing. -/
def execMaxWaitTimerExpiry (p : Port) (s : State) : Host.Outcome State Fault Refusal :=
  live s (fun s => if ethIn s p.val .train then enterBackoff p.val 9 0xFF s else s)

/-- ADAPT_CONVERGED: every used lane has LOL clear and adaptation converged. -/
def execAdaptConverged (p : Port) (s : State) : Host.Outcome State Fault Refusal :=
  live s (fun s =>
    if ethIn s p.val .adapt && (lolLanes s p.val).isEmpty then
      (s.port p.val).rxLanes.foldl (fun s l => modLane (gLane p.val l) (fun r => { r with converged := true }) s)
        (modPort p.val (fun r => { r with st := .align }) s)
    else s)

/-- ADAPT_TIMEOUT: 200 ms in ADAPT. -/
def execAdaptTimeout (p : Port) (s : State) : Host.Outcome State Fault Refusal :=
  live s (fun s => if ethIn s p.val .adapt then enterBackoff p.val 9 0xFF s else s)

/-- An Ethernet port enters UP (R139, R144): path latencies measured per physical lane. -/
def alignDone (p : Nat) (lat : List (Nat × Nat)) (s : State) : State :=
  let s := (s.port p).usedLanes.foldl (fun s l =>
    let x := lat.getD l (0, 0)
    modLane (gLane p l) (fun r => { r with txLatency := x.1 % 2 ^ 32, rxLatency := x.2 % 2 ^ 32 }) s) s
  reelect (enterUp p .up s)

/-- ALIGN_LOCK. -/
def execAlignLock (p : Port) (lat : List (Nat × Nat)) (s : State) : Host.Outcome State Fault Refusal :=
  live s (fun s => if ethIn s p.val .align then alignDone p.val lat s else s)

/-- ALIGN_TIMEOUT: 100 ms in ALIGN. -/
def execAlignTimeout (p : Port) (s : State) : Host.Outcome State Fault Refusal :=
  live s (fun s => if ethIn s p.val .align then enterBackoff p.val 9 0xFF s else s)

/-- The module of a port is gone or not ready: bring-up starts over (R139, R177); a port that is up learns it by LOS. -/
def moduleGone (p : Nat) (s : State) : State :=
  let s := modPort p (fun r => { r with module := { r.module with ready := false } }) s
  match (s.port p).st with
  | .an => modPort p (fun r => { r with st := .waitSignal }) s
  | .train => moveTo p .waitSignal 6 0xFF s
  | .adapt => moveTo p .waitSignal 6 0xFF s
  | .align => moveTo p .waitSignal 6 0xFF s
  | .dlkTrain => dlkLeave p .detect 6 0xFF s
  | .lock => dlkLeave p .detect 6 0xFF s
  | .exchange => dlkLeave p .detect 6 0xFF s
  | _ => s

/-- MODULE_REMOVED: the port starts over, and MODULE_EVENT is raised where the module was ready (R139, R177, R217). -/
def execModuleRemoved (p : Port) (s : State) : Host.Outcome State Fault Refusal :=
  live s (fun s => if (s.port p.val).module.ready then moduleEvent p.val (moduleGone p.val s) else moduleGone p.val s)

/-- An Ethernet port loses alignment or sees hi_ber (R139). -/
def ethDown (p cause : Nat) (s : State) : State :=
  let was := (s.port p).st
  if (s.port p).cfg.dalom then s
  else
    let s := ethLoss p cause s
    if (s.port p).st = was then s else ethTry p (if was = .up then reelect s else s)

/-- ALIGN_LOSS: loss of block or alignment-marker lock. -/
def execAlignLoss (p : Port) (s : State) : Host.Outcome State Fault Refusal := live s (ethDown p.val 3)

/-- HI_BER. -/
def execHiBer (p : Port) (s : State) : Host.Outcome State Fault Refusal := live s (ethDown p.val 4)

/-- FAULT_RECEIVED: a local or remote fault in UP. -/
def execFaultReceived (p : Port) (s : State) : Host.Outcome State Fault Refusal :=
  live s (fun s => if ethIn s p.val .up then reelect (leaveUp p.val .fault 10 0xFF s) else s)

/-- FAULT_END: an entry to UP like any other, with its measured latencies (R144). -/
def execFaultEnd (m : UpMeasure) (s : State) : Host.Outcome State Fault Refusal :=
  live s (fun s => if ethIn s m.port.val .fault then alignDone m.port.val m.lat s else s)

/-- ETH_BACKOFF_EXPIRY: LINK_RETRY, and the port waits for signal again. -/
def execEthBackoffExpiry (p : Port) (s : State) : Host.Outcome State Fault Refusal :=
  live s (fun s =>
    if ethIn s p.val .backoff then ethTry p.val (modPort p.val (fun r => { r with st := .waitSignal }) (linkEvent 66 p.val s)) else s)

/-! ### Lane tests (R151, R510) -/

/-- A lane test ends: the port returns to WAIT_SIGNAL or DETECT whatever its enable setting (R151, R510), or waits with cause POWER while a lane it uses is off (R117). -/
def laneTestEnd (p : Nat) (s : State) : State :=
  let s := modPort p (fun r => { r with test := { r.test with state := 2, ended := s.clk.now } }) s
  let r := s.port p
  if r.st ≠ .disabled || r.hot || !r.cfg.configured then s
  else if poweredOff s p then powerWait p s
  else portStart p s

/-- Leaving MAINTENANCE ends every lane test. -/
def laneTestsEnd (s : State) : State :=
  (List.range 64).foldl (fun s p => if (s.port p).test.state = 1 then laneTestEnd p s else s) s

/-- LANE_TEST_DURATION_EXPIRY. -/
def execLaneTestDurationExpiry (p : Port) (s : State) : Host.Outcome State Fault Refusal :=
  live s (fun s =>
    let t := (s.port p.val).test
    if t.state = 1 && t.duration != 0 then laneTestEnd p.val (advanceTo (t.started + t.duration * msTicks) s) else s)

end Sys2Proof.Machine
end

