-- ==== Sys2Proof/Machine/TableRows.lean ====
section
/-! DEFINITION. The meanings of the table rows: window operations and their arbitration (R245 to R251), the ageing sweep (R242, R243), TCAM scrub, rebuild and self-test (R233, R234, R255), the shadow compare (R256), bulk records (R259) and FENCE's limit (R253). -/

namespace Sys2Proof.Machine

/-- Does BAR0 serve the blocks beyond SYS, MBX and IRQ (R57, R527)? -/
def State.barServed (s : State) : Bool := !s.sys.perst && s.sys.mode != .safe

/-- An operation a window starts and its port grants at once: a write of TAW_CMD and, unless BUSY refused it, the run. -/
def tawNow (w op t : Nat) (s : State) : State :=
  if !s.barServed then s
  else if (s.win w).busy then tawCommand w op t s
  else tawRun w (tawCommand w op t s)

/-- READ_INDEX (R247): the window reads the entry at TAW_INDEX. -/
def execReadIndex (w : Fin 18) (t : Fin 16) (s : State) : Host.Outcome State Fault Refusal := live s (tawNow w.val 1 t.val)
/-- WRITE_INDEX (R247). -/
def execWriteIndex (w : Fin 18) (t : Fin 16) (s : State) : Host.Outcome State Fault Refusal := live s (tawNow w.val 2 t.val)
/-- INSERT (R225, R228). -/
def execInsert (w : Fin 18) (t : Fin 16) (s : State) : Host.Outcome State Fault Refusal := live s (tawNow w.val 3 t.val)
/-- DELETE (R247). -/
def execDelete (w : Fin 18) (t : Fin 16) (s : State) : Host.Outcome State Fault Refusal := live s (tawNow w.val 4 t.val)
/-- SEARCH (R247). -/
def execSearch (w : Fin 18) (t : Fin 16) (s : State) : Host.Outcome State Fault Refusal := live s (tawNow w.val 5 t.val)
/-- CLEAR_HIT (R247). -/
def execClearHit (w : Fin 18) (t : Fin 16) (s : State) : Host.Outcome State Fault Refusal := live s (tawNow w.val 6 t.val)

/-- The grant of a pending operation runs it to completion (R250). -/
def tawGrant (w : Nat) (s : State) : State :=
  if !(s.win w).busy then s else tawRun w (if w < 17 then portGrant w 0 s else portGrants 1 s)

/-- TAW_PORT_GRANT. -/
def execTawPortGrant (w : Fin 18) (s : State) : Host.Outcome State Fault Refusal := live s (tawGrant w.val)

/-- The start limit wins: EXPIRED and nothing done (R246, R250). -/
def tawExpire (w : Nat) (s : State) : State :=
  if (s.win w).busy then tawFinish w (TawOut.bare 6) s else s

/-- TAW_START_LIMIT_EXPIRY. -/
def execTawStartLimitExpiry (w : Fin 18) (s : State) : Host.Outcome State Fault Refusal := live s (tawExpire w.val)

/-- The sweep visits an FDB entry (R242): HIT set is cleared; a dynamic entry with HIT clear is deleted and counted. In SLEEP the tables are off (R15). -/
def ageVisit (sl i : Nat) (s : State) : State :=
  if s.pwr.state = .sleep ∨ s.tables.ageOn = false then s
  else
  let s := portGrant sl 4 s
  match xAt (s.tab sl).fdb i with
  | some e =>
    if !e.dyn then s
    else if e.hit then modTab sl (fun T => { T with fdb := T.fdb.set i (.entry { e with hit := false }) }) s
    else modTab sl (fun T => { T.mend 0 i with fdb := T.fdb.erase i, aged := satAdd 32 T.aged 1 }) s
  | none => s

/-- AGEING_SWEEP_VISIT. -/
def execAgeingSweepVisit (sl : Slice) (i : Nat) (s : State) : Host.Outcome State Fault Refusal := live s (ageVisit sl.val i)

/-- A CLS slot with a parity error stops matching at once; firmware rewrites it from the shadow record, if a region is registered, else raises TCAM_PARITY (R255). -/
def clsParity (sl slot : Nat) (record : Bytes) (s : State) : State :=
  let s := modTab sl (fun T => match T.cls.find? slot with
    | some e => { T with cls := T.cls.set slot { e with inert := true } }
    | none => T) s
  let s := negWrite 0x0024 (b1 sl ++ b1 6 ++ le 2 slot) s
  match s.tables.shadows.find? 6 with
  | some _ =>
    let data := [field record 80 4, field record 84 4, field record 88 4]
    modTab sl (if (field record 92 4).testBit 0 then idxWrite 6 slot (field record 0 40) (field record 40 40) data
               else idxErase 6 slot) s
  | none => raise 85 sl (b1 6 ++ zeros 3 ++ le 2 slot) s

/-- The scrub reads a slice's TCAM slots (R255): the parity errors it finds act, and a filter bank that is due is rebuilt in its turn (R232). It pauses in RIDE, and in SLEEP the tables are off (R15). -/
def tcamScrub (sl : Nat) (lpm : List Nat) (cls : List (Nat × Bytes)) (s : State) : State :=
  if s.pwr.state = .ride ∨ s.pwr.state = .sleep then s
  else
    let s := modTab sl filterRebuild (portGrant sl 6 s)
    let s := lpm.foldl (fun s slot => tcamParity sl slot s) s
    cls.foldl (fun s x => clsParity sl x.1 x.2 s) s

/-- TCAM_SCRUB. -/
def execTcamScrub (sl : Slice) (lpm : List Nat) (cls : List (Nat × Bytes)) (s : State) : Host.Outcome State Fault Refusal :=
  live s (tcamScrub sl.val lpm cls)

/-- A rebuild is DONE: lookups come from the TCAM (R233, R234), and its UNITS are the routes loaded (R96). The spec gives the loading no row of its own, so its units and progress stand at 0 until here (log 77). -/
def rebuildDone (sl : Nat) (s : State) : State :=
  match rebuildOp s sl with
  | some o =>
    if o.state = .running ∧ (s.tab sl).mode = .rebuild then
      opFinish o.handle .done 0 (setOp { o with units := (s.tab sl).lpm.length } (modTab sl (fun T => { T with mode := .tcam }) s))
    else s
  | none => s

/-- TCAM_REBUILD_DONE. -/
def execTcamRebuildDone (sl : Slice) (s : State) : Host.Outcome State Fault Refusal := live s (rebuildDone sl.val)

/-- A self-test is complete (R233): failing slots are unusable; the rebuild follows if the usable ones hold the content, else the operation fails with LIMIT and the slice is in FAULT. -/
def selftestDone (sl : Nat) (failing : List Nat) (s : State) : State :=
  if (s.tab sl).mode ≠ .selftest then s
  else
    let s := modTab sl (fun T => { T with badSlots := (failing.filter (fun b => !T.badSlots.contains b)) ++ T.badSlots }) s
    if (s.tab sl).fits [] then modTab sl rebuildBegin s
    else
      let s := modTab sl (fun T => { T with mode := .fault }) s
      let s := raise 86 sl (b1 2 ++ zeros 3 ++ le 2 (failing.headD 0)) s
      match rebuildOp s sl with
      | some o => opFinish o.handle .failed stLimit s
      | none => s

/-- TCAM_SELFTEST_DONE. -/
def execTcamSelftestDone (sl : Slice) (failing : List Nat) (s : State) : Host.Outcome State Fault Refusal :=
  live s (selftestDone sl.val failing)

/-! ### Shadow compare (R256) -/

/-- Does a record of a shadow region differ from a slice's table? -/
def shadowDiffers (T : SliceTab) (t i : Nat) (r : Bytes) : Bool :=
  let key := field r 0 40
  let mask := field r 40 40
  let d0 := field r 80 4
  let d1 := field r 84 4
  let d2 := field r 88 4
  let valid := (field r 92 4).testBit 0
  match t with
  | 2 => match routeFind T (key.testBit 0) (lpmLen key) (keyAddr key) with
    | some (_, x) => x.data != plainData 2 d0
    | none => true
  | 3 => match T.nh.find? i with
    | some e => !valid || e.d0 != d0 || e.d1 != d1 || e.d2 != d2
    | none => valid
  | 4 => match T.grp.find? i with
    | some e => !valid || e != d0
    | none => valid
  | 5 => match T.mbr.find? i with
    | some e => !valid || e != d0
    | none => valid
  | 6 => match T.cls.find? i with
    | some e => !valid || e.key != key || e.mask != mask || e.data0 != d0 || e.data1 != d1
    | none => valid
  | t => match xFind (T.x t) (xKey t key) with
    | some (_, e) => e.dyn || e.data != plainData t d0
    | none => true

/-- Static entries of a keyed table in a slice. -/
def staticCount (T : SliceTab) (t : Nat) : Nat := if t = 2 then T.lpm.length else (statics (T.x t)).length

/-- Note one comparison of a slice: a difference counts when two reads at least 10 ms apart show it (R256). -/
def shadowNote (t sl i : Nat) (differs : Bool) (s : State) : State :=
  match s.tables.shadows.find? t with
  | none => s
  | some sh =>
    let put (x : List (Nat × Nat × Nat)) (s : State) : State :=
      { s with tables := { s.tables with shadows := s.tables.shadows.set t { sh with seen := x } } }
    let others := sh.seen.filter (fun x => !(x.1 == sl && x.2.1 == i))
    match sh.seen.find? (fun x => x.1 == sl && x.2.1 == i), differs with
    | _, false => put others s
    | none, true => put (sh.seen ++ [(sl, i, s.clk.now)]) s
    | some x, true =>
      if s.clk.now < x.2.2 + 10 * msTicks then s
      else
        let s := put others s
        let s := raise 84 sl (b1 t ++ zeros 3 ++ le 4 i) s
        let s := modTab sl (fun T => { T with shadowMismatch := satAdd 32 T.shadowMismatch 1 }) s
        negWrite 0x0023 (b1 t ++ b1 sl ++ zeros 2 ++ le 4 i) s

/-- The slices the compare reads. -/
def comparedSlices (s : State) : List Nat := (List.range 17).filter (fun i => (s.slice i).st != .dead)

/-- The static entries of a keyed table in every slice are counted against the length of the host's list. -/
def countCompare (t n : Nat) (s : State) : State :=
  (comparedSlices s).foldl (fun s sl => shadowNote t sl 0xFFFFFFFF (staticCount (s.tab sl) t != n) s) s

/-- The compare reads the next record of a region and compares every slice with it; after a keyed region's last record, the counts too. An empty keyed list has no record to read, so only the counts are compared. -/
def shadowRead (t : Nat) (r : Bytes) (s : State) : State :=
  match s.tables.shadows.find? t with
  | none => s
  | some sh =>
    if sh.rate = 0 ∨ s.pwr.state = .ride ∨ s.pwr.state = .sleep ∨ s.dma = false then s
    else if sh.count = 0 then (if t ≤ 2 then countCompare t 0 (portGrants 5 s) else s)
    else
      let s := portGrants 5 s
      let s := (comparedSlices s).foldl (fun s sl => shadowNote t sl sh.next (shadowDiffers (s.tab sl) t sh.next r) s) s
      let last := sh.next + 1 = sh.count
      let s := if last && decide (t ≤ 2) then countCompare t sh.count s else s
      match s.tables.shadows.find? t with
      | some sh' => { s with tables := { s.tables with shadows := s.tables.shadows.set t { sh' with next := if last then 0 else sh.next + 1 } } }
      | none => s

/-- SHADOW_COMPARE_READ: a record arrives from host memory. -/
def execShadowCompareRead (t : Fin 7) (r : Bytes) (s : State) : Host.Outcome State Fault Refusal := live s (shadowRead t.val r)

/-! ### Bulk loads and FENCE -/

/-- The next record of a bulk load (R259): inline, or as the DMA brings it. The first that does not answer OK ends the operation. -/
def bulkNext (h : Nat) (dma : Bytes) (s : State) : State :=
  match s.op? h with
  | none => s
  | some o =>
    match o.work with
    | .bulk w =>
      if !o.working || decide (w.count ≤ w.next) || (w.source != 0 && !s.dma) then s
      else
        let r := if w.source = 0 then w.records.getD w.next [] else dma
        let x := bulkRecord w.table w.op r (w.firstIndex + w.next) (portGrants 2 s)
        if x.1 ≠ 0 then opFail h (if x.1 = 2 then stLimit else stBadParam) x.2
        else
          let n := w.next + 1
          let s := setOp { o with units := n, progress := n * 10000 / w.count, work := .bulk { w with next := n } } x.2
          if n = w.count then opComplete h s else suspendPoint h s
    | _ => s

/-- BULK_RECORD_COMMITTED. -/
def execBulkRecordCommitted (h : Nat) (dma : Bytes) (s : State) : Host.Outcome State Fault Refusal := live s (bulkNext h dma)

/-- A FENCE not complete within LIMIT_MS ends FAILED with BUSY (R253). -/
def fenceExpire (h : Nat) (s : State) : State :=
  match s.op? h with
  | none => s
  | some o =>
    match o.work with
    | .fence _ _ lim =>
      if lim = 0 ∨ o.state ≠ .running then s
      else opFinish h .failed stBusy (advanceTo (o.since + lim * msTicks) s)
    | _ => s

/-- FENCE_LIMIT_EXPIRY. -/
def execFenceLimitExpiry (h : Nat) (s : State) : Host.Outcome State Fault Refusal := live s (fenceExpire h)

end Sys2Proof.Machine
end

