-- ==== Sys2Proof/Machine/RegRows.lean ====
section
/-! DEFINITION. Register access: interrupts (R531 to R534), statistics DMA (R536 to R539), time snapshots (R417), pace reads (R535), calibration windows (R464 to R466), and writes by access code (R7, R526). -/

namespace Sys2Proof.Machine

/-! ### Interrupts -/

/-- The vectors of the enabled causes that are set among 32 causes from `32 w`. -/
def setVectors (s : State) (w : Nat) : List Nat :=
  (((List.range 32).filter (fun b => s.irq.cause.getLsbD (32 * w + b) && s.irq.mask.getLsbD (32 * w + b))).map
    (fun b => s.irq.vectorOf (32 * w + b))).dedup

/-- A W1C write of IRQ_CAUSEw (R532): bits clear, and each vector of an enabled cause of that word still set signals again. -/
def causeWrite (w : Nat) (v : BitVec 32) (s : State) : State :=
  if s.sys.perst then s
  else
    let m : BitVec 128 := v.setWidth 128 <<< (32 * w)
    let s := { s with irq := { s.irq with cause := s.irq.cause &&& ~~~m } }
    (setVectors s w).foldl (fun s x => message x s) s

/-- IRQ_CAUSE_WRITE. -/
def execIrqCauseWrite (w : Fin 4) (v : BitVec 32) (s : State) : Host.Outcome State Fault Refusal := live s (causeWrite w.val v)

/-- A vector's holdoff ends: its pending message is sent (R532). -/
def holdoffEnd (v : Nat) (s : State) : State :=
  if s.irq.pendingMsg.getLsbD v then
    match s.irq.lastMsg.find? v with
    | some t => message v (advanceTo (t + s.irq.holdoff.get 0 v * 1250) s)
    | none => message v s
  else s

/-- IRQ_HOLDOFF_EXPIRY. -/
def execIrqHoldoffExpiry (v : Fin 64) (s : State) : Host.Outcome State Fault Refusal := live s (holdoffEnd v.val)

/-- The host frees event queue entries; held records are written (R534). -/
def evqFree (ci : Nat) (s : State) : State :=
  if s.sys.perst then s else evqDrain { s with irq := { s.irq with evqCi := ci } }

/-- IRQ_EVQ_CI_WRITE. -/
def execIrqEvqCiWrite (ci : BitVec 16) (s : State) : Host.Outcome State Fault Refusal := live s (evqFree ci.toNat)

/-- Arm or disarm the event queue; arming writes held records (R534). -/
def evqArm (en : Bool) (s : State) : State :=
  if s.sys.perst then s else evqDrain { s with irq := { s.irq with evqEnable := en } }

/-- IRQ_EVQ_ARM. -/
def execIrqEvqArm (s : State) : Host.Outcome State Fault Refusal := live s (evqArm true)

/-- A read of IRQ_EVQ_LOST returns the count and clears it (R531). -/
def lostRead (s : State) : State :=
  if s.sys.perst then s else { s with irq := { s.irq with evqLost := 0 }, out := .readData s.irq.evqLost :: s.out }

/-- IRQ_EVQ_LOST_READ. -/
def execIrqEvqLostRead (s : State) : Host.Outcome State Fault Refusal := live s lostRead

/-- A read of PAC_DROPS_LO returns the low half and latches the high one (R535). -/
def dropsRead (sl : Nat) (s : State) : State :=
  if !s.barServed then s
  else
    let d := (s.slice sl).paceDrops
    (modSlice sl (fun r => { r with dropsHi := d / 2 ^ 32 }) s).send (.readData (d % 2 ^ 32))

/-- PAC_DROPS_LO_READ. -/
def execPacDropsLoRead (sl : Slice) (s : State) : Host.Outcome State Fault Refusal := live s (dropsRead sl.val)

/-! ### Statistics (R537 to R539) -/

/-- The port block and class blocks of a port (R539). -/
def statPort (s : State) (p : Nat) : Bytes :=
  toLen 256 ((List.range 26).flatMap (fun i => le 8 (s.portCnt.get 0 (p * 32 + i)))) ++
  (List.range 8).flatMap (fun c => (List.range 16).flatMap (fun i => le 8 (s.classCnt.get 0 ((p * 8 + c) * 16 + i))))

/-- The statistics period in force. -/
def StatBlk.period (b : StatBlk) : Nat := if 10 ≤ b.periodMs ∧ b.periodMs ≤ 60000 then b.periodMs else 100

/-- A statistics record (R539). -/
def statRecord (s : State) (snap final : Bool) : Bytes :=
  le 2 1 ++ le 2 65 ++ le 4 83392 ++ le 4 s.stat.seq ++ le 4 s.ts32 ++ le 2 s.frac ++ le 2 s.nv.timeGen ++ le 6 s.todSec ++
  le 4 s.todNs ++ le 2 s.stat.period ++ b1 (bitsNat [s.clk.todSet, s.stat.restarted, snap, final]) ++ b1 s.sys.mode.code ++
  zeros 30 ++ (List.range 65).flatMap (statPort s) ++
  (List.range 6).flatMap (fun p => let q := s.pool p; le 4 q.doubleFree ++ le 4 q.foreignFree ++ le 4 q.stateFault ++ le 4 q.parity) ++
  zeros 32

/-- Slots of the statistics area; counts outside 2 to 16 take the nearer limit. -/
def StatBlk.count (b : StatBlk) : Nat := min 16 (max 2 b.slots)

/-- Write one record to slot STAT_PI, advance it, raise STAT_DONE (R537). -/
def statWrite (snap final : Bool) (s : State) : State :=
  let s := { s with stat := { s.stat with seq := s.stat.seq % (2 ^ 32 - 1) + 1 } }
  let a := s.stat.base.toNat / 4096 * 4096 + s.stat.pi * 0x15000
  let s := s.send (.hostWrite a (statRecord s snap final))
  raise 3 0 [] { s with stat := { s.stat with pi := (s.stat.pi + 1) % s.stat.count, restarted := false, lastAt := s.clk.now } }

/-- May statistics records be written: not in SAFE, SLEEP or D3hot, and PERST_N high (R525, R537)? -/
def statLive (s : State) : Bool := s.barServed && s.pwr.state != .sleep && !s.sys.d3hot

/-- A period ends (R537). -/
def statPeriod (s : State) : State :=
  if s.stat.enable && statLive s then statWrite false false (advanceTo (s.stat.lastAt + s.stat.period * msTicks) s) else s

/-- STAT_PERIOD. -/
def execStatPeriod (s : State) : Host.Outcome State Fault Refusal := live s statPeriod

/-- STAT_CTRL.SNAP writes one record now; the period restarts from it. -/
def statSnap (s : State) : State := if statLive s then statWrite true false s else s

/-- STAT_SNAP. -/
def execStatSnap (s : State) : Host.Outcome State Fault Refusal := live s statSnap

/-! ### Time snapshot (R417) -/

/-- TSU_CTRL.SNAP latches time of day and the TS counter at one timebase edge. -/
def tsuSnap (s : State) : State :=
  if !s.barServed then s
  else
    let frac := if s.clk.todSet then (s.tod16 % 65536).toNat else s.frac
    { s with tim := { s.tim with time := { s.tim.time with
        snapDone := true, snapSec := s.todSec, snapGen := s.nv.timeGen, snapNs := s.todNs, snapTs := s.ts32, snapFrac := frac } } }

/-- TSU_SNAP. -/
def execTsuSnap (s : State) : Host.Outcome State Fault Refusal := live s tsuSnap

/-! ### Calibration windows (R464, R465) -/

/-- CAL_CTRL.APPLY makes the words staged since the last APPLY live at one instant (R465). -/
def calApplyStaged (i : Nat) (s : State) : State :=
  if !s.barServed then s
  else modCal i (fun b => { b with staged := [] }) (calApply i (s.cal i).staged s)

/-- CAL_APPLY. -/
def execCalApply (i : Fin 356) (s : State) : Host.Outcome State Fault Refusal := live s (calApplyStaged i.val)

/-- CAL_CTRL.RESTART reloads the factory values. -/
def calRestart (i : Nat) (s : State) : State := if s.barServed then calReload i s else s

/-- CAL_RESTART. -/
def execCalRestart (i : Fin 356) (s : State) : Host.Outcome State Fault Refusal := live s (calRestart i.val)

/-! ### Writes by access code (R7, R526 to R531, R536, R540, R244) -/

/-- Replace word `k` of a number of 32-bit words. -/
def putWord (v k w : Nat) : Nat := v - bitsAt v (32 * k) 32 * 2 ^ (32 * k) + w * 2 ^ (32 * k)

/-- The low or high half of a 64-bit base. -/
def putHalf (b : BitVec 64) (hi : Bool) (w : Nat) : BitVec 64 :=
  BitVec.ofNat 64 (putWord b.toNat (if hi then 1 else 0) (if hi then w else w / 4096 * 4096))

/-- A write to SYS: scratch and GPIO. -/
def sysWrite (off v : Nat) (s : State) : State :=
  if off = 0x28 then modSys (fun y => { y with scratch := BitVec.ofNat 32 v }) s
  else if off = 0x2C then modSys (fun y => { y with gpioOut := BitVec.ofNat 8 (bitsAt v 8 8), gpioOe := BitVec.ofNat 8 (bitsAt v 16 8) }) s
  else s

/-- A write to MBX: the bases, ignored while ENABLE is 1 (R530). -/
def mbxWrite (off v : Nat) (s : State) : State :=
  if s.mbx.enable then s
  else match off with
  | 0x0 => { s with mbx := { s.mbx with cmdBase := putHalf s.mbx.cmdBase false v } }
  | 0x4 => { s with mbx := { s.mbx with cmdBase := putHalf s.mbx.cmdBase true v } }
  | 0x8 => { s with mbx := { s.mbx with rplBase := putHalf s.mbx.rplBase false v } }
  | 0xC => { s with mbx := { s.mbx with rplBase := putHalf s.mbx.rplBase true v } }
  | _ => s

/-- A write of IRQ_MASKw: each vector of a cause that is set and becomes enabled signals (R532). -/
def maskWrite (w v : Nat) (s : State) : State :=
  let old := s.irq.mask
  let new := (BitVec.ofNat 128 (putWord old.toNat w v))
  let s := { s with irq := { s.irq with mask := new } }
  let vs := (((List.range 32).map (32 * w + ·)).filter (fun c => s.irq.cause.getLsbD c && new.getLsbD c && !old.getLsbD c)).map s.irq.vectorOf
  vs.dedup.foldl (fun s x => message x s) s

/-- A write to the IRQ block or the MSI-X table behind it (R527, R531). Clearing a vector's mask bit sends its pending message. -/
def irqWrite (off v : Nat) (s : State) : State :=
  if off < 0x10 then causeWrite (off / 4) (BitVec.ofNat 32 v) s
  else if off < 0x20 then maskWrite ((off - 0x10) / 4) v s
  else if off = 0x20 then evqArm (v.testBit 1) { s with irq := { s.irq with pinEn := v.testBit 0 } }
  else if off = 0x24 then { s with irq := { s.irq with evqBase := BitVec.ofNat 64 (putWord s.irq.evqBase.toNat 0 v) } }
  else if off = 0x28 then { s with irq := { s.irq with evqBase := putHalf s.irq.evqBase true v } }
  else if off = 0x2C then { s with irq := { s.irq with evqLog := v % 32 } }
  else if off = 0x34 then evqFree (v % 65536) s
  else if 0x100 ≤ off ∧ off < 0x180 then
    { s with irq := { s.irq with vec := (List.range 4).foldl (fun t k => Tab.set t (off - 0x100 + k) (bitsAt v (8 * k) 6)) s.irq.vec } }
  else if 0x200 ≤ off ∧ off < 0x300 then { s with irq := { s.irq with holdoff := s.irq.holdoff.set ((off - 0x200) / 4) (v % 65536) } }
  else if 0x8000 ≤ off ∧ off < 0x8400 then
    let s := { s with irq := { s.irq with msix := s.irq.msix.set ((off - 0x8000) / 4) v } }
    let x := (off - 0x8000) / 16
    if s.irq.pendingMsg.getLsbD x then message x s else s
  else s

/-- A write to a table access window (R244): ignored with OVERRUN while BUSY, but for TAW_STATUS. -/
def tawWrite (w off v : Nat) (s : State) : State :=
  if off = 0x14 then (if v.testBit 0 then modWin w (fun q => { q with overrun := false }) s else s)
  else if (s.win w).busy then
    if off < 0x14 ∨ (0x40 ≤ off ∧ off < 0x68) ∨ (0x80 ≤ off ∧ off < 0xA8) ∨ (0xC0 ≤ off ∧ off < 0xCC) then
      modWin w (fun q => { q with overrun := true }) s else s
  else if off = 0 then tawCommand w (v % 16) (bitsAt v 4 4) s
  else if off = 4 then modWin w (fun q => { q with index := v }) s
  else if off = 8 then modWin w (fun q => { q with limit := v % 65536 }) s
  else if 0x40 ≤ off ∧ off < 0x68 then modWin w (fun q => { q with key := putWord q.key ((off - 0x40) / 4) v }) s
  else if 0x80 ≤ off ∧ off < 0xA8 then modWin w (fun q => { q with mask := putWord q.mask ((off - 0x80) / 4) v }) s
  else if 0xC0 ≤ off ∧ off < 0xCC then modWin w (fun q => { q with data := q.data.set ((off - 0xC0) / 4) v }) s
  else s

/-- A write to STAT (R536). -/
def statRegWrite (off v : Nat) (s : State) : State :=
  match off with
  | 0x0 =>
    let s := { s with stat := { s.stat with enable := v.testBit 0, lastAt := if v.testBit 0 && !s.stat.enable then s.clk.now else s.stat.lastAt } }
    if v.testBit 1 then statSnap s else s
  | 0x4 => { s with stat := { s.stat with periodMs := v % 65536 } }
  | 0x8 => if s.stat.enable then s else { s with stat := { s.stat with base := putHalf s.stat.base false v } }
  | 0xC => if s.stat.enable then s else { s with stat := { s.stat with base := putHalf s.stat.base true v } }
  | 0x10 => if s.stat.enable then s else { s with stat := { s.stat with slots := v % 32 } }
  | _ => s

/-- A write to a calibration window (R464): HOLD, APPLY, RESTART, and value words to staging. -/
def calWrite (i off v : Nat) (s : State) : State :=
  if off = 4 then
    let s := modCal i (fun b => { b with hold := v.testBit 0 }) s
    let s := if v.testBit 1 then calApplyStaged i s else s
    if v.testBit 2 then calReload i s else s
  else if 0x100 ≤ off ∧ off < 0x920 ∧ (off - 0x100) / 4 < calWords i then
    modCal i (fun b => { b with staged := b.staged.set ((off - 0x100) / 4) v }) s
  else s

/-- A write to a CPU-port ring (R540): BASE and SIZE are ignored while ENABLE is 1. -/
def cpuRegWrite (off v : Nat) (s : State) : State :=
  let c := off % 0x1000 / 0x40
  let f (r : CpuRing) : CpuRing :=
    if r.enable then r
    else match off % 0x40 with
    | 0x00 => { r with base := putHalf r.base false v }
    | 0x04 => { r with base := putHalf r.base true v }
    | 0x08 => { r with log := v % 32 }
    | 0x0C => { r with hostIdx := v % 65536 }
    | _ => r
  if 7 < c then s
  else if off < 0x1000 then (if off % 0x40 = 0x14 then ringControl true c (v.testBit 0) s else modTrap c f s)
  else if off < 0x2000 then (if off % 0x40 = 0x14 then ringControl false c (v.testBit 0) s else modInj c f s)
  else s

/-- A write of a register (R7, R526, R527): aligned 32-bit accesses only, none while PERST_N is low, and in SAFE only SYS, MBX and IRQ. -/
def registerWrite (bar2 : Bool) (off v : Nat) (s : State) : State :=
  if off % 4 ≠ 0 || s.sys.perst then s
  else if bar2 then cpuRegWrite off v s
  else if off < 0x10000 then sysWrite off v s
  else if off < 0x20000 then mbxWrite (off - 0x10000) v s
  else if off < 0x30000 then irqWrite (off - 0x20000) v s
  else if s.sys.mode = .safe then s
  else if 0x100000 ≤ off ∧ off < 0x112000 then tawWrite ((off - 0x100000) / 0x1000) (off % 0x1000) v s
  else if off = 0x200000 then (if v.testBit 0 then tsuSnap s else s)
  else if 0x400000 ≤ off ∧ off < 0x410000 then statRegWrite (off - 0x400000) v s
  else if 0x500000 ≤ off ∧ off < 0x500000 + 356 * 0x1000 then calWrite ((off - 0x500000) / 0x1000) (off % 0x1000) v s
  else s

/-- REGISTER_WRITE: the BAR, the byte offset in it, and the 32-bit value. -/
def execRegisterWrite (bar2 : Bool) (off : BitVec 24) (v : BitVec 32) (s : State) : Host.Outcome State Fault Refusal :=
  live s (registerWrite bar2 off.toNat v.toNat)

end Sys2Proof.Machine
end

