-- ==== Sys2Proof/Machine/Boot.lean ====
section
/-! DEFINITION. Reset, boot and firmware start (R40, R52 to R60, R338, R379, R483, R487), retirement (R101), the host-interface reset (R53, R545), power states (R116 to R119), mode entry and the emergency stop (R42, R45, R48 to R51). -/

namespace Sys2Proof.Machine

/-! ### Retirement (R101) -/

/-- The retirement key: RK from K0 and the device ID. -/
def retireKey (k0 : Bytes) : Bytes :=
  Crypto.tag16 k0 ([0x45, 0x54, 0x53, 0x2D, 0x52, 0x45, 0x54, 0x49, 0x52, 0x45] ++ le 8 Config.deviceId.toNat)

/-- The retirement sequence from the setting of the RETIRING marker to its clearing (R101). -/
def retireSequence (s : State) : State :=
  let rk := match s.nv.rk, keyOf s 0 with
    | some r, _ => some r
    | none, some k => some (retireKey k)
    | none, none => none
  { s with nv := { s.nv with rk := rk, keys := [], counters := [], ownerPolicy := false, ownerHash := zeros 48,
                             lifecycle := .retired, retiring := false } }

/-- A retirement that lost power runs again from the marker, at boot and when NV-inhibit clears (R101). -/
def retireResume (s : State) : State := if s.nv.retiring && !s.pwr.nvInhibit then retireSequence s else s

/-! ### Reset (R40, R52, R54) -/

/-- An image after a reset: verified afresh; one that an update left partly written stays so (R55). -/
def Img.afterReset (i : Img) : Img :=
  { state := 0, facts := none, torn := i.torn || i.state == 4 }

/-- The supply comparators and the temperature, which a reset does not move; RIDE is entered again where its cause holds (R116). -/
def Power.afterReset (p : Power) : Power :=
  let st : PState := if p.auxWarn || p.coreSag then .ride else .full
  { p with state := st, remembered := .full, portOff := 0, laneOff := 0, waking := false }

/-- The boot ROM starts once nothing holds the device in reset: a retirement goes on (R56, R101). -/
def bootStart (s : State) : State := if s.held then s else retireResume s

/-- A device reset with a cause and its data (R40, R52, R54): what MRAM holds stays, the pins and comparators stay, all else returns to its value after reset, and the boot ROM starts. -/
def deviceReset (code data : Nat) (s : State) : State :=
  bootStart
    { State.reset with
      clk := { now := s.clk.now, acc := 0, todSet := false, off := 0 },
      sys := { Sys.reset with
        resetCode := code, resetData := data, lastStart := if code = 1 then 0 else s.sys.lastStart,
        imgA := s.sys.imgA.afterReset, imgB := s.sys.imgB.afterReset, straps := s.sys.straps, sysRst := s.sys.sysRst,
        thermTrip := s.sys.thermTrip, tripWait := s.sys.tripWait, auxDown := s.sys.auxDown, perst := s.sys.perst },
      pwr := if code = 1 then Power.reset else s.pwr.afterReset,
      nv := s.nv,
      tim := { Timing.reset with xo := { Xo.reset with rdyPin := s.tim.xo.rdyPin } },
      free := s.free, out := s.out, pending := s.pending }

/-! ### Images and the start of firmware (R58 to R60) -/

/-- What an image's verification gives, as a STATE code of R519 (R58, R106, R108). -/
def imageState (s : State) (i : Img) : Nat := match i.facts with
  | none => 0
  | some f =>
    if !f.header then 0
    else if i.torn || !f.vendorOk || (s.nv.ownerPolicy && f.ownerKey != some s.nv.ownerHash) then 2
    else if s.nv.lifecycle == .locked && decide (f.version.toNat < s.nv.minVersion) then 3
    else 1

/-- Image `k` (1 A, 2 B). -/
def imgOf (s : State) (k : Nat) : Img := if k = 1 then s.sys.imgA else s.sys.imgB

/-- Change image `k`. -/
def modImg (k : Nat) (f : Img → Img) (s : State) : State :=
  modSys (fun y => if k = 1 then { y with imgA := f y.imgA } else { y with imgB := f y.imgB }) s

/-- Is image `k` valid (R58)? -/
def imageValid (s : State) (k : Nat) : Bool := (imgOf s k).state == 1

/-- BOOT_HOLD (R60). -/
def bootHold (s : State) : Bool := decide (3 ≤ s.nv.attempts)

/-- The images to try, in order (R59): the named one, or the preferred one and then the other. -/
def imageOrder (s : State) (named : Nat) : List Nat :=
  if named = 0 then [s.nv.preferred, 3 - s.nv.preferred] else [named]

/-- A boot attempt is counted in MRAM (R16, R60); below the NV-inhibit threshold no write starts, so none is (R120). -/
def countAttempt (s : State) : State :=
  if s.pwr.nvInhibit then s else { s with nv := { s.nv with attempts := s.nv.attempts + 1 } }

/-- Start the first valid image of a list, or set NO_IMAGE and answer BUSY to the command that asked (R59, R501). -/
def tryImages (order : List Nat) (asked : Option Transport) (s : State) : State :=
  match order with
  | [] =>
    let s := modSys (fun y => { y with start := none, noImage := true }) s
    match asked with
    | some t => dueReply t stBusy [] s
    | none => s
  | k :: rest =>
    if imageValid s k then modSys (fun y => { y with start := some { image := k, rest := rest, asked := asked }, lastStart := k }) s
    else tryImages rest asked s

/-- May the boot ROM start firmware on its own (R40, R60)? -/
def autoMay (s : State) : Bool :=
  s.sys.mode == .safe && !s.sys.verifying && s.sys.start.isNone && !s.sys.fwAlive && !s.nv.hold && !bootHold s

/-- An AUTO start: it waits for XO_IN (R40, R56). -/
def autoStart (s : State) : State :=
  if !autoMay s then s
  else if s.tim.xo.missing then modSys (fun y => { y with autoWaits := true }) s
  else tryImages (imageOrder s 0) none (modSys (fun y => { y with autoWaits := false }) s)

/-- Verification of both images ends (R58). -/
def verified (a b : ImageFacts) (s : State) : State :=
  if s.sys.mode ≠ .safe || !s.sys.verifying then s
  else
    let put (k : Nat) (f : ImageFacts) (s : State) : State :=
      modImg k (fun i => { i with facts := some f, state := imageState s { i with facts := some f } }) s
    autoStart (modSys (fun y => { y with verifying := false }) (put 2 b (put 1 a s)))

/-- XO_IN is detected: its nominal frequency is taken, SYN-T locks, and a waiting AUTO boot goes on (R56, R338). Code 0, 6 or 7 is none of the five frequencies. -/
def xoDetect (code : Nat) (s : State) : State :=
  if s.sys.mode ≠ .safe || s.tim.xo.present || code = 0 || 5 < code then s
  else
    let s := modXo (fun x => { x with freq := code, present := true, rdyAt := s.clk.now }) s
    let s := modSyn 0 (fun y => { y with st := 1 }) s
    if s.sys.autoWaits then autoStart s else s

/-! ### The records of a start (R483, R487) -/

/-- The Negative's records by SEQ. -/
def bySeq (t : Tab Bytes) : Tab Bytes := t.foldl (fun m (_, r) => m.set (field r 0 4) r) []

/-- The links that fail under R481: the SEQ of the first and how many. -/
def badLinks : Tab Bytes → List Nat
  | (a, p) :: (b, r) :: t =>
    let rest := badLinks ((b, r) :: t)
    if b = a + 1 && (Crypto.sha256 (p.drop 60 ++ r.take 60)).take 4 != r.drop 60 then b :: rest else rest
  | _ => []

/-- The RESET record (R483, R488). -/
def resetRecord (k : Nat) (s : State) : State :=
  negWrite 0x0001 (b1 s.sys.resetCode ++ le 4 s.sys.resetData ++ b1 s.nv.attempts ++ b1 k ++
    b1 (bitsNat [s.sys.fallback, bootHold s]) ++ le 4 (runningVersion s)) s

/-- The records before the MODE record: RESET, NEG_REPAIR where links fail, and a kept FW_IMAGE outcome (R483, R487, R520). -/
def startRecords (k : Nat) (s : State) : State :=
  let bad := badLinks (bySeq s.nv.slots)
  let s := resetRecord k s
  let s := match bad with
    | [] => s
    | b :: _ => negWrite 0x00F0 (le 4 b ++ le 4 bad.length) { s with neg := { s.neg with repaired := true } }
  match s.neg.keptFw with
  | some r => negPut r { s with neg := { s.neg with keptFw := none } }
  | none => s

/-- The band a synthesizer takes when firmware starts (R379). -/
def synStart (s : State) (i : Nat) : State :=
  modSyn i (fun y => { y with st := 0 }) (selectBand i s)

/-- Firmware reports alive (R59, R483): the records, the flags, PROVISION, and the reply to the ENTER_PROVISION that asked for it. -/
def alive (s : State) : State :=
  match s.sys.start with
  | none => s
  | some f =>
    let s := modSys (fun y => { y with start := none, running := f.image, fwAlive := true, noImage := false,
                                       fallback := f.image != s.nv.preferred }) s
    let s := startRecords f.image s
    let slot := match f.asked with
      | some t => ((s.gcp.chan t).due.map (fun (u : Due) => (Cmd.mk u.origin u.pkt).slotCode)).getD 0xFF
      | none => 0xFF
    let s := if f.asked.isSome then setMode .provision 1 slot 0x0103 0 s else setMode .provision 0 0xFF 0 0 s
    let s := [1, 2, 3, 4, 5, 6].foldl synStart s
    match f.asked with
    | some t => dueReply t stDone [] s
    | none => s

/-- Firmware does not report alive within 2 s (R40, R59): FW_START_FAIL, and the fallback rule. -/
def startFails (s : State) : State :=
  match s.sys.start with
  | none => s
  | some f =>
    let s := modSys (fun y => { y with resetCode := 6, resetData := f.image, scratch := 0 }) s
    tryImages f.rest f.asked (countAttempt s)

/-- A fatal internal error (R16, R486): the INTERNAL record, the boot attempt count, and the reset. -/
def fatal (proc : Option Nat) (code addr : Nat) (s : State) : State :=
  if s.sys.mode = .safe then s
  else
    let seq := s.nv.nextSeq
    let s1 := if s.pwr.nvInhibit then s
      else negWrite 0x00FF (b1 (proc.getD 0xFF) ++ b1 1 ++ le 2 0 ++ le 4 code ++ le 4 addr) s
    let data := if s.pwr.nvInhibit then 0xFFFFFFFF else seq
    deviceReset 4 data (countAttempt s1)

/-! ### The host interface (R53, R70, R525, R529 to R545) -/

/-- The host-interface domain resets (R53): rings, doorbells, event queue, statistics and CPU rings; held replies, records and causes stay. -/
def hostReset (s : State) : State :=
  let s := (List.range 8).foldl (fun s c => forgetInject c s) s
  { s with
    mbx := { Mbx.reset with held := s.mbx.held },
    irq := { Irq.reset with cause := s.irq.cause, held := s.irq.held, seq := s.irq.seq, lostSince := s.irq.lostSince },
    stat := { StatBlk.reset with seq := s.stat.seq, restarted := s.stat.restarted },
    trap := [], inject := [],
    gcp := { s.gcp with pcie := { s.gcp.pcie with waiting := [], cache := [] } } }

/-- PERST_N falls (R53, R70, R545). -/
def perstAssert (s : State) : State := hostReset (modSys (fun y => { y with perst := true, d3hot := false }) s)

/-- PERST_N rises (R57). -/
def perstRelease (s : State) : State := modSys (fun y => { y with perst := false }) s

/-! ### Power (R116 to R119) -/

/-- Blocks of lanes and ports that power up resume with CONVERGED clear (R461). -/
def calWake (old s : State) : State :=
  (List.range 320).foldl (fun s i =>
    if !calPowered old i && calPowered s i then modCal i (fun b => { b with converged := false, run := 0 }) s else s) s

/-- Set the masks of TRIM or FULL (R116, R117): ports and lanes go off and come on. -/
def setMasks (st : PState) (ports : BitVec 64) (lns : BitVec 256) (s : State) : State :=
  let old := s
  let s := modPwr (fun p => { p with state := st, portOff := ports, laneOff := lns }) s
  calWake old (powerReturn (powerDrop old 7 s))

/-- Entry to RIDE (R116, R124): an open debug session closes, one of level D3 too, since no level above D0 is ever open in RIDE (R123). -/
def rideEnter (s : State) : State :=
  if s.pwr.state = .full ∨ s.pwr.state = .trim then
    dbgClose 2 (modPwr (fun p => { p with state := .ride, remembered := p.state }) s)
  else s

/-- Entry to SLEEP (R15, R116, R538): the last statistics record, then the lanes, the core and the deep tier go off. -/
def sleepEnter (s : State) : State :=
  let s := if s.stat.enable && statLive s then statWrite false true s else s
  powerDrop s 7 (modPwr (fun p => { p with state := .sleep }) s)

/-- Rebuild every free ring at the configured pool sizes (R119, R274). -/
def poolsRebuild (s : State) : State :=
  let again (p : Pool) : Pool :=
    let b := Pool.build p.count
    { p with cache := b.cache, ring := b.ring, refill := none, spill := none, lowWater := b.lowWater, low := false, lostBytes := 0 }
  modCore (fun c => { c with pools := c.pools.map (fun x => (x.1, again x.2)), ledger := [], frames := [], queues := [], store := [] }) s

/-! ### Mode entry (R45, R48 to R51) -/

/-- PFC XOFF on every lossless class of every Ethernet port (R45). -/
def pauseAll (s : State) : State :=
  (flowKeys s).foldl (fun s (p, c) =>
    if (s.port p).cfg.dalom || !s.lossless p c then s
    else if (s.port p).isUp then assertXoff p c s
    else modFc p c (fun k => { k with xoff := true }) s) s

/-- The pause ends: XOFF is judged again and the credits withheld are returned (R45, R170). -/
def pauseEnds (s : State) : State :=
  (flowKeys s).foldl (fun s (p, c) =>
    let n := (s.dlk p).owed.get 0 c
    let m := (s.dlk p).owedDirect.get 0 c
    let s := if n = 0 then s else creditReturn p c n (modDlk p (fun d => { d with owed := d.owed.set c 0 }) s)
    let s := if m = 0 then s else addReturned p c m (modDlk p (fun d => { d with owedDirect := d.owedDirect.set c 0 }) s)
    xonCheck p c s) s

/-- Leave MAINTENANCE (R47, R151): lane tests end and a pause ends. -/
def leaveMaintenance (s : State) : State :=
  let was := s.sys.paused
  let s := laneTestsEnd (modSys (fun y => { y with paused := false }) s)
  if was then pauseEnds s else s

/-- Change to a mode by a command, an emergency or DPLL-T, closing MAINTENANCE where it is left. -/
def enterMode (m : Mode) (trigger slot opcode flag : Nat) (s : State) : State :=
  let was := s.sys.mode
  let s := setMode m trigger slot opcode flag s
  if was = .maintenance then leaveMaintenance s else s

/-- A commanded drain is abandoned or over (R48, R49). -/
def drainStop (s : State) : State := modSys (fun y => { y with draining := false }) s

/-- Frames that Dalom ports send are ended by an ABORT tile in the next slot of a port that stripes, and counted; one whose FIRST has not left is not sent (R49, R157, R165). -/
def abortDalom (s : State) : State :=
  s.dlks.foldl (fun s (p, _) =>
    let s := (s.dlk p).segTx.foldl (fun s (x : Nat × SegTx) => cntClass p x.1 13 1 s) s
    let due := stripes (s.port p)
    modDlk p (fun d => { d with
      abortDue := d.abortDue || due,
      segTx := (d.segTx.filter (fun (x : Nat × SegTx) => !x.2.first)).map (fun (x : Nat × SegTx) => (x.1, { x.2 with abort := true })) }) s) s

/-- A frame that the device stops receiving because it no longer forwards is counted at its port (R48, R49). -/
def cntStopped (f : Frame) (s : State) : State := cntPort f.inPort 8 1 s

/-- The emergency stop (R42, R49). `thermal` powers the lanes off. -/
def emergency (thermal : Bool) (s : State) : State :=
  match s.sys.mode with
  | .safe | .provision =>
    if thermal then prefsDark (thermalStop s) else s
  | m =>
    if m = .quiesce ∧ s.pwr.state = .sleep then s
    else
      let s := if m = .quiesce then s else enterMode .quiesce (if thermal then 4 else 5) 0xFF 0 0 s
      let s := discardArriving cntStopped (discardAll (abortDalom (drainStop s)))
      if thermal then powerDrop s 8 (modSys (fun y => { y with lanesOff := true }) s) else s

/-- The drain is over (R48): what is left is discarded, and the lanes go off if the command asked. -/
def drainEnd (s : State) : State :=
  if s.sys.mode ≠ .quiesce || !s.sys.draining then s
  else
    let s := discardArriving cntStopped (discardAll (drainStop s))
    if s.sys.drainLanesOff then powerDrop s 7 (modSys (fun y => { y with lanesOff := true }) s) else s

/-- Is any frame still queued or in an egress store? -/
def framesQueued (s : State) : Bool := s.core.frames.any Frame.isQueued || s.core.store.any (fun x => !x.2.isEmpty)

end Sys2Proof.Machine
end

