-- ==== Sys2Proof/Machine/SliceRows.lean ====
section
/-! DEFINITION. Slice failover (R323 to R326), the deadlock detector (R316, R317), and the pace and voltage loop (R319 to R322, R535, R548). -/

namespace Sys2Proof.Machine

/-- The quad a slice serves. -/
def sliceQuad (s : State) (sl : Nat) : Option Nat :=
  (List.range 16).find? (fun q => s.quadSlice q == sl && !s.quadDown q)

/-- DATA of a slice event (R533): quad, its epoch, and the slice taking over. -/
def sliceData (s : State) (q taker : Nat) : Bytes := b1 q ++ b1 (s.epoch q) ++ b1 taker

/-- The epoch of a quad goes up, modulo 16 (R324). -/
def bumpEpoch (q : Nat) (s : State) : State := modCore (fun c => { c with epochs := c.epochs.set q ((c.epochs.get 0 q + 1) % 16) }) s

/-- The shadow compare starts again from the first record of every region (R256). -/
def shadowRestart (s : State) : State :=
  { s with tables := { s.tables with shadows := s.tables.shadows.map (fun x => (x.1, { x.2 with next := 0, seen := [] })) } }

/-- Declare a slice dead (R282, R324, R325): its quad's epoch rises, results and receptions of the quad are refused, the spare takes over or the quad is unserved; a window operation on it ends with DENIED (R267). -/
def declareDead (sl q : Nat) (s : State) : State :=
  let s := bumpEpoch q (modSlice sl (fun r => { r with st := .dead }) s)
  let taker := s.core.spare
  let s := raise 80 sl (sliceData s q (taker.getD 0xFF)) s
  let s := negWrite 0x0020 (b1 sl ++ b1 q ++ b1 (s.epoch q) ++ b1 (taker.getD 0xFF)) s
  let mine := s.core.frames.filter (fun f => quadOf f.inPort == q && decide (f.inPort < 64) && !f.accepted && f.buffered)
  let s := mine.foldl (fun s f => shed f (takeoverDrop f.inPort f.tc s)) s
  let s := if (s.win sl).busy then tawFinish sl (TawOut.bare 5) s else s
  match taker with
  | some t => modCore (fun c => { c with taking := c.taking ++ [(t, q)], spare := none }) s
  | none =>
    let s := modCore (fun c => { c with unserved := c.unserved.set q true }) s
    raise 82 sl (sliceData s q 0xFF) s

/-- A 2 µs watchdog window of a slice ends (R323, R324). In SLEEP the handshake core is off, and no window ends (R15). -/
def windowEnd (sl : Nat) (stalled : Bool) (s : State) : State :=
  let r := s.slice sl
  if s.pwr.state = .sleep then s
  else match sliceQuad s sl with
  | none => s
  | some q =>
    match r.st, stalled with
    | .active, true =>
      let s := modSlice sl (fun r => { r with st := .suspect, stalled := 1, suspects := satAdd 32 r.suspects 1 }) s
      raise 79 sl (sliceData s q 0xFF) s
    | .suspect, false => modSlice sl (fun r => { r with st := .active, stalled := 0 }) s
    | .suspect, true =>
      if r.stalled < 2 then modSlice sl (fun r => { r with stalled := 2 }) s else declareDead sl q s
    | _, _ => s

/-- WATCHDOG_WINDOW_END: whether work was pending throughout with no handshake completed. -/
def execWatchdogWindowEnd (sl : Slice) (stalled : Bool) (s : State) : Host.Outcome State Fault Refusal := live s (windowEnd sl.val stalled)

/-- A slice that begins to serve keeps no learned entry (R30, R325). -/
def forget (sl : Nat) (s : State) : State :=
  modTab sl (fun T => { T with fdb := T.fdb.filter (fun x => match x.2 with
    | .entry e => !e.dyn
    | .tomb _ => true) }) s

/-- The oldest takeover in progress completes: its spare serves the failed slice's quad, with host-written entries only (R325). -/
def takeover (s : State) : State :=
  match s.core.taking with
  | [] => s
  | (t, q) :: rest =>
    let old := s.quadSlice q
    let s := modSlice t (fun r => { r with st := .active, stalled := 0 }) (forget t s)
    let s := modCore (fun c => { c with quads := c.quads.set q t, taking := rest }) s
    raise 81 old (sliceData s q t) (shadowRestart s)

/-- SLICE_TAKEOVER. -/
def execSliceTakeover (s : State) : Host.Outcome State Fault Refusal := live s takeover

/-! ### The deadlock detector -/

/-- Does a port hold back credit returns of a class (R170, R185)? -/
def holdsReturns (s : State) (p c : Nat) : Bool :=
  let d := s.dlk p
  decide (0 < d.heldBack.get 0 c) || decide (0 < d.shrinkHeld.get 0 c) || decide (0 < d.owed.get 0 c) || decide (0 < d.owedDirect.get 0 c)

/-- Is a frame queued towards an egress port: in a VOQ of the port, or a multicast frame that has still to cross to it? -/
def queuedTo (f : Frame) (p : Nat) : Bool :=
  f.isQueued && (voqOut f.queueKey == some p || f.residue.testBit p ||
    (!f.resolved && f.result.any (fun r => match r.dest with
      | .flood ports => ports.testBit p
      | _ => false)))

/-- Ingress ports that assert XOFF or hold back returns for a class whose frames wait for an egress port (R317). A group's frame counts once its group has been read (R309). -/
def xoffMask (s : State) (p : Nat) : Nat :=
  (s.core.frames.filter (queuedTo · p)).foldl (fun m f =>
    if (s.fc f.inPort f.tc).xoff || holdsReturns s f.inPort f.rxTc then setBit m f.inPort else m) 0

/-- When a class last began to be paused without a dequeue (R316). -/
def pausedFrom (s : State) (p c : Nat) : Nat := max ((s.fc p c).pausedSince.getD s.clk.now) (s.fc p c).lastMoved

/-- Does the pause of a class last to an instant: a received pause that ends no earlier, or a shortage of credits? -/
def pausedUntil (s : State) (p c t : Nat) : Bool := creditShort s p c || ((s.fc p c).paused && decide (t ≤ (s.fc p c).pauseEnd))

/-- A paused class has seen no dequeue for DL_TIME: a record and the event (R316, R317). The timer runs from the pause or the last dequeue, the later (R33), and the row stands for its expiry (log 107). -/
def deadlockSuspect (p c : Nat) (s : State) : State :=
  let since := pausedFrom s p c
  let t := since + s.core.dlTime * msTicks
  if s.core.dlTime = 0 || !pausedUntil s p c t || s.core.deadlocks.any (fun d => d.port == p && d.tc == c) then s
  else
    let s := advanceTo t s
    let mask := xoffMask s p
    let dal := (s.port p).cfg.dalom
    let mac : Mac := if dal then ((s.dlk p).partner.map (fun (r : CapRec) => r.mac)).getD 0 else 0
    let d : Deadlock := { port := p, tc := c, since := since, xoffMask := mask, mac := mac, dalom := dal, cycle := mask.testBit p }
    raise 74 p (b1 c ++ b1 (bitsNat [d.cycle, dal])) (modCore (fun q => { q with deadlocks := q.deadlocks ++ [d] }) s)

/-- DEADLOCK_SUSPECT. -/
def execDeadlockSuspect (p : Port) (c : TC) (s : State) : Host.Outcome State Fault Refusal := live s (deadlockSuspect p.val c.val)

/-! ### Pace and voltage -/

/-- Demand of a port speed in units of 10,000 tokens/s (R320). -/
def demandOf : Nat → Nat
  | 5 => 59524 | 4 => 29762 | 3 => 14881 | 2 => 7440 | 1 => 3720 | _ => 1488

/-- Demand rate of a slice in units of 10,000 tokens/s (R21, R320). -/
def demand (s : State) (sl : Nat) : Nat :=
  match sliceQuad s sl with
  | none => 0
  | some q => (((List.range 4).map (4 * q + ·)).map (fun p => if (s.port p).cfg.configured then demandOf (s.port p).cfg.speed else 0)).sum

/-- Margin of a slice in thousandths, 0xFFFF for zero demand (R21, R335). -/
def margin (s : State) (sl : Nat) : Nat :=
  let d := demand s sl
  if d = 0 then 0xFFFF else min 0xFFFE ((s.slice sl).rate * 100 * 1000 / d)

/-- The slices that count in the AVS loop (R320 to R322). -/
def avsSlices (s : State) : List Nat :=
  (List.range 17).filter (fun i => ((s.slice i).st == .active || (s.slice i).st == .suspect) && demand s i != 0)

/-- Set the voltage target: a voltage write on the AVSBus (R548), at most the 0.85 V and at least the 0.70 V of R21. -/
def setTarget (mv : Nat) (s : State) : State :=
  (modCore (fun c => { c with avs := { c.avs with target := mv } }) s).send (.avs mv)

/-- An AVSBus transaction failed or succeeded (R548). -/
def avsBus (ok : Bool) (s : State) : State :=
  let a := s.core.avs
  if ok then modCore (fun c => { c with avs := { a with fault := false, fails := 0 } }) s
  else if a.fault then s
  else if a.fails + 1 < 3 then modCore (fun c => { c with avs := { a with fails := a.fails + 1 } }) s
  else raise 5 0 (le 2 a.target) (modCore (fun c => { c with avs := { a with fault := true, fails := 3 } }) s)

/-- Note the pace monitor's values of a slice: live rate and its lowest, in 1 M tokens/s (R321, R335). -/
def notePace (s : State) (x : Nat × Nat × Nat) : State :=
  modSlice x.1 (fun r => { r with rate := x.2.1, rateMin := x.2.2 }) s

/-- The pace monitor reads the extra LPM tokens of the millisecond since the last run (R231, R321): one is 1,000 tokens/s, the unit of R335. -/
def readExtra (s : State) : State :=
  (List.range 17).foldl (fun s i => modTab i (fun T => { T with extra := 0 }) (modSlice i (fun r => { r with lpmExtra := (s.tab i).extra }) s)) s

/-- One run of the AVS loop (R322, R329): every run judges the lowest margin; a target above VMAX goes down at 5 mV a run, whatever the mode. DESIGN CHOICE (log 121): where AVS_CONFIG sets VMIN above the target in force, which R329 does not speak of, the target stays until a low margin raises it in steps of 5 mV. -/
def avsLoop (pace : List (Nat × Nat × Nat)) (s : State) : State :=
  let s := readExtra (pace.foldl notePace s)
  let a := s.core.avs
  if s.pwr.state = .sleep ∨ a.fault then s
  else
    match leastOf (margin s) (avsSlices s) with
    | none => if a.vmax < a.target then setTarget (max a.vmax (a.target - 5)) s else s
    | some sl =>
      let m := margin s sl
      let above := if a.margin + 50 < m then min 100 (a.above + 1) else 0
      let s := modCore (fun c => { c with avs := { c.avs with above := above, minMargin := m, minSlice := sl } }) s
      if a.vmax < a.target then setTarget (max a.vmax (a.target - 5)) s
      else if a.hold then s
      else
        let s := if m < a.margin ∧ a.target < a.vmax then setTarget (min a.vmax (a.target + 5)) s
          else if above = 100 ∧ a.vmin < a.target then setTarget (max a.vmin (a.target - 5)) s
          else s
        let due : Bool := match a.lastShort with
          | some t => decide (t + secTicks ≤ s.clk.now)
          | none => true
        if s.core.avs.target = a.vmax ∧ m < 1000 ∧ due then
          raise 6 sl (le 2 m) (modCore (fun c => { c with avs := { c.avs with lastShort := some s.clk.now } }) s)
        else s

/-- AVS_LOOP_TICK: whether the AVSBus transaction of this millisecond succeeded, and the pace monitor's values as (slice, rate, lowest). -/
def execAvsLoopTick (ok : Bool) (pace : List (Nat × Nat × Nat)) (s : State) : Host.Outcome State Fault Refusal :=
  live s (fun s => avsLoop pace (if s.core.avs.fault then s else avsBus ok s))

/-- AVSBUS_RETRY. -/
def execAvsbusRetry (ok : Bool) (s : State) : Host.Outcome State Fault Refusal :=
  live s (fun s => if s.core.avs.fault then avsBus ok s else s)

end Sys2Proof.Machine
end

