-- ==== Sys2Proof/Machine/GcpSys.lean ====
section
/-! DEFINITION. The opcodes of groups 0x01 and 0x02 (R502 to R508): modes, power, reset, ownership, keys, retirement and debug. -/

namespace Sys2Proof.Machine

/-! ### Shared by the groups -/

/-- Only these modes accept the opcode. -/
def inModes (l : List Mode) (_ : Cmd) (s : State) : Bool := l.contains s.sys.mode

/-- Only these lifecycles accept the opcode. -/
def inLives (l : List Lifecycle) (_ : Cmd) (s : State) : Bool := l.contains s.nv.lifecycle

/-- Every mode, and every lifecycle. -/
def anywhere (_ : Cmd) (_ : State) : Bool := true

/-- The row is also accepted in SAFE and on the sideband (R500). -/
def OpDef.safe (d : OpDef) : OpDef := { d with sidebandOk := true, modeOk := anywhere }

/-- A check that answers BAD_PARAM. -/
def bad (ok : Bool) : Option (Nat × Bytes) := if ok then none else some (stBadParam, [])

/-- BAD_PARAM where the parameters are wrong in any state, then BUSY where a state forbids the command now. -/
def badOrBusy (ok busy : Bool) : Option (Nat × Bytes) :=
  if !ok then some (stBadParam, []) else if busy then some (stBusy, []) else none

/-- May the tag be under K0 only (R103)? -/
def Cmd.k0 (c : Cmd) : Bool := !c.auth || c.slot == 0

/-- The boot attempt count as one byte. -/
def attemptByte (s : State) : Bytes := b1 (min 255 s.nv.attempts)

/-- The open debug level. -/
def debugLevel (s : State) : Nat := (s.dbg.session.map (·.level)).getD 0

/-! ### GET_STATUS, GET_RESET_CAUSE, SET_BOOT_POLICY -/

/-- GET_STATUS (R503). -/
def statusBytes (s : State) : Bytes :=
  b1 s.sys.mode.code ++ b1 s.pwr.state.code ++ b1 s.nv.lifecycle.code ++ b1 s.sys.running ++
  b1 (bitsNat [s.sys.fallback, bootHold s, s.sys.noImage, s.tim.xo.missing, s.sys.draining]) ++ b1 (s.dpll 0).st.code ++
  b1 (debugLevel s) ++ attemptByte s ++ be 6 s.sys.deviceMac.toNat ++ le 2 s.sys.mgmtVid ++ le 4 (runningVersion s) ++
  le 2 s.nv.timeGen ++ b1 (liveOps s) ++ b1 0 ++ leInt 2 s.pwr.tj ++ le 2 s.pwr.auxMv ++ le 2 s.pwr.coreMv ++ zeros 2

/-- 0x0100 GET_STATUS. -/
def opGetStatus : OpDef := (reads 0 (fun _ _ => true) (fun _ s => statusBytes s)).safe

/-- GET_RESET_CAUSE (R504). -/
def resetCauseBytes (s : State) : Bytes :=
  b1 s.sys.resetCode ++ attemptByte s ++ b1 s.sys.lastStart ++ b1 0 ++ le 4 s.sys.resetData

/-- 0x0101 GET_RESET_CAUSE. -/
def opGetResetCause : OpDef := (reads 0 (fun _ _ => true) (fun _ s => resetCauseBytes s)).safe

/-- 0x0102 SET_BOOT_POLICY (R502): the policy, and the preferred image where one is named. -/
def opSetBootPolicy : OpDef :=
  { sets 2 (fun p _ => decide (field p 0 1 ≤ 1) && decide (field p 1 1 ≤ 2))
      (fun p s => { s with nv := { s.nv with hold := field p 0 1 == 1,
                                             preferred := if field p 1 1 = 0 then s.nv.preferred else field p 1 1 } })
    with nMark := true, sidebandOk := true, modeOk := inModes [.safe, .provision, .maintenance] }

/-! ### Modes -/

/-- Is a firmware update live (R520)? -/
def fwLive (s : State) : Bool := s.ops.any (fun o => o.live && o.typ == 1)

/-- The conditions of ENTER_PROVISION (R40, R520). -/
def provisionCheck (c : Cmd) (s : State) : Option (Nat × Bytes) :=
  let k := field c.params 0 1
  if 2 < k then some (stBadParam, [])
  else if s.sys.verifying || s.sys.start.isSome then some (stBusy, [])
  else if fwLive s || s.tim.xo.missing then some (stBusy, [])
  else bad ((imageOrder s k).any (imageValid s))

/-- 0x0103 ENTER_PROVISION: the image starts; the reply is due when firmware is alive or the last image tried has failed (R501). -/
def opEnterProvision : OpDef :=
  { classA 1 (fun c s => (.later .provision, tryImages (imageOrder s (field c.params 0 1)) (some (via c.origin)) s)) with
    sidebandOk := true, modeOk := inModes [.safe], lifeOk := anywhere, check := provisionCheck }

/-- Is a reference enabled? -/
def refOn (s : State) (r : Nat) : Bool := (s.ref r).st != .disabled

/-- A failing COMMIT check: its code and the port or slice concerned. -/
def firstOf (code : Nat) (l : List Nat) (t : Nat → Bool) : Option (Nat × Nat) := (l.find? t).map (fun n => (code, n))

/-- Check 1 POOLS of R62. -/
def poolsBad (s : State) : Bool :=
  let bytes (l : List Nat) : Nat := (l.map (fun p => (s.pool p).count * poolBufSize p)).sum
  decide (100663296 < bytes [0, 1, 2, 3]) || decide (8053063680 < bytes [4, 5]) ||
  (List.range 6).any (fun p => decide ((s.pool p).count < 512))

/-- Check 2 SPARE of R62: the slice concerned. -/
def spareBad (s : State) : Option (Nat × Nat) :=
  match s.core.spare.filter (fun i => (s.slice i).st == .quarantine) with
  | some i => some (2, i)
  | none => (firstOf 2 (List.range 16) (fun q => (List.range q).any (fun r => s.quadSlice r == s.quadSlice q))).map
      (fun x => (2, s.quadSlice x.2))

/-- Does check 4 TIMING of R62 fail for a port? -/
def timingPortBad (s : State) (p : Nat) : Bool :=
  !(s.port p).enabled && ((s.ptp p).enable ||
    (List.range 8).any (fun k => refOn s (6 + k) && (s.ref (6 + k)).lane / 4 == p))

/-- Does check 4 TIMING of R62 fail for DPLL-T's candidates? -/
def candidatesBad (s : State) : Bool :=
  let c := (s.dpll 0).cands
  let pps := (c.testBit 4 && refOn s 4) || (c.testBit 5 && refOn s 5)
  (isGm s && !pps) || (isBoundary s && !(c.testBit 15 || pps))

/-- The commit checks in order (R62): the code and number of the first that fails. -/
def commitFails (s : State) : Option (Nat × Nat) :=
  if poolsBad s then some (1, 0xFFFF)
  else match spareBad s with
  | some x => some x
  | none => match firstOf 3 (List.range 64) (fun p => (s.port p).cfg.configured && !(s.port p).cfg.combo) with
    | some x => some x
    | none => match firstOf 4 (List.range 64) (timingPortBad s) with
      | some x => some x
      | none =>
        if candidatesBad s then some (4, 0xFFFF)
        else firstOf 5 (List.range 64) (fun p => (List.range 8).any (fun c => s.lossless p c && (s.fc p c).short))

/-- Firmware rebuilds the TCAM of every slice that is still unloaded (R90, R233). -/
def rebuildUnloaded (s : State) : State :=
  (List.range 17).foldl (fun s i =>
    if (s.tab i).mode == .unloaded then
      modTab i rebuildBegin (opStart 3 .firmware none none false (.rebuild i false) s).2
    else s) s

/-- RUN at service grade, else COAST (R43). -/
def serviceMode (s : State) : Mode := if serviceGrade s then .run else .coast

/-- 0x0104 COMMIT_CONFIG (R40, R62, R63). -/
def opCommitConfig : OpDef :=
  { classA 0 (fun c s =>
      let s := rebuildUnloaded { s with nv := { s.nv with attempts := 0 } }
      (.done [], enterMode (serviceMode s) 1 c.slotCode 0x0104 0 s)) with
    modeOk := inModes [.provision], lifeOk := inLives [.owned, .locked],
    check := fun _ s => (commitFails s).map (fun x => (stBadParam, b1 x.1 ++ le 2 x.2 ++ b1 0)) }

/-- 0x0105 ENTER_MAINTENANCE (R40, R45). -/
def opEnterMaintenance : OpDef :=
  { classA 1 (fun c s =>
      let f := field c.params 0 1
      let s := enterMode .maintenance 1 c.slotCode 0x0105 f (modSys (fun y => { y with paused := f == 1 }) s)
      (.done [], if f = 1 then pauseAll s else s)) with
    modeOk := inModes [.run, .coast], check := fun c _ => bad (decide (field c.params 0 1 ≤ 1)) }

/-- 0x0106 ENTER_QUIESCE (R48): admission stops and the drain starts. -/
def opEnterQuiesce : OpDef :=
  { classA 8 (fun c s =>
      let ms := if field c.params 0 4 = 0 then 100 else field c.params 0 4
      let off := field c.params 4 1
      let s := enterMode .quiesce 1 c.slotCode 0x0106 off s
      (.done [], modSys (fun y => { y with draining := true, drainEnd := s.clk.now + ms * msTicks, drainLanesOff := off == 1 }) s)) with
    modeOk := inModes [.run, .coast], resv := fun p => allZero p 5 3,
    check := fun c _ => bad (decide (field c.params 0 4 ≤ 60000) && decide (field c.params 4 1 ≤ 1)) }

/-- Does RETURN_SERVICE reply BUSY (R50)? -/
def returnBusy (s : State) : Bool := s.sys.draining || decide (1600 ≤ s.pwr.tj) || s.pwr.critAux || s.pwr.critCore

/-- RETURN_SERVICE with its target (R40, R50, R51): lanes that were off come on; on the way to PROVISION everything held is discarded first. -/
def returnService (target slot : Nat) (s : State) : State :=
  let old := s
  let s := if target = 1 then discardArriving cntBath (discardAll s) else s
  let s := modSys (fun y => { y with lanesOff := false, drainLanesOff := false }) s
  let s := enterMode (if target = 1 then .provision else serviceMode s) 1 slot 0x0107 0 s
  calWake old (powerReturn s)

/-- 0x0107 RETURN_SERVICE; from SLEEP the device wakes first (R50). DEDUCED (log 22): step 14 judges the conditions of R50 before the wake of R116 starts (R80, R81), so in SLEEP a condition that holds is BUSY and the device stays in SLEEP; they are judged again when the wake has reached FULL. -/
def opReturnService : OpDef :=
  { classA 1 (fun c s =>
      let t := field c.params 0 1
      if s.pwr.state = .sleep then (.later (.wakeReturn t), modPwr (fun p => { p with waking := true }) s)
      else (.done [], returnService t c.slotCode s)) with
    modeOk := inModes [.maintenance, .quiesce],
    check := fun c s => badOrBusy (decide (field c.params 0 1 ≤ 1)) (returnBusy s) }

/-- Is a long operation that writes flash or MRAM at work (R55)? -/
def nvWorking (s : State) : Bool := s.ops.any (fun o => o.nvWrite && o.working)

/-- 0x0108 RESET_DEVICE (R55, R505): the reply, then the reset. -/
def opResetDevice : OpDef :=
  { (classA 1 (fun c s => (.done [], modSys (fun y => { y with resetDue := some (y.resetDue.getD c.slotCode) }) s))).safe with
    check := fun c s => badOrBusy (decide (field c.params 0 1 ≤ 1)) (field c.params 0 1 == 0 && nvWorking s) }

/-! ### Power -/

/-- Does a live operation forbid SLEEP (R116)? -/
def sleepBlocked (s : State) : Bool :=
  s.sys.draining || s.ops.any (fun o => o.live && (o.typ == 2 || o.typ == 3 || o.typ == 4 || o.typ == 9))

/-- Are the masks of TRIM valid (R117)? -/
def masksOk (ports lns : Nat) (s : State) : Bool :=
  (List.range 64).all (fun p => !(s.port p).enabled || ports.testBit p ||
    (s.port p).usedLanes.all (fun l => !lns.testBit (gLane p l)))

/-- The conditions of SET_POWER_STATE (R116, R117). -/
def powerCheck (c : Cmd) (s : State) : Option (Nat × Bytes) :=
  let t := field c.params 0 1
  if !(t = 0 ∨ t = 1 ∨ t = 3) then some (stBadParam, [])
  else if s.pwr.state = .ride then some (stBusy, [])
  else if s.pwr.state = .sleep then bad (t == 0)
  else if t = 1 then bad (masksOk (field c.params 4 8) (field c.params 12 32) s)
  else if t = 3 then badOrBusy (s.sys.mode == .quiesce) (sleepBlocked s)
  else none

/-- 0x0109 SET_POWER_STATE. -/
def opSetPowerState : OpDef :=
  { classA 44 (fun c s =>
      let t := field c.params 0 1
      if s.pwr.state = .sleep then (.later .wakeFull, modPwr (fun p => { p with waking := true }) s)
      else if t = 3 then (.done [], sleepEnter s)
      else if t = 1 then
        (.done [], setMasks .trim (BitVec.ofNat 64 (field c.params 4 8)) (BitVec.ofNat 256 (field c.params 12 32)) s)
      else (.done [], setMasks .full 0 0 s)) with
    resv := fun p => allZero p 1 3, check := powerCheck }

/-- 0x010A AVS_CONFIG (R329). -/
def opAvsConfig : OpDef :=
  { sets 8 (fun p _ =>
      let lo := field p 0 2
      let hi := field p 2 2
      let m := field p 4 2
      decide (700 ≤ lo) && decide (hi ≤ 850) && decide (lo ≤ hi) && (m == 0 || (decide (1000 ≤ m) && decide (m ≤ 1500))) &&
      decide (field p 6 1 ≤ 1))
      (fun p s => modCore (fun c => { c with avs := { c.avs with
        vmin := field p 0 2, vmax := field p 2 2, margin := if field p 4 2 = 0 then 1050 else field p 4 2, hold := field p 6 1 == 1 } }) s)
    with resv := fun p => allZero p 7 1 }

/-- PTP's state machine restarts on every port (R430). -/
def ptpRestart (s : State) : State :=
  reelect (modTim (fun t => { t with ptp := t.ptp.map (fun x => (x.1, { x.2 with
    st := .disabled, foreign := [], got := none, sync := none, syncAt := none, respAt := none, pairAt := none,
    req := none, ms := none, delayKnown := false, pReq := none, pResp := none, meanLink := none, annLost := false })) }) s)

/-- DEVICE_CONFIG (R506): the MAC and the management VID; the clock identity follows the MAC. -/
def deviceConfig (p : Bytes) (s : State) : State :=
  let m := BitVec.ofNat 48 (beNat (p.take 6))
  let moved := s.tim.time.clockIdSet == 0 && m != s.sys.deviceMac
  let s := modSys (fun y => { y with deviceMac := m, mgmtVid := field p 6 2 }) s
  if moved then ptpRestart s else s

/-- 0x010B DEVICE_CONFIG. -/
def opDeviceConfig : OpDef :=
  { sets 8 (fun p _ => beNat (p.take 6) != 0 && !(byteAt p 0).getLsbD 0 && decide (field p 6 2 ≤ 4094)) deviceConfig with
    modeOk := inModes [.provision] }

/-! ### Security -/

/-- Seconds left in the open debug session. -/
def debugRemain (s : State) : Nat := (s.dbg.session.map (fun d => (d.deadline - s.clk.now) / secTicks)).getD 0

/-- GET_SECURITY_STATUS (R508). -/
def securityBytes (s : State) : Bytes :=
  b1 s.nv.lifecycle.code ++ b1 (if s.nv.ownerPolicy then 1 else 0) ++ b1 (debugLevel s) ++
  b1 (bitsNat ((List.range 4).map (fun k => (keyOf s k).isSome))) ++ le 4 s.nv.minVersion ++ le 8 Config.deviceId.toNat ++
  (List.range 4).flatMap (fun k => le 8 (lastCounter s k)) ++ toLen 48 s.nv.ownerHash ++
  b1 (bitsNat [s.nv.rk.isSome, s.nv.retiring]) ++ b1 0 ++ le 2 (debugRemain s) ++ zeros 4

/-- 0x0200 GET_SECURITY_STATUS. -/
def opGetSecurityStatus : OpDef := (reads 0 (fun _ _ => true) (fun _ s => securityBytes s)).safe

/-- Is an owner policy with its key hash acceptable (R107)? -/
def policyOk (policy : Nat) (hash : Bytes) (s : State) : Bool :=
  if policy = 0 then hash.all (· == 0)
  else policy == 1 && (match runningFacts s with
    | some f => f.ownerKey == some hash
    | none => false)

/-- A lifecycle change begins (R99, R100, R124): its record, then every debug session closes. -/
def lifecycleRecord (new : Lifecycle) (slot : Nat) (rk : Bool) (minV : Nat) (s : State) : State :=
  dbgClose 4 (negWrite 0x0003 (b1 s.nv.lifecycle.code ++ b1 new.code ++ b1 slot ++ b1 (if rk then 1 else 0) ++ le 4 minV) s)

/-- TAKE_OWNERSHIP (R99): K0, the owner policy and hash, a zero counter, and the lifecycle word. -/
def takeOwnership (p : Bytes) (s : State) : State :=
  let s := lifecycleRecord .owned 0xFF false 0 s
  { s with nv := { s.nv with keys := s.nv.keys.set 0 (slice p 0 32), counters := s.nv.counters.set 0 0,
                             ownerPolicy := field p 32 1 == 1, ownerHash := slice p 36 48, lifecycle := .owned } }

/-- 0x0201 TAKE_OWNERSHIP. -/
def opTakeOwnership : OpDef :=
  { sets 84 (fun p s => policyOk (field p 32 1) (slice p 36 48) s) takeOwnership with
    nMark := true, inbandOk := false, sidebandOk := true, modeOk := inModes [.safe, .provision],
    lifeOk := inLives [.blank], resv := fun p => allZero p 33 3 }

/-- The key-encryption key of a slot (R104). -/
def wrapKey (k0 : Bytes) (slot : Nat) : Bytes :=
  Crypto.hkdf32 k0 ([0x47, 0x43, 0x50, 0x2D, 0x4B, 0x45, 0x59, 0x57, 0x52, 0x41, 0x50] ++ b1 slot)

/-- The key an INSTALL_KEY carries, unwrapped under K0. -/
def carriedKey (p : Bytes) (s : State) : Option Bytes :=
  (keyOf s 0).bind (fun k => Crypto.unwrap (wrapKey k (field p 0 1)) (slice p 4 40))

/-- INSTALL_KEY (R104): the key, and its counter at 0. -/
def installKey (p : Bytes) (s : State) : State :=
  match carriedKey p s with
  | none => s
  | some k => { s with nv := { s.nv with keys := s.nv.keys.set (field p 0 1) k, counters := s.nv.counters.set (field p 0 1) 0 } }

/-- A class A, N opcode of the owner (R103): K0 only. -/
def owners (n : Nat) (modes : List Mode) (lives : List Lifecycle) (ok : Bytes → State → Bool) (f : Bytes → State → State) : OpDef :=
  { classA n (fun c s => (.done [], f c.params s)) with
    nMark := true, modeOk := inModes modes, lifeOk := inLives lives, check := fun c s => bad (c.k0 && ok c.params s) }

/-- 0x0202 INSTALL_KEY. -/
def opInstallKey : OpDef :=
  { owners 44 [.provision, .maintenance] [.owned, .locked]
      (fun p s => decide (field p 0 1 ≤ 3) && (carriedKey p s).isSome) installKey with
    resv := fun p => allZero p 1 3 }

/-- 0x0203 REVOKE_KEY. -/
def opRevokeKey : OpDef :=
  { owners 4 [.provision, .maintenance] [.owned, .locked] (fun p _ => decide (1 ≤ field p 0 1) && decide (field p 0 1 ≤ 3))
      (fun p s => { s with nv := { s.nv with keys := s.nv.keys.erase (field p 0 1) } }) with
    resv := fun p => allZero p 1 3 }

/-- 0x0204 SET_OWNER_POLICY. -/
def opSetOwnerPolicy : OpDef :=
  { owners 52 [.provision] [.owned] (fun p s => policyOk (field p 0 1) (slice p 4 48) s)
      (fun p s => { s with nv := { s.nv with ownerPolicy := field p 0 1 == 1, ownerHash := slice p 4 48 } }) with
    resv := fun p => allZero p 1 3 }

/-- LOCK_DEVICE (R99): the record, the minimum version of the running image, and the lifecycle word. -/
def lockDevice (slot : Nat) (s : State) : State :=
  let v := runningVersion s
  let s := lifecycleRecord .locked slot false v s
  { s with nv := { s.nv with minVersion := v, lifecycle := .locked } }

/-- 0x0205 LOCK_DEVICE. -/
def opLockDevice : OpDef :=
  { owners 0 [.provision, .maintenance] [.owned] (fun _ _ => true) (fun _ s => s) with
    run := fun c s => (.done [], lockDevice c.slotCode s) }

/-- 0x0206 SET_MIN_VERSION (R107). -/
def opSetMinVersion : OpDef :=
  owners 4 [.provision, .maintenance] [.locked]
    (fun p s => decide (s.nv.minVersion ≤ field p 0 4) && decide (field p 0 4 ≤ runningVersion s))
    (fun p s => { s with nv := { s.nv with minVersion := field p 0 4 } })

/-- RETIRE_DEVICE (R99, R101): the record, the marker, and the sequence. -/
def retireDevice (slot : Nat) (s : State) : State :=
  let s := lifecycleRecord .retired slot (keyOf s 0).isSome s.nv.minVersion s
  retireSequence { s with nv := { s.nv with retiring := true } }

/-- 0x0207 RETIRE_DEVICE. -/
def opRetireDevice : OpDef :=
  { owners 0 [.safe, .provision] [.blank, .owned, .locked] (fun _ _ => true) (fun _ s => s) with
    sidebandOk := true, run := fun c s => (.done [], retireDevice c.slotCode s) }

/-! ### Debug -/

/-- The lifecycles of a debug level (R110); those of the opcode table for no level. -/
def levelLife (level : Nat) (s : State) : Bool :=
  match level with
  | 1 => s.nv.lifecycle == .owned || s.nv.lifecycle == .locked
  | 2 => s.nv.lifecycle == .owned
  | 3 => s.nv.lifecycle == .blank
  | _ => notRetired s

/-- The modes of a debug level (R110). -/
def levelMode (level : Nat) (s : State) : Bool :=
  match level with
  | 1 | 2 => s.sys.mode == .maintenance
  | 3 => s.sys.mode == .safe || s.sys.mode == .provision
  | _ => s.sys.mode == .safe || s.sys.mode == .provision || s.sys.mode == .maintenance

/-- The lifetime of a challenge in ms (R111). -/
def challengeMs : Nat := 30000

/-- DEBUG_CHALLENGE (R111): a fresh nonce replaces an unused one. -/
def challenge (level : Nat) (s : State) : Bytes × State :=
  let nonce := le 32 (Config.freshNonce s.free).toNat
  (nonce ++ le 8 Config.deviceId.toNat ++ le 4 challengeMs,
   { s.draw with dbg := { s.dbg with challenge := some { level := level, nonce := nonce, deadline := s.clk.now + challengeMs * msTicks } } })

/-- 0x0208 DEBUG_CHALLENGE. -/
def opDebugChallenge : OpDef :=
  { classP 1 (fun c s => let x := challenge (field c.params 0 1) s
                         (.done x.1, x.2)) with
    sidebandOk := true, modeOk := inModes [.safe, .provision, .maintenance],
    lifeOk := fun c s => notRetired s && levelLife (field c.params 0 1) s,
    check := fun c _ => bad (decide (1 ≤ field c.params 0 1) && decide (field c.params 0 1 ≤ 3)) }

/-- The key slots a level accepts (R110). -/
def levelSlot (level : Nat) (c : Cmd) : Bool :=
  match level with
  | 1 => c.auth && (c.slot == 0 || c.slot == 1)
  | 2 => c.auth && c.slot == 0
  | _ => true

/-- The conditions of DEBUG_UNLOCK, in R113's order. -/
def unlockCheck (c : Cmd) (s : State) : Option (Nat × Bytes) :=
  let p := c.params
  let lv := field p 0 1
  let fresh := match s.dbg.challenge with
    | some x => x.level == lv && x.nonce == slice p 4 32 && decide (s.clk.now < x.deadline)
    | none => false
  let ok := decide (1 ≤ lv) && decide (lv ≤ 3) && (c.len == (if lv = 3 then 140 else 44)) && fresh &&
    slice p 36 8 == le 8 Config.deviceId.toNat && decide (field p 2 2 ≤ 3600) && levelSlot lv c &&
    (lv != 3 || Config.vendorSigOk (p.take 44) (slice p 44 96))
  badOrBusy ok (s.dbg.session.isSome || s.pwr.state == .ride)

/-- DEBUG_UNLOCK (R111, R114): the nonce is consumed and the session opens, with its record and event. -/
def unlock (c : Cmd) (s : State) : State :=
  let lv := field c.params 0 1
  let life := if field c.params 2 2 = 0 then 600 else field c.params 2 2
  let slot := if lv = 3 then 0xFF else c.slot
  let s := negWrite 0x0005 (b1 lv ++ b1 slot ++ b1 0 ++ b1 0 ++ le 2 life) s
  raise 40 lv (b1 0 ++ b1 0)
    { s with dbg := { s.dbg with challenge := none, session := some { level := lv, slot := slot, lifetime := life, deadline := s.clk.now + life * secTicks } } }

/-- 0x0209 DEBUG_UNLOCK. -/
def opDebugUnlock : OpDef :=
  { classA 44 (fun c s => (.done [], unlock c s)) with
    lenOk := fun n => n == 44 || n == 140, sidebandOk := true, resv := fun p => allZero p 1 1,
    lifeOk := fun c s => levelLife (field c.params 0 1) s, modeOk := fun c s => levelMode (field c.params 0 1) s,
    check := unlockCheck }

/-- 0x020A DEBUG_CLOSE: the level closed. -/
def opDebugClose : OpDef := (classP 0 (fun _ s => (.done (b1 (debugLevel s)), dbgClose 0 s))).safe

end Sys2Proof.Machine
end

