-- ==== Sys2Proof/Machine/ModuleRows.lean ====
section
/-! DEFINITION. Module management: the serial GPIO chain (R216) and what firmware does with each module (R217). -/

namespace Sys2Proof.Machine

/-- Change the module of a port. -/
def modModule (p : Nat) (f : Module → Module) (s : State) : State := modPort p (fun r => { r with module := f r.module }) s

/-- Is ResetL driven low, and LPMode high (R217)? -/
def Module.drivesReset (m : Module) : Bool := m.resetPolicy == 1 || (m.resetPolicy == 0 && m.resetLow)
def Module.drivesLp (m : Module) : Bool := m.lpPolicy == 1 || (m.lpPolicy == 0 && m.lpMode)

/-- The output bits of a scan: ResetL in bit 2n, LPMode in bit 2n + 1 (R216). -/
def chainOut (s : State) : Nat :=
  bitsNat ((List.range 64).flatMap (fun p => [!(s.port p).module.drivesReset, (s.port p).module.drivesLp]))

/-- Presence changes (R217): an absent module is held in reset; a present one is released 2 ms later. -/
def presenceChange (p : Nat) (here : Bool) (s : State) : State :=
  let s := modModule p (fun m =>
    { m with present := here, releaseDue := here, resetLow := true, lpMode := true, noApp := false, initDone := false,
             apps := [], passive := false, app := none, cmis := 0, flags := 0, intL := false }) s
  moduleEvent p (if here then s else moduleGone p s)

/-- One module in a scan (R216): a level that differs from the one in force for four equal scans takes effect. -/
def scanModule (inputs : Nat) (s : State) (p : Nat) : State :=
  let here := !inputs.testBit (2 * p)
  let int := !inputs.testBit (2 * p + 1)
  let m := (s.port p).module
  let n := if here = m.present then 0 else if here = m.seen then m.scans + 1 else 1
  let s := if m.seen == here && m.scans == n && m.intL == (int && m.present) then s
    else modModule p (fun m => { m with seen := here, scans := n, intL := int && m.present }) s
  if 4 ≤ n then presenceChange p here (modModule p (fun m => { m with scans := 0 }) s) else s

/-- SGPIO_SCAN: the inputs are latched and the outputs updated. -/
def execSgpioScan (inputs : BitVec 128) (s : State) : Host.Outcome State Fault Refusal :=
  live s (fun s =>
    let s := (List.range 64).foldl (scanModule inputs.toNat) s
    s.send (.modulePins (chainOut s)))

/-- Does firmware look after the modules? -/
def firmwareRuns (s : State) : Bool := s.sys.mode != .safe

/-- RESETL_RELEASE: 2 ms after presence, ResetL is released and CMIS initialisation starts. -/
def execResetlRelease (p : Port) (s : State) : Host.Outcome State Fault Refusal :=
  live s (fun s =>
    let m := (s.port p.val).module
    if firmwareRuns s && m.present && m.releaseDue then
      modModule p.val (fun m => { m with releaseDue := false, resetLow := false, lpMode := false }) s
    else s)

/-- A module's readiness is known (R217): the port may start, or starts over. -/
def readiness (p : Nat) (ready : Bool) (s : State) : State :=
  if ready then dlkTry p (ethTry p (modModule p (fun m => { m with ready := true }) s)) else moduleGone p s

/-- The host interface of a port's configuration (R217): that of R128 for MEDIA 0, and 400GAUI-4 or 200GAUI-4 of a Dalom port. -/
def PortCfg.hostIf (c : PortCfg) : Option HostIf :=
  if !c.configured then none
  else some (match c.speed, c.lanes with
    | 5, _ => .gaui400x4
    | 4, _ => .gaui200x4
    | 3, 1 => .gaui100x1
    | 3, _ => .caui4
    | 2, _ => .gaui50x1
    | 1, _ => .gaui25
    | _, _ => .xfi)

/-- Firmware selects an initialised module's application (R217): the one whose host interface is that of the configuration. None matching sets MODULE_NO_APP; a passive copper cable needs none, and without a configuration there is nothing to select. -/
def Module.select (m : Module) (want : Option HostIf) : Module :=
  if m.passive then { m with app := none, noApp := false }
  else match want with
    | none => { m with app := none, noApp := false }
    | some h => if m.apps.contains h then { m with app := some h, noApp := false } else { m with app := none, noApp := true }

/-- Is a module ready that reports `w` of ModuleReady and its data path (R217)? -/
def Module.works (m : Module) (w : ModuleWorks) : Bool := m.initDone && w.ready && (m.passive || (w.path && m.app.isSome))

/-- The channel-select byte that a master writes before a transaction with a port's module (R215). -/
def muxSelect (p : Nat) (s : State) : State :=
  let b := s.core.moduleBus.get (0x70, 1) (p / 8)
  s.send (.moduleMux (p / 8) b.1 b.2 (2 ^ (p % 8)))

/-- MODULE_INIT_COMPLETE: the host interfaces of the module's applications, whether it is a passive copper cable, and whether it reports ModuleReady and its data path activated. -/
def execModuleInitComplete (p : Port) (app : ModuleInit) (cmis : Byte) (s : State) : Host.Outcome State Fault Refusal :=
  live s (fun s =>
    let m := (s.port p.val).module
    if firmwareRuns s && m.present && !m.drivesReset then
      let m' := { m with initDone := true, apps := app.apps, passive := app.passive, cmis := cmis.toNat }.select (s.port p.val).cfg.hostIf
      let r := m'.works app.works
      readiness p.val r (moduleEvent p.val (modModule p.val (fun _ => { m' with ready := r }) (muxSelect p.val s)))
    else s)

/-- A new configuration of a port (R217): where it asks for another host interface, the application is selected anew, and the module is not ready until its data path is activated again. -/
def reselectApp (p : Nat) (s : State) : State :=
  let m := (s.port p).module
  if !firmwareRuns s || !m.present || !m.initDone then s
  else
    let m' := m.select (s.port p).cfg.hostIf
    if m'.app = m.app && m'.noApp == m.noApp then s
    else moduleEvent p (modModule p (fun _ => { m' with ready := m.ready && m.passive }) s)

/-- Firmware reads a module's flags, state and readiness; MODULE_EVENT where any of them has changed (R217). -/
def readFlags (p : Nat) (flags cmis : Nat) (ready : ModuleWorks) (s : State) : State :=
  let m := (s.port p).module
  if !firmwareRuns s || !m.present then s
  else
    let r := m.works ready
    let s1 := modModule p (fun m => { m with flags := flags, cmis := cmis, ready := r, intL := false }) (muxSelect p s)
    let s2 := if m.flags = flags && m.cmis == cmis && m.ready == r then s1 else moduleEvent p s1
    if m.ready = r then s2 else readiness p r s2

/-- MODULE_INTL: IntL has gone low. -/
def execModuleIntl (p : Port) (flags : BitVec 32) (cmis : Byte) (ready : ModuleWorks) (s : State) : Host.Outcome State Fault Refusal :=
  live s (readFlags p.val flags.toNat cmis.toNat ready)

/-- MODULE_FLAG_POLL: every 250 ms. -/
def execModuleFlagPoll (p : Port) (flags : BitVec 32) (cmis : Byte) (ready : ModuleWorks) (s : State) : Host.Outcome State Fault Refusal :=
  live s (readFlags p.val flags.toNat cmis.toNat ready)

end Sys2Proof.Machine
end

