-- ==== Sys2Proof/Machine/GcpPort.lean ====
section
/-! DEFINITION. The opcodes of group 0x03 (R509): ports, lanes, Dalom links, classes and flow control, modules. -/

namespace Sys2Proof.Machine

/-- Parameter byte `off` names a port. -/
def portAt (p : Bytes) (off : Nat) : Bool := decide (field p off 1 ≤ 63)

/-- The port that parameter byte 0 names. -/
def prm0 (c : Cmd) : Nat := field c.params 0 1

/-! ### PORT_CONFIG, PORT_SET_STATE, PORT_STATUS, LANE_MAP -/

/-- The configuration that PORT_CONFIG carries (R146). -/
def cfgOf (p : Bytes) : PortCfg :=
  { configured := true, dalom := field p 1 1 == 1, speed := field p 2 1, lanes := field p 3 1, fec := field p 4 1,
    media := field p 5 1, an := field p 6 1 == 1, mgmt := (byteAt p 7).getLsbD 0,
    maxFrame := if field p 8 2 = 0 then 9216 else field p 8 2 }

/-- Are PORT_CONFIG's parameters acceptable (R128, R129, R146, R152)? -/
def cfgOk (p : Bytes) : Bool :=
  portAt p 0 && decide (field p 1 1 ≤ 1) && decide (field p 2 1 ≤ 5) && decide (field p 5 1 ≤ 1) && decide (field p 6 1 ≤ 1) &&
  (field p 8 2 == 0 || (decide (1518 ≤ field p 8 2) && decide (field p 8 2 ≤ 9216))) && (cfgOf p).combo

/-- Is the port that byte 0 names not DISABLED (R145)? -/
def notDisabled (c : Cmd) (s : State) : Bool := (s.port (prm0 c)).st != .disabled

/-- 0x0300 PORT_CONFIG. -/
def opPortConfig : OpDef :=
  { classA 12 (fun c s =>
      (.done [], reelect (portSettle (prm0 c) (reselectApp (prm0 c) (modPort (prm0 c) (fun r => { r with cfg := cfgOf c.params }) s))))) with
    resv := fun p => field p 7 1 < 2 && allZero p 10 2, check := fun c s => badOrBusy (cfgOk c.params) (notDisabled c s) }

/-- 0x0301 PORT_SET_STATE (R139, R177). -/
def opPortSetState : OpDef :=
  sets 2 (fun p s => portAt p 0 && decide (field p 1 1 ≤ 1) && (field p 1 1 == 0 || (s.port (field p 0 1)).cfg.configured))
    (fun p s => if field p 1 1 = 1 then portEnable (field p 0 1) s else portDisable (field p 0 1) s)

/-- The flags of the four physical lanes of a port. -/
def laneBits (s : State) (p : Nat) (t : LaneRec → Bool) : List Bool := fourLanes.map (fun l => t (s.lane (gLane p l)))

/-- PORT_STATUS (R149, R193). -/
def portStatus (p : Nat) (s : State) : Bytes :=
  let r := s.port p
  b1 r.st.code ++ b1 r.cause ++ b1 r.downLane ++ b1 (bitsNat (laneBits s p (·.los) ++ laneBits s p (·.lol))) ++
  le 2 (min 65535 r.attempts) ++ le 2 (backoffMs (if r.st = .backoff then r.attempts else r.attempts + 1)) ++
  le 4 r.upCount ++ le 4 r.downCount

/-- 0x0302 PORT_STATUS. -/
def opPortStatus : OpDef := reads 1 (fun p _ => portAt p 0) (fun p s => portStatus (field p 0 1) s)

/-- Four bytes of a lane map. -/
def mapAt (p : Bytes) (off : Nat) : List Nat := fourLanes.map (fun i => field p (off + i) 1)

/-- Is a lane map a permutation of the four lanes (R138)? -/
def mapOk (m : List Nat) : Bool := fourLanes.all (fun l => m.contains l)

/-- 0x0303 LANE_MAP (R147). -/
def opLaneMap : OpDef :=
  { classA 12 (fun c s =>
      (.done [], portSettle (prm0 c) (modPort (prm0 c) (fun r => { r with
        txMap := mapAt c.params 2, rxMap := mapAt c.params 6, polarity := byteAt c.params 10 }) s))) with
    resv := fun p => allZero p 1 1 && allZero p 11 1,
    check := fun c s => badOrBusy (portAt c.params 0 && mapOk (mapAt c.params 2) && mapOk (mapAt c.params 6)) (notDisabled c s) }

/-! ### Lanes -/

/-- Is the port of a global lane in TRAIN (R145)? -/
def laneTraining (s : State) (l : Nat) : Bool := (s.port (l / 4)).st == .train || (s.port (l / 4)).st == .dlkTrain

/-- The five taps that LANE_TX_EQ carries (R148). -/
def tapsAt (p : Bytes) : List Int := (List.range 5).map (fun i => fieldInt p (3 + i) 1)

/-- 0x0304 LANE_TX_EQ (R132, R148): the host's taps and the mode. -/
def opLaneTxEq : OpDef :=
  { classA 8 (fun c s =>
      let trained := field c.params 2 1 == 1
      (.done [], modLane (field c.params 0 2) (fun r => { r with
        hostTaps := tapsAt c.params, txSet := true, txTrained := trained, trainedTaps := r.trainedTaps && trained }) s)) with
    check := fun c s =>
      let l := field c.params 0 2
      badOrBusy (decide (l ≤ 255) && decide (field c.params 2 1 ≤ 1) && (s.port (l / 4)).txLanes.contains (l % 4) && tapsOk (tapsAt c.params))
        (laneTraining s l) }

/-- The DFE taps that LANE_RX_EQ carries. -/
def dfeAt (p : Bytes) : List Int := (List.range 12).map (fun i => fieldInt p (5 + i) 1)

/-- Are LANE_RX_EQ's values in range (R148)? -/
def rxEqOk (p : Bytes) : Bool :=
  decide (field p 3 1 ≤ 31) && (field p 4 1 == 0 || (decide (3 ≤ field p 4 1) && decide (field p 4 1 ≤ 25))) &&
  (dfeAt p).tail.all (fun t => decide (-64 ≤ t) && decide (t ≤ 64))

/-- 0x0305 LANE_RX_EQ (R133, R148). -/
def opLaneRxEq : OpDef :=
  { classA 20 (fun c s =>
      let p := c.params
      let m := byteAt p 2
      (.done [], modLane (field p 0 2) (fun r => { r with
        ctleFrozen := m.getLsbD 0, dfeFrozen := m.getLsbD 1, ctle := field p 3 1,
        losThresh := if field p 4 1 = 0 then r.losThresh else field p 4 1,
        dfe := if m.getLsbD 1 then dfeAt p else r.dfe }) s)) with
    resv := fun p => field p 2 1 < 4 && allZero p 17 3,
    check := fun c s =>
      let l := field c.params 0 2
      badOrBusy (decide (l ≤ 255) && (s.port (l / 4)).rxLanes.contains (l % 4) && rxEqOk c.params) (laneTraining s l) }

/-- LANE_STATUS (R150). -/
def laneStatus (l : Nat) (s : State) : Bytes :=
  let r := s.lane l
  b1 (bitsNat [r.los, r.lol, r.converged, trainedInUse s l]) ++ b1 r.ctle ++ (tapsInUse s l).flatMap (leInt 1) ++ b1 0 ++
  r.dfe.flatMap (leInt 1) ++ le 4 r.losCount ++ le 4 r.lolCount ++ le 8 r.fecCorrected ++ le 4 r.txLatency ++
  le 4 r.rxLatency ++ leInt 4 r.freqOffset

/-- 0x0306 LANE_STATUS. -/
def opLaneStatus : OpDef := reads 2 (fun p _ => decide (field p 0 2 ≤ 255)) (fun p s => laneStatus (field p 0 2) s)

/-! ### Lane tests (R151, R510, R511) -/

/-- Are LANE_TEST's parameters acceptable (R510)? -/
def testOk (p : Bytes) (s : State) : Bool :=
  let loop := field p 1 1
  let pat := field p 2 1
  let gen := (byteAt p 3).getLsbD 0
  let chk := (byteAt p 3).getLsbD 1
  let r := s.port (field p 0 1)
  portAt p 0 && decide (loop ≤ 2) && decide (pat ≤ 8) && decide (field p 4 4 ≤ 3600000) &&
  !((pat == 7 || pat == 8) && !(r.cfg.configured && r.cfg.rate.pam4)) && !(gen && loop == 2) && !(pat != 0 && !gen && !chk)

/-- Start a lane test: the port is held in DISABLED, the down rule applied on entry (R151). -/
def testStart (p : Bytes) (s : State) : State :=
  let port := field p 0 1
  let s := if (s.port port).st = .disabled then s else portStop port 5 s
  modPort port (fun r => { r with test :=
    { state := 1, loopback := field p 1 1, pattern := field p 2 1, flags := field p 3 1, duration := field p 4 4,
      started := s.clk.now, ended := 0, nonce := s.free } }) s.draw

/-- LANE_TEST: a test starts, replaces the one running, or, with no loopback and no pattern, ends. -/
def laneTest (p : Bytes) (s : State) : State :=
  if field p 1 1 = 0 ∧ field p 2 1 = 0 then
    (if (s.port (field p 0 1)).test.state = 1 then laneTestEnd (field p 0 1) s else s)
  else testStart p s

/-- 0x0307 LANE_TEST. -/
def opLaneTest : OpDef :=
  { sets 8 testOk laneTest with resv := fun p => field p 3 1 < 4, modeOk := fun _ s => s.sys.mode == .maintenance && s.sys.paused }

/-- LANE_TEST_RESULT (R511): what the checker shows is free. -/
def testResult (p : Nat) (s : State) : Bytes :=
  let t := (s.port p).test
  let ticks := (if t.state = 1 then s.clk.now else t.ended) - t.started
  let on (l : Nat) : Bool := t.state != 0 && t.flags.testBit 1 && (s.port p).rxLanes.contains l
  b1 p ++ b1 t.state ++ b1 t.pattern ++ b1 (bitsNat (fourLanes.map (fun l => on l && Config.testLocked t.nonce ticks l))) ++
  le 4 (ticks / msTicks) ++
  fourLanes.flatMap (fun l => if on l then
      le 8 (Config.testBits t.nonce ticks l).toNat ++ le 8 (Config.testErrors t.nonce ticks l).toNat else zeros 16)

/-- 0x0308 LANE_TEST_RESULT. -/
def opLaneTestResult : OpDef :=
  { reads 1 (fun p _ => portAt p 0) (fun p s => testResult (field p 0 1) s) with modeOk := inModes [.maintenance] }

/-! ### Dalom links (R189 to R192) -/

/-- Is a port a Dalom port? -/
def isDalom (p : Bytes) (s : State) : Bool := portAt p 0 && (s.port (field p 0 1)).cfg.dalom

/-- 0x0309 DLK_CONFIG. -/
def opDlkConfig : OpDef :=
  { classA 4 (fun c s =>
      (.done [], reelect (modDlk (prm0 c) (fun d => { d with
        minLanes := if field c.params 1 1 = 0 then 1 else field c.params 1 1, role := field c.params 2 1 }) s))) with
    resv := fun p => allZero p 3 1,
    check := fun c s => badOrBusy (isDalom c.params s && decide (field c.params 1 1 ≤ 4) && decide (field c.params 2 1 ≤ 3)) (notDisabled c s) }

/-- DLK_DELAY (R191): the values apply from the port's next mark; in EXCHANGE and ACTIVE the port sends CAP kind 2. -/
def dlkDelay (p : Bytes) (s : State) : State :=
  let port := field p 0 1
  let s := modDlk port (fun d => { d with pend := some (fieldInt p 4 4, field p 8 4, field p 12 4) }) s
  if stripes (s.port port) then queueCap port 2 0 [] (refreshOwn port s) else s

/-- 0x030A DLK_DELAY. -/
def opDlkDelay : OpDef :=
  { sets 16 (fun p s => isDalom p s && decide (-10000000 ≤ fieldInt p 4 4) && decide (fieldInt p 4 4 ≤ 10000000)) dlkDelay with
    resv := fun p => allZero p 1 3 }

/-- DLK_STATUS (R192). -/
def dlkStatus (p : Nat) (s : State) : Bytes :=
  let d := s.dlk p
  let o := d.partner
  b1 p ++ b1 d.rxGood ++ b1 d.txActive ++ b1 d.timeLanes ++ b1 ((o.map (·.role)).getD 0) ++
  b1 (bitsNat [(o.map (·.calStamp)).getD 0 == 0, calStamp s p == 0, d.roleClash, d.delayValid, d.laneOrder]) ++
  le 2 ((o.map (·.maxFrame)).getD 0) ++ be 8 ((o.map (fun (r : CapRec) => r.clockId.toNat)).getD 0) ++ le 8 d.rtt ++ le 8 d.oneWay ++
  leInt 8 d.offset ++ le 4 d.tilesLost ++ le 4 d.stuffCount ++ le 4 d.segAborts ++ le 4 d.creditRecovered ++
  le 2 d.restripes ++ le 2 d.laneRetries ++ le 4 d.marksMissed

/-- 0x030B DLK_STATUS: of a port whose MODE is Dalom. -/
def opDlkStatus : OpDef := reads 1 (fun p _ => portAt p 0) (fun p s => dlkStatus (field p 0 1) s)

/-! ### Classes and flow control (R196 to R201, R210 to R214) -/

/-- `n` parameter bytes as numbers. -/
def bytesAt (p : Bytes) (off n : Nat) : List Nat := (List.range n).map (fun i => field p (off + i) 1)

/-- The maps that CLASS_MAP carries. -/
def classMapOf (p : Bytes) : ClassMap :=
  { trust := field p 1 1, defaultTc := field p 2 1, pcpToTc := bytesAt p 4 8, tcToPcp := bytesAt p 12 8,
    dscpToTc := bytesAt p 20 64 }

/-- 0x030C CLASS_MAP (R196). -/
def opClassMap : OpDef :=
  { sets 84 (fun p s => portAt p 0 && !(s.port (field p 0 1)).cfg.dalom && decide (field p 1 1 ≤ 2) && decide (field p 2 1 ≤ 7) &&
        (bytesAt p 4 80).all (fun v => decide (v ≤ 7)))
      (fun p s => { s with maps := s.maps.set (field p 0 1) (classMapOf p) }) with
    resv := fun p => allZero p 3 1 }

/-- The classes of a mask. -/
def maskClasses (m : Nat) : List Nat := (List.range 8).filter (fun c => m.testBit c)

/-- XON_DELTA of R210. -/
def xonDeltaOf (p : Bytes) : Nat := if field p 12 4 = 0 then 18432 else field p 12 4

/-- Are FLOW_CONTROL's parameters acceptable (R197, R210)? -/
def flowOk (p : Bytes) (s : State) : Bool :=
  let cfg := (s.port (field p 0 1)).cfg
  let mode := field p 1 1
  let cls := maskClasses (field p 2 1)
  let prio := bytesAt p 4 8
  portAt p 0 && cfg.configured && decide (mode ≤ 2) && decide (field p 2 1 < 128) && decide (cls.length ≤ 3) &&
  (if cfg.dalom then mode == 0 else cls.isEmpty || mode != 0) && prio.all (fun v => decide (v ≤ 7)) &&
  (cls.map (fun c => prio.getD c c)).Nodup && decide (2048 ≤ xonDeltaOf p) && decide (xonDeltaOf p ≤ 1048576)

/-- The classes a FLOW_CONTROL adds and removes. -/
def flowAdded (p : Bytes) (s : State) : List Nat :=
  (maskClasses (field p 2 1)).filter (fun c => !s.lossless (field p 0 1) c)
def flowRemoved (p : Bytes) (s : State) : List Nat :=
  (maskClasses (s.flow (field p 0 1)).lossless).filter (fun c => !(field p 2 1).testBit c)

/-- Plan the added classes in ascending order (R200): the first that cannot be reserved, given what the plan holds already in the near and the deep tier. -/
def flowRefused (s : State) (p : Nat) : List Nat → Nat → Nat → Option Nat
  | [], _, _ => none
  | c :: cs, near, deep =>
    match delayInUse s p with
    | none => some c
    | some d =>
      let n := headroomBytes (speedBytes (s.port p).cfg.speed) d
      if headroomDeep (s.port p).cfg.dalom n then
        (if tierReserved s true + deep + n ≤ budget s true then flowRefused s p cs near (deep + n) else some c)
      else if tierReserved s false + near + n ≤ budget s false then flowRefused s p cs (near + n) deep else some c

/-- The class a FLOW_CONTROL is refused for. -/
def flowShort (p : Bytes) (s : State) : Option Nat := flowRefused s (field p 0 1) (flowAdded p s) 0 0

/-- The conditions of FLOW_CONTROL: BAD_PARAM, or LIMIT with the refused class (R200). -/
def flowCheck (c : Cmd) (s : State) : Option (Nat × Bytes) :=
  if !flowOk c.params s then some (stBadParam, [])
  else (flowShort c.params s).map (fun k => (stLimit, b1 k ++ zeros 3))

/-- The one trace of the refusal: HEADROOM_SHORT and its event (R19, R81, R200). -/
def flowTrace (c : Cmd) (s : State) : State :=
  if !flowOk c.params s then s
  else match flowShort c.params s with
  | some k => raise 72 (prm0 c) (b1 k) (modFc (prm0 c) k (fun x => { x with short := true }) s)
  | none => s

/-- An added class takes its reservation (R17, R18, R200); what an earlier removal has not released yet stays held beside it. -/
def classAdd (p : Nat) (s : State) (c : Nat) : State :=
  let d := (delayInUse s p).getD 0
  let n := headroomBytes (speedBytes (s.port p).cfg.speed) d
  modFc p c (fun k => k.renew n (headroomDeep (s.port p).cfg.dalom n) d) s

/-- A removed class is lossy at once: XON is sent for it, and its reservation goes when its headroom is empty (R201). -/
def classRemove (p : Nat) (s : State) (c : Nat) : State :=
  let s := if (s.fc p c).xoff && !(s.port p).cfg.dalom then endXoff p c s else s
  releaseCheck p c s

/-- FLOW_CONTROL (R200): removed classes, added classes, then the other fields. -/
def flowControl (p : Bytes) (s : State) : State :=
  let port := field p 0 1
  let mask := field p 2 1
  let added := flowAdded p s
  let removed := flowRemoved p s
  let s := modFlow port (fun f => { f with lossless := mask }) s
  let s := added.foldl (classAdd port) (removed.foldl (classRemove port) s)
  let s := modFlow port (fun f => { f with mode := field p 1 1, prio := bytesAt p 4 8, xonDelta := xonDeltaOf p }) s
  let s := if s.pausedMode then pauseAll s else xonAll s
  if (s.port port).cfg.dalom && stripes (s.port port) && !(added.isEmpty && removed.isEmpty) then
    queueCap port 0 0 [] (refreshOwn port s) else s

/-- 0x030D FLOW_CONTROL. -/
def opFlowControl : OpDef :=
  { classA 16 (fun c s => (.done ([0xFF] ++ zeros 3), flowControl c.params s)) with
    resv := fun p => allZero p 3 1, check := flowCheck, trace := flowTrace }

/-- PORT_DELAY (R211): the host's delay; headroom is judged again under R20. -/
def portDelay (p : Bytes) (s : State) : State :=
  headroomRecompute (field p 0 1)
    (modFlow (field p 0 1) (fun f => { f with hostDelay := if field p 4 4 = 0 then none else some (field p 4 4) }) s)

/-- 0x030E PORT_DELAY. -/
def opPortDelay : OpDef :=
  { classA 8 (fun c s => (.done [], portDelay c.params s)) with
    resv := fun p => allZero p 1 3,
    check := fun c s => badOrBusy (portAt c.params 0 && decide (field c.params 4 4 ≤ 2000000))
      (field c.params 4 4 == 0 && (s.flow (prm0 c)).lossless != 0 && (s.flow (prm0 c)).measured.isNone) }

/-- The conditions of LOSSLESS_BUDGET (R199, R212). -/
def budgetCheck (c : Cmd) (s : State) : Option (Nat × Bytes) :=
  let near := field c.params 0 4
  let deep := field c.params 8 4
  if 49152 < near ∨ tierTotal s true < (deep + 512) * 1048576 then some (stBadParam, [])
  else if near * 1024 < tierReserved s false ∨ deep * 1048576 < tierReserved s true then some (stLimit, [])
  else none

/-- 0x030F LOSSLESS_BUDGET. -/
def opLosslessBudget : OpDef :=
  { classA 16 (fun c s => (.done [], xonAll (modCore (fun k => { k with
      nearBudget := field c.params 0 4 * 1024, deepBudget := field c.params 8 4 * 1048576 }) s))) with
    modeOk := inModes [.provision], resv := fun p => allZero p 4 4 && allZero p 12 4, check := budgetCheck }

/-- 0x0310 ECN_CONFIG (R213). -/
def opEcnConfig : OpDef :=
  { sets 20 (fun p _ => portAt p 0)
      (fun p s => (List.range 8).foldl (fun s c => modFc (field p 0 1) c (fun k => { k with ecnK := field p (4 + 2 * c) 2 }) s) s) with
    resv := fun p => allZero p 1 3 }

/-- The delay that the current reservations used, else the one in use (R214). -/
def delayUsedNow (p : Nat) (s : State) : Nat :=
  match (List.range 8).find? (s.lossless p) with
  | some c => (s.fc p c).delayUsed
  | none => (delayInUse s p).getD 0

/-- A class block of LOSSLESS_STATUS. -/
def losslessClass (p : Nat) (s : State) (c : Nat) : Bytes :=
  let k := s.fc p c
  le 4 k.reserved ++ le 4 (headroomUse s p c) ++ le 4 k.xoffCount ++
  b1 (bitsNat [s.lossless p c, k.reserved != 0 && k.deep, k.short, k.xoff, k.paused]) ++ zeros 3

/-- LOSSLESS_STATUS (R214). -/
def losslessStatus (p : Nat) (s : State) : Bytes :=
  let f := s.flow p
  b1 p ++ b1 f.mode ++ b1 f.lossless ++
  b1 (bitsNat [f.measured.isSome, f.hostDelay.isSome, (List.range 8).any (fun c => (s.fc p c).short)]) ++ zeros 4 ++
  le 8 (delayUsedNow p s) ++ (List.range 8).flatMap (losslessClass p s)

/-- 0x0311 LOSSLESS_STATUS. -/
def opLosslessStatus : OpDef := reads 1 (fun p _ => portAt p 0) (fun p s => losslessStatus (field p 0 1) s)

/-! ### Modules (R215, R217, R218) -/

/-- Is the span of a module transfer inside one half of the memory (R218)? -/
def spanOk (p : Bytes) : Bool :=
  let off := field p 3 1
  let n := field p 4 2
  portAt p 0 && decide (1 ≤ n) && decide (n ≤ 128) && decide (off + n ≤ (if off < 128 then 128 else 256))

/-- Why a module transfer cannot be made (R218): no module, no acknowledge, bus low. -/
def moduleBusy (p : Nat) (s : State) : Option (Nat × Bytes) :=
  if !(s.port p).module.present then some (stBusy, b1 1)
  else match (Config.moduleBus s.free).val with
  | 0 => none
  | 1 => some (stBusy, b1 2)
  | _ => some (stBusy, b1 3)

/-- The conditions of a module transfer. -/
def moduleCheck (ok : Bytes → Bool) (c : Cmd) (s : State) : Option (Nat × Bytes) :=
  if !ok c.params then some (stBadParam, []) else moduleBusy (prm0 c) s

/-- 0x0312 MODULE_READ: what the module returns is free. -/
def opModuleRead : OpDef :=
  { classP 8 (fun c s =>
      (.done ((List.range (field c.params 4 2)).map (fun i => Config.moduleByte s.free i)),
       ((muxSelect (prm0 c) s).send (.moduleI2c (prm0 c) false (slice c.params 1 5))).draw)) with
    resv := fun p => allZero p 6 2, check := moduleCheck spanOk, trace := fun _ s => s.draw }

/-- Does a write keep clear of the page select bytes, and carry LENGTH bytes? -/
def writeOk (p : Bytes) : Bool :=
  let off := field p 3 1
  let n := field p 4 2
  spanOk p && p.length == 8 + n && !(decide (off ≤ 127) && decide (126 < off + n))

/-- 0x0313 MODULE_WRITE. -/
def opModuleWrite : OpDef :=
  { classA 9 (fun c s => (.done [], ((muxSelect (prm0 c) s).send (.moduleI2c (prm0 c) true (slice c.params 1 5 ++ c.params.drop 8))).draw)) with
    lenOk := fun n => decide (9 ≤ n) && decide (n ≤ 136), resv := fun p => allZero p 6 2,
    check := moduleCheck writeOk, trace := fun _ s => s.draw }

/-- 0x0314 MODULE_CONTROL: the policies; the module's state and CMIS state. -/
def opModuleControl : OpDef :=
  { classA 4 (fun c s =>
      let s := modModule (prm0 c) (fun m => { m with resetPolicy := field c.params 1 1, lpPolicy := field c.params 2 1 }) s
      let m := (s.port (prm0 c)).module
      (.done (b1 m.code ++ b1 m.cmis), s)) with
    resv := fun p => allZero p 3 1,
    check := fun c _ => bad (portAt c.params 0 && decide (field c.params 1 1 ≤ 2) && decide (field c.params 2 1 ≤ 2)) }

/-- 0x0315 MODULE_BUS: address and speed of the eight masters. -/
def opModuleBus : OpDef :=
  { sets 16 (fun p _ => (List.range 8).all (fun m =>
        decide (0x70 ≤ field p (2 * m) 1) && decide (field p (2 * m) 1 ≤ 0x77) && decide (field p (2 * m + 1) 1 ≤ 1)))
      (fun p s => modCore (fun k => { k with moduleBus := (List.range 8).map (fun m => (m, field p (2 * m) 1, field p (2 * m + 1) 1)) }) s) with
    modeOk := inModes [.provision] }

end Sys2Proof.Machine
end

