-- ==== Sys2Proof/Machine/GcpTime.lean ====
section
/-! DEFINITION. The opcodes of group 0x04 (R512): oscillator, references, DPLLs, ESMC, synthesizers, outputs, time distribution and traceability. -/

namespace Sys2Proof.Machine

/-- A field where 0 means a default. -/
def orElse (v dflt : Nat) : Nat := if v = 0 then dflt else v

/-- Is a value within a range? -/
def within (lo hi v : Nat) : Bool := decide (lo ≤ v) && decide (v ≤ hi)

/-- Is a signed value within a range either side of zero? -/
def withinInt (m : Nat) (v : Int) : Bool := decide (v.natAbs ≤ m)

/-! ### XO_CONFIG, REF_CONFIG, DPLL_CONFIG (R365 to R367) -/

/-- XO_CONFIG (R365): a new hold or limit clears WARM and restarts its evaluation, and so does XO_RDY where the new handling reads it as deasserted. -/
def xoConfig (p : Bytes) (s : State) : State :=
  let hold := orElse (field p 0 4) 600
  let wander := orElse (field p 4 4) 10
  let was := s.tim.xo.ready
  let fresh := hold != s.tim.xo.holdS || wander != s.tim.xo.wander
  let s := modXo (fun x => { x with holdS := hold, wander := wander, activeLow := (byteAt p 8).getLsbD 0, noPin := (byteAt p 8).getLsbD 1 }) s
  if fresh || s.tim.xo.ready != was then setWarm false (modXo (fun x => { x with rdyAt := s.clk.now }) s) else s

/-- 0x0400 XO_CONFIG. -/
def opXoConfig : OpDef :=
  { sets 12 (fun p _ => within 1 7200 (orElse (field p 0 4) 600) && within 1 1000 (orElse (field p 4 4) 10)) xoConfig with
    resv := fun p => field p 8 1 < 4 && allZero p 9 3 }

/-- Are REF_CONFIG's parameters acceptable (R366)? -/
def refOk (p : Bytes) (s : State) : Bool :=
  let r := field p 0 1
  let en := (byteAt p 1).getLsbD 0
  let esmc := (byteAt p 1).getLsbD 1
  let edge := (byteAt p 1).getLsbD 2
  let lane := field p 2 2
  let freq := field p 4 4
  let acc := orElse (field p 12 4) 4000
  let rej := orElse (field p 16 4) 9200
  (decide (r ≤ 13) || r == 15) && within 100 50000 acc && within 100 50000 rej && decide (acc < rej) &&
  decide (field p 8 1 ≤ 8) && decide (field p 9 1 ≤ 15) && within 1 3600 (orElse (field p 10 2) 10) &&
  (if r ≤ 3 then within 1000 800000000 freq && !esmc && lane == 0
   else if r ≤ 5 then freq == 1 && !esmc && lane == 0
   else if r ≤ 13 then
     freq == 0 && !edge && decide (lane ≤ 255) && (!en || (s.port (lane / 4)).rxLanes.contains (lane % 4))
   else freq == 0 && lane == 0 && en && !edge && !esmc)

/-- REF_CONFIG (R346, R366): disabled; or its monitors restarted where it was disabled or its signal changed; other values act from the next monitor update. -/
def refConfig (p : Bytes) (s : State) : State :=
  let r := field p 0 1
  let f := s.ref r
  let en := (byteAt p 1).getLsbD 0
  let edge := (byteAt p 1).getLsbD 2
  let lane := field p 2 2
  let freq := field p 4 4
  let again := f.st == .disabled || freq != f.freq || lane != f.lane || edge != f.edge
  let s := modRef r (fun f => { f with
    fromEsmc := (byteAt p 1).getLsbD 1, edge := edge, lane := lane, freq := freq, hostRank := field p 8 1, prio := field p 9 1,
    qualS := orElse (field p 10 2) 10, accept := orElse (field p 12 4) 4000, reject := orElse (field p 16 4) 9200 }) s
  if en && !again then s
  else
    let s := modRef r (fun f => { f with
      st := if en then .unqualified else .disabled, remain := 0, activity := false, measured := false, offset := 0, slope := 0, drift := false }) s
    loseRef r s.clk.now s

/-- 0x0401 REF_CONFIG. -/
def opRefConfig : OpDef := { sets 32 refOk refConfig with resv := fun p => field p 1 1 < 8 && allZero p 20 12 }

/-- DPLL_CONFIG's values, 0 replaced by the defaults of R354. -/
def dpllOf (p : Bytes) (q : Dpll) : Dpll :=
  let k := Dpll.reset (field p 0 1)
  { q with
    force := field p 1 1 == 1, cands := field p 2 2, acqBw := orElse (field p 4 2) k.acqBw, trackBw := orElse (field p 8 4) k.trackBw,
    thresh := orElse (field p 12 4) k.thresh, dwell := orElse (field p 16 2) 1000, hoAvg := orElse (field p 18 2) 1000,
    hoGuard := orElse (field p 20 2) 60, agree := orElse (field p 22 2) 50, stepLimit := orElse (field p 24 4) 10000,
    slope := orElse (field p 28 4) 1000, ownRank := orElse (field p 32 1) 1 }

/-- Are DPLL_CONFIG's parameters acceptable (R367)? PARENT is a candidate of a BOUNDARY clock only (R403, log 130). -/
def dpllOk (p : Bytes) (s : State) : Bool :=
  let d := field p 0 1
  let q := dpllOf p (Dpll.reset d)
  decide (d ≤ 3) && decide (field p 1 1 ≤ 1) && within 10 200 q.acqBw && within 100 10000000 q.trackBw &&
  decide (q.trackBw ≤ q.acqBw * 1000000) && within 100 1000000 q.thresh && within 100 60000 q.dwell && within 1 10000 q.hoAvg &&
  within 1 3600 q.hoGuard && within 1 10000 q.agree && within 1 1000000000 q.stepLimit && within 1 1000000 q.slope && within 1 8 q.ownRank &&
  (d != 0 || isBoundary s || !(field p 2 2).testBit 15) && (d == 0 || (decide (field p 2 2 < 2 ^ 15) && field p 24 4 == 0 && field p 28 4 == 0)) && (d == 1 || field p 32 1 == 0)

/-- Bandwidths apply at once (R356, R367). -/
def bwApply (q : Dpll) : Dpll :=
  match q.st with
  | .acquire => { q with bw := q.acqBw * 1000000 }
  | .locked => { q with bw := max q.trackBw (min q.bw (q.acqBw * 1000000)) }
  | _ => q

/-- DPLL_CONFIG (R353, R355, R367, R411): limits at once; a selected reference that is no candidate any more is lost; FORCE_HOLDOVER enters HOLDOVER. -/
def dpllConfig (p : Bytes) (s : State) : State :=
  let was := (s.dpll 0).st
  let d := field p 0 1
  let s := modDpll d (fun q => bwApply (dpllOf p q)) s
  let q := s.dpll d
  let s := match q.selected with
    | some r => if q.cands.testBit r then s else dpllLoss d s.clk.now s
    | none => s
  let s := if q.force && q.st != .holdover then
      (match q.selected with
       | some r => driftRelease r (enterHoldover d true s)
       | none => enterHoldover d true s) else s
  announceLowered was (esmcChanges s)

/-- 0x0402 DPLL_CONFIG. -/
def opDpllConfig : OpDef :=
  { sets 48 dpllOk dpllConfig with resv := fun p => !(byteAt p 3).getLsbD 6 && allZero p 6 2 && allZero p 33 15 }

/-! ### ESMC_CONFIG, JUMP_RESOLVE, REF_STATUS, DPLL_STATUS (R368 to R370) -/

/-- 0x0403 ESMC_CONFIG. -/
def opEsmcConfig : OpDef :=
  { sets 4 (fun p s => portAt p 0 && decide (field p 1 1 ≤ 1) && !(s.port (field p 0 1)).cfg.dalom)
      (fun p s => modEsmc (field p 0 1) (fun e =>
        if e.enable = (field p 1 1 == 1) then e else { Esmc.reset with enable := field p 1 1 == 1 }) s) with
    resv := fun p => allZero p 2 2 }

/-- 0x0404 JUMP_RESOLVE (R362): the pending offset is slewed; a loss of the source granted first leaves none (R371). -/
def opJumpResolve : OpDef :=
  { classA 0 (fun _ s => (.done [], match (s.dpll 0).jump with
      | some o => startSlew o (modDpll 0 (fun q => { q with jump := none }) s)
      | none => s)) with
    modeOk := inModes [.coast, .maintenance, .quiesce],
    check := fun _ s => if (s.dpll 0).jump.isNone || (s.dpll 0).lossAt.isSome then some (stBusy, []) else none }

/-- The quality codes last received for a PREF. -/
def refCodes (s : State) (r : Nat) : Nat × Nat :=
  let e := s.esmc ((s.ref r).lane / 4)
  if 6 ≤ r ∧ r ≤ 13 ∧ e.got.isSome then (e.ssm, e.essm) else (0, 0)

/-- What is left of a qualification in ms. -/
def qualLeft (s : State) (r : Nat) : Nat :=
  let f := s.ref r
  if f.st = .qualifying then (f.remain - (if f.measured && !s.tim.xo.missing then s.clk.now - f.timerAt else 0)) / msTicks else 0

/-- REF_STATUS (R369). -/
def refStatus (r : Nat) (s : State) : Bytes :=
  let f := s.ref r
  let c := refCodes s r
  let esmcOut := decide (6 ≤ r ∧ r ≤ 13) && (s.esmc (f.lane / 4)).timeout
  let dplls := [0, 1, 2, 3].map s.dpll
  b1 r ++ b1 f.st.code ++
  let shown := f.measured || (s.tim.xo.missing && f.activity)
  b1 (bitsNat [f.activity, shown && decide (mag f.offset ≤ f.accept * 1000), shown && decide (mag f.offset ≤ f.reject * 1000),
    f.drift, dplls.any (fun q => q.selected == some r), esmcOut, dplls.any (fun q => q.conflict.contains r)]) ++
  b1 (refRank s r) ++ leInt 4 (clampInt 32 f.offset) ++ leInt 4 (clampInt 32 (f.slope * 3600)) ++ le 4 (qualLeft s r) ++ le 4 f.disqual ++
  b1 c.1 ++ b1 c.2 ++ zeros 2 ++ le 8 (if f.driftAt.isSome then f.driftTod else 0)

/-- 0x0405 REF_STATUS. -/
def opRefStatus : OpDef :=
  reads 1 (fun p _ => decide (field p 0 1 ≤ 13) || field p 0 1 == 15) (fun p s => refStatus (field p 0 1) s)

/-- DPLL_STATUS (R370). -/
def dpllStatus (d : Nat) (s : State) : Bytes :=
  let q := s.dpll d
  let x := s.tim.xo
  b1 d ++ b1 q.st.code ++ b1 (q.selected.getD 0xFF) ++ b1 (q.flags (bwCapped s d)) ++ le 4 (bwNow s d) ++ leInt 8 q.phase ++
  leInt 4 (clampInt 32 q.steer) ++ leInt 4 (clampInt 32 q.hoFreq) ++ le 4 q.hoWindow ++ le 4 (holdSeconds s d) ++ leInt 8 (q.jump.getD 0) ++
  le 4 q.switches ++ b1 (bitsNat [x.ready, x.warm, x.lost]) ++ b1 x.freq ++ zeros 2

/-- 0x0406 DPLL_STATUS. -/
def opDpllStatus : OpDef := reads 1 (fun p _ => decide (field p 0 1 ≤ 3)) (fun p s => dpllStatus (field p 0 1) s)

/-! ### Synthesizers (R394, R395) -/

/-- The 16 bytes of a band table's entry. -/
def bandAt (p : Bytes) (k : Nat) : Bytes := slice p (8 + 16 * k) 16

/-- The table that SYN_BAND_TABLE carries; none restores the firmware's. -/
def bandsOf (p : Bytes) : Option (List Band) :=
  if field p 1 1 = 0 then none else some ((List.range (field p 1 1)).map (fun k => bandOf (bandAt p k)))

/-- The first entry of a new table that R380 refuses. -/
def bandBad (i : Nat) (l : List Band) : Option Nat :=
  (List.range l.length).find? (fun k => match l[k]? with
    | some b => !(decide ((bandRange i).1 ≤ b.minK) && decide (b.maxK ≤ (bandRange i).2) && decide (b.minK < b.maxK))
    | none => false)

/-- The conditions of SYN_BAND_TABLE (R380). -/
def bandCheck (c : Cmd) (s : State) : Option (Nat × Bytes) :=
  let p := c.params
  let i := field p 0 1
  if 6 < i ∨ 64 < field p 1 1 ∨ p.length ≠ 8 + 16 * field p 1 1 then some (stBadParam, [])
  else
    let l := (bandsOf p).getD (defaultBands i)
    match if (bandsOf p).isSome then bandBad i l else none with
    | some k => some (stBadParam, b1 k)
    | none => if (pickBand l i (s.syn i).freq s.pwr.tj).isNone then some (stBadParam, b1 0xFF) else none

/-- 0x0407 SYN_BAND_TABLE. -/
def opSynBandTable : OpDef :=
  { classA 8 (fun c s => (.done [], modSyn (field c.params 0 1) (fun y => { y with table := bandsOf c.params }) s)) with
    lenOk := within 8 1032,
    resv := fun p => allZero p 2 6 && (List.range (field p 1 1)).all (fun k => field (bandAt p k) 1 1 < 2),
    check := bandCheck }

/-- The frequency SYN_CONFIG gives a synthesizer. -/
def synFreq (p : Bytes) (s : State) : Nat := if field p 0 1 ≤ 4 then (s.syn (field p 0 1)).freq else field p 4 4

/-- Are SYN_CONFIG's parameters acceptable (R376, R378, R381, R395)? -/
def synOk (p : Bytes) (s : State) : Bool :=
  let i := field p 0 1
  let path := field p 1 1
  let f := synFreq p s
  within 1 6 i && decide (path ≤ 2) &&
  (if i ≤ 4 then field p 4 4 == 0 && pathOkL s.tim.xo.freq path else within 1000000000 2500000000 f && pathOkO f path) &&
  (pickBand ((s.syn i).bands i) i f s.pwr.tj).isSome &&
  (List.range 8).all (fun n => let o := s.cko n
                               sourceSyn o.source != i || o.fmt == 0 || outFreqOk f o.div o.fmt)

/-- Is a port of the tile that a SYN-L serves not DISABLED (R395)? -/
def tileBusy (i : Nat) (s : State) : Bool :=
  decide (i ≤ 4) && (List.range 16).any (fun k => (s.port (16 * (i - 1) + k)).st != .disabled)

/-- SYN_CONFIG (R379, R384): the band is selected afresh, a re-band on SYN-O, and what the synthesizer feeds relocks where it changes. -/
def synConfig (p : Bytes) (s : State) : State :=
  let i := field p 0 1
  let f := synFreq p s
  let old := s.syn i
  let s := relockFedOf i (decide (5 ≤ i) || f != old.freq || field p 1 1 != old.path) s
  let s := selectBand i (modSyn i (fun y => { y with freq := f, path := field p 1 1 }) s)
  if 5 ≤ i then modSyn i (fun y => { y with shifted := true }) (raise 109 i (b1 (s.syn i).band) s) else s
where
  relockFedOf (i : Nat) (go : Bool) (s : State) : State := if go then synRelock i s else s

/-- 0x0408 SYN_CONFIG. -/
def opSynConfig : OpDef :=
  { classA 12 (fun c s => (.done [], synConfig c.params s)) with
    resv := fun p => allZero p 2 2 && allZero p 8 4,
    check := fun c s => badOrBusy (synOk c.params s) (tileBusy (prm0 c) s) }

/-! ### Outputs (R396 to R398) -/

/-- Are OUT_CONFIG's parameters acceptable (R381, R383, R396)? -/
def outOk (p : Bytes) (s : State) : Bool :=
  let src := field p 2 1
  let hz := (s.syn (sourceSyn src)).freq
  let div := field p 4 4
  let o := s.cko (field p 0 1)
  let fast (hz div : Nat) : Bool := decide (312500000 * div < hz)
  decide (field p 0 1 ≤ 7) && decide (field p 1 1 ≤ 4) && decide (src ≤ 6) && decide (field p 3 1 ≤ 2) && decide (1 ≤ div) &&
  outFreqOk hz div (field p 1 1) && within 1 10000000 (orElse (field p 12 4) 100000) && withinInt 2000000000 (fieldInt p 8 4) &&
  decide ((fieldInt p 8 4).natAbs * 2 * hz ≤ 1000000000000 * div) &&
  !(field p 3 1 != 0 && (fast hz div || (o.fmt != 0 && fast (s.syn (sourceSyn o.source)).freq o.div)))

/-- OUT_CONFIG (R384, R396). -/
def outConfig (p : Bytes) (s : State) : State :=
  let n := field p 0 1
  let fmt := field p 1 1
  let src := field p 2 1
  let div := field p 4 4
  let o := s.cko n
  let moves := o.st == .run && fmt != 0 && (src != o.source || div != o.div)
  let s := modCko n (fun o => { o with policy := field p 3 1 }) s
  let s := if moves then relockStart n s else s
  modCko n (fun o => { o with
    fmt := fmt, source := src, div := div, phase := fieldInt p 8 4, glide := orElse (field p 12 4) 100000, invert := (byteAt p 16).getLsbD 0,
    relock := o.relock && fmt != 0,
    st := if fmt = 0 then .off
          else if (o.st = .off ∨ o.st = .squelched) ∧ !o.relock then (if sourceSettled s src then .run else .squelched)
          else o.st }) s

/-- 0x0409 OUT_CONFIG. -/
def opOutConfig : OpDef :=
  { classA 20 (fun c s => (.done [], outConfig c.params s)) with
    resv := fun p => field p 16 1 < 2 && allZero p 17 3,
    check := fun c s => badOrBusy (outOk c.params s) (s.cko (prm0 c)).busy }

/-- 0x040A PPS_CONFIG (R397). -/
def opPpsConfig : OpDef :=
  { sets 12 (fun p _ => decide (field p 0 1 ≤ 1) && decide (field p 1 1 ≤ 2) && within 20 500000000 (orElse (field p 4 4) 100000000) &&
        withinInt 1000000000 (fieldInt p 8 4))
      (fun p s => modPps (field p 0 1) (fun o => { o with
        gate := field p 1 1, width := orElse (field p 4 4) 100000000, phase := fieldInt p 8 4 }) s) with
    resv := fun p => allZero p 2 2 }

/-- TOD_CONFIG (R398): a reception switched on or off, or moved to the other PPSIN, pairs messages and pulses afresh (R392, log 129). -/
def todConfig (p : Bytes) (s : State) : State :=
  let rx := field p 1 1 == 1
  let pps := field p 2 1
  let again := rx != s.tim.tod.rx || pps != s.tim.tod.pps
  modTod (fun t =>
    let t := if again then { t with msg := none, paired := none, lastHad := false } else t
    { t with tx := field p 0 1 == 1, rx := rx, pps := pps, delayMs := orElse (field p 4 2) 10 }) s

/-- 0x040B TOD_CONFIG. -/
def opTodConfig : OpDef :=
  { sets 8 (fun p _ => decide (field p 0 1 ≤ 1) && decide (field p 1 1 ≤ 1) && decide (field p 2 1 ≤ 1) && within 1 500 (orElse (field p 4 2) 10))
      todConfig with
    resv := fun p => allZero p 3 1 && allZero p 6 2 }

/-- A synthesizer block of CLOCK_STATUS (R399). -/
def synBlock (s : State) (i : Nat) : Bytes :=
  let y := s.syn i
  b1 y.st ++ b1 y.band ++ b1 y.path ++ b1 (bitsNat [i == 0 && s.tim.xo.missing, y.shifted]) ++ le 4 (y.freq / 1000)

/-- A clock output's block. -/
def ckoBlock (s : State) (n : Nat) : Bytes :=
  let o := s.cko n
  b1 o.st.code ++ b1 o.fmt ++ le 2 o.relocks ++ leInt 4 (clampInt 32 o.phaseMeas)

/-- A PPS output's block. -/
def ppsBlock (s : State) (n : Nat) : Bytes :=
  let o := s.pps n
  b1 (if o.gate = 0 then 0 else if ppsOpen s n then 1 else 2) ++ b1 4 ++ le 2 o.skipped ++ leInt 4 (clampInt 32 o.phaseMeas)

/-- CLOCK_STATUS (R399). -/
def clockStatus (s : State) : Bytes :=
  let t := s.tim.tod
  (List.range 7).flatMap (synBlock s) ++ (List.range 8).flatMap (ckoBlock s) ++ [0, 1].flatMap (ppsBlock s) ++
  le 4 t.valid ++ le 4 t.bad ++ le 2 t.missing ++ le 2 t.late ++ le 2 t.extra ++ b1 (bitsNat [t.tx, t.rx, t.lastHad]) ++ b1 0

/-- 0x040C CLOCK_STATUS. -/
def opClockStatus : OpDef := reads 0 (fun _ _ => true) (fun _ s => clockStatus s)

/-! ### PTP (R430 to R432) -/

/-- The domain that PTP_CLOCK_CONFIG names: 0xFF is the profile's default (R401). -/
def domainOf (p : Bytes) : Nat := if field p 2 1 = 0xFF then (if field p 0 1 = 2 then 24 else 0) else field p 2 1

/-- Are PTP_CLOCK_CONFIG's parameters acceptable (R401, R403, R430)? -/
def ptpClockOk (p : Bytes) (_ : State) : Bool :=
  let prof := field p 0 1
  let typ := field p 1 1
  decide (prof ≤ 2) && decide (typ ≤ 3) && !(prof == 2 && decide (2 ≤ typ)) &&
  (if prof = 2 then within 24 43 (domainOf p) else decide (domainOf p ≤ 127)) &&
  within 1000 1000000000 (orElse (field p 16 4) 50000) && within 100 60000 (orElse (field p 20 2) 2000) && withinInt 1000000000 (fieldInt p 28 4)

/-- PTP_CLOCK_CONFIG (R430): a change of profile, role, domain or identity restarts every port; PROFILE 2's rates are fixed (R401). -/
def ptpClockConfig (p : Bytes) (s : State) : State :=
  let t := s.tim.time
  let again := t.profile != field p 0 1 || t.clockType != field p 1 1 || t.domain != domainOf p || t.clockIdSet != beNat (slice p 8 8)
  let s := modTime (fun t => { t with
    profile := field p 0 1, clockType := field p 1 1, domain := domainOf p, prio1 := field p 3 1, prio2 := field p 4 1,
    gmAcc := orElse (field p 5 1) 0x21, gmOslv := orElse (field p 6 2) 0x4E5D, clockIdSet := beNat (slice p 8 8),
    stepLimit := orElse (field p 16 4) 50000, confirmMs := orElse (field p 20 2) 2000, hoSpec := orElse (field p 22 2) 1000,
    gmTe := orElse (field p 24 2) 100, ppsDelay := fieldInt p 28 4 }) s
  let s := if field p 0 1 = 2 then
      modTim (fun m => { m with ptp := m.ptp.map (fun x => (x.1, { x.2 with logSync := -4, logDelay := -4, logAnnounce := -3 })) }) s
    else s
  if again then ptpRestart s else s

/-- 0x040D PTP_CLOCK_CONFIG. -/
def opPtpClockConfig : OpDef :=
  { sets 32 ptpClockOk ptpClockConfig with modeOk := inModes [.provision, .maintenance], resv := fun p => allZero p 26 2 }

/-- A log field of PTP_PORT_CONFIG: 0x7F is the profile's default. -/
def logOf (p : Bytes) (off : Nat) (prof : Nat) : Int :=
  if field p off 1 = 0x7F then
    (match off with
     | 6 => if prof = 2 then -3 else 1
     | 7 => 0
     | _ => if prof = 2 then -4 else 0)
  else fieldInt p off 1

/-- Are the rates within R401 and R431? -/
def ratesOk (p : Bytes) (prof : Nat) : Bool :=
  let a := logOf p 4 prof
  let b := logOf p 5 prof
  let c := logOf p 6 prof
  let d := logOf p 7 prof
  decide (-4 ≤ d ∧ d ≤ 0) &&
  (if prof = 2 then decide (a = -4 ∧ b = -4 ∧ c = -3)
   else decide (-7 ≤ a ∧ a ≤ 1 ∧ -7 ≤ b ∧ b ≤ 1 ∧ -3 ≤ c ∧ c ≤ 3))

/-- Are PTP_PORT_CONFIG's parameters acceptable (R431)? -/
def ptpPortOk (p : Bytes) (s : State) : Bool :=
  let f := byteAt p 1
  let prof := s.tim.time.profile
  portAt p 0 &&
  (if (s.port (field p 0 1)).cfg.dalom then f &&& 0xF7#8 == 0 && allZero p 2 7 && allZero p 12 12
   else
     decide (field p 2 1 ≤ 2) && (prof != 2 || field p 2 1 == 0) && decide (field p 3 1 ≤ 1) && ratesOk p prof &&
     (!f.getLsbD 4 || prof == 1) && within 2 10 (orElse (field p 8 1) 3) && withinInt 10000000 (fieldInt p 20 4))

/-- PTP_PORT_CONFIG (R431); a port whose PTP is switched on or off starts afresh. -/
def ptpPortConfig (p : Bytes) (s : State) : State :=
  let port := field p 0 1
  let f := byteAt p 1
  let prof := s.tim.time.profile
  let prio := orElse (field p 9 1) 128
  let s := if (s.port port).cfg.dalom then modPtp port (fun q => { q with masterOnly := f.getLsbD 3, localPrio := prio }) s
    else
      let q := s.ptp port
      let base := if q.enable = f.getLsbD 0 then q else { PtpPort.reset with unsupported := q.unsupported, refused := q.refused }
      modPtp port (fun _ => { base with
        enable := f.getLsbD 0, oneStep := f.getLsbD 1, linkDelay := f.getLsbD 2, masterOnly := f.getLsbD 3, l1sync := f.getLsbD 4,
        refPlane := f.getLsbD 5, transport := field p 2 1, l2addr := field p 3 1, logSync := logOf p 4 prof, logDelay := logOf p 5 prof,
        logAnnounce := logOf p 6 prof, logPdelay := logOf p 7 prof, annTimeout := orElse (field p 8 1) 3, localPrio := prio,
        extTx := field p 12 4, extRx := field p 16 4, asym := fieldInt p 20 4, l1Up := base.l1Up && f.getLsbD 4 }) s
  reelect s

/-- 0x040E PTP_PORT_CONFIG. -/
def opPtpPortConfig : OpDef :=
  { sets 32 ptpPortOk ptpPortConfig with resv := fun p => field p 1 1 < 64 && allZero p 10 2 && allZero p 24 8 }

/-- 0x040F TIME_PROPERTIES (R432). -/
def opTimeProperties : OpDef :=
  { sets 8 (fun _ s => isGm s)
      (fun p s => modTime (fun t => { t with
        utc := fieldInt p 0 2, flags := field p 2 1 % 64, fromTod := (byteAt p 2).getLsbD 7, source := orElse (field p 3 1) 0x20 }) s) with
    resv := fun p => !(byteAt p 2).getLsbD 6 && allZero p 4 4 }

/-! ### STEP_TIME (R422, R423, R433, R572) -/

/-- The offset that TO_SOURCE steps by: source minus local, of the run of refused samples or of the pending JUMP. -/
def sourceOffset (s : State) : Option Int :=
  match s.tim.time.run with
  | some r => some (-r.sample)
  | none => (s.dpll 0).jump

/-- The step that STEP_TIME asks for, once time of day is set. -/
def stepOf (p : Bytes) (s : State) : Int :=
  match field p 0 1 with
  | 0 => (sourceOffset s).getD 0
  | 1 => fieldInt p 4 8
  | _ => (field p 4 6 : Int) * sec16 - s.tod16

/-- Is the step backward without leave? -/
def backward (p : Bytes) (s : State) : Bool := decide (stepOf p s < 0) && !(byteAt p 1).getLsbD 0

/-- The conditions of STEP_TIME (R422). -/
def stepCheck (c : Cmd) (s : State) : Option (Nat × Bytes) :=
  let p := c.params
  let m := field p 0 1
  let set := s.clk.todSet
  if 2 < m ∨ (m = 0 ∧ field p 4 8 ≠ 0) ∨ (m = 2 ∧ field p 10 2 ≠ 0) then some (stBadParam, [])
  else if m = 0 then
    (if !set || (sourceOffset s).isNone then some (stBusy, []) else bad (!backward p s))
  else if m = 1 then
    (if backward p s then some (stBadParam, []) else if !set || (onTime s).isSome then some (stBusy, []) else none)
  else
    badOrBusy (!(set && backward p s)) (onTime s).isSome

/-- The record and event of a step (R423, R572). -/
def stepNotes (mode slot old new : Nat) (step : Int) (s : State) : State :=
  raise 108 0 (leInt 8 step) (negWrite 0x0012 (b1 mode ++ b1 slot ++ le 2 old ++ le 2 new ++ zeros 2 ++ leInt 8 step) s)

/-- The result of STEP_TIME: the step and the generation. -/
def stepResult (step : Int) (s : State) : Bytes := leInt 8 step ++ le 2 s.nv.timeGen ++ zeros 6

/-- STEP_TIME: a step, a first setting, or, for a step of zero, nothing. -/
def stepTime (c : Cmd) (s : State) : Answer × State :=
  let p := c.params
  let m := field p 0 1
  let old := s.nv.timeGen
  if !s.clk.todSet then
    let s := firstTod ((field p 4 6 : Int) * sec16) s
    let s := stepNotes 2 c.slotCode old s.nv.timeGen 0 s
    (.done (stepResult 0 s), s)
  else
    let d := stepOf p s
    if d = 0 then (.done (stepResult 0 s), s)
    else
      let s := { s with clk := { s.clk with off := s.clk.off + d }, nv := { s.nv with timeGen := (s.nv.timeGen + 1) % 65536 } }
      let s := modDpll 0 (fun q => { q with jump := none }) (modTime (fun t => { t with run := none, accepted := satAdd 32 t.accepted 1 }) s)
      let s := stepNotes m c.slotCode old s.nv.timeGen d s
      (.done (stepResult d s), s)

/-- 0x0410 STEP_TIME. -/
def opStepTime : OpDef :=
  { classA 16 stepTime with
    nMark := true, modeOk := inModes [.provision, .run, .maintenance, .quiesce],
    resv := fun p => field p 1 1 < 2 && allZero p 2 2 && allZero p 12 4, check := stepCheck }

/-! ### Time status and traceability (R424 to R427, R434) -/

/-- TIME_STATUS (R434). -/
def timeStatus (s : State) : Bytes :=
  let t := s.tim.time
  let a := advertised s
  let hold := (s.dpll 0).ho
  let par := match onTime s with
    | some 15 => t.parent.getD 0xFF
    | some _ => 0xFE
    | none => t.parent.getD 0xFF
  b1 t.clockType ++ b1 t.profile ++ b1 par ++
  b1 (bitsNat [s.clk.todSet, t.run.isSome, (s.dpll 0).jump.isSome, hold && holdInSpec s, hold && !holdInSpec s]) ++ le 2 s.nv.timeGen ++
  b1 a.cls ++ b1 a.acc ++ be 8 (gmNow s) ++ le 2 (ownSteps s) ++ leInt 2 a.utc ++ le 4 (teBound s) ++ leInt 8 t.lastSample ++
  le 4 t.refused ++ le 4 t.accepted ++ le 4 (holdNow s) ++ zeros 4

/-- 0x0411 TIME_STATUS. -/
def opTimeStatus : OpDef := reads 0 (fun _ _ => true) (fun _ s => timeStatus s)

/-- 0x0412 TIME_PORT_STATUS. -/
def opTimePortStatus : OpDef := reads 1 (fun p _ => portAt p 0) (fun p s => portTimeRecord s (field p 0 1))

/-- The first 64 bytes of a traceability report (R426). -/
def traceHeader (s : State) : Bytes :=
  let t := s.tim.time
  let a := advertised s
  le 2 1 ++ le 2 64 ++ le 4 14416 ++ le 6 s.todSec ++ le 4 s.todNs ++ le 2 s.nv.timeGen ++ le 8 Config.deviceId.toNat ++ be 8 (clockId s) ++
  b1 t.clockType ++ b1 t.profile ++ b1 s.sys.mode.code ++ b1 (s.dpll 0).st.code ++ be 8 (gmNow s) ++ le 4 (teBound s) ++ le 4 (holdNow s) ++
  le 2 (ownSteps s) ++ b1 a.cls ++ b1 a.acc ++ le 4 (s.nv.nextSeq + (2 ^ 32 - 1))

/-- Is a live operation of a type at work? -/
def typeLive (s : State) (t : Nat) : Bool := s.ops.any (fun o => o.live && o.typ == t)

/-- 0x0413 TRACE_REPORT: one report at a time, under K1. -/
def opTraceReport : OpDef :=
  { classA 0 (fun c s => startOp 8 false (.trace { built := traceHeader s, key := (keyOf s 1).getD [] }) c s) with
    long := true, free := fun _ s => !typeLive s 8, check := fun _ s => bad (keyOf s 1).isSome }

/-- 0x0414 TRACE_READ (R427). -/
def opTraceRead : OpDef :=
  { classP 8 (fun c s => (.done (slice (s.tim.time.report.getD []) (field c.params 0 4) (field c.params 4 2)), s)) with
    resv := fun p => allZero p 6 2,
    check := fun c s => badOrBusy (within 1 4032 (field c.params 4 2) && decide (field c.params 0 4 + field c.params 4 2 ≤ 14416))
      s.tim.time.report.isNone }

end Sys2Proof.Machine
end

