-- ==== Sys2Proof/Machine/TdeRows.lean ====
section
/-! DEFINITION. The rows of edges and visits of the time-interval engines (R436 to R445). -/

namespace Sys2Proof.Machine

/-- The edges per second that a source presents, where a prescaler stands before it, as a fraction (R437). -/
def prescaledHz (s : State) (c : Nat) : Nat × Nat :=
  if c ≤ 73 then ((s.ref (c - 70)).freq, 1) else ((s.syn (sourceSyn (s.cko (c - 74)).source)).freq, (s.cko (c - 74)).div)

/-- The smallest power of two that brings a rate to 100 MHz or below. -/
def autoPrescale (hz : Nat × Nat) : Nat := ((List.range 5).map (2 ^ ·)).find? (fun k => decide (hz.1 ≤ 100000000 * k * hz.2)) |>.getD 32

/-- The prescaler in force on a source; 1 where none stands. -/
def prescale (s : State) (c : Nat) : Nat :=
  if c < 70 then 1 else if (s.tdeSource c).prescale = 0 then autoPrescale (prescaledHz s c) else (s.tdeSource c).prescale

/-- Does a source present edges: a present port, an enabled EV, a pin or feedback source in use (R438, R439)? -/
def presents (s : State) (c : Nat) : Bool := sourcePresent s c && (c < 64 || 68 ≤ c || (s.ev (c - 64)).enable)

/-- An edge the prescaler passes, or is held back by it: the count of edges since the last one passed. -/
def passesPrescaler (c : Nat) (s : State) : Bool × State :=
  let n := prescale s c
  let k := s.tim.tde.passed.get 0 c + 1
  if n ≤ k then (true, modTde (fun t => { t with passed := t.passed.erase c }) s)
  else (false, modTde (fun t => { t with passed := t.passed.set c k }) s)

/-- Count SPACING in the statistics runs that use an input (R440). -/
def countSpacing (c : Nat) (s : State) : State :=
  engineIds.foldl (fun s e => match (s.engine e).role, (s.engine e).meter with
    | .claimed a b h, some m => if h ≠ 0 ∧ (a = c ∨ b = c) then modEngine e (fun x => { x with meter := some { m with spacing := wrapAdd 32 m.spacing 1 } }) s else s
    | _, _ => s) s

/-- The captures of a port with the most recent one on a lane replaced by its refined value, `diff` later in 2^-16 ps (R445). -/
def refineLast (lane : Nat) (diff : Int) : List MarkCap → List MarkCap
  | [] => []
  | m :: l => if m.lane = lane then { m with time := m.time + diff / 1000, refined := true } :: l else m :: refineLast lane diff l

/-- The capture that feeds time, on the lane whose captures do (R171, R175), is replaced by its refined value. -/
def refineMark (p : Nat) (tx : Bool) (diff : Int) (s : State) : State :=
  modDlk p (fun d => if tx then { d with marksTx := refineLast d.depLane diff d.marksTx } else { d with marksRx := refineLast d.arrLane diff d.marksRx }) s

/-- The feedback phase of an output (R399): the edge's offset from the nearest timebase edge, in 0.78125 ps. -/
def feedbackPhase (stamp : Int) : Int := ((stamp + stampTick / 2) % stampTick - stampTick / 2) / 51200

/-- An engine's stamp of an edge beside its coarse capture (R445): taken where they lie within 50 ps of each other, for a mark, for the sample of a PPSIN pulse and for an output's phase; else counted and raised. -/
def refine (e c : Nat) (tx : Bool) (stamp coarse : Int) (s : State) : State :=
  let s := modEngine e (fun x => { x with stamps := wrapAdd 32 x.stamps 1 }) s
  let diff := stamp - coarse
  if 50 * 65536 < mag diff then
    raise 110 e (b1 c ++ zeros 3 ++ leInt 4 (clampInt 32 (diff / 65536))) (modTde (fun t => { t with mismatch := wrapAdd 32 t.mismatch 1 }) s)
  else if c < 64 then refineMark c tx diff s
  else if c = 68 ∨ c = 69 then modTde (fun t => { t with pulses := t.pulses.set (c - 68) diff }) s
  else if 74 ≤ c then modCko (c - 74) (fun o => { o with phaseMeas := clampInt 32 (feedbackPhase stamp) }) s
  else s

/-- The coarse capture of an output's feedback edge is its phase until a refined stamp replaces it (R399, R445). -/
def coarsePhase (c : Nat) (coarse : Int) (s : State) : State :=
  if 74 ≤ c then modCko (c - 74) (fun o => { o with phaseMeas := clampInt 32 (feedbackPhase coarse) }) s else s

/-- An edge on a source (R436): coarse-captured; stamped where it passes the prescaler and, on an input, lies at least 1.6 ns after the last one (R440); refined on the engine pinned to it, and brought to the meters that name it. -/
def edge (c : Nat) (stamp coarse : Int) (tx : Bool) (s : State) : State :=
  if !presents s c then s
  else
    let r := passesPrescaler c s
    if !r.1 then r.2
    else
      let s := r.2
      let ring := s.tim.tde.rings.get [] c
      let near : Bool := match ring.head? with
        | some x => decide (64 ≤ c ∧ stamp - x < 104857600 ∧ x ≤ stamp)
        | none => false
      if near then countSpacing c s
      else
        let s := modTde (fun t => { t with rings := t.rings.set c ((stamp :: ring).take 16) }) s
        let s := coarsePhase c coarse s
        let s := match enginePinned s c with
          | some e => refine e c tx stamp coarse s
          | none => s
        meterEdge c stamp s

/-- TDE_EDGE: `stamp` and `coarse` on the timebase in 2^-16 ps; `tx` tells a departing mark from an arriving one. -/
def execTdeEdge (c : Fin 82) (stamp coarse : Int) (tx : Bool) (s : State) : Host.Outcome State Fault Refusal :=
  live s (edge c.val stamp coarse tx)

/-! ### Rotation (R24, R25, R444) -/

/-- The visit slots of a round: one each 625 µs on every rotating engine (R443). -/
def roundSlots (s : State) : Nat := (engineIds.filter (isRotating s)).length * (tdePeriod s / 625)

/-- The slots left over beyond one for each present rotating source that go to a source, in proportion to WEIGHT - 1 (R444). -/
def extraShare (s : State) (c : Nat) : Nat :=
  let l := rotatingSources s
  let w (x : Nat) : Nat := (s.tdeSource x).weight - 1
  let sum := (l.map w).sum
  if sum = 0 then 0 else (roundSlots s - l.length) * w c / sum

/-- A source whose edges lie further apart than the round, as its last stamps show (R25, R444). -/
def slowSource (s : State) (c : Nat) : Bool :=
  match s.tim.tde.rings.get [] c with
  | a :: b :: _ => decide ((tdePeriod s : Int) * 1000 * ns16ps < a - b)
  | _ => false

/-- The instant at which the round in progress ends. -/
def roundEnd (s : State) : Nat := s.tim.tde.roundAt + tdePeriod s * 1250

/-- A new round starts now: no source has had its visit. -/
def roundStart (s : State) : State := modTde (fun t => { t with roundAt := s.clk.now, visited := [] }) s

/-- Has every present rotating source had its visit in this round? -/
def roundServed (s : State) : Bool := (rotatingSources s).all (fun c => s.tim.tde.visited.contains c)

/-- May a source be visited in the round in progress: it has not been, its edges are slow, or slots left over are its own (R444)? -/
def visitDue (s : State) (c : Nat) : Bool :=
  slowSource s c || decide (s.tim.tde.visited.countP (· == c) ≤ extraShare s c)

/-- The round that a visit to a source falls in (DEDUCED, log 122): a round over by the clock, or one that has served every source and has no slot left for this one, gives way to the next; none where the round still owes another source its visit. -/
def roundFor (c : Nat) (s : State) : Option State :=
  let s := if roundEnd s ≤ s.clk.now then roundStart s else s
  if visitDue s c then some s
  else if roundServed s then some (roundStart (advanceTo (roundEnd s) s))
  else none

/-- A rotating engine's visit refines the awaited edge of a source whose turn it is; a port's visit refines one departing and one arriving mark (R443). -/
def visit (e c : Nat) (found : List (Int × Int × Bool)) (s : State) : State :=
  if !isRotating s e || !(rotatingSources s).contains c then s
  else match roundFor c s with
  | none => s
  | some s =>
    let s := modTde (fun t => { t with visited := c :: t.visited }) s
    let s := modEngine e (fun x => { x with visits := wrapAdd 32 x.visits 1 }) s
    let l := if c < 64 then (found.filter (fun x => x.2.2)).take 1 ++ (found.filter (fun x => !x.2.2)).take 1 else found.take 1
    l.foldl (fun s x => refine e c x.2.2 x.1 x.2.1 s) s

/-- TDE_VISIT_SLOT: the edges found as (stamp, coarse capture, departing). -/
def execTdeVisitSlot (e : Fin 8) (c : Fin 82) (found : List (Int × Int × Bool)) (s : State) : Host.Outcome State Fault Refusal :=
  live s (visit e.val c.val found)

/-- A claimed engine is ready (R451): its measurement is armed, with the stamps of the last 100 ns of its stop source to look back on. -/
def claimGrant (e : Nat) (s : State) : State :=
  match (s.engine e).role, (s.engine e).meter with
  | .claimed _ b _, some m =>
    if m.granted then s
    else
      let now := baseStamp s
      let back := ((s.tim.tde.rings.get [] b).filter (fun x => decide (now - 100 * ns16ps ≤ x))).reverse
      modEngine e (fun x => { x with meter := some { m with granted := true, armedAt := s.clk.now, found := back } }) s
  | _, _ => s

/-- TDE_CLAIM_GRANT. -/
def execTdeClaimGrant (e : Fin 8) (s : State) : Host.Outcome State Fault Refusal := live s (claimGrant e.val)

end Sys2Proof.Machine
end

