-- ==== Sys2Proof/Machine/LongWork.lean ====
section
/-! DEFINITION. The work of long operations that run: what starts, what is found complete, and what fails at once (R92, R233, R450, R468, R520). -/

namespace Sys2Proof.Machine

/-- A sweep's work starts, or starts again after a suspension (R468): its blocks are remembered once. -/
def sweepGo (h : Nat) (s : State) : State :=
  match s.op? h with
  | none => s
  | some o =>
    match o.work with
    | .sweep w =>
      let s := if w.before.isEmpty then
          sweepStart w (setOp { o with work := .sweep { w with before := w.blocks.map (calSnapshot s) } } s) else s
      if w.blocks.any (fun i => (s.cal i).stall) && !w.before.isEmpty then sweepStall h s else sweepCheck h s
    | _ => s

/-- An update's work starts: the target is INCOMPLETE (R520). -/
def fwGo (h : Nat) (s : State) : State :=
  match s.op? h with
  | some o => match o.work with
    | .fw w => if w.written = 0 then modImg w.target (fun i => { i with state := 4, facts := none, torn := true }) s else s
    | _ => s
  | none => s

/-- The meter of a statistics run: the one it kept, or its engine's. -/
def runMeter (s : State) (e : Nat) (kept : Option Meter) : Meter :=
  match kept, (s.engine e).meter with
  | some m, _ => m
  | none, some m => m
  | none, none => Meter.new 0 0 0 0 0 0 0

/-- Does a rebuild fit: only a slice in FAULT may be too full (R233)? -/
def rebuildFits (T : SliceTab) : Bool := T.mode != .fault || T.fits []

/-- What a running operation does before its next unit of work: a sweep or an update whose work has not begun begins; one whose work is complete is DONE; a rebuild that does not fit fails with LIMIT. -/
def opGo (h : Nat) (s : State) : State :=
  match s.op? h with
  | none => s
  | some o =>
    if o.state ≠ .running then s
    else match o.work with
    | .sweep _ => sweepGo h s
    | .fw _ => fwGo h s
    | .bulk w => if w.count ≤ w.next then opFinish h .done 0 s else s
    | .stats e k =>
      let m := runMeter s e k
      if m.n ≤ m.closed then opFinish h .done 0 (statsRelease h e s) else s
    | .bath _ => bathCheck s
    | .fence _ _ _ => fenceCheck s
    | .rebuild i _ => if (s.tab i).mode = .fault then opFinish h .failed stLimit s else s
    | _ => s

/-- Look at every running operation. -/
def opsSettle (s : State) : State := s.ops.foldl (fun s o => opGo o.handle s) s

end Sys2Proof.Machine
end

