-- ==== Sys2Proof/Machine/GcpTde.lean ====
section
/-! DEFINITION. The opcodes of group 0x05 (R451 to R458): pins, sources, event inputs, interval measurements and statistics runs. -/

namespace Sys2Proof.Machine

/-- The sources that TDE_PIN lists. -/
def pinList (p : Bytes) : List Nat := (List.range (field p 1 1)).map (fun i => field p (2 + i) 1)

/-- The conditions of TDE_PIN (R452). -/
def pinCheck (c : Cmd) (s : State) : Option (Nat × Bytes) :=
  let p := c.params
  let n := field p 1 1
  let l := pinList p
  if !(decide (field p 0 1 ≤ 1) && decide (n ≤ 4) && l.all (fun x => decide (x ≤ 81)) && l.dedup.length == n &&
      allZero p (2 + n) (4 - n) && (field p 0 1 == 1 || n == 0)) then some (stBadParam, [])
  else if 4 < n + claims s then some (stLimit, [])
  else none

/-- TDE_PIN (R441, R442, R452): under HOST exactly the listed sources are pinned; under AUTO firmware pins again. -/
def pinSet (p : Bytes) (s : State) : State :=
  let host := field p 0 1 == 1
  let l := pinList p
  let s := modTde (fun t => { t with hostMode := host, pins := l }) s
  let s := unpin (fun x a => if host then !l.contains x else !a) s
  if host then
    l.foldl (fun s x => match enginePinned s x with
      | some e => modEngine e (fun q => { q with role := .pinned x false }) s
      | none => pinTo x false s) s
  else autoPin s

/-- 0x0500 TDE_PIN. -/
def opTdePin : OpDef :=
  { classA 8 (fun c s => (.done [], pinSet c.params s)) with resv := fun p => allZero p 6 2, check := pinCheck }

/-- A source as TDE_SOURCE sets it. -/
def sourceOf (p : Bytes) : TdeSource :=
  { enable := (byteAt p 1).getLsbD 0, weight := orElse (field p 2 1) 1, prescale := field p 4 4 }

/-- 0x0501 TDE_SOURCE (R453). -/
def opTdeSource : OpDef :=
  { sets 8 (fun p _ => decide (field p 0 1 ≤ 81) && decide (field p 2 1 ≤ 8) && decide (field p 4 4 ≤ 16777216) &&
        (decide (70 ≤ field p 0 1) || field p 4 4 == 0))
      (fun p s => modTde (fun t => { t with sources := t.sources.set (field p 0 1) (sourceOf p) }) s) with
    resv := fun p => field p 1 1 < 2 && allZero p 3 1 }

/-- An event input as EV_CONFIG sets it. -/
def evOf (p : Bytes) : EvInput := { enable := (byteAt p 4).getLsbD 0, slope := field p 1 1, thresh := fieldInt p 2 2 }

/-- 0x0502 EV_CONFIG (R439, R454). -/
def opEvConfig : OpDef :=
  { sets 8 (fun p _ =>
        let v := fieldInt p 2 2
        decide (field p 0 1 ≤ 3) && decide (field p 1 1 ≤ 2) && decide (-600 ≤ v) && decide (v ≤ 2400) && v % 10 == 0)
      (fun p s => modTde (fun t => { t with evs := t.evs.set (field p 0 1) (evOf p) }) s) with
    resv := fun p => field p 4 1 < 2 && allZero p 5 3 }

/-! ### Claims (R455) -/

/-- Is a source that a measurement names one it may name: its code, and an event input enabled (R438, R439)? -/
def measurable (s : State) (c : Nat) : Bool := within 64 81 c && (decide (68 ≤ c) || (s.ev (c - 64)).enable)

/-- Are a measurement's parameters in range? -/
def meterOk (p : Bytes) (s : State) : Bool :=
  (decide (field p 0 1 ≤ 7) || field p 0 1 == 0xFF) && (field p 1 1 == 0xFE || measurable s (field p 1 1)) && measurable s (field p 2 1) &&
  within 1 16 (field p 3 1) && decide (field p 8 4 ≤ 100000) && decide (field p 12 2 ≤ 10000)

/-- The conditions of a claim: BUSY where the named engine is taken, LIMIT where no engine can be had. -/
def claimCheck (ok : Bytes → Bool) (c : Cmd) (s : State) : Option (Nat × Bytes) :=
  let p := c.params
  if !(meterOk p s && ok p) then some (stBadParam, [])
  else if field p 0 1 ≠ 0xFF ∧ isRotating s (field p 0 1) = false then some (stBusy, [])
  else if (roomForClaim s).isNone then some (stLimit, [])
  else none

/-- The meter that a measurement's parameters set up. -/
def meterOf (p : Bytes) (n : Nat) : Meter :=
  Meter.new (field p 1 1) (field p 2 1) (field p 3 1) (orElse (field p 4 4) (2 ^ 32)) (field p 8 4) (orElse (field p 12 2) 1100) n

/-- The engine that a claim takes: the named one, or the lowest rotating one. -/
def claimEngine (p : Bytes) (s : State) : Nat :=
  if field p 0 1 = 0xFF then (engineIds.find? (isRotating s)).getD 0 else field p 0 1

/-- Claim an engine for a handle (0 for an interval measurement); the claim is granted when the engine has settled. -/
def claim (p : Bytes) (h n : Nat) (s : State) : Nat × State :=
  let s := (roomForClaim s).getD s
  let e := claimEngine p s
  (e, modEngine e (fun x => { x with role := .claimed (field p 1 1) (field p 2 1) h, meter := some (meterOf p n) }) s)

/-- 0x0503 INTERVAL_MEASURE: the reply is due when the window closes, or when no start has come. -/
def opIntervalMeasure : OpDef :=
  { classA 16 (fun c s => let x := claim c.params 0 0 s
                          (.later (.measure x.1), x.2)) with
    resv := fun p => allZero p 14 2, check := claimCheck (fun _ => true) }

/-- 0x0504 STATS_RUN (R450). -/
def opStatsRun : OpDef :=
  { classA 20 (fun c s => let x := claim c.params s.nextHandle (field c.params 16 4) s
                          startOp 6 false (.stats x.1 none) c x.2) with
    long := true, after := opsSettle, resv := fun p => allZero p 14 2, check := claimCheck (fun p => within 2 16777216 (field p 16 4)) }

/-- The conditions of STATS_READ (R457). -/
def statsCheck (c : Cmd) (s : State) : Option (Nat × Bytes) :=
  match s.op? (field c.params 0 4) with
  | none => some (stNoSuchHandle, [])
  | some o => bad (o.typ == 6)

/-- The statistics of a run, live or finished. -/
def statsRead (h : Nat) (s : State) : Bytes :=
  match s.op? h with
  | some o => match o.work with
    | .stats e k => statsResult h (o.state != .done) (runMeter s e k)
    | _ => []
  | none => []

/-- 0x0505 STATS_READ. -/
def opStatsRead : OpDef := { classP 4 (fun c s => (.done (statsRead (field c.params 0 4) s), s)) with check := statsCheck }

/-- TDE_STATUS (R458). -/
def tdeStatus (s : State) : Bytes :=
  b1 (rotatingSources s).length ++ b1 (if s.tim.tde.hostMode then 1 else 0) ++ zeros 2 ++ le 4 (tdePeriod s) ++ le 4 s.tim.tde.mismatch ++ zeros 4 ++
  engineIds.flatMap (engineBlock s)

/-- 0x0506 TDE_STATUS. -/
def opTdeStatus : OpDef := reads 0 (fun _ _ => true) (fun _ s => tdeStatus s)

end Sys2Proof.Machine
end

