-- ==== Sys2Proof/Machine/GcpCore.lean ====
section
/-! DEFINITION. The opcodes of group 0x06 (R291 to R294, R328 to R336): pools, thresholds, the Stop bath, egress scheduling, the deadlock detector, slices and multicast groups. -/

namespace Sys2Proof.Machine

/-! ### POOL_CONFIG, BUF_THRESHOLD, POOL_STATUS -/

/-- The count that POOL_CONFIG asks of a pool. -/
def askedCount (b : Bytes) (p : Nat) : Nat := orElse (field b (4 * p) 4) (poolDefault p)

/-- The bytes that POOL_CONFIG asks of a tier. -/
def askedTotal (b : Bytes) (deep : Bool) : Nat := ((tierPools deep).map (fun p => askedCount b p * poolBufSize p)).sum

/-- Is a buffer not FREE: a ledger byte of good parity in another state (R280, R281)? -/
def bufferBusy (s : State) : Bool := s.core.ledger.any (fun x => evenParity x.2 && ledgerState x.2 != 0)

/-- The conditions of POOL_CONFIG (R292). -/
def poolCheck (c : Cmd) (s : State) : Option (Nat × Bytes) :=
  let b := c.params
  if (List.range 6).any (fun p => decide (askedCount b p < 512)) || decide (100663296 < askedTotal b false) ||
      decide (8053063680 < askedTotal b true) then some (stBadParam, [])
  else if askedTotal b true < s.core.deepBudget + 536870912 ∨ askedTotal b false < s.core.nearBudget + 8388608 then some (stLimit, [])
  else none

/-- POOL_CONFIG: every ring, cache and ledger built anew (R274, R292); XOFF is looked at again, and the shadow compare restarts (R256). -/
def poolsBuild (counts : List Nat) (s : State) : State :=
  xonAll (shadowRestart (modCore (fun c => { c with
    ledger := [], poolsHold := none, frames := c.frames.filter (fun f => f.stage != .stuck),
    pools := (List.range 6).map (fun p => (p, Pool.build (counts.getD p 512))) }) s))

/-- POOL_CONFIG executes (R292): at once where every buffer is FREE; else the reply is due for 10 ms, and frames that arrive are refused a buffer until then. -/
def poolsRun (c : Cmd) (s : State) : Answer × State :=
  let counts := (List.range 6).map (askedCount c.params)
  if bufferBusy s then (.later (.pools counts), modCore (fun k => { k with poolsHold := some (s.clk.now + 10 * msTicks) }) s)
  else (.done [], poolsBuild counts s)

/-- The counts that a POOL_CONFIG whose reply is due asks for, and its transport. -/
def poolsDue (s : State) : Option (Transport × List Nat) :=
  [Transport.pcie, .inband, .sideband].findSome? (fun t => match (s.gcp.chan t).due with
    | some u => (match u.kind with
      | .pools counts => some (t, counts)
      | _ => none)
    | none => none)

/-- A POOL_CONFIG that waits is looked at (R292): DONE once every buffer is FREE, BUSY when 10 ms have passed. -/
def poolsSettle (s : State) : State :=
  match s.core.poolsHold, poolsDue s with
  | some t, some (tr, counts) =>
    if !bufferBusy s then dueReply tr stDone [] (poolsBuild counts s)
    else if t ≤ s.clk.now then dueReply tr stBusy [] (modCore (fun k => { k with poolsHold := none }) s)
    else s
  | _, _ => s

/-- 0x0600 POOL_CONFIG. -/
def opPoolConfig : OpDef := { classA 24 poolsRun with modeOk := inModes [.provision], check := poolCheck }

/-- The minimums of all ports but one, in KiB. -/
def otherMinimums (s : State) (p : Nat) : Nat :=
  ((flowKeys s).map (fun x => if x.1 = p ∨ 64 ≤ x.1 then 0 else (s.fc x.1 x.2).minKiB)).sum

/-- The conditions of BUF_THRESHOLD (R293). -/
def thresholdCheck (c : Cmd) (s : State) : Option (Nat × Bytes) :=
  let b := c.params
  let p := field b 0 1
  let cs := List.range 8
  let low (k : Nat) : Bool := decide (field b (4 + 4 * k) 1 % 16 ≤ 9)
  let high (k : Nat) : Bool := decide (field b (4 + 4 * k) 1 / 16 ≤ 9) && decide (field b (6 + 4 * k) 2 ≤ 1024)
  if !(decide (p ≤ 64) && cs.all low && (p == 64 || cs.all high)) then some (stBadParam, [])
  else if p < 64 ∧ 8192 < otherMinimums s p + (cs.map (fun k => field b (6 + 4 * k) 2)).sum then some (stLimit, [])
  else none

/-- BUF_THRESHOLD: new α codes, DEEP_ALLOW and minimums for frames whose grant point follows (R290). -/
def thresholdSet (b : Bytes) (s : State) : State :=
  let p := field b 0 1
  xonAll <| (List.range 8).foldl (fun s k =>
    let a := field b (4 + 4 * k) 1
    modFc p k (fun f =>
      if p = 64 then { f with alphaVoq := a % 16 }
      else { f with alphaVoq := a % 16, alphaClass := a / 16, deepAllow := (byteAt b (5 + 4 * k)).getLsbD 0, minKiB := field b (6 + 4 * k) 2 }) s) s

/-- 0x0601 BUF_THRESHOLD. -/
def opBufThreshold : OpDef :=
  { classA 36 (fun c s => (.done [], thresholdSet c.params s)) with
    resv := fun b => allZero b 1 3 && (List.range 8).all (fun k => decide (field b (5 + 4 * k) 1 < 2)), check := thresholdCheck }

/-- A pool block of POOL_STATUS. -/
def poolBlock (s : State) (p : Nat) : Bytes :=
  let q := s.pool p
  le 4 (poolBufSize p) ++ le 4 q.count ++ le 4 q.free ++ le 4 q.lowWater ++ le 4 q.fallback ++ le 4 q.drops ++
  le 4 (satAdd 32 (q.doubleFree + q.foreignFree) q.stateFault) ++ le 2 q.parity ++ le 2 q.cache.length

/-- POOL_STATUS (R294). -/
def poolStatus (s : State) : Bytes :=
  (List.range 6).flatMap (poolBlock s) ++ le 8 (tierFree s false) ++ le 8 (tierFree s true) ++ le 8 (tierUnused s false) ++ le 8 (tierUnused s true)

/-- 0x0602 POOL_STATUS. -/
def opPoolStatus : OpDef := reads 0 (fun _ _ => true) (fun _ s => poolStatus s)

/-! ### STOP_BATH (R318, R330) -/

/-- The work that STOP_BATH asks for. -/
def bathOf (p : Bytes) : BathWork :=
  { discard := field p 0 1 == 0, classMask := field p 1 1, inPort := field p 2 1, outPort := field p 3 1, holdMs := field p 4 4,
    mc := (byteAt p 8).getLsbD 0, emptyAt := none, left := 0 }

/-- Do two port selections meet? -/
def portsMeet (a b : Nat) : Bool := a == 0xFF || b == 0xFF || a == b

/-- Do two Stop baths select a queue in common? -/
def BathWork.meets (a b : BathWork) : Bool :=
  (a.classMask &&& b.classMask) != 0 && portsMeet a.inPort b.inPort && (portsMeet a.outPort b.outPort || (a.mc && b.mc))

/-- No live Stop bath, and no drain, holds a queue that the command selects. -/
def bathFree (c : Cmd) (s : State) : Bool :=
  !s.sys.draining && s.ops.all (fun o => match o.work with
    | .bath w => !(o.live && w.meets (bathOf c.params))
    | _ => true)

/-- 0x0603 STOP_BATH. -/
def opStopBath : OpDef :=
  { classA 12 (fun c s => startOp 4 false (.bath (bathOf c.params)) c s) with
    long := true, after := opsSettle, modeOk := inModes [.run, .coast, .maintenance, .quiesce], resv := fun p => field p 8 1 < 2 && allZero p 9 3,
    free := bathFree,
    check := fun c _ =>
      let p := c.params
      let port (v : Nat) : Bool := decide (v ≤ 63) || v == 0xFF
      bad (decide (field p 0 1 ≤ 1) && field p 1 1 != 0 && port (field p 2 1) && port (field p 3 1) && decide (field p 4 4 ≤ 60000)) }

/-! ### EGRESS_SCHED, DEADLOCK_CONFIG, DEADLOCK_STATUS (R331, R332) -/

/-- Are EGRESS_SCHED's values in range? -/
def schedOk (p : Bytes) (_ : State) : Bool :=
  let x := field p 1 1
  decide (field p 0 1 ≤ 63) && (decide (x ≤ 7) || x == 0xFF) && decide (field p 2 2 ≤ 1000) && decide (field p 4 2 ≤ 1000) &&
  within 2048 1048576 (orElse (field p 8 4) 18432) && within 2048 1048576 (orElse (field p 12 4) 18432)

/-- EGRESS_SCHED. -/
def schedSet (p : Bytes) (s : State) : State :=
  let x := field p 1 1
  modEg (field p 0 1) (fun e => { e with
    express := if x = 0xFF then none else some x
    permil7 := orElse (field p 2 2) 50, permil6 := field p 4 2, burst7 := orElse (field p 8 4) 18432, burst6 := orElse (field p 12 4) 18432
    weights := (List.range 6).map (fun c => orElse (field p (16 + c) 1) 16) }) (fillShapers (field p 0 1) s)

/-- 0x0604 EGRESS_SCHED. -/
def opEgressSched : OpDef := { sets 24 schedOk schedSet with resv := fun p => allZero p 6 2 && allZero p 22 2 }

/-- 0x0605 DEADLOCK_CONFIG. -/
def opDeadlockConfig : OpDef :=
  sets 4 (fun p _ => decide (field p 0 4 ≤ 60000)) (fun p s => modCore (fun c => { c with dlTime := field p 0 4 }) s)

/-- The detector's records still open: those whose class is still paused (R317). -/
def openDeadlocks (s : State) : List Deadlock := s.core.deadlocks.filter (fun d => partnerPaused s d.port d.tc)

/-- A record of DEADLOCK_STATUS. -/
def deadlockRecord (s : State) (d : Deadlock) : Bytes :=
  b1 d.port ++ b1 d.tc ++ b1 (bitsNat [d.cycle, d.dalom]) ++ b1 0 ++ le 4 ((s.clk.now - d.since) / msTicks) ++ le 8 d.xoffMask ++
  be 6 d.mac.toNat ++ zeros 2

/-- DEADLOCK_STATUS (R332). -/
def deadlockStatus (s : State) : Bytes :=
  let l := openDeadlocks s
  b1 (min 16 l.length) ++ b1 (if 16 < l.length then 1 else 0) ++ zeros 6 ++ (l.take 16).flatMap (deadlockRecord s)

/-- 0x0606 DEADLOCK_STATUS. -/
def opDeadlockStatus : OpDef := reads 0 (fun _ _ => true) (fun _ s => deadlockStatus s)

/-! ### Slices (R327, R333 to R335) -/

/-- Is a slice one that SLICE_ASSIGN may name? -/
def sliceOk (s : State) (i : Nat) : Bool := decide (i ≤ 16) && (s.slice i).st != .dead && (s.slice i).st != .quarantine

/-- The slices that SLICE_ASSIGN names: sixteen quads, and the spare where there is one. -/
def assignNames (p : Bytes) : List Nat :=
  (List.range 16).map (fun q => field p q 1) ++ (if field p 16 1 = 0xFF then [] else [field p 16 1])

/-- Are SLICE_ASSIGN's names acceptable? -/
def assignOk (p : Bytes) (s : State) : Bool := (assignNames p).all (sliceOk s) && (assignNames p).dedup.length == (assignNames p).length

/-- SLICE_ASSIGN serves a quad: the epoch rises where the slice changes (R333). -/
def assignQuad (p : Bytes) (s : State) (q : Nat) : State :=
  let i := field p q 1
  let s := if s.quadSlice q = i ∧ s.quadDown q = false then s else bumpEpoch q s
  let s := modSlice i (fun r => { r with st := if r.st = .suspect then .suspect else .active }) s
  modCore (fun c => { c with quads := c.quads.set q i, unserved := c.unserved.set q false }) s

/-- SLICE_ASSIGN (R333). -/
def assign (p : Bytes) (s : State) : State :=
  let s := (List.range 16).foldl (assignQuad p) s
  let sp := field p 16 1
  let s := if sp = 0xFF then s else modSlice sp (fun r => { r with st := .spare, stalled := 0 }) s
  shadowRestart (modCore (fun c => { c with spare := if sp = 0xFF then none else some sp, taking := [] }) s)

/-- 0x0607 SLICE_ASSIGN. -/
def opSliceAssign : OpDef :=
  { sets 20 assignOk assign with modeOk := inModes [.provision], resv := fun p => allZero p 17 3 }

/-- The quads that no slice serves. -/
def unservedQuads (s : State) : List Nat := (List.range 16).filter s.quadDown

/-- The conditions of SLICE_RETURN. -/
def returnCheck (c : Cmd) (s : State) : Option (Nat × Bytes) :=
  let i := field c.params 0 1
  if 16 < i ∨ sliceOk s i = true then some (stBadParam, [])
  else if (unservedQuads s).isEmpty && s.core.spare.isSome then some (stLimit, [])
  else none

/-- Copy every host-written entry of slice `a` to slice `i`, learned entries excluded (R327). -/
def copyTables (a i : Nat) (s : State) : State :=
  let A := s.tab a
  let plain (m : Tab KSlot) : Tab KSlot := (statics m).map (fun x => (x.1, KSlot.entry { x.2 with hit := false }))
  modTab i (fun T =>
    let routes := A.lpm.map (fun x => { x.2 with hit := false, bad := false })
    let T := (relayout [] routes { T with lpm := [], lpmTomb := [], store := [], filterA := [], filterB := [], deletes := 0 }).1
    let T := routes.foldl (fun T r => storeWrite r T) T
    { T with fdb := plain A.fdb, host := plain A.host, nh := A.nh, grp := A.grp, mbr := A.mbr
             cls := A.cls.map (fun x => (x.1, { x.2 with count := 0, inert := false })), ecc := [] }) s

/-- SLICE_RETURN (R324, R327, R334): the self-test, the copy, and the quad or the spare's place. -/
def sliceReturn (i : Nat) (s : State) : Bytes × State :=
  let pass := Config.sliceTest s.free
  let s := s.draw
  if !pass then (b1 1 ++ b1 (s.slice i).st.code, s)
  else
    let s := match (List.range 17).find? (fun k => (s.slice k).st == .active) with
      | some a => copyTables a i s
      | none => s
    match unservedQuads s with
    | q :: _ =>
      let s := bumpEpoch q (modSlice i (fun r => { r with st := .active, stalled := 0 }) s)
      (b1 0 ++ b1 0, modCore (fun c => { c with quads := c.quads.set q i, unserved := c.unserved.set q false }) (forget i s))
    | [] =>
      let s := modSlice i (fun r => { r with st := .spare, stalled := 0 }) s
      (b1 0 ++ b1 1, shadowRestart (modCore (fun c => { c with spare := some i }) s))

/-- 0x0608 SLICE_RETURN. -/
def opSliceReturn : OpDef :=
  { classA 4 (fun c s => let x := sliceReturn (field c.params 0 1) s
                         (.done x.1, x.2)) with
    modeOk := inModes [.maintenance], resv := fun p => allZero p 1 3, check := returnCheck }

/-- SLICE_STATUS (R335). -/
def sliceStatus (i : Nat) (s : State) : Bytes :=
  let r := s.slice i
  let q := sliceQuad s i
  b1 i ++ b1 r.st.code ++ b1 (q.getD 0xFF) ++ b1 ((q.map (s.epoch ·)).getD 0) ++ le 4 r.rate ++ le 4 r.rateMin ++ le 4 (demand s i / 100) ++
  le 2 (margin s i) ++ zeros 2 ++ le 4 r.lpmExtra ++ le 8 r.paceDrops ++ le 4 r.suspects ++ le 4 r.ghosts ++ le 4 r.takeoverDrops ++
  le 2 s.pwr.coreMv ++ le 2 s.core.avs.target

/-- 0x0609 SLICE_STATUS. -/
def opSliceStatus : OpDef := reads 1 (fun p _ => decide (field p 0 1 ≤ 16)) (fun p s => sliceStatus (field p 0 1) s)

/-! ### Multicast (R336) -/

/-- The members that MCAST_GROUP lists: port, tagged, VID. -/
def memberList (p : Bytes) : List (Nat × Bool × Nat) :=
  (List.range (field p 2 2)).map (fun k => (field p (8 + 4 * k) 1, (byteAt p (9 + 4 * k)).getLsbD 0, field p (10 + 4 * k) 2))

/-- The conditions of MCAST_GROUP. -/
def groupCheck (c : Cmd) (s : State) : Option (Nat × Bytes) :=
  let p := c.params
  let g := field p 0 2
  let n := field p 2 2
  let l := memberList p
  let keys := l.map (fun m => (m.1, m.2.2))
  let others := ((s.core.groups.filter (fun x => x.1 != g)).map (fun x => x.2.length)).sum
  if !(decide (g ≤ 16383) && decide (n ≤ 512) && p.length == 8 + 4 * n && l.all (fun m => decide (m.1 ≤ 63) && within 1 4094 m.2.2) &&
      keys.dedup.length == n) then some (stBadParam, [])
  else if 262144 < others + n then some (stLimit, [])
  else none

/-- MCAST_GROUP: heads already resolved keep the old list (R309), then the new one stands. -/
def groupSet (p : Bytes) (s : State) : State :=
  modCore (fun c => { c with groups := if field p 2 2 = 0 then c.groups.erase (field p 0 2) else c.groups.set (field p 0 2) (memberList p) })
    (resolveHeads s)

/-- 0x060A MCAST_GROUP. -/
def opMcastGroup : OpDef :=
  { classA 8 (fun c s => (.done [], groupSet c.params s)) with
    lenOk := fun n => decide (8 ≤ n) && decide (n ≤ 2056),
    resv := fun p => allZero p 4 4 && (List.range ((p.length - 8) / 4)).all (fun k => decide (field p (9 + 4 * k) 1 < 2)), check := groupCheck }

/-- 0x060B MCAST_CONFIG. -/
def opMcastConfig : OpDef :=
  { sets 4 (fun p _ => decide (field p 0 1 ≤ 9)) (fun p s => modCore (fun c => { c with mcAlpha := field p 0 1 }) s) with
    resv := fun p => allZero p 1 3 }

end Sys2Proof.Machine
end

