-- ==== Sys2Proof/Machine/GcpTab.lean ====
section
/-! DEFINITION. The opcodes of group 0x07 (R253, R257 to R266): bulk loads, FENCE, shadow regions, learning, flushing, TCAM rebuilds and table status. -/

namespace Sys2Proof.Machine

/-! ### TABLE_BULK_LOAD (R259) -/

/-- Are a bulk load's parameters acceptable on a transport? -/
def bulkOk (t : Transport) (p : Bytes) : Bool :=
  let tab := field p 0 1
  let op := field p 1 1
  let src := field p 2 1
  let n := field p 4 4
  decide (tab ≤ 6) && ((op == 2 && decide (3 ≤ tab)) || (op == 3 && decide (tab ≤ 2)) || op == 4) &&
  (if src = 0 then within 1 41 n && p.length == 24 + 96 * n && allZero p 8 8
   else src == 1 && t == .pcie && within 1 262144 n && p.length == 24)

/-- The work of a bulk load. -/
def bulkOf (p : Bytes) : BulkWork :=
  let n := field p 4 4
  { table := field p 0 1, op := field p 1 1, source := field p 2 1, count := n, addr := field p 8 8, firstIndex := field p 16 4
    records := if field p 2 1 = 0 then (List.range n).map (fun i => slice p (24 + 96 * i) 96) else [], next := 0 }

/-- No live bulk load holds the table (R91). -/
def bulkFree (c : Cmd) (s : State) : Bool :=
  s.ops.all (fun o => match o.work with
    | .bulk w => !(o.live && w.table == field c.params 0 1)
    | _ => true)

/-- 0x0700 TABLE_BULK_LOAD. -/
def opTableBulkLoad : OpDef :=
  { classA 24 (fun c s => startOp 2 false (.bulk (bulkOf c.params)) c s) with
    long := true, after := opsSettle, lenOk := fun n => n == 24 || (decide (120 ≤ n) && decide (n ≤ 3960) && (n - 24) % 96 == 0),
    resv := fun p => allZero p 3 1 && allZero p 20 4, free := bulkFree, check := fun c _ => bad (bulkOk (via c.origin) c.params) }

/-! ### FENCE (R253) -/

/-- The frames looked up and not yet gone. -/
def fenceIds (s : State) : List Nat :=
  ((s.core.frames.filter (fun f => f.result.isSome)).map (·.id) ++ s.core.store.flatMap (fun x => x.2.map (·.frame))).dedup

/-- 0x0701 FENCE. -/
def opFence : OpDef :=
  { classP 4 (fun c s => startOp 9 false (.fence (fenceIds s) (fenceIds s).length (field c.params 0 4)) c s) with
    long := true, after := opsSettle, lifeOk := fun _ s => notRetired s, check := fun c _ => bad (decide (field c.params 0 4 ≤ 3600000)) }

/-! ### TABLE_SHADOW, LEARN_CONFIG, L2_PORT_CONFIG (R261 to R263) -/

/-- Are TABLE_SHADOW's parameters in range? -/
def shadowOk (p : Bytes) (_ : State) : Bool :=
  let t := field p 0 1
  let n := field p 4 4
  decide (t ≤ 6) && (if t ≤ 2 then decide (n ≤ tableSize t) else n == tableSize t) && decide (field p 16 4 ≤ 1000000)

/-- The shadow region of a registration. -/
def shadowOf (p : Bytes) : Shadow := { addr := field p 8 8, count := field p 4 4, rate := field p 16 4, next := 0, seen := [] }

/-- 0x0702 TABLE_SHADOW. -/
def opTableShadow : OpDef :=
  { sets 24 shadowOk (fun p s => { s with tables := { s.tables with shadows := s.tables.shadows.set (field p 0 1) (shadowOf p) } }) with
    inbandOk := false, resv := fun p => allZero p 1 3 && allZero p 20 4 }

/-- Are LEARN_CONFIG's values in range? -/
def learnOk (p : Bytes) (_ : State) : Bool :=
  decide (field p 0 1 ≤ 1) && decide (field p 4 4 ≤ 4000000) && decide (field p 8 4 ≤ 65536)

/-- LEARN_CONFIG: every slice's bucket is filled at the old rate up to now (R241). -/
def learnSet (p : Bytes) (s : State) : State :=
  let s := (List.range 17).foldl (fun s i => fillLearn i s) s
  { s with tables := { s.tables with
      ageOn := field p 0 1 == 1, agePeriod := orElse (field p 2 2) 300
      learnRate := orElse (field p 4 4) 1000000, learnBurst := orElse (field p 8 4) 4096 } }

/-- 0x0703 LEARN_CONFIG. -/
def opLearnConfig : OpDef := { sets 12 learnOk learnSet with resv := fun p => allZero p 1 1 }

/-- A port's learning settings as L2_PORT_CONFIG gives them. -/
def l2Of (p : Bytes) : L2Port := { pvid := field p 2 2, limit := field p 4 2, drop := field p 1 1 == 1 }

/-- 0x0704 L2_PORT_CONFIG. -/
def opL2PortConfig : OpDef :=
  { sets 8 (fun p _ => decide (field p 0 1 ≤ 63) && decide (field p 1 1 ≤ 1) && within 1 4094 (field p 2 2))
      (fun p s => { s with tables := { s.tables with l2 := s.tables.l2.set (field p 0 1) (l2Of p) } }) with
    resv := fun p => allZero p 6 2 }

/-! ### FDB_FLUSH (R264) -/

/-- Does a flush take an entry: dynamic, on the port, in the VID? -/
def flushes (port vid : Nat) (k : KSlot) : Bool :=
  match k with
  | .entry e => e.dyn && (port == 0xFF || (e.data % 8 == 0 && bitsAt e.data 4 14 == port)) && (vid == 0 || leNat (slice e.key 6 2) == vid)
  | .tomb _ => false

/-- FDB_FLUSH on every slice: the entries deleted, and the tables without them. -/
def flush (port vid : Nat) (s : State) : Nat × State :=
  let n := (s.tables.slices.map (fun x => (x.2.fdb.filter (fun y => flushes port vid y.2)).length)).sum
  let clean (T : SliceTab) : SliceTab := { T with fdb := T.fdb.filter (fun y => !flushes port vid y.2) }
  (n, { s with tables := { s.tables with slices := s.tables.slices.map (fun x => (x.1, clean x.2)) } })

/-- 0x0705 FDB_FLUSH. -/
def opFdbFlush : OpDef :=
  { classA 4 (fun c s => let x := flush (field c.params 0 1) (field c.params 2 2) s
                         (.done (le 4 x.1), x.2)) with
    modeOk := inModes [.run, .coast, .maintenance, .quiesce], resv := fun p => allZero p 1 1,
    check := fun c _ => bad ((decide (field c.params 0 1 ≤ 63) || field c.params 0 1 == 0xFF) && decide (field c.params 2 2 ≤ 4094)) }

/-! ### TCAM_REBUILD, TABLE_STATUS (R233, R265, R266) -/

/-- TCAM_REBUILD starts; lookups come from the hash store (R233). Only from TCAM and FAULT does SELFTEST 1 test the slots first; an unloaded slice is rebuilt either way. -/
def rebuildStart (c : Cmd) (s : State) : Answer × State :=
  let i := field c.params 0 1
  let T := s.tab i
  let test := field c.params 1 1 == 1 && (T.mode == .tcam || T.mode == .fault)
  startOp 3 false (.rebuild i test) c (modTab i (fun T =>
    if test then { T with mode := .selftest } else if rebuildFits T then rebuildBegin T else T) s)

/-- 0x0706 TCAM_REBUILD. -/
def opTcamRebuild : OpDef :=
  { classA 4 rebuildStart with
    long := true, after := opsSettle, modeOk := inModes [.provision, .maintenance], resv := fun p => allZero p 2 2,
    free := fun c s => (rebuildOp s (field c.params 0 1)).isNone,
    check := fun c s => bad (decide (field c.params 0 1 ≤ 16) && decide (field c.params 1 1 ≤ 1) &&
      (field c.params 1 1 == 0 || s.sys.mode == .maintenance)) }

/-- TABLE_STATUS (R266). -/
def tableStatus (i : Nat) (s : State) : Bytes :=
  let T := s.tab i
  let spill (t : Nat) (m : Tab KSlot) : Nat := ((xEntries m).filter (fun x => decide (4 * xBuckets t ≤ x.1))).length
  b1 i ++ b1 T.mode.code ++ le 2 (T.usable / 2) ++ le 4 (statics T.fdb).length ++ le 4 ((xEntries T.fdb).length - (statics T.fdb).length) ++
  le 2 (spill 0 T.fdb) ++ le 2 (spill 1 T.host) ++ le 4 (xEntries T.host).length ++ le 4 T.halfUsed ++ le 4 T.learnFull ++ le 4 T.learnLimit ++
  le 4 T.rateSkip ++ le 4 T.moves ++ le 4 T.aged ++ le 4 T.eccCorrected ++ le 4 T.eccUncorrected ++ le 4 T.lpmSlow ++
  le 4 T.shadowMismatch ++ le 4 T.routeMiss

/-- 0x0707 TABLE_STATUS. -/
def opTableStatus : OpDef := reads 1 (fun p _ => decide (field p 0 1 ≤ 16)) (fun p s => tableStatus (field p 0 1) s)

end Sys2Proof.Machine
end

