-- ==== Sys2Proof/Machine/GcpNv.lean ====
section
/-! DEFINITION. The opcodes of groups 0x08 to 0x0B: the Negative (R490 to R494), calibration (R472 to R476), firmware (R518 to R521) and long-operation control (R92, R95, R523). -/

namespace Sys2Proof.Machine

/-! ### The Negative -/

/-- The lowest SEQ among some slots. -/
def lowestSeq (l : Tab Bytes) (none' : Nat) : Nat :=
  match l.map (fun x => field x.2 0 4) with
  | [] => none'
  | a :: t => t.foldl min a

/-- OLDEST_SEQ: NEXT_SEQ where no record is present. -/
def oldestSeq (s : State) : Nat := lowestSeq s.nv.slots s.nv.nextSeq

/-- The slots of the ring. -/
def ringSlots (s : State) : Tab Bytes := s.nv.slots.filter (fun x => decide (1024 ≤ x.1))

/-- NEG_STATUS (R491). -/
def negStatus (s : State) : Bytes :=
  let pinned (l : Nat) : Nat := (s.nv.slots.filter (fun x => decide (x.1 < 1024) && x.1 / 256 == l)).length
  le 4 s.nv.nextSeq ++ le 4 (oldestSeq s) ++ le 4 (lowestSeq (ringSlots s) 0xFFFFFFFF) ++ le 4 (ringSlots s).length ++
  (List.range 4).flatMap (fun l => b1 (pinned l)) ++ toLen 4 s.nv.lastChain ++ b1 s.neg.deferred.length ++
  b1 (bitsNat [s.pwr.nvInhibit, s.neg.overflowed, s.neg.repaired]) ++ zeros 6

/-- 0x0800 NEG_STATUS. -/
def opNegStatus : OpDef := reads 0 (fun _ _ => true) (fun _ s => negStatus s)

/-- NEG_READ (R492). -/
def negRead (first n : Nat) (s : State) : Bytes :=
  let l := ((bySeq s.nv.slots).filter (fun x => decide (first ≤ x.1))).take n
  b1 l.length ++ zeros 3 ++ le 4 ((l.getLast?.map (fun x => x.1 + 1)).getD first) ++ l.flatMap (·.2)

/-- 0x0801 NEG_READ. -/
def opNegRead : OpDef :=
  { reads 8 (fun p _ => within 1 62 (field p 4 2)) (fun p s => negRead (field p 0 4) (field p 4 2) s) with
    resv := fun p => allZero p 6 2 }

/-- FIRST_SEQ of an export. -/
def exportFirst (p : Bytes) (s : State) : Nat := if field p 0 4 = 0xFFFFFFFF then oldestSeq s else field p 0 4

/-- One above LAST_SEQ of an export. -/
def exportEnd (p : Bytes) (s : State) : Nat := if field p 4 4 = 0xFFFFFFFF then s.nv.nextSeq else field p 4 4 + 1

/-- The key of an export's tag (R494). -/
def exportKey (s : State) : Option Bytes :=
  match s.nv.lifecycle with
  | .blank => none
  | .owned => keyOf s 0
  | .locked => keyOf s 0
  | .retired => s.nv.rk

/-- The work of an export as it starts. -/
def exportOf (p : Bytes) (s : State) : ExportWork :=
  let first := exportFirst p s
  { first := first, last := exportEnd p s - 1, upto := s.nv.nextSeq, key := exportKey s, next := first, addr := field p 8 8
    lifecycle := s.nv.lifecycle.code, copied := [], count := 0, missing := 0
    prevChain := if first = 0 then none else ((bySeq s.nv.slots).find? (first - 1)).map (fun r => r.drop 60)
    todSec := s.todSec, todNs := s.todNs, timeGen := s.nv.timeGen }

/-- 0x0802 NEG_EXPORT: one at a time. -/
def opNegExport : OpDef :=
  { classP 24 (fun c s => startOp 7 false (.negExport (exportOf c.params s)) c s) with
    long := true, resv := fun p => allZero p 16 8, free := fun _ s => !typeLive s 7,
    check := fun c s => bad (via c.origin == .pcie && decide (exportFirst c.params s < exportEnd c.params s)) }

/-! ### Calibration -/

/-- The sweep a command asks for; its blocks are remembered when its work starts. -/
def sweepOfParams (p : Bytes) : SweepWork :=
  { first := field p 0 2, count := field p 2 2, save := (byteAt p 4).getLsbD 0, before := [], saving := none }

/-- Do two sweeps hold a block, or the Contact sheet, in common? -/
def SweepWork.meets (a b : SweepWork) : Bool :=
  (a.save && b.save) || decide (max a.first b.first < min (a.first + a.count) (b.first + b.count))

/-- No live sweep holds the blocks or the sheet, and no named block is on HOLD (R473). -/
def sweepFree (c : Cmd) (s : State) : Bool :=
  let w := sweepOfParams c.params
  s.ops.all (fun o => match o.work with
    | .sweep v => !(o.live && v.meets w)
    | _ => true) &&
  w.blocks.all (fun i => !(s.cal i).hold)

/-- 0x0900 CAL_SWEEP. -/
def opCalSweep : OpDef :=
  { classA 8 (fun c s => startOp 5 (byteAt c.params 4 |>.getLsbD 0) (.sweep (sweepOfParams c.params)) c s) with
    nMark := true, long := true, after := opsSettle, resv := fun p => decide (field p 4 1 < 2) && allZero p 5 3, free := sweepFree,
    check := fun c _ =>
      let w := sweepOfParams c.params
      bad (decide (w.first ≤ 355) && decide (w.first + w.count ≤ 356) && (w.count != 0 || w.save)) }

/-- 0x0901 CAL_STATUS. -/
def opCalStatus : OpDef :=
  { reads 4 (fun p _ => decide (field p 0 2 ≤ 355)) (fun p s => (calRegs s (field p 0 2)).flatMap (le 4)) with
    resv := fun p => allZero p 2 2 }

/-- The slot that CONTACT_RESTORE loads: 0 where there is none (R471). -/
def restoreSlot (p : Bytes) (s : State) : Nat :=
  let k := field p 0 1
  if k = 0 then contactInForce s else if contactValid s k then k else 0

/-- The records of a Contact sheet slot: index, words, temperature, and the value words. -/
def contactRecords : Nat → Bytes → List (Nat × Nat × Int × Bytes)
  | 0, _ => []
  | n + 1, b =>
    let w := field b 2 2
    (field b 0 2, w, fieldInt b 4 2, slice b 8 (4 * w)) :: contactRecords n (b.drop (8 + 4 * w))

/-- Load the records of a slot (R471): blocks loaded, skipped for size, skipped for temperature. -/
def contactLoad (k limit : Nat) (s : State) : (Nat × Nat × Nat) × State :=
  (contactRecords calBlocks ((contactBytes s k).drop 64)).foldl (fun (a : (Nat × Nat × Nat) × State) r =>
    let n := a.1
    if r.2.1 ≠ calWords r.1 then ((n.1, n.2.1 + 1, n.2.2), a.2)
    else if limit ≠ 0 ∧ 16 * limit < (r.2.2.1 - a.2.pwr.tj).natAbs then ((n.1, n.2.1, n.2.2 + 1), a.2)
    else
      let ws := (List.range r.2.1).map (fun j => (j, field r.2.2.2 (4 * j) 4))
      ((n.1 + 1, n.2.1, n.2.2), calApply r.1 ws a.2)) ((0, 0, 0), s)

/-- CONTACT_RESTORE. -/
def contactRestore (c : Cmd) (s : State) : Answer × State :=
  let k := restoreSlot c.params s
  let x := contactLoad k (field c.params 1 1) s
  (.done (le 2 x.1.1 ++ le 2 x.1.2.1 ++ le 2 x.1.2.2 ++ b1 k ++ b1 0), x.2)

/-- 0x0902 CONTACT_RESTORE. -/
def opContactRestore : OpDef :=
  { classA 4 contactRestore with
    modeOk := inModes [.provision, .maintenance], resv := fun p => allZero p 2 2,
    check := fun c s => bad (decide (field c.params 0 1 ≤ 2) && decide (field c.params 1 1 ≤ 105) && restoreSlot c.params s != 0) }

/-- CONTACT_STATUS (R476). -/
def contactStatus (s : State) : Bytes :=
  b1 (contactInForce s) ++ zeros 6 ++ b1 (bitsNat [contactValid s 1, contactValid s 2]) ++ toLen 64 (contactBytes s 1) ++ toLen 64 (contactBytes s 2)

/-- 0x0903 CONTACT_STATUS. -/
def opContactStatus : OpDef := reads 0 (fun _ _ => true) (fun _ s => contactStatus s)

/-! ### Firmware -/

/-- Does an image carry a valid owner countersignature: under the owner's key where the policy names one (R106, R519)? -/
def countersigned (s : State) (f : ImageFacts) : Bool :=
  if s.nv.ownerPolicy then f.ownerKey == some s.nv.ownerHash else f.ownerKey.isSome

/-- An image's block of FW_STATUS. -/
def imageBlock (s : State) (k : Nat) : Bytes :=
  let i := imgOf s k
  match i.facts with
  | some f =>
    if f.header then b1 i.state ++ b1 (if countersigned s f then 1 else 0) ++ zeros 2 ++ le 4 f.version.toNat ++ le 4 f.size.toNat
    else b1 i.state ++ zeros 11
  | none => b1 i.state ++ zeros 11

/-- FW_STATUS (R519). -/
def fwStatus (s : State) : Bytes :=
  b1 s.sys.running ++ b1 s.nv.preferred ++ b1 (if s.nv.hold then 1 else 0) ++ b1 0 ++ le 4 s.nv.minVersion ++ imageBlock s 1 ++ imageBlock s 2

/-- 0x0A00 FW_STATUS. -/
def opFwStatus : OpDef := (reads 0 (fun _ _ => true) (fun _ s => fwStatus s)).safe

/-- The work of an update. -/
def fwOf (p : Bytes) (now : Nat) : FwWork :=
  { target := field p 0 1, source := field p 1 1, size := field p 4 4, addr := field p 8 8, crc := field p 16 4, accepted := 0, buffer := []
    written := 0, crcNow := 0xFFFFFFFF, lastData := now, version := 0 }

/-- The conditions of FW_UPDATE (R520). -/
def fwCheck (c : Cmd) (s : State) : Option (Nat × Bytes) :=
  let p := c.params
  badOrBusy (within 1 2 (field p 0 1) && decide (field p 1 1 ≤ 1) && within 65536 16777216 (field p 4 4) &&
    (if field p 1 1 = 0 then via c.origin == .pcie else field p 8 8 == 0)) (field p 0 1 == s.sys.running)

/-- 0x0A01 FW_UPDATE. -/
def opFwUpdate : OpDef :=
  { (classA 24 (fun c s => startOp 1 true (.fw (fwOf c.params s.clk.now)) c s)).safe with
    nMark := true, long := true, after := opsSettle, resv := fun p => allZero p 2 2 && allZero p 20 4, check := fwCheck,
    free := fun c s => s.ops.all (fun o => match o.work with
      | .fw w => !(o.live && w.target == field c.params 0 1)
      | _ => true) }

/-- The conditions of FW_DATA, in R521's order. -/
def fwDataCheck (c : Cmd) (s : State) : Option (Nat × Bytes) :=
  let n := c.len - 8
  match s.op? (field c.params 0 4) with
  | none => some (stNoSuchHandle, [])
  | some o =>
    if !o.live then some (stAlreadyFinished, [])
    else if o.state = .cancelling then some (stBusy, [])
    else match o.work with
    | .fw w =>
      if w.source ≠ 1 ∨ o.transport ≠ via c.origin then some (stBadParam, [])
      else if 131072 < w.buffer.length + n then some (stBusy, [])
      else if field c.params 4 4 ≠ w.accepted then some (stBadParam, le 4 w.accepted)
      else bad (decide (w.accepted + n ≤ w.size))
    | _ => some (stBadParam, [])

/-- FW_DATA: the bytes are held until they are written. -/
def fwData (p : Bytes) (s : State) : State :=
  match s.op? (field p 0 4) with
  | none => s
  | some o =>
    match o.work with
    | .fw w =>
      setOp { o with work := .fw { w with accepted := w.accepted + (p.length - 8), buffer := w.buffer ++ p.drop 8, lastData := s.clk.now } } s
    | _ => s

/-- 0x0A02 FW_DATA. -/
def opFwData : OpDef :=
  { (classA 9 (fun c s => (.done [], fwData c.params s))).safe with
    nMark := true, lenOk := fun n => decide (9 ≤ n) && decide (n ≤ 4048), check := fwDataCheck }

/-! ### Long-operation control (R92, R93) -/

/-- Has the type no suspend point (R91)? -/
def Op.noPoint (o : Op) : Bool := o.typ == 3 || o.typ == 9

/-- The conditions of OP_SUSPEND. -/
def suspendCheck (c : Cmd) (s : State) : Option (Nat × Bytes) :=
  match s.op? c.handle with
  | none => some (stNoSuchHandle, [])
  | some o =>
    if !o.live then some (stAlreadyFinished, [])
    else if o.state = .cancelling then some (stBusy, [])
    else if o.state = .running ∧ o.noPoint = true then some (stNotSuspendable, [])
    else none

/-- OP_SUSPEND: reason HOST, from reason SUPPLY too. -/
def opSuspend (h : Nat) (s : State) : State :=
  match s.op? h with
  | none => s
  | some o =>
    let o := if o.state = .running then o.move .suspending s.clk.now else o
    setOp { o with reason := .host } s

/-- The conditions of OP_RESUME. -/
def resumeCheck (c : Cmd) (s : State) : Option (Nat × Bytes) :=
  match s.op? c.handle with
  | none => some (stNoSuchHandle, [])
  | some o =>
    match o.state with
    | .running => none
    | .suspending => if o.reason = .host then none else some (stBusy, [])
    | .suspended => if o.reason = .supply ∧ s.pwr.auxWarn = true then some (stBusy, []) else none
    | .cancelling => some (stBusy, [])
    | _ => some (stAlreadyFinished, [])

/-- OP_RESUME: a request is withdrawn, or the work goes on after the reply. -/
def opResume (h : Nat) (s : State) : State :=
  match s.op? h with
  | none => s
  | some o =>
    match o.state with
    | .suspending => setOp { o.move .running s.clk.now with reason := .none } s
    | .suspended => setOp { o.move .running s.clk.now with reason := .none } s
    | _ => s

/-- The conditions of OP_CANCEL. -/
def cancelCheck (c : Cmd) (s : State) : Option (Nat × Bytes) :=
  match s.op? c.handle with
  | none => some (stNoSuchHandle, [])
  | some o => if o.live then none else some (stAlreadyFinished, [])

/-- OP_CANCEL: the operation begins to undo its work. -/
def opCancel (h : Nat) (s : State) : State :=
  match s.op? h with
  | none => s
  | some o => if o.state = .cancelling then s else setOp { o.move .cancelling s.clk.now with reason := .none } s

/-- 0x0B00 OP_QUERY. -/
def opOpQuery : OpDef :=
  { (classP 0 (fun c s => (.done (((s.op? c.handle).map (fun o => o.record s.clk.now)).getD []), s))).safe with
    check := fun c s => if (s.op? c.handle).isSome then none else some (stNoSuchHandle, []) }

/-- 0x0B01 OP_SUSPEND. -/
def opOpSuspend : OpDef := { classA 0 (fun c s => (.done [], opSuspend c.handle s)) with check := suspendCheck }

/-- 0x0B02 OP_RESUME. -/
def opOpResume : OpDef := { classA 0 (fun c s => (.done [], opResume c.handle s)) with check := resumeCheck, after := opsSettle }

/-- 0x0B03 OP_CANCEL. -/
def opOpCancel : OpDef := { classA 0 (fun c s => (.done [], opCancel c.handle s)) with check := cancelCheck }

end Sys2Proof.Machine
end

