-- ==== Sys2Proof/Machine/GcpTable.lean ====
section
/-! DEFINITION. The opcode table (R502 to R523): the row of each of the 107 opcodes, and of no other. -/

namespace Sys2Proof.Machine

/-- The row of an opcode. -/
def defOf (op : Nat) : Option OpDef :=
  match op with
  | 0x0100 => some opGetStatus
  | 0x0101 => some opGetResetCause
  | 0x0102 => some opSetBootPolicy
  | 0x0103 => some opEnterProvision
  | 0x0104 => some opCommitConfig
  | 0x0105 => some opEnterMaintenance
  | 0x0106 => some opEnterQuiesce
  | 0x0107 => some opReturnService
  | 0x0108 => some opResetDevice
  | 0x0109 => some opSetPowerState
  | 0x010A => some opAvsConfig
  | 0x010B => some opDeviceConfig
  | 0x0200 => some opGetSecurityStatus
  | 0x0201 => some opTakeOwnership
  | 0x0202 => some opInstallKey
  | 0x0203 => some opRevokeKey
  | 0x0204 => some opSetOwnerPolicy
  | 0x0205 => some opLockDevice
  | 0x0206 => some opSetMinVersion
  | 0x0207 => some opRetireDevice
  | 0x0208 => some opDebugChallenge
  | 0x0209 => some opDebugUnlock
  | 0x020A => some opDebugClose
  | 0x0300 => some opPortConfig
  | 0x0301 => some opPortSetState
  | 0x0302 => some opPortStatus
  | 0x0303 => some opLaneMap
  | 0x0304 => some opLaneTxEq
  | 0x0305 => some opLaneRxEq
  | 0x0306 => some opLaneStatus
  | 0x0307 => some opLaneTest
  | 0x0308 => some opLaneTestResult
  | 0x0309 => some opDlkConfig
  | 0x030A => some opDlkDelay
  | 0x030B => some opDlkStatus
  | 0x030C => some opClassMap
  | 0x030D => some opFlowControl
  | 0x030E => some opPortDelay
  | 0x030F => some opLosslessBudget
  | 0x0310 => some opEcnConfig
  | 0x0311 => some opLosslessStatus
  | 0x0312 => some opModuleRead
  | 0x0313 => some opModuleWrite
  | 0x0314 => some opModuleControl
  | 0x0315 => some opModuleBus
  | 0x0400 => some opXoConfig
  | 0x0401 => some opRefConfig
  | 0x0402 => some opDpllConfig
  | 0x0403 => some opEsmcConfig
  | 0x0404 => some opJumpResolve
  | 0x0405 => some opRefStatus
  | 0x0406 => some opDpllStatus
  | 0x0407 => some opSynBandTable
  | 0x0408 => some opSynConfig
  | 0x0409 => some opOutConfig
  | 0x040A => some opPpsConfig
  | 0x040B => some opTodConfig
  | 0x040C => some opClockStatus
  | 0x040D => some opPtpClockConfig
  | 0x040E => some opPtpPortConfig
  | 0x040F => some opTimeProperties
  | 0x0410 => some opStepTime
  | 0x0411 => some opTimeStatus
  | 0x0412 => some opTimePortStatus
  | 0x0413 => some opTraceReport
  | 0x0414 => some opTraceRead
  | 0x0500 => some opTdePin
  | 0x0501 => some opTdeSource
  | 0x0502 => some opEvConfig
  | 0x0503 => some opIntervalMeasure
  | 0x0504 => some opStatsRun
  | 0x0505 => some opStatsRead
  | 0x0506 => some opTdeStatus
  | 0x0600 => some opPoolConfig
  | 0x0601 => some opBufThreshold
  | 0x0602 => some opPoolStatus
  | 0x0603 => some opStopBath
  | 0x0604 => some opEgressSched
  | 0x0605 => some opDeadlockConfig
  | 0x0606 => some opDeadlockStatus
  | 0x0607 => some opSliceAssign
  | 0x0608 => some opSliceReturn
  | 0x0609 => some opSliceStatus
  | 0x060A => some opMcastGroup
  | 0x060B => some opMcastConfig
  | 0x0700 => some opTableBulkLoad
  | 0x0701 => some opFence
  | 0x0702 => some opTableShadow
  | 0x0703 => some opLearnConfig
  | 0x0704 => some opL2PortConfig
  | 0x0705 => some opFdbFlush
  | 0x0706 => some opTcamRebuild
  | 0x0707 => some opTableStatus
  | 0x0800 => some opNegStatus
  | 0x0801 => some opNegRead
  | 0x0802 => some opNegExport
  | 0x0900 => some opCalSweep
  | 0x0901 => some opCalStatus
  | 0x0902 => some opContactRestore
  | 0x0903 => some opContactStatus
  | 0x0A00 => some opFwStatus
  | 0x0A01 => some opFwUpdate
  | 0x0A02 => some opFwData
  | 0x0B00 => some opOpQuery
  | 0x0B01 => some opOpSuspend
  | 0x0B02 => some opOpResume
  | 0x0B03 => some opOpCancel
  | _ => none

end Sys2Proof.Machine
end

