-- ==== Sys2Proof/Machine/GcpRun.lean ====
section
/-! DEFINITION. How commands arrive on the three transports (R66 to R75, R529, R530), the order in which they start (R86), and their start deadlines (R87). -/

namespace Sys2Proof.Machine

/-! ### Starting commands (R68, R86) -/

/-- May the device take a command from the PCIe ring: armed, DMA allowed, and a reply entry free? -/
def pcieTakes (s : State) : Bool := s.mbx.enable && s.dma && s.mbx.held.isEmpty && s.mbx.replyRoom

/-- May the first waiting command of a transport start? -/
def canStart (t : Transport) (s : State) : Bool :=
  match (s.gcp.chan t).waiting with
  | [] => false
  | w :: _ => (s.gcp.chan t).due.isNone && (t != .pcie || w.expired || pcieTakes s)

/-- Judge a command by its opcode's row. -/
def runCommand (c : Cmd) (s : State) : State := judge (defOf c.opcode) c s

/-- The reply to a command whose start deadline has passed (R87): BUSY with EXPIRED. -/
def expiredReply (w : Waiting) (s : State) : Bytes :=
  let c : Cmd := ⟨w.origin, w.pkt⟩
  replyTo c (replyKey c none s) 8 stBusy 0 [] s

/-- Has a waiting command's start deadline passed on the device's own clock (R87)? -/
def Waiting.late (w : Waiting) (now : Nat) : Bool :=
  let t := (Cmd.mk w.origin w.pkt).timeout
  t != 0 && decide (w.received + t * msTicks ≤ now)

/-- Start the first waiting command of a transport; on PCIe, CMD_CI passes its entry. One whose deadline has passed is answered and does not start (R87). -/
def startOn (t : Transport) (s : State) : State :=
  match (s.gcp.chan t).waiting with
  | [] => s
  | w :: rest =>
    let s := modChan t (fun ch => { ch with waiting := rest }) s
    let s := if t = .pcie then { s with mbx := { s.mbx with cmdCi := (s.mbx.cmdCi + 1) % 256 } } else s
    if w.expired then s else if w.late s.clk.now then deliver w.origin (expiredReply w s) s else runCommand ⟨w.origin, w.pkt⟩ s

/-- The transports in the order of turns. -/
def turnOf (n : Nat) : Transport := if n % 3 = 0 then .pcie else if n % 3 = 1 then .inband else .sideband

/-- The next transport, from the one whose turn it is, that has a command to start. -/
def nextTurn (s : State) : Option Nat := ([0, 1, 2].map (fun k => (s.gcp.turn + k) % 3)).find? (fun n => canStart (turnOf n) s)

/-- Start commands, round-robin across the transports, as long as one can start. -/
def pumpLoop : Nat → State → State
  | 0, s => s
  | n + 1, s =>
    match nextTurn s with
    | none => s
    | some k => pumpLoop n (startOn (turnOf k) { s with gcp := { s.gcp with turn := (k + 1) % 3 } })

/-- The commands waiting on all transports. -/
def waitingCount (s : State) : Nat := s.gcp.pcie.waiting.length + s.gcp.inband.waiting.length + s.gcp.sideband.waiting.length

/-- Start what can start, once a POOL_CONFIG that waits for buffers has been looked at. -/
def pump (s : State) : State :=
  let s := poolsSettle s
  pumpLoop (waitingCount s) s

/-- A timebase period in which no command comes: time passes, and a POOL_CONFIG that waits for buffers is looked at. -/
def idleTick (s : State) : State :=
  let s := passTicks 1 s
  if s.core.poolsHold.isSome then pump s else s

/-- A packet is received on a transport. -/
def receive (o : Origin) (pkt : Bytes) (s : State) : State :=
  pump (modChan (via o) (fun ch => { ch with waiting := ch.waiting ++ [{ pkt := pkt, origin := o, received := s.clk.now, expired := false }] }) s)

/-! ### PCIe (R67 to R70, R529, R530) -/

/-- The entries a doorbell publishes: 4 KiB each, as host memory holds them. -/
def ringEntries (n now : Nat) (packets : List Bytes) : List Waiting :=
  (List.range n).map (fun i => { pkt := toLen 4096 (packets.getD i []), origin := .pcie, received := now, expired := false })

/-- A write of MBX_CMD_PI: the doorbell. -/
def doorbell (pi : Nat) (packets : List Bytes) (s : State) : State :=
  if s.sys.perst then s
  else
    let n := (pi + 256 - s.mbx.cmdPi % 256) % 256
    let s := { s with mbx := { s.mbx with cmdPi := pi % 256 } }
    if !s.mbx.enable then s
    else pump (modChan .pcie (fun ch => { ch with waiting := ch.waiting ++ ringEntries n s.clk.now packets }) s)

/-- A write of MBX_RPL_CI: reply entries are returned. -/
def repliesFreed (ci : Nat) (s : State) : State :=
  if s.sys.perst then s
  else
    let s := { s with mbx := { s.mbx with rplCi := ci % 256 } }
    pump (mbxDrain s.mbx.held.length s)

/-- A write of MBX_CTRL: arming sets the indices, posts what is held and takes commands from there (R530); disarming stops the taking, as PERST_N does. -/
def ringsArm (en : Bool) (s : State) : State :=
  if s.sys.perst then s
  else if !en then
    modChan .pcie (fun ch => { ch with waiting := [] }) { s with mbx := { s.mbx with enable := false } }
  else if s.mbx.enable then s
  else
    let s := { s with mbx := { s.mbx with enable := true, cmdCi := s.mbx.cmdPi, rplPi := s.mbx.rplCi } }
    pump (mbxDrain s.mbx.held.length s)

/-! ### In-band (R71 to R73) -/

/-- Is a frame a command frame to the device (R71)? -/
def isCommandFrame (f : InbandFrame) (s : State) : Bool :=
  (s.port f.port.val).isUp && f.dst == s.sys.deviceMac &&
  (match f.vlan with
   | none => true
   | some v => v.toNat == s.sys.mgmtVid && s.sys.mgmtVid != 0)

/-- In-band commands pending: waiting, or started with the reply due. -/
def inbandPending (s : State) : Nat := s.gcp.inband.waiting.length + (if s.gcp.inband.due.isSome then 1 else 0)

/-- Does R73 discard a command frame? `n` is the port's command frames of this second before it. -/
def inbandDiscards (f : InbandFrame) (n : Nat) (s : State) : Bool :=
  let c : Cmd := ⟨.inband f.port f.src f.vlan, f.payload⟩
  !(s.port f.port.val).cfg.mgmt || decide (f.payload.length < 32) || decide (f.payload.length < c.needs) || c.flags.testBit 1 ||
  decide (1000 ≤ n) || decide (64 ≤ inbandPending s)

/-- Count a command frame of a port in the present second. -/
def rateTick (p : Nat) (s : State) : Nat × State :=
  let sec := s.clk.now / secTicks
  let old := if s.gcp.rateSecond = sec then s.gcp.rateCount else []
  (old.get 0 p, { s with gcp := { s.gcp with rateSecond := sec, rateCount := old.modify 0 p (· + 1) } })

/-- A frame with EtherType 0x88B5 arrives and has its buffer. -/
def inbandFrame (f : InbandFrame) (s : State) : State :=
  if !isCommandFrame f s then s
  else
    let r := rateTick f.port.val s
    if inbandDiscards f r.1 r.2 then cntPort f.port.val 9 1 r.2
    else
      let c : Cmd := ⟨.inband f.port f.src f.vlan, f.payload⟩
      receive c.origin (f.payload.take c.needs) r.2

/-- INBAND_COMMAND_FRAME brings a frame whole: it is granted a buffer at the grant point, or is lost (R271, R292). -/
def inbandArrives (f : InbandFrame) (s : State) : State :=
  let x := passBuffer (s.quadSlice (quadOf f.port.val)) (max 64 (f.payload.length + 18)) s
  if x.1 then inbandFrame f x.2 else x.2

/-- The command frames received whole on ports are judged in order (R71, R176). -/
def arrivedDrain (s : State) : State :=
  s.gcp.arrived.foldl (fun s f => inbandFrame f s) { s with gcp := { s.gcp with arrived := [] } }

/-! ### The I2C sideband (R74, R75, R549) -/

/-- The sideband's address, by strap (R549). -/
def sbAddress (s : State) : Nat := 0x3A + s.sys.straps.val

/-- The PEC of a transfer: over the address byte with its direction bit, and what follows. -/
def sbPec (s : State) (read : Bool) (b : Bytes) : Bytes :=
  b1 (crc8 (b1 (2 * sbAddress s + (if read then 1 else 0)) ++ b))

/-- A transfer the device discards is counted (R75). -/
def sbBadCount (s : State) : State := { s with gcp := { s.gcp with sbBad := s.gcp.sbBad + 1 } }

/-- Is a write transfer in order: its length within 32 to 4,096 and that of the packet, and its PEC? -/
def sbGood (b : Bytes) (s : State) : Bool :=
  let n := field b 0 2
  within 32 4096 n && b.length == n + 3 && sbPec s false (b.take (n + 2)) == b.drop (n + 2)

/-- Is a sideband command pending? -/
def sbPending (s : State) : Bool := !s.gcp.sideband.waiting.isEmpty || s.gcp.sideband.due.isSome

/-- A write transfer: not acknowledged while a command is pending. -/
def sbWrite (b : Bytes) (s : State) : State :=
  if sbPending s then s
  else if !sbGood b s then sbBadCount s
  else receive .sideband (slice b 2 (field b 0 2)) { s with gcp := { s.gcp with sbReply := none } }

/-- A read transfer: the reply, or a length of zero while none is ready. -/
def sbRead (s : State) : State :=
  match s.gcp.sbReply with
  | none => s.send (.i2cReply (le 2 0))
  | some p => s.send (.i2cReply (le 2 p.length ++ p ++ sbPec s true (le 2 p.length ++ p)))

/-! ### Start deadlines (R87) -/

/-- Take an expired command out: on PCIe its entry stays in the ring until its turn. -/
def expire (t : Transport) (idx : Nat) (s : State) : State :=
  modChan t (fun ch => { ch with waiting :=
    if t = .pcie then ch.waiting.modify idx (fun w => { w with expired := true }) else ch.waiting.eraseIdx idx }) s

/-- A waiting command's deadline passes before it starts: BUSY with EXPIRED. -/
def deadline (t : Transport) (idx : Nat) (s : State) : State :=
  match (s.gcp.chan t).waiting[idx]? with
  | none => s
  | some w =>
    let c : Cmd := ⟨w.origin, w.pkt⟩
    if t = .firmware ∨ w.expired = true ∨ c.timeout = 0 then s
    else
      let s := expire t idx (advanceTo (w.received + c.timeout * msTicks) s)
      pump (notify w.origin (expiredReply w s) s)

/-! ### A command as its row gives it -/

/-- A command packet as its sender presents it: on PCIe the next ring entry and its doorbell, in-band a command frame, on the sideband a good write transfer. -/
def present (op : Nat) (g : Gcp) (s : State) : State :=
  let b := gcpBytes op g
  match g.origin with
  | .pcie => doorbell ((s.mbx.cmdPi + 1) % 256) [b] s
  | .inband p src vlan => inbandArrives { port := p, dst := s.sys.deviceMac, src := src, vlan := vlan, payload := b } s
  | .sideband => sbWrite (le 2 b.length ++ b ++ sbPec s false (le 2 b.length ++ b)) s

/-- The meaning of an opcode's row: the packet is presented, judged by R80, and carried out. -/
def gcpRow (op : Nat) (g : Gcp) (s : State) : Host.Outcome State Fault Refusal := live s (present op g)

/-- A due reply is written, and the transport's next command may start. -/
def replyDue (t : Transport) (status : Nat) (result : Bytes) (s : State) : State := pump (dueReply t status result s)

end Sys2Proof.Machine
end

