-- ==== Sys2Proof/Machine/DalomRows.lean ====
section
/-! DEFINITION. The rows of a Dalom link (R158 to R188): its bring-up events, its slots, and what arriving tiles do. -/

namespace Sys2Proof.Machine

/-! ### What every arriving tile does (R160, R161, R171, R180) -/

/-- The line of a lane, after a tile at position `pos`: the skip expected at 2,720 removed stuff symbols, the symbols removed in this tile, the good codewords in a row, and whether a MARK has come. -/
def rxLine (p l pos stuffed bad : Nat) (lost mark : Bool) (s : State) : State :=
  let s := modLine p l (fun x =>
    let x := if decide (2720 ≤ x.rxStuff) && pos != (x.rxPos + 1) % 1024 then { x with rxStuff := x.rxStuff - 2720, rxSkips := x.rxSkips + 1 } else x
    { x with rxStuff := x.rxStuff + stuffed, rxSince := x.rxSince + stuffed, rxPos := pos }) s
  let s := modTrain p l (fun x => if lost then { x with run8 := 0 } else { x with run8 := min 8 (x.run8 + 1), marked := x.marked || mark }) s
  modDlk p (fun d => { d with stuffCount := wrapAdd 32 d.stuffCount stuffed, stuffBad := wrapAdd 32 d.stuffBad bad }) s

/-- A lost tile (R156, R171): counted, nothing taken from it; a mark in it is missed, and training loses its run. -/
def lostCount (p l : Nat) (mark : Bool) (s : State) : State :=
  modDlk p (fun d =>
    { d with tilesLost := wrapAdd 32 d.tilesLost 1, marksMissed := if mark then wrapAdd 32 d.marksMissed 1 else d.marksMissed,
             trains := d.trains.modify DlkTrain.reset l (fun t => { t with good := 0, trainRun := 0 }) }) s

/-- The striped tile number passes a tile that is not taken, where the partner stripes on its lane (log 110). -/
def tilePasses (p l : Nat) (s : State) : State :=
  modDlk p (fun d => if d.rxStripe.testBit l && decide (d.rxTileNo < 16) then { d with rxTileNo := (d.rxTileNo + 1) % 16 } else d) s

/-- A lost tile of a lane in turn: its number passes, and every frame in progress is abandoned where the tile was a striped one (R156, log 110). -/
def tileLost (p l : Nat) (mark : Bool) (s : State) : State :=
  let striped := (s.dlk p).rxStripe.testBit l
  let s := tilePasses p l (lostCount p l mark s)
  if striped then abandonAll p s else s

/-- A credit return in a header (R168). -/
def headerCredit (p credit : Nat) (s : State) : State :=
  let c := credit % 8
  let s := modDlk p (fun d =>
    let seen := d.returnsSeen.get 0 c
    { d with returnsSeen := d.returnsSeen.set c (wrapAdd 32 seen ((credit / 8 + 32 - seen % 32) % 32)) }) s
  recredit p s

/-! ### CREDIT and ABORT (R169) -/

/-- Reconcile credits with a CREDIT or ABORT tile (R168, R169). -/
def reconcile (p : Nat) (b : Bytes) (s : State) : State :=
  let s := (List.range 8).foldl (fun s c =>
    let d := s.dlk p
    let miss := (field b (4 * c) 4 + 2 * 2 ^ 32 - d.accounted.get 0 c - d.recovered.get 0 c) % 2 ^ 32
    if creditClass s p c && decide (0 < miss ∧ miss < 2 ^ 31) then
      creditReturn p c miss (modDlk p (fun d =>
        { d with recovered := d.recovered.modify 0 c (fun v => wrapAdd 32 v miss), creditRecovered := wrapAdd 32 d.creditRecovered miss }) s)
    else s) s
  recredit p (modDlk p (fun d =>
    { d with returnsSeen := (List.range 8).foldl (fun (t : Tab Nat) c => t.set c (field b (32 + 4 * c) 4)) d.returnsSeen }) s)

/-! ### DATA (R164) -/

/-- A closing segment's charge is accounted (R169). -/
def account (p c charge : Nat) (s : State) : State :=
  if creditClass s p c then modDlk p (fun d => { d with accounted := d.accounted.modify 0 c (fun v => wrapAdd 32 v charge) }) s else s

/-- Credits of a frame or closing segment discarded at once return at once (R168). -/
def returnNow (p c charge : Nat) (s : State) : State := if creditClass s p c then creditReturn p c charge s else s

/-- Data bytes join the frame a class is receiving; at 128 bytes, or at the end, it reaches its grant point with the timestamp of its FIRST (R166, R271). -/
def segBytes (p c : Nat) (data : Bytes) (ended : Bool) (s : State) : State :=
  match (s.dlk p).segRx.find? c with
  | none => s
  | some x =>
    let b := x.bytes ++ data
    if x.oversize || decide ((s.port p).cfg.maxFrame < b.length) then
      modDlk p (fun d => { d with segRx := d.segRx.set c { x with oversize := true } }) s
    else if x.frame.isNone && (decide (128 ≤ b.length) || (ended && decide (64 ≤ b.length))) then
      let g := grantPoint p c b ended x.stamp s
      modDlk p (fun d => { d with segRx := d.segRx.set c { x with bytes := b, frame := some g.1 } }) g.2
    else modDlk p (fun d => { d with segRx := d.segRx.set c { x with bytes := b } }) s

/-- The frame of a class is discarded at its closing segment (R164): its charge returned at once. -/
def segDiscard (p c charge : Nat) (cnt : Option Nat) (s : State) : State :=
  let s := match cnt with
    | some k => cntPort p k 1 s
    | none => s
  returnNow p c charge (segDrop p c s)

/-- A closing segment with code END (R164). -/
def segEnd (p c charge : Nat) (s : State) : State :=
  match (s.dlk p).segRx.find? c with
  | none => s
  | some x =>
    if x.oversize then segDiscard p c charge (some 7) s
    else match x.frame with
      | none => segDiscard p c charge (some 6) s
      | some id =>
        let s := modDlk p (fun d => { d with segRx := d.segRx.erase c }) s
        match s.frame? id with
        | none => returnNow p c charge s
        | some f => endFrame id (x.bytes.drop f.bytes.length) s

/-- The timestamp of a received byte at payload offset `o` of a tile (R166, R415): the tile's captured start, (20 + 8 × o) bit periods, a symbol period for each stuff symbol removed before it, less RX_FIXED. -/
def byteArrives (s : State) (p : Nat) (t : DlkTile) (o : Nat) : Int :=
  let speed := (s.port p).cfg.speed
  let stuffed := (t.stuffAt.filter (fun k => decide (k ≤ 10 + 4 * o))).length
  t.start + bitTime speed (20 + 8 * o : Nat) + symTime speed (stuffed : Nat) - unit16 (rxFixedNow s p t.lane.val (s.dlk p).extRx)

/-- One FRAME segment of a tile (R164). An oversize frame is counted as such whatever code closes it. -/
def segmentRx (p : Nat) (t : DlkTile) (g : Tile.Seg) (s : State) : State :=
  let c := g.tc
  let closing := g.code != 0
  let s := if closing then account p c g.charge s else s
  let s := if g.first then
      modDlk p (fun d => { d with segRx := d.segRx.set c { bytes := [], oversize := false, frame := none, stamp := byteArrives s p t g.off } }) (segDrop p c s)
    else s
  if ((s.dlk p).segRx.find? c).isNone then (if closing then returnNow p c g.charge s else s)
  else
    let s := segBytes p c g.data (g.code == 1) s
    if g.code = 1 then segEnd p c g.charge s
    else if g.code = 2 then segDiscard p c g.charge (if (((s.dlk p).segRx.find? c).map (·.oversize)).getD false then some 7 else none) s
    else s

/-- The segments of a payload in order; one that cannot be read abandons every frame in progress (R164). -/
def segmentsRx (p : Nat) (t : DlkTile) (l : List Tile.Seg) (s : State) : State :=
  l.foldl (fun s g => if g.bad then abandonAll p s else if g.kind = 1 then segmentRx p t g s else s) s

/-! ### Marks and TIME (R171, R174) -/

/-- A mark arrives on a lane (R171, R172): the raw latch corrected by the symbols removed and the skips since the last one. The time lane's captures are used from its next mark on (R175). -/
def markArrives (p l index : Nat) (raw : Int) (s : State) : State :=
  if !sendsTiles (s.port p) then s
  else
    let ln := (s.dlk p).lineOf l
    let t := raw + symTime (s.port p).cfg.speed ((ln.rxSince : Int) - 2720 * ln.rxSkips)
    let m : MarkCap := { index := index % 2 ^ 48, lane := l, time := t, refined := false }
    modLine p l (fun x => { x with rxSince := 0, rxSkips := 0 }) (modDlk p (fun d =>
      let use := if l = d.rxTime then l else d.arrLane
      let marks := keepMark m d.marksRx
      { d with marksRx := marks, arrLane := use, offRx := laneOffsets marks m.index use d.offRx }) s)

/-- SHUTTER_MARK_ARRIVAL. -/
def execShutterMarkArrival (p : Port) (l : Fin 4) (index : BitVec 48) (raw : Int) (s : State) : Host.Outcome State Fault Refusal :=
  live s (markArrives p.val l.val index.toNat raw)

/-- A capture of a mark on a lane. -/
def markOf (l : List MarkCap) (index lane : Nat) : Option Int :=
  (l.find? (fun m => m.index == index && m.lane == lane)).map (fun (m : MarkCap) => m.time)

/-- A time of day of 12 bytes, in 2^-16 ns (R173). -/
def readTime (b : Bytes) (o : Nat) : Int :=
  (field b o 6 : Int) * sec16 + (field b (o + 6) 4 : Int) * 65536 + (field b (o + 10) 2 : Int)

/-- The fixed delays of a pair in 2^-16 ns (R174): tx_fixed_a, rx_fixed_b on ARR_LANE; tx_fixed_b, rx_fixed_a on DEP_LANE. -/
def pairFixed (a b : CapRec) (arr dep : Nat) : Int × Int × Int × Int :=
  (unit16 (a.txFixed.getD arr 0), unit16 (b.rxFixed.getD arr 0), unit16 (b.txFixed.getD dep 0), unit16 (a.rxFixed.getD dep 0))

/-- What R174 computes from four times: rtt, offset and one_way. -/
def pairValues (t1 t2 t3 t4 : Int) (fx : Int × Int × Int × Int) (asym : Int) : Int × Int × Int :=
  let fwd := (t2 - t1) - fx.1 - fx.2.1
  let rev := (t4 - t3) - fx.2.2.1 - fx.2.2.2
  let rtt := fwd + rev
  let drx := rtt * (1000000000 + asym) / 2000000000
  (rtt, rev - drx, (rtt + fx.1 + fx.2.1 + fx.2.2.1 + fx.2.2.2) / 2)

/-- The mean of values. -/
def meanNat (l : List Nat) : Nat := if l.isEmpty then 0 else l.sum / l.length

/-- A pair's values are taken (R174, R17, R20): DELAY_VALID, the mean of the last 1,024 as the delay in use, and a phase sample where the partner is the parent. -/
def pairTaken (p : Nat) (v : Int × Int × Int) (s : State) : State :=
  let s := modDlk p (fun d =>
    { d with rtt := v.1.toNat, offset := v.2.1, oneWay := v.2.2.toNat, oneWays := (v.2.2.toNat :: d.oneWays).take 1024, delayValid := true }) s
  let s := modFlow p (fun f => { f with measured := some (meanNat (s.dlk p).oneWays) }) s
  let s := modPtp p (fun q => { q with pairAt := some s.clk.now }) s
  let s := exchangeCheck p (headroomRecompute p s)
  if s.tim.time.parent = some p then takeSample p v.2.1 s else s

/-- This end's CAP content with the fixed delays in force (R174, R191, R466). -/
def fixedNow (s : State) (p : Nat) : CapRec :=
  let d := s.dlk p
  { d.own with txFixed := fourLanes.map (fun l => txFixedNow s p l d.extTx), rxFixed := fourLanes.map (fun l => rxFixedNow s p l d.extRx) }

/-- A TIME tile's content (R173, R174, R412): the announce block and generation are kept, and the pair is formed where its four times are there. -/
def timeRx (p : Nat) (b : Bytes) (s : State) : State :=
  let ann := slice b 52 204
  let s := modDlk p (fun d => { d with partnerAnnounce := ann, peerTimeGen := field b 38 2 }) s
  let s := modEsmc p (fun e => { e with ssm := field ann 1 1, essm := field ann 2 1, got := some s.clk.now, timeout := false }) s
  let d := s.dlk p
  let dep := field b 36 1
  let arr := field b 37 1
  match d.partner, markOf d.marksTx (field b 18 6) arr, markOf d.marksRx (field b 0 6) dep with
  | some r, some t1, some t4 =>
    pairTaken p (pairValues (asTod s t1) (readTime b 24) (readTime b 6) (asTod s t4) (pairFixed (fixedNow s p) r arr dep) d.asym) s
  | _, _, _ => modDlk p (fun d => { d with marksMissed := wrapAdd 32 d.marksMissed 1 }) s

/-! ### TRAIN (R178, R179) -/

/-- The tap a request names, moved by 2 or preset; none where the limits of R131 refuse it. -/
def movedTaps (dflt taps : List Int) (tap action : Nat) : Option (List Int) :=
  let t := if tap = 6 then dflt
    else if action = 1 then taps.set (tap - 1) (taps.getD (tap - 1) 0 + 2)
    else if action = 2 then taps.set (tap - 1) (taps.getD (tap - 1) 0 - 2) else taps
  if tapsOk t then some t else none

/-- A partner request to a transmitter lane, acted on once (R179): refused where the lane is FIXED (R153). -/
def answerRequest (p l tap action seq : Nat) (s : State) : State :=
  let g := txLaneOf s p l
  if tap = 0 || decide (6 < tap) || seq == ((s.dlk p).train l).lastReq then s
  else if !(s.lane g).txTrained then modTrain p l (fun t => { t with lastReq := seq, respStatus := 2 }) s
  else match movedTaps (s.port p).cfg.rate.taps (tapsInUse s g) tap action with
    | some ts => modTrain p l (fun t => { t with lastReq := seq, respStatus := 0 }) (modLane g (fun r => { r with taps := ts, trainedTaps := true }) s)
    | none => modTrain p l (fun t => { t with lastReq := seq, respStatus := 1 }) s

/-- What the receiver of lane `l` judges and asks (R179): RX_READY from the first open eye on, else a new request when the last one has been answered. -/
def ownRequest (p l : Nat) (eye : Bool) (tap action answered : Nat) (s : State) : State :=
  modTrain p l (fun t =>
    if eye || t.rxReady then { t with rxReady := true, reqTap := 0, reqAction := 0 }
    else if tap ≠ 0 ∧ (t.reqTap = 0 ∨ answered = t.reqSeq) then { t with reqTap := tap, reqAction := action, reqSeq := (t.reqSeq + 1) % 256 }
    else t) s

/-- A control block for a lane (R179): a wrong LANE holds the lane and sets LANE_ORDER; RX_READY counts towards 16 in a row. -/
def controlRx (p l : Nat) (blk : Option Bytes) (eye : Bool) (tap action : Nat) (s : State) : State :=
  match blk with
  | none => modTrain p l (fun t => { t with good := 0 }) s
  | some b =>
    if field b 6 1 ≠ l then modTrain p l (fun t => { t with good := 0 }) (modDlk p (fun d => { d with laneOrder := true }) s)
    else
      let s := answerRequest p l (field b 0 1) (field b 1 1) (field b 2 1) s
      let s := ownRequest p l eye tap action (field b 3 1) s
      modTrain p l (fun t =>
        let n := if (field b 5 1).testBit 0 then min 16 (t.good + 1) else 0
        { t with good := n, complete := t.complete || decide (16 ≤ n ∧ 16 ≤ t.sent) }) s

/-- The control block for a lane that trains in the background goes by CAP kind 3 while the reverse lane is in service (R187); one is kept waiting. -/
def reverseBlock (p l : Nat) (s : State) : State :=
  let d := s.dlk p
  if !stripes (s.port p) || !d.txActive.testBit l || d.caps.any (fun c => c.1 == 3 && c.2.1 == l) then s
  else
    let s := queueCap p 3 l (trainBlock s p l) s
    modTrain p l (fun t =>
      let n := if t.rxReady then min 16 (t.sent + 1) else 0
      { t with sent := n, complete := t.complete || decide (16 ≤ t.good ∧ 16 ≤ n) }) s

/-- Lanes in receive service for PARTNER_RESTART: the trained ones in LOCK. -/
def inService (s : State) (p : Nat) : Nat := if (s.port p).st = .lock then (s.dlk p).trained else (s.dlk p).rxGood

/-- Eight TRAIN tiles in a row on every lane in receive service, after striped tiles: the partner has restarted (R177). -/
def partnerRestarts (s : State) (p : Nat) : Bool :=
  let d := s.dlk p
  let st := (s.port p).st
  let m := inService s p
  (st == .lock || st == .exchange || st == .active) && d.striped && m != 0 &&
  fourLanes.all (fun k => !m.testBit k || decide (8 ≤ (d.train k).trainRun))

/-- Does lane `l` train at this end: in TRAIN, and out of receive service in EXCHANGE and ACTIVE but for its back-off (R177, R187)? -/
def laneTrains (s : State) (p l : Nat) : Bool :=
  let d := s.dlk p
  (s.port p).st == .dlkTrain || (stripes (s.port p) && !d.rxGood.testBit l && d.bgState.get 0 l != 2)

/-- A TRAIN tile (R168, R177, R178, R179): its header's credit return is taken where credits run; training where the lane is not in service. -/
def trainRx (p : Nat) (t : DlkTile) (eye : Bool) (tap action : Nat) (s : State) : State :=
  let l := t.lane.val
  let s := modTrain p l (fun x => { x with trainRun := x.trainRun + 1 }) s
  let s := if stripes (s.port p) then
      headerCredit p t.credit.toNat (modDlk p (fun d => { d with rxStripe := clearBit d.rxStripe l }) s)
    else s
  if partnerRestarts s p then dlkLeave p .detect 14 0xFF s
  else if laneTrains s p l then reverseBlock p l (controlRx p l (Tile.control t.payload) eye tap action s)
  else s

/-! ### CAP (R181 to R184, R187) -/

/-- The content of two CAP messages of kind 0, but for CAP_SEQ and ACK_SEQ. -/
def sameCap (a b : CapRec) : Bool := decide ({ a with seq := 0, ack := 0 } = { b with seq := 0, ack := 0 })

/-- Note what a CAP says of sequence numbers, and acknowledge it in the CAPs to come. -/
def capHeard (p : Nat) (b : Bytes) (s : State) : State :=
  modDlk p (fun d => { d with own := { d.own with ack := field b 2 2 },
                              partner := d.partner.map (fun (r : CapRec) => { r with seq := field b 2 2, ack := field b 4 2 }) }) s

/-- Both ends at role 1, or both at 3 (R188). -/
def clash (a b : Nat) : Bool := a == b && (a == 1 || a == 3)

/-- CAP kind 0 (R182, R177): in EXCHANGE checked and taken, the first one naming the lanes with which the partner starts; in ACTIVE acknowledged, or the link goes down where its content has changed. -/
def capExchangeRx (p : Nat) (b : Bytes) (s : State) : State :=
  let r := readCap b
  match (s.port p).st with
  | .exchange =>
    if r.version ≠ 1 ∨ r.speed ≠ (s.port p).cfg.speed ∨ r.lanes ≠ 4 then dlkBackoff p 12 0xFF s
    else
      let first := (s.dlk p).partner.isNone
      let s := modDlk p (fun d => { d with partner := some r, own := { d.own with ack := r.seq }, roleClash := clash d.role r.role }) s
      let s := if first then stripeStart p r.rxGood s else restripe p r.rxGood s
      exchangeCheck p (recredit p s)
  | .active =>
    if ((s.dlk p).partner.map (fun (q : CapRec) => sameCap q r)).getD false then queueCap p 1 0 [] (capHeard p b s)
    else dlkLeave p .detect 13 0xFF s
  | _ => s

/-- CAP kind 1 (R183, R184, R187): the lanes the partner receives on. -/
def capLaneRx (p : Nat) (b : Bytes) (s : State) : State :=
  let m := field b 8 1 % 16
  if (s.dlk p).partner.isNone then s
  else
    let s := modDlk p (fun d => { d with partner := d.partner.map (fun (r : CapRec) => { r with rxGood := m }) }) (capHeard p b s)
    exchangeCheck p (restripe p m s)

/-- CAP kind 2 (R181): the partner's fixed delays and CAL_STAMP. -/
def capDelayRx (p : Nat) (b : Bytes) (s : State) : State :=
  let q := readCap b
  let s := modDlk p (fun d => { d with partner := d.partner.map (fun (r : CapRec) =>
    { r with txFixed := q.txFixed, rxFixed := q.rxFixed, calStamp := q.calStamp }) }) (capHeard p b s)
  exchangeCheck p s

/-- CAP kind 3 (R187): a control block for a transmitter lane that retrains. -/
def capTrainRx (p : Nat) (b : Bytes) (s : State) : State :=
  let l := field b 104 1 % 4
  let s := capHeard p b s
  if stripes (s.port p) then answerRequest p l (field b 108 1) (field b 109 1) (field b 110 1) s else s

/-! ### Tiles in order of slot and lane (R158) -/

/-- What a striped tile that is taken does, by its type, with its payload descrambled. In EXCHANGE the segments of a DATA tile are not parsed: DESIGN CHOICE (log 113), for the spec does not say what becomes of them where the partner has become ACTIVE first. -/
def tileTake (p : Nat) (k : RxKind) (t : DlkTile) (b : Bytes) (s : State) : State :=
  match k with
  | .data => if (s.port p).st = .active then segmentsRx p t (Tile.parse 161 0 b) s else s
  | .credit => reconcile p b s
  | .time => timeRx p b s
  | .abort => degradeDone p (reconcile p b (abandonAll p s))
  | .cap 0 => capExchangeRx p b s
  | .cap 1 => capLaneRx p b s
  | .cap 2 => capDelayRx p b s
  | .cap _ => capTrainRx p b s
  | .idle => s
  | .lost => s
  | .train _ _ _ => s

/-- Has a striped tile the number the receiver expects (R156)? An ABORT may also carry that of the first tile of its slot, since it tells of lanes that have gone (R184, log 110). -/
def lseqOk (d : Dlk) (k : RxKind) (lseq : Nat) : Bool :=
  decide (16 ≤ d.rxTileNo) || d.rxTileNo == lseq || (k == .abort && d.slotBase == lseq)

/-- A striped tile in turn (R156, R158, R168): on a lane out of service, or with another number, it is lost, and the receiver counts on from the number it carries (log 110); else its header's credit return is taken and its type does the rest. -/
def stripedRx (p : Nat) (k : RxKind) (t : DlkTile) (s : State) : State :=
  let l := t.lane.val
  let d := s.dlk p
  let next := (t.lseq.val + 1) % 16
  let s := modTrain p l (fun x => { x with trainRun := 0 }) s
  if !d.rxGood.testBit l then
    modDlk p (fun d => { d with rxTileNo := next, striped := true, rxStripe := setBit d.rxStripe l }) (lostCount p l t.mark (abandonAll p s))
  else if !lseqOk d k t.lseq.val then
    modDlk p (fun d => { d with rxTileNo := next, rxStripe := setBit (d.rxStripe &&& d.rxGood) l }) (lostCount p l t.mark (abandonAll p s))
  else
    let s := modDlk p (fun d => { d with rxTileNo := next, striped := true, rxStripe := setBit d.rxStripe l }) s
    let s := readmitDone p (2 ^ l) s
    tileTake p k t (Tile.scramble t.pos.val l t.payload) (headerCredit p t.credit.toNat s)

/-- A tile in turn in EXCHANGE or ACTIVE. -/
def tileTurn (p : Nat) (x : RxTile) (s : State) : State :=
  match x.kind with
  | .lost => tileLost p x.tile.lane.val x.tile.mark s
  | .train e a b => trainRx p x.tile e a b s
  | k => stripedRx p k x.tile s

/-- How far slot position `pos` lies behind `at'`, modulo 1,024. -/
def slotAhead (pos at' : Nat) : Nat := (pos + 1024 - at') % 1024

/-- Is the tile of lane `l` for the slot in turn waited for: a lane that serves or on which the partner stripes, that still delivers, and whose last tile lies before that slot? -/
def laneAwaited (s : State) (p l : Nat) : Bool :=
  let d := s.dlk p
  let r := s.lane (rxLaneOf s p l)
  (d.rxGood ||| d.rxStripe).testBit l && !r.lol && !r.los && decide (512 ≤ slotAhead (d.lineOf l).rxPos d.rxAt)

/-- Lane `l` has its turn without a tile: a skip, or a lane that delivers none. The number of a failed lane's striped tile passes all the same. -/
def lanePasses (p l : Nat) (s : State) : State :=
  let s := if (s.lane (rxLaneOf s p l)).lol then tilePasses p l s else s
  modDlk p (fun d => { d with rxDone := setBit d.rxDone l }) s

/-- The turn goes to the next slot. -/
def slotTurn (p : Nat) (s : State) : State :=
  modDlk p (fun d => { d with rxAt := (d.rxAt + 1) % 1024, rxDone := 0, slotBase := d.rxTileNo }) s

/-- Tiles are taken in order of slot and logical lane, as far as they have come (R158). A tile awaited while another lane is four slots ahead lies outside the skew tolerated, and counts as lost (log 110). -/
def tileDrain (p : Nat) : Nat → State → State
  | 0, s => s
  | n + 1, s =>
    let d := s.dlk p
    if d.rxBuf.isEmpty then s
    else match fourLanes.find? (fun l => !d.rxDone.testBit l) with
      | none => tileDrain p n (slotTurn p s)
      | some l =>
        match d.rxBuf.find? (fun x => x.tile.lane.val == l && x.tile.pos.val == d.rxAt) with
        | some x =>
          tileDrain p n (tileTurn p x (modDlk p (fun d => { d with rxBuf := d.rxBuf.erase x, rxDone := setBit d.rxDone l }) s))
        | none =>
          if !laneAwaited s p l then tileDrain p n (lanePasses p l s)
          else if d.rxBuf.any (fun x => decide (4 ≤ slotAhead x.tile.pos.val d.rxAt)) then
            tileDrain p n (modDlk p (fun d => { d with rxDone := setBit d.rxDone l }) (tileLost p l (d.rxAt == 0) s))
          else s

/-- A tile that comes after its turn (R158): a TRAIN tile still trains, any other is lost. -/
def tileLate (p : Nat) (x : RxTile) (s : State) : State :=
  match x.kind with
  | .train e a b => trainRx p x.tile e a b s
  | _ => lostCount p x.tile.lane.val x.tile.mark s

/-- A tile outside EXCHANGE and ACTIVE: TRAIN tiles train; a striped one is noted in LOCK; a lost one is counted. -/
def tileEarly (p : Nat) (x : RxTile) (s : State) : State :=
  match x.kind with
  | .lost => lostCount p x.tile.lane.val x.tile.mark s
  | .train e a b => trainRx p x.tile e a b s
  | _ =>
    let s := modTrain p x.tile.lane.val (fun t => { t with trainRun := 0 }) s
    if (s.port p).st = .lock then modDlk p (fun d => { d with striped := true }) s else s

/-- A tile arrives on a lane of a port that sends tiles. -/
def tileRx (p : Nat) (k : RxKind) (t : DlkTile) (s : State) : State :=
  if !sendsTiles (s.port p) then s
  else
    let l := t.lane.val
    let s := rxLine p l t.pos.val t.stuffAt.length t.stuffBad (k == .lost) t.mark s
    let x : RxTile := { kind := k, tile := t }
    if !stripes (s.port p) then tileEarly p x s
    else
      let d := s.dlk p
      let n := slotAhead t.pos.val d.rxAt
      if 512 ≤ n ∨ (n = 0 ∧ d.rxDone.testBit l = true) then tileLate p x s
      else tileDrain p 5200 (modDlk p (fun d => { d with rxBuf := d.rxBuf ++ [x] }) s)

/-- A tile's row: what it does, and the in-band commands its frames carried (R176). -/
def tileRow (p : Port) (k : RxKind) (t : DlkTile) (s : State) : Host.Outcome State Fault Refusal :=
  live s (fun s => arrivedDrain (tileRx p.val k t s))

/-- DLK_DATA_TILE_RX (R164). -/
def execDlkDataTileRx (p : Port) (t : DlkTile) (s : State) : Host.Outcome State Fault Refusal := tileRow p .data t s
/-- DLK_IDLE_TILE_RX: only the header's credit return is taken (R168). -/
def execDlkIdleTileRx (p : Port) (t : DlkTile) (s : State) : Host.Outcome State Fault Refusal := tileRow p .idle t s
/-- DLK_CREDIT_TILE_RX (R169). -/
def execDlkCreditTileRx (p : Port) (t : DlkTile) (s : State) : Host.Outcome State Fault Refusal := tileRow p .credit t s
/-- DLK_ABORT_TILE_RX: every frame in progress ends, then as CREDIT; it answers a degrade (R169, R183). -/
def execDlkAbortTileRx (p : Port) (t : DlkTile) (s : State) : Host.Outcome State Fault Refusal := tileRow p .abort t s
/-- DLK_TIME_TILE_RX (R174). -/
def execDlkTimeTileRx (p : Port) (t : DlkTile) (s : State) : Host.Outcome State Fault Refusal := tileRow p .time t s
/-- DLK_TRAIN_TILE_RX (R179). -/
def execDlkTrainTileRx (p : Port) (t : DlkTile) (eye : Bool) (tap : Fin 7) (action : Fin 3) (s : State) : Host.Outcome State Fault Refusal :=
  tileRow p (.train eye tap.val action.val) t s
/-- DLK_CAP_EXCHANGE_RX (R182). -/
def execDlkCapExchangeRx (p : Port) (t : DlkTile) (s : State) : Host.Outcome State Fault Refusal := tileRow p (.cap 0) t s
/-- DLK_CAP_LANE_STATE_RX (R184). -/
def execDlkCapLaneStateRx (p : Port) (t : DlkTile) (s : State) : Host.Outcome State Fault Refusal := tileRow p (.cap 1) t s
/-- DLK_CAP_DELAY_UPDATE_RX (R181). -/
def execDlkCapDelayUpdateRx (p : Port) (t : DlkTile) (s : State) : Host.Outcome State Fault Refusal := tileRow p (.cap 2) t s
/-- DLK_CAP_LANE_TRAIN_RX (R187). -/
def execDlkCapLaneTrainRx (p : Port) (t : DlkTile) (s : State) : Host.Outcome State Fault Refusal := tileRow p (.cap 3) t s

/-- The record of a lost tile: its lane, position and mark, and the stuff symbols removed in it. -/
def lostTile (l : Fin 4) (pos : Fin 1024) (mark : Bool) (stuffed bad : Nat) : DlkTile :=
  { lane := l, pos := pos, credit := 0, mark := mark, lseq := 0, payload := [], start := 0, stuffAt := List.replicate stuffed 0, stuffBad := bad }

/-- TILE_LOST (R156). -/
def execTileLost (p : Port) (l : Fin 4) (pos : Fin 1024) (mark : Bool) (stuffed stuffBad : Nat) (s : State) : Host.Outcome State Fault Refusal :=
  tileRow p .lost (lostTile l pos mark stuffed stuffBad) s

/-- DLK_CAP_EXCHANGE_TX: every 10 µs in EXCHANGE (R182). -/
def execDlkCapExchangeTx (p : Port) (s : State) : Host.Outcome State Fault Refusal :=
  live s (fun s => if (s.port p.val).st = .exchange then queueCap p.val 0 0 [] (refreshOwn p.val s) else s)

/-- DLK_SLOT; `deps` the captured start of each lane's tile. -/
def execDlkSlot (p : Port) (deps : List Int) (s : State) : Host.Outcome State Fault Refusal :=
  live s (fun s => settle (dlkSlot p.val deps s))

/-! ### Bring-up (R177) -/

/-- DLK_MODULE_READY: the module is present and ready; DETECT ends where LOS is clear on enough lanes. -/
def execDlkModuleReady (p : Port) (s : State) : Host.Outcome State Fault Refusal :=
  live s (fun s => dlkTry p.val (moduleFound p.val s))

/-- Lanes that have completed training. -/
def trainedMask (s : State) (p : Nat) : Nat := laneMask (fun l => ((s.dlk p).train l).complete && !(s.lane (rxLaneOf s p l)).los)

/-- Enter LOCK with the trained lanes. -/
def lockEnter (p m : Nat) (s : State) : State :=
  modDlk p (fun d => { d with trained := m, striped := false }) (modPort p (fun r => { r with st := .lock }) s)

/-- DLK_TRAINING_COMPLETE: every lane with LOS clear has completed training. -/
def execDlkTrainingComplete (p : Port) (s : State) : Host.Outcome State Fault Refusal :=
  live s (fun s =>
    let m := trainedMask s p.val
    if (s.port p.val).st = .dlkTrain ∧ m ≠ 0 ∧ m = losClear s p.val then lockEnter p.val m s else s)

/-- DLK_TRAIN_TIMEOUT: 500 ms in TRAIN; `half` says that every lane with LOS clear recovers within 1,000 ppm of half or twice the configured symbol rate. -/
def execDlkTrainTimeout (p : Port) (half : Bool) (s : State) : Host.Outcome State Fault Refusal :=
  live s (fun s =>
    let m := trainedMask s p.val
    if (s.port p.val).st ≠ .dlkTrain then s
    else if (s.dlk p.val).minLanes ≤ popcount 4 m then lockEnter p.val m s
    else dlkBackoff p.val (if half then 11 else 9) 0xFF s)

/-- Trained lanes that the receiver reports locked and that meet R180; a lane whose skew to a lower locked one is out of limits is not locked (log 110). -/
def lockedMask (s : State) (p m : Nat) : Nat :=
  fourLanes.foldl (fun a l =>
    if (s.dlk p).trained.testBit l && m.testBit l && laneReady s p l && fourLanes.all (fun k => !a.testBit k || skewOk s p l k)
    then setBit a l else a) 0

/-- DLK_LANES_LOCKED: every trained lane is locked. -/
def execDlkLanesLocked (p : Port) (locked : BitVec 4) (s : State) : Host.Outcome State Fault Refusal :=
  live s (fun s =>
    let m := lockedMask s p.val locked.toNat
    if (s.port p.val).st = .lock ∧ m = (s.dlk p.val).trained ∧ m ≠ 0 then exchangeEnter p.val m s else s)

/-- DLK_LOCK_TIMEOUT: 50 ms in LOCK. -/
def execDlkLockTimeout (p : Port) (locked : BitVec 4) (s : State) : Host.Outcome State Fault Refusal :=
  live s (fun s =>
    let m := lockedMask s p.val locked.toNat
    if (s.port p.val).st ≠ .lock then s
    else if (s.dlk p.val).minLanes ≤ popcount 4 m then exchangeEnter p.val m s
    else dlkBackoff p.val 9 0xFF s)

/-- DLK_EXCHANGE_TIMEOUT: 100 ms in EXCHANGE. -/
def execDlkExchangeTimeout (p : Port) (s : State) : Host.Outcome State Fault Refusal :=
  live s (fun s => if (s.port p.val).st = .exchange then dlkBackoff p.val 9 0xFF s else s)

/-- DLK_BACKOFF_EXPIRY. -/
def execDlkBackoffExpiry (p : Port) (s : State) : Host.Outcome State Fault Refusal :=
  live s (fun s =>
    let r := s.port p.val
    if r.st = .backoff ∧ r.cfg.dalom then
      dlkTry p.val (modDlk p.val dlkFresh (modPort p.val (fun r => { r with st := .detect }) (linkEvent 66 p.val s)))
    else s)

/-! ### Background training (R187) -/

/-- LANE_RETRY: a lane out of service has reached its TRAIN or LOCK limit and backs off. -/
def execLaneRetry (p : Port) (l : Fin 4) (s : State) : Host.Outcome State Fault Refusal :=
  live s (fun s =>
    let d := s.dlk p.val
    if stripes (s.port p.val) ∧ !d.rxGood.testBit l.val ∧ d.bgState.get 1 l.val ≠ 2 then
      dlkEvent 69 p.val (modDlk p.val (fun d =>
        { d with laneRetries := wrapAdd 16 d.laneRetries 1, bgState := d.bgState.set l.val 2,
                 bgAttempts := d.bgAttempts.modify 0 l.val (· + 1),
                 trains := d.trains.modify DlkTrain.reset l.val DlkTrain.again }) s)
    else s)

/-- LANE_RETRY_BACKOFF_EXPIRY: the wait is over and the lane trains again. -/
def execLaneRetryBackoffExpiry (p : Port) (l : Fin 4) (s : State) : Host.Outcome State Fault Refusal :=
  live s (fun s =>
    if (s.dlk p.val).bgState.get 0 l.val = 2 then
      modDlk p.val (fun d => { d with bgState := d.bgState.set l.val 1, trains := d.trains.modify DlkTrain.reset l.val DlkTrain.again }) s
    else s)

/-- DLK_LANE_RELOCK: a lane retrained in the background locks. -/
def execDlkLaneRelock (p : Port) (l : Fin 4) (s : State) : Host.Outcome State Fault Refusal := live s (laneRelock p.val l.val)

end Sys2Proof.Machine
end

