-- ==== Sys2Proof/Machine/FrameRows.lean ====
section
/-! DEFINITION. The meanings of the frame rows: reception (R271 to R275), lookup and results (R221, R324), the crossbar and the egress ports (R304, R306), pause frames (R203, R205), and the Stop bath at work (R318). -/

namespace Sys2Proof.Machine

/-- Soft errors have left ledger bytes as given (R278). -/
def upset (l : List (Nat × Byte)) (s : State) : State := l.foldl (fun s x => setLedger x.1 x.2.toNat s) s

/-- The frame an Ethernet port is receiving. -/
def receivingOn (s : State) (p : Nat) : Option Frame := s.core.frames.find? (fun f => f.inPort == p && !f.complete)

/-- The first bytes of a frame arrive on an Ethernet port that is UP: its grant point. -/
def frameStart (p : Nat) (head : Bytes) (upsets : List (Nat × Byte)) (s : State) : State :=
  let s := upset upsets s
  if (s.port p).st ≠ .up ∨ (receivingOn s p).isSome then s
  else (grantPoint p 0 head (decide (head.length < 128)) (rxStamp s p s.ts16) s).2

/-- FRAME_GRANT_POINT: the first 128 bytes, or the whole frame where it is shorter; `upsets` are ledger bytes as soft errors have left them. -/
def execFrameGrantPoint (p : Port) (head : Bytes) (upsets : List (Nat × Byte)) (s : State) : Host.Outcome State Fault Refusal :=
  live s (frameStart p.val head upsets)

/-- The rest of the frame in reception arrives. -/
def frameStop (p : Nat) (rest : Bytes) (s : State) : State :=
  match receivingOn s p with
  | some f => if (s.port p).st = .up then endFrame f.id rest s else s
  | none => s

/-- A frame ends on an Ethernet port; a command frame to the device is then judged (R71), and a POOL_CONFIG that waits for buffers looks at them again (R292). -/
def frameEnd (p : Nat) (rest : Bytes) (s : State) : State := pump (arrivedDrain (frameStop p rest s))

/-- FRAME_END. -/
def execFrameEnd (p : Port) (rest : Bytes) (s : State) : Host.Outcome State Fault Refusal := live s (frameEnd p.val rest)

/-- A refill completes: its handles go beneath those in the cache (R274). -/
def refillDone (p : Nat) (s : State) : State :=
  match (s.pool p).refill with
  | some l => poolWatch p (served p 21 (modPool p (fun q => { q with cache := q.cache ++ l, refill := none }) s))
  | none => s

/-- CACHE_REFILL_DONE. -/
def execCacheRefillDone (p : Fin 6) (s : State) : Host.Outcome State Fault Refusal := live s (refillDone p.val)

/-- Append handles to a ring of runs. -/
def appendRuns (ring : List (Nat × Nat)) (l : List Nat) : List (Nat × Nat) :=
  ring ++ (l.foldl (fun (acc : List (Nat × Nat)) h =>
    match acc with
    | (st, n) :: rest => if st + n = h then (st, n + 1) :: rest else (h, 1) :: (st, n) :: rest
    | [] => [(h, 1)]) []).reverse

/-- A spill completes: its handles join the tail of the ring (R274). -/
def spillDone (p : Nat) (s : State) : State :=
  match (s.pool p).spill with
  | some l => served p 21 (modPool p (fun q => { q with ring := appendRuns q.ring l, spill := none }) s)
  | none => s

/-- CACHE_SPILL_DONE. -/
def execCacheSpillDone (p : Fin 6) (s : State) : Host.Outcome State Fault Refusal := live s (spillDone p.val)

/-- FRAME_LOOKUP: the slice looks up the oldest frame of the port not looked up yet, with the tokens it has left, the uncorrectable entries it reads as (table, index), and how many single-bit errors it corrects. -/
def execFrameLookup (p : Port) (tokens : Nat) (faults : List (Nat × Nat)) (corrected : Nat) (s : State) : Host.Outcome State Fault Refusal :=
  live s (sliceLookup p.val tokens faults corrected)

/-- QM_RESULT_ARRIVAL: a slice's result for the oldest frame of a port, with the epoch it carries and the frame's bytes that have arrived since its grant point. -/
def execQmResultArrival (sl : Slice) (p : Port) (epoch : Fin 16) (more : Bytes) (s : State) : Host.Outcome State Fault Refusal :=
  live s (resultArrival sl.val p.val epoch.val more)

/-- CROSSBAR_ROUND. -/
def execCrossbarRound (upsets : List (Nat × Byte)) (s : State) : Host.Outcome State Fault Refusal :=
  live s (fun s => crossbarRound (upset upsets s))

/-- EGRESS_FRAME_SELECT. -/
def execEgressFrameSelect (p : Port) (s : State) : Host.Outcome State Fault Refusal := live s (egressSelect p.val)

/-- PFC_FRAME_RX: the priorities a PFC frame names and the eight times it carries. -/
def execPfcFrameRx (p : Port) (vec : Byte) (times : List (BitVec 16)) (s : State) : Host.Outcome State Fault Refusal :=
  live s (pfcRx p.val vec.toNat (times.map (·.toNat)))

/-- PAUSE_FRAME_RX. -/
def execPauseFrameRx (p : Port) (quanta : BitVec 16) (s : State) : Host.Outcome State Fault Refusal :=
  live s (pauseRx p.val quanta.toNat)

/-- A class's received pause runs out (R205). -/
def pauseExpire (p c : Nat) (s : State) : State :=
  if (s.fc p c).paused then let s := advanceTo (s.fc p c).pauseEnd s; unpause p c s else s

/-- RX_PAUSE_EXPIRY. -/
def execRxPauseExpiry (p : Port) (c : TC) (s : State) : Host.Outcome State Fault Refusal := live s (pauseExpire p.val c.val)

/-- The pause frame of an XOFF still asserted is repeated (R203). -/
def pauseRepeat (p c : Nat) (s : State) : State :=
  if s.lossless p c && (s.fc p c).xoff && (s.port p).isUp then sendPause p c 0xFFFF s else s

/-- PFC_REPEAT_TIMER. -/
def execPfcRepeatTimer (p : Port) (c : TC) (s : State) : Host.Outcome State Fault Refusal := live s (pauseRepeat p.val c.val)

/-! ### The Stop bath at work (R318) -/

/-- A DISCARD Stop bath takes one frame from the head of a queue it selects: owner 20, freed, counted (R279, R318). A frame already in flight is passed over (R296). -/
def bathDrain (h : Nat) (s : State) : State :=
  match s.op? h with
  | none => s
  | some o =>
    match o.work with
    | .bath w =>
      if !(w.discard && o.working) then s
      else
        match s.core.queues.findSome? (fun (_, ids) => ((ids.head?).bind s.frame?).filter (fun f => w.selects f && !f.inFlight)) with
        | none => settle (suspendPoint h s)
        | some f =>
          let x := ledgerMove f.handle f.owner 1 20 1 s
          settle (giveUp f.id (cntBath f (setFrame { f with owner := if x.1 then 20 else f.owner } x.2)))
    | _ => s

/-- STOP_BATH_FRAME_DRAINED. -/
def execStopBathFrameDrained (h : Nat) (s : State) : Host.Outcome State Fault Refusal := live s (bathDrain h)

/-- The selected queues have been empty for HOLD_MS: DONE (R318). -/
def bathHoldEnd (h : Nat) (s : State) : State :=
  let s := bathCheck s
  match s.op? h with
  | none => s
  | some o =>
    match o.work with
    | .bath w =>
      match w.emptyAt with
      | some t => if o.state = .running then opFinish h .done 0 (advanceTo (t + w.holdMs * msTicks) s) else s
      | none => s
    | _ => s

/-- STOP_BATH_HOLD_EXPIRY. -/
def execStopBathHoldExpiry (h : Nat) (s : State) : Host.Outcome State Fault Refusal := live s (bathHoldEnd h)

end Sys2Proof.Machine
end

