-- ==== Sys2Proof/Machine/JtagRows.lean ====
section
/-! DEFINITION. The meanings of the TAP rows (R110, R550): each selects its instruction, or BYPASS where it stands above the open level. -/

namespace Sys2Proof.Machine

/-- Select a TAP instruction; only EXTEST drives pins. -/
def tapSelect (code : Nat) (s : State) : State :=
  { s with dbg := { s.dbg with ir := code, driven := code == 0 } }

/-- The TAP runs while VDD_AUX is up, whatever else reset holds. -/
def tap (s : State) (f : State → State) : Host.Outcome State Fault Refusal := .next (if s.sys.auxDown then s else f s)

/-- An instruction of a level: at or below the open one it acts, above it is BYPASS. -/
def tapAt (level code : Nat) (f : State → State) (s : State) : State :=
  if level ≤ debugLevel s then f (tapSelect code s) else tapSelect 0xFF s

/-- The identification code (R550). -/
def idcode : Nat := 0x1642556F

/-- IDCODE: the register is read. -/
def execIdcode (s : State) : Host.Outcome State Fault Refusal :=
  tap s (fun s => (tapSelect 0xFE s).send (.jtag 0xFE (le 4 idcode)))

/-- BYPASS. -/
def execBypass (s : State) : Host.Outcome State Fault Refusal := tap s (tapSelect 0xFF)

/-- SAMPLE: the pins as the cells capture them. -/
def execSample (pins : Bytes) (s : State) : Host.Outcome State Fault Refusal :=
  tap s (fun s => (tapSelect 0x01 s).send (.jtag 0x01 pins))

/-- PRELOAD: what is shifted into the cells. -/
def execPreload (cells : Bytes) (s : State) : Host.Outcome State Fault Refusal :=
  tap s (tapAt 2 0x02 (fun s => { s with dbg := { s.dbg with cells := cells } }))

/-- EXTEST: the pins follow the cells. -/
def execExtest (s : State) : Host.Outcome State Fault Refusal := tap s (tapAt 2 0x00 (fun s => s))

/-- DBG_TRACE: bytes of the trace buffers, as many as are shifted out. -/
def execDbgTrace (n : Fin 4096) (s : State) : Host.Outcome State Fault Refusal :=
  tap s (tapAt 1 0x10 (fun s => s.draw.send (.jtag 0x10 ((List.range n.val).map (Config.traceByte s.free)))))

/-- The 97 bits of the debug register (R550): READY, data and address. -/
def debugReg (w : BitVec 33) (addr : BitVec 64) : Bytes := le 13 (w.toNat + addr.toNat * 2 ^ 33)

/-- DBG_READ: the 97-bit register for an address. -/
def execDbgRead (addr : BitVec 64) (s : State) : Host.Outcome State Fault Refusal :=
  tap s (tapAt 1 0x11 (fun s => s.draw.send (.jtag 0x11 (debugReg (Config.debugWord s.free addr) addr))))

/-- DBG_WRITE: above the open level it is BYPASS; at D2 what it changes lies in the debug address map, which is not in the spec. -/
def execDbgWrite (_addr : BitVec 64) (_data : BitVec 32) (s : State) : Host.Outcome State Fault Refusal :=
  if !s.sys.auxDown && decide (2 ≤ debugLevel s) then .refused .debugSpaceWrite else tap s (tapSelect 0xFF)

/-- DBG_RESET: the device resets with cause DEBUG and the open level (R52). -/
def execDbgReset (s : State) : Host.Outcome State Fault Refusal :=
  tap s (tapAt 2 0x19 (fun s => deviceReset 7 (debugLevel s) s))

/-- FACTORY_TEST: instruction 0x30 + `c`. Below D3 it is BYPASS; at D3 the spec gives the factory instructions no effect. -/
def execFactoryTest (_c : Fin 16) (s : State) : Host.Outcome State Fault Refusal :=
  if !s.sys.auxDown && decide (3 ≤ debugLevel s) then .fault .factoryTest else tap s (tapSelect 0xFF)

/-- TEST_LOGIC_RESET: TRST_N low selects IDCODE. -/
def execTestLogicReset (s : State) : Host.Outcome State Fault Refusal := tap s (tapSelect 0xFE)

end Sys2Proof.Machine
end

