-- ==== Sys2Proof/Machine/OpRows.lean ====
section
/-! DEFINITION. The meanings of the rows at which long operations do their work: firmware updates (R520, R521), exports (R493, R494), reports (R426), measurement windows and statistics (R446 to R456), and cancel and failure outcomes (R91, R92). -/

namespace Sys2Proof.Machine

/-! ### Firmware update (R520) -/

/-- Bytes of the next sector to write. -/
def FwWork.next (w : FwWork) : Nat := min 65536 (w.size - w.written)

/-- Does an update wait for FW_DATA? -/
def FwWork.waits (w : FwWork) : Bool := w.source == 1 && decide (w.written < w.size) && decide (w.buffer.length < w.next)

/-- The last sector is written: the CRC, then the verification of R108. -/
def fwVerify (o : Op) (w : FwWork) (read : ImageFacts) (s : State) : State :=
  if (w.crcNow ^^^ 0xFFFFFFFF#32).toNat ≠ w.crc then opFinish o.handle .failed stBadCrc s
  else
    let s := setOp { o with work := .fw { w with version := read.version.toNat } } s
    let s := modImg w.target (fun i => { i with facts := some read, torn := false }) s
    let st := imageState s (imgOf s w.target)
    let s := modImg w.target (fun i => { i with state := st }) s
    if st = 1 then opFinish o.handle .done 0 s
    else opFinish o.handle .failed (if st = 3 then stWrongLifecycle else stBadParam) s

/-- Where the update stands once its bytes are all written. -/
def fwEnd (o : Op) (w : FwWork) (read : ImageFacts) (s : State) : State :=
  if o.state = .running then fwVerify o w read s else suspendPoint o.handle s

/-- A sector is written and read back. -/
def fwWrite (o : Op) (w : FwWork) (dma : Bytes) (read : ImageFacts) (s : State) : State :=
  let data := if w.source = 1 then w.buffer.take w.next else toLen w.next dma
  let w' := { w with written := w.written + w.next, buffer := w.buffer.drop w.next, crcNow := crcRun 0xEDB88320#32 w.crcNow data }
  let o' := { o with units := o.units + 1, progress := w'.written * 10000 / w.size, work := .fw w' }
  let s := setOp o' s
  if w.size ≤ w'.written then fwEnd o' w' read s else suspendPoint o.handle s

/-- The next sector of an update, where its data is there and writing is allowed. -/
def fwSector (h : Nat) (dma : Bytes) (read : ImageFacts) (s : State) : State :=
  match s.op? h with
  | none => s
  | some o =>
    match o.work with
    | .fw w =>
      if !o.working || s.pwr.nvInhibit || (w.source == 0 && !s.dma) then s
      else if w.size ≤ w.written then fwEnd o w read s
      else if w.waits then suspendPoint h s
      else fwWrite o w dma read s
    | _ => s

/-- FW_SECTOR_WRITTEN: the sector's bytes as DMA brought them, and what reading the whole image shows. -/
def execFwSectorWritten (h : Nat) (dma : Bytes) (read : ImageFacts) (s : State) : Host.Outcome State Fault Refusal :=
  live s (fwSector h dma read)

/-- No FW_DATA for 60 s while the update waits for it (R521). -/
def fwExpire (h : Nat) (s : State) : State :=
  match s.op? h with
  | none => s
  | some o =>
    match o.work with
    | .fw w =>
      if o.state = .running ∧ w.waits = true then opFinish h .failed stBusy (advanceTo (w.lastData + 60 * secTicks) s) else s
    | _ => s

/-- FW_DATA_WAIT_EXPIRY. -/
def execFwDataWaitExpiry (h : Nat) (s : State) : Host.Outcome State Fault Refusal := live s (fwExpire h)

/-! ### Cancel and failure (R91, R92) -/

/-- What an operation leaves when it ends without its work done. -/
def opUndo (h : Nat) (wk : Work) (s : State) : State :=
  match wk with
  | .rebuild i _ => modTab i (fun T => { T with mode := .unloaded }) s
  | .sweep w => sweepRestore w s
  | .stats e _ => statsRelease h e s
  | _ => s

/-- OP_CANCEL_OUTCOME: a cancelling operation has undone its work. -/
def execOpCancelOutcome (h : Nat) (s : State) : Host.Outcome State Fault Refusal :=
  live s (fun s => match s.op? h with
    | some o => if o.state = .cancelling then opFinish h .cancelled 0 (opUndo h o.work s) else s
    | none => s)

/-- An operation fails with the status of the cause, INTERNAL with its record (R85, R92); handle 0, which names no operation, is a failure that the next short or long command meets as it is persisted or executed (R80). -/
def unrecoverable (h status : Nat) (f : InternalFault) (s : State) : State :=
  if h = 0 then { s with gcp := { s.gcp with failing := some f } }
  else match s.op? h with
    | some o =>
      if o.state = .running then
        opFinish h .failed status (opUndo h o.work (if status = stInternal then (negInternal f 0 s).2 else s))
      else s
    | none => s

/-- OP_UNRECOVERABLE_ERROR: the operation, the status of the cause, and the failure inside the device. -/
def execOpUnrecoverableError (h : Nat) (e : OpError) (s : State) : Host.Outcome State Fault Refusal :=
  live s (unrecoverable h e.status.toNat e.fault)

/-! ### Negative export (R493, R494) -/

/-- SEQs in an export's range. -/
def ExportWork.span (w : ExportWork) : Nat := w.last + 1 - w.first

/-- The next record of the range that is still there. -/
def exportNext (w : ExportWork) (s : State) : Option (Nat × Bytes) :=
  List.find? (fun (x : Nat × Bytes) => decide (w.next ≤ x.1) && decide (x.1 ≤ w.last) && decide (x.1 < w.upto)) (bySeq s.nv.slots)

/-- The KEY code of an export's header. -/
def ExportWork.keyCode (w : ExportWork) : Nat := if w.key.isNone then 0 else if w.lifecycle = 3 then 2 else 1

/-- The header of an export. -/
def ExportWork.header (w : ExportWork) : Bytes :=
  le 2 1 ++ b1 w.keyCode ++ b1 w.lifecycle ++ le 8 Config.deviceId.toNat ++ le 4 w.first ++ le 4 w.last ++ le 4 w.count ++
  le 4 (w.span - w.count) ++ toLen 4 (w.prevChain.getD []) ++ b1 (if w.prevChain.isSome then 1 else 0) ++ zeros 3 ++ le 6 w.todSec ++
  le 4 w.todNs ++ le 2 w.timeGen ++ zeros 16

/-- The end of an export: header and tag are written, and it is done. -/
def exportEnds (h : Nat) (w : ExportWork) (s : State) : State :=
  let tag := match w.key with
    | some k => Crypto.tag16 k (w.header ++ w.copied)
    | none => zeros 16
  opFinish h .done 0 ((s.send (.hostWrite w.addr w.header)).send (.hostWrite (w.addr + 64 + 64 * w.count) tag))

/-- No record is left to copy: the export ends, or stops where it was asked to. -/
def exportOver (h : Nat) (o : Op) (w : ExportWork) (s : State) : State :=
  if o.state = .running then exportEnds h { w with missing := w.span - w.count } s else suspendPoint h s

/-- One record is copied. -/
def exportCopy (h : Nat) (o : Op) (w : ExportWork) (seq : Nat) (r : Bytes) (s : State) : State :=
  let w' := { w with next := seq + 1, count := w.count + 1, copied := w.copied ++ r }
  let o' := { o with units := o.units + 1, progress := (seq + 1 - w.first) * 10000 / w.span, work := .negExport w' }
  let s := setOp o' (s.send (.hostWrite (w.addr + 64 + 64 * w.count) r))
  if (exportNext w' s).isNone then exportOver h o' w' s else suspendPoint h s

/-- The next step of an export. -/
def exportStep (h : Nat) (s : State) : State :=
  match s.op? h with
  | none => s
  | some o =>
    match o.work with
    | .negExport w =>
      if !o.working || !s.dma then s
      else match exportNext w s with
      | some x => exportCopy h o w x.1 x.2 s
      | none => exportOver h o w s
    | _ => s

/-- EXPORT_RECORD_COPIED. -/
def execExportRecordCopied (h : Nat) (s : State) : Host.Outcome State Fault Refusal := live s (exportStep h)

/-! ### Traceability report (R426) -/

/-- A report's last step: its tag, and it becomes the one that TRACE_READ reads. -/
def traceEnds (h : Nat) (w : TraceWork) (s : State) : State :=
  opFinish h .done 0 (modTim (fun t => { t with time := { t.time with report := some (w.built ++ Crypto.tag16 w.key w.built) } }) s)

/-- The report stands complete: it ends, or stops where it was asked to. -/
def traceOver (h : Nat) (o : Op) (w : TraceWork) (s : State) : State :=
  if o.state = .running then traceEnds h w s else suspendPoint h s

/-- The record of the next port is built. -/
def traceStep (h : Nat) (s : State) : State :=
  match s.op? h with
  | none => s
  | some o =>
    match o.work with
    | .trace w =>
      if !o.working then s
      else if 64 ≤ o.units then traceOver h o w s
      else
        let w' := { w with built := w.built ++ portTimeRecord s o.units }
        let o' := { o with units := o.units + 1, progress := (o.units + 1) * 10000 / 64, work := .trace w' }
        let s := setOp o' s
        if o'.units = 64 then traceOver h o' w' s else suspendPoint h s
    | _ => s

/-- TRACE_PORT_RECORD_BUILT. -/
def execTracePortRecordBuilt (h : Nat) (s : State) : Host.Outcome State Fault Refusal := live s (traceStep h)

/-! ### Interval measurement (R446 to R456) -/

/-- The timebase period at which an open sample closes: 50 ns after its window ends. -/
def Meter.closeAt (m : Meter) : Nat := (((m.startStamp.getD 0) + m.window * ns16ps + 50 * ns16ps) / stampTick).toNat

/-- INTERVAL_MEASURE replies, and lets its engine go. -/
def measured (e : Nat) (m : Meter) (outcome : Nat) (s : State) : State :=
  (dueOn (fun k => k == .measure e) s).foldl (fun s t => replyDue t stDone (meterResult m outcome) s) (freeEngine e s)

/-- A sample of a statistics run closes. -/
def sampleClose (e h : Nat) (m : Meter) (s : State) : State :=
  let m' := m.close
  let s := modEngine e (fun x => { x with meter := some m' }) s
  match s.op? h with
  | none => s
  | some o =>
    let o' := { o with units := m'.closed, progress := m'.closed * 10000 / m'.n }
    let s := setOp o' s
    if m'.n ≤ m'.closed ∧ o.state = .running then opFinish h .done 0 (statsRelease h e s) else startQueued e h (suspendPoint h s)

/-- A window ends (R448): the sample closes, accepted or discarded. -/
def windowClose (e : Nat) (s : State) : State :=
  match (s.engine e).role, (s.engine e).meter with
  | .claimed _ _ h, some m =>
    if m.startStamp.isNone then suspendPoint h s
    else
      let s := advanceTo m.closeAt s
      if h = 0 then measured e m 0 s else sampleClose e h m s
  | _, _ => s

/-- MEASUREMENT_WINDOW_CLOSE. -/
def execMeasurementWindowClose (e : Fin 8) (s : State) : Host.Outcome State Fault Refusal := live s (windowClose e.val)

/-- When the wait for a start began: the grant, the last window's end, or the run's return to RUNNING. -/
def Meter.waitFrom (m : Meter) (since : Nat) : Nat := max (max m.armedAt since) (((m.lastEnd.getD 0) / stampTick).toNat)

/-- No start arrives for START_WAIT_MS (R450, R456). -/
def startExpire (e : Nat) (s : State) : State :=
  match (s.engine e).role, (s.engine e).meter with
  | .claimed _ _ h, some m =>
    if !m.granted || m.startStamp.isSome then s
    else if h = 0 then measured e m 1 (advanceTo (m.waitFrom 0 + m.waitMs * msTicks) s)
    else match s.op? h with
    | some o =>
      if o.state = .running then
        opFinish h .failed stBusy (statsRelease h e (advanceTo (m.waitFrom o.since + m.waitMs * msTicks) s))
      else s
    | none => s
  | _, _ => s

/-- STATS_START_WAIT_EXPIRY. -/
def execStatsStartWaitExpiry (e : Fin 8) (s : State) : Host.Outcome State Fault Refusal := live s (startExpire e.val)

end Sys2Proof.Machine
end

