-- ==== Sys2Proof/Machine/OpcodeRows.lean ====
section
/-! DEFINITION. The meanings of the opcode rows: each presents its packet on the transport it names; the opcode's own row of `defOf` says what it does (R80, R496). -/

namespace Sys2Proof.Machine

/-! ### Group 0x01 -/

/-- GET_STATUS (R503): its packet, judged and carried out. -/
def execGetStatus (g : Gcp) (s : State) : Host.Outcome State Fault Refusal := gcpRow 0x0100 g s

/-- GET_RESET_CAUSE (R504): its packet, judged and carried out. -/
def execGetResetCause (g : Gcp) (s : State) : Host.Outcome State Fault Refusal := gcpRow 0x0101 g s

/-- SET_BOOT_POLICY (R502): its packet, judged and carried out. -/
def execSetBootPolicy (g : Gcp) (s : State) : Host.Outcome State Fault Refusal := gcpRow 0x0102 g s

/-- ENTER_PROVISION (R59): its packet, judged and carried out. -/
def execEnterProvision (g : Gcp) (s : State) : Host.Outcome State Fault Refusal := gcpRow 0x0103 g s

/-- COMMIT_CONFIG (R62): its packet, judged and carried out. -/
def execCommitConfig (g : Gcp) (s : State) : Host.Outcome State Fault Refusal := gcpRow 0x0104 g s

/-- ENTER_MAINTENANCE (R45): its packet, judged and carried out. -/
def execEnterMaintenance (g : Gcp) (s : State) : Host.Outcome State Fault Refusal := gcpRow 0x0105 g s

/-- ENTER_QUIESCE (R48): its packet, judged and carried out. -/
def execEnterQuiesce (g : Gcp) (s : State) : Host.Outcome State Fault Refusal := gcpRow 0x0106 g s

/-- RETURN_SERVICE (R50): its packet, judged and carried out. -/
def execReturnService (g : Gcp) (s : State) : Host.Outcome State Fault Refusal := gcpRow 0x0107 g s

/-- RESET_DEVICE (R55): its packet, judged and carried out. -/
def execResetDevice (g : Gcp) (s : State) : Host.Outcome State Fault Refusal := gcpRow 0x0108 g s

/-- SET_POWER_STATE (R116): its packet, judged and carried out. -/
def execSetPowerState (g : Gcp) (s : State) : Host.Outcome State Fault Refusal := gcpRow 0x0109 g s

/-- AVS_CONFIG (R329): its packet, judged and carried out. -/
def execAvsConfig (g : Gcp) (s : State) : Host.Outcome State Fault Refusal := gcpRow 0x010A g s

/-- DEVICE_CONFIG (R506): its packet, judged and carried out. -/
def execDeviceConfig (g : Gcp) (s : State) : Host.Outcome State Fault Refusal := gcpRow 0x010B g s

/-! ### Group 0x02 -/

/-- GET_SECURITY_STATUS (R508): its packet, judged and carried out. -/
def execGetSecurityStatus (g : Gcp) (s : State) : Host.Outcome State Fault Refusal := gcpRow 0x0200 g s

/-- TAKE_OWNERSHIP (R99): its packet, judged and carried out. -/
def execTakeOwnership (g : Gcp) (s : State) : Host.Outcome State Fault Refusal := gcpRow 0x0201 g s

/-- INSTALL_KEY (R104): its packet, judged and carried out. -/
def execInstallKey (g : Gcp) (s : State) : Host.Outcome State Fault Refusal := gcpRow 0x0202 g s

/-- REVOKE_KEY (R104): its packet, judged and carried out. -/
def execRevokeKey (g : Gcp) (s : State) : Host.Outcome State Fault Refusal := gcpRow 0x0203 g s

/-- SET_OWNER_POLICY (R107): its packet, judged and carried out. -/
def execSetOwnerPolicy (g : Gcp) (s : State) : Host.Outcome State Fault Refusal := gcpRow 0x0204 g s

/-- LOCK_DEVICE (R99): its packet, judged and carried out. -/
def execLockDevice (g : Gcp) (s : State) : Host.Outcome State Fault Refusal := gcpRow 0x0205 g s

/-- SET_MIN_VERSION (R107): its packet, judged and carried out. -/
def execSetMinVersion (g : Gcp) (s : State) : Host.Outcome State Fault Refusal := gcpRow 0x0206 g s

/-- RETIRE_DEVICE (R101): its packet, judged and carried out. -/
def execRetireDevice (g : Gcp) (s : State) : Host.Outcome State Fault Refusal := gcpRow 0x0207 g s

/-- DEBUG_CHALLENGE (R111): its packet, judged and carried out. -/
def execDebugChallenge (g : Gcp) (s : State) : Host.Outcome State Fault Refusal := gcpRow 0x0208 g s

/-- DEBUG_UNLOCK (R113): its packet, judged and carried out. -/
def execDebugUnlock (g : Gcp) (s : State) : Host.Outcome State Fault Refusal := gcpRow 0x0209 g s

/-- DEBUG_CLOSE (R114): its packet, judged and carried out. -/
def execDebugClose (g : Gcp) (s : State) : Host.Outcome State Fault Refusal := gcpRow 0x020A g s

/-! ### Group 0x03 -/

/-- PORT_CONFIG (R146): its packet, judged and carried out. -/
def execPortConfig (g : Gcp) (s : State) : Host.Outcome State Fault Refusal := gcpRow 0x0300 g s

/-- PORT_SET_STATE (R139): its packet, judged and carried out. -/
def execPortSetState (g : Gcp) (s : State) : Host.Outcome State Fault Refusal := gcpRow 0x0301 g s

/-- PORT_STATUS (R149): its packet, judged and carried out. -/
def execPortStatus (g : Gcp) (s : State) : Host.Outcome State Fault Refusal := gcpRow 0x0302 g s

/-- LANE_MAP (R147): its packet, judged and carried out. -/
def execLaneMap (g : Gcp) (s : State) : Host.Outcome State Fault Refusal := gcpRow 0x0303 g s

/-- LANE_TX_EQ (R148): its packet, judged and carried out. -/
def execLaneTxEq (g : Gcp) (s : State) : Host.Outcome State Fault Refusal := gcpRow 0x0304 g s

/-- LANE_RX_EQ (R148): its packet, judged and carried out. -/
def execLaneRxEq (g : Gcp) (s : State) : Host.Outcome State Fault Refusal := gcpRow 0x0305 g s

/-- LANE_STATUS (R150): its packet, judged and carried out. -/
def execLaneStatus (g : Gcp) (s : State) : Host.Outcome State Fault Refusal := gcpRow 0x0306 g s

/-- LANE_TEST (R510): its packet, judged and carried out. -/
def execLaneTest (g : Gcp) (s : State) : Host.Outcome State Fault Refusal := gcpRow 0x0307 g s

/-- LANE_TEST_RESULT (R511): its packet, judged and carried out. -/
def execLaneTestResult (g : Gcp) (s : State) : Host.Outcome State Fault Refusal := gcpRow 0x0308 g s

/-- DLK_CONFIG (R190): its packet, judged and carried out. -/
def execDlkConfig (g : Gcp) (s : State) : Host.Outcome State Fault Refusal := gcpRow 0x0309 g s

/-- DLK_DELAY (R191): its packet, judged and carried out. -/
def execDlkDelay (g : Gcp) (s : State) : Host.Outcome State Fault Refusal := gcpRow 0x030A g s

/-- DLK_STATUS (R192): its packet, judged and carried out. -/
def execDlkStatus (g : Gcp) (s : State) : Host.Outcome State Fault Refusal := gcpRow 0x030B g s

/-- CLASS_MAP (R196): its packet, judged and carried out. -/
def execClassMap (g : Gcp) (s : State) : Host.Outcome State Fault Refusal := gcpRow 0x030C g s

/-- FLOW_CONTROL (R200): its packet, judged and carried out. -/
def execFlowControl (g : Gcp) (s : State) : Host.Outcome State Fault Refusal := gcpRow 0x030D g s

/-- PORT_DELAY (R211): its packet, judged and carried out. -/
def execPortDelay (g : Gcp) (s : State) : Host.Outcome State Fault Refusal := gcpRow 0x030E g s

/-- LOSSLESS_BUDGET (R212): its packet, judged and carried out. -/
def execLosslessBudget (g : Gcp) (s : State) : Host.Outcome State Fault Refusal := gcpRow 0x030F g s

/-- ECN_CONFIG (R213): its packet, judged and carried out. -/
def execEcnConfig (g : Gcp) (s : State) : Host.Outcome State Fault Refusal := gcpRow 0x0310 g s

/-- LOSSLESS_STATUS (R214): its packet, judged and carried out. -/
def execLosslessStatus (g : Gcp) (s : State) : Host.Outcome State Fault Refusal := gcpRow 0x0311 g s

/-- MODULE_READ (R218): its packet, judged and carried out. -/
def execModuleRead (g : Gcp) (s : State) : Host.Outcome State Fault Refusal := gcpRow 0x0312 g s

/-- MODULE_WRITE (R218): its packet, judged and carried out. -/
def execModuleWrite (g : Gcp) (s : State) : Host.Outcome State Fault Refusal := gcpRow 0x0313 g s

/-- MODULE_CONTROL (R217): its packet, judged and carried out. -/
def execModuleControl (g : Gcp) (s : State) : Host.Outcome State Fault Refusal := gcpRow 0x0314 g s

/-- MODULE_BUS (R215): its packet, judged and carried out. -/
def execModuleBus (g : Gcp) (s : State) : Host.Outcome State Fault Refusal := gcpRow 0x0315 g s

/-! ### Group 0x04 -/

/-- XO_CONFIG (R365): its packet, judged and carried out. -/
def execXoConfig (g : Gcp) (s : State) : Host.Outcome State Fault Refusal := gcpRow 0x0400 g s

/-- REF_CONFIG (R366): its packet, judged and carried out. -/
def execRefConfig (g : Gcp) (s : State) : Host.Outcome State Fault Refusal := gcpRow 0x0401 g s

/-- DPLL_CONFIG (R367): its packet, judged and carried out. -/
def execDpllConfig (g : Gcp) (s : State) : Host.Outcome State Fault Refusal := gcpRow 0x0402 g s

/-- ESMC_CONFIG (R368): its packet, judged and carried out. -/
def execEsmcConfig (g : Gcp) (s : State) : Host.Outcome State Fault Refusal := gcpRow 0x0403 g s

/-- JUMP_RESOLVE (R362): its packet, judged and carried out. -/
def execJumpResolve (g : Gcp) (s : State) : Host.Outcome State Fault Refusal := gcpRow 0x0404 g s

/-- REF_STATUS (R369): its packet, judged and carried out. -/
def execRefStatus (g : Gcp) (s : State) : Host.Outcome State Fault Refusal := gcpRow 0x0405 g s

/-- DPLL_STATUS (R370): its packet, judged and carried out. -/
def execDpllStatus (g : Gcp) (s : State) : Host.Outcome State Fault Refusal := gcpRow 0x0406 g s

/-- SYN_BAND_TABLE (R380): its packet, judged and carried out. -/
def execSynBandTable (g : Gcp) (s : State) : Host.Outcome State Fault Refusal := gcpRow 0x0407 g s

/-- SYN_CONFIG (R395): its packet, judged and carried out. -/
def execSynConfig (g : Gcp) (s : State) : Host.Outcome State Fault Refusal := gcpRow 0x0408 g s

/-- OUT_CONFIG (R396): its packet, judged and carried out. -/
def execOutConfig (g : Gcp) (s : State) : Host.Outcome State Fault Refusal := gcpRow 0x0409 g s

/-- PPS_CONFIG (R397): its packet, judged and carried out. -/
def execPpsConfig (g : Gcp) (s : State) : Host.Outcome State Fault Refusal := gcpRow 0x040A g s

/-- TOD_CONFIG (R398): its packet, judged and carried out. -/
def execTodConfig (g : Gcp) (s : State) : Host.Outcome State Fault Refusal := gcpRow 0x040B g s

/-- CLOCK_STATUS (R399): its packet, judged and carried out. -/
def execClockStatus (g : Gcp) (s : State) : Host.Outcome State Fault Refusal := gcpRow 0x040C g s

/-- PTP_CLOCK_CONFIG (R430): its packet, judged and carried out. -/
def execPtpClockConfig (g : Gcp) (s : State) : Host.Outcome State Fault Refusal := gcpRow 0x040D g s

/-- PTP_PORT_CONFIG (R431): its packet, judged and carried out. -/
def execPtpPortConfig (g : Gcp) (s : State) : Host.Outcome State Fault Refusal := gcpRow 0x040E g s

/-- TIME_PROPERTIES (R432): its packet, judged and carried out. -/
def execTimeProperties (g : Gcp) (s : State) : Host.Outcome State Fault Refusal := gcpRow 0x040F g s

/-- STEP_TIME (R422): its packet, judged and carried out. -/
def execStepTime (g : Gcp) (s : State) : Host.Outcome State Fault Refusal := gcpRow 0x0410 g s

/-- TIME_STATUS (R434): its packet, judged and carried out. -/
def execTimeStatus (g : Gcp) (s : State) : Host.Outcome State Fault Refusal := gcpRow 0x0411 g s

/-- TIME_PORT_STATUS (R424): its packet, judged and carried out. -/
def execTimePortStatus (g : Gcp) (s : State) : Host.Outcome State Fault Refusal := gcpRow 0x0412 g s

/-- TRACE_REPORT (R426): its packet, judged and carried out. -/
def execTraceReport (g : Gcp) (s : State) : Host.Outcome State Fault Refusal := gcpRow 0x0413 g s

/-- TRACE_READ (R427): its packet, judged and carried out. -/
def execTraceRead (g : Gcp) (s : State) : Host.Outcome State Fault Refusal := gcpRow 0x0414 g s

/-! ### Group 0x05 -/

/-- TDE_PIN (R452): its packet, judged and carried out. -/
def execTdePin (g : Gcp) (s : State) : Host.Outcome State Fault Refusal := gcpRow 0x0500 g s

/-- TDE_SOURCE (R453): its packet, judged and carried out. -/
def execTdeSource (g : Gcp) (s : State) : Host.Outcome State Fault Refusal := gcpRow 0x0501 g s

/-- EV_CONFIG (R454): its packet, judged and carried out. -/
def execEvConfig (g : Gcp) (s : State) : Host.Outcome State Fault Refusal := gcpRow 0x0502 g s

/-- INTERVAL_MEASURE (R455): its packet, judged and carried out. -/
def execIntervalMeasure (g : Gcp) (s : State) : Host.Outcome State Fault Refusal := gcpRow 0x0503 g s

/-- STATS_RUN (R450): its packet, judged and carried out. -/
def execStatsRun (g : Gcp) (s : State) : Host.Outcome State Fault Refusal := gcpRow 0x0504 g s

/-- STATS_READ (R457): its packet, judged and carried out. -/
def execStatsRead (g : Gcp) (s : State) : Host.Outcome State Fault Refusal := gcpRow 0x0505 g s

/-- TDE_STATUS (R458): its packet, judged and carried out. -/
def execTdeStatus (g : Gcp) (s : State) : Host.Outcome State Fault Refusal := gcpRow 0x0506 g s

/-! ### Group 0x06 -/

/-- POOL_CONFIG (R292): its packet, judged and carried out. -/
def execPoolConfig (g : Gcp) (s : State) : Host.Outcome State Fault Refusal := gcpRow 0x0600 g s

/-- BUF_THRESHOLD (R293): its packet, judged and carried out. -/
def execBufThreshold (g : Gcp) (s : State) : Host.Outcome State Fault Refusal := gcpRow 0x0601 g s

/-- POOL_STATUS (R294): its packet, judged and carried out. -/
def execPoolStatus (g : Gcp) (s : State) : Host.Outcome State Fault Refusal := gcpRow 0x0602 g s

/-- STOP_BATH (R318): its packet, judged and carried out. -/
def execStopBath (g : Gcp) (s : State) : Host.Outcome State Fault Refusal := gcpRow 0x0603 g s

/-- EGRESS_SCHED (R331): its packet, judged and carried out. -/
def execEgressSched (g : Gcp) (s : State) : Host.Outcome State Fault Refusal := gcpRow 0x0604 g s

/-- DEADLOCK_CONFIG (R332): its packet, judged and carried out. -/
def execDeadlockConfig (g : Gcp) (s : State) : Host.Outcome State Fault Refusal := gcpRow 0x0605 g s

/-- DEADLOCK_STATUS (R332): its packet, judged and carried out. -/
def execDeadlockStatus (g : Gcp) (s : State) : Host.Outcome State Fault Refusal := gcpRow 0x0606 g s

/-- SLICE_ASSIGN (R333): its packet, judged and carried out. -/
def execSliceAssign (g : Gcp) (s : State) : Host.Outcome State Fault Refusal := gcpRow 0x0607 g s

/-- SLICE_RETURN (R327): its packet, judged and carried out. -/
def execSliceReturn (g : Gcp) (s : State) : Host.Outcome State Fault Refusal := gcpRow 0x0608 g s

/-- SLICE_STATUS (R335): its packet, judged and carried out. -/
def execSliceStatus (g : Gcp) (s : State) : Host.Outcome State Fault Refusal := gcpRow 0x0609 g s

/-- MCAST_GROUP (R336): its packet, judged and carried out. -/
def execMcastGroup (g : Gcp) (s : State) : Host.Outcome State Fault Refusal := gcpRow 0x060A g s

/-- MCAST_CONFIG (R336): its packet, judged and carried out. -/
def execMcastConfig (g : Gcp) (s : State) : Host.Outcome State Fault Refusal := gcpRow 0x060B g s

/-! ### Group 0x07 -/

/-- TABLE_BULK_LOAD (R259): its packet, judged and carried out. -/
def execTableBulkLoad (g : Gcp) (s : State) : Host.Outcome State Fault Refusal := gcpRow 0x0700 g s

/-- FENCE (R253): its packet, judged and carried out. -/
def execFence (g : Gcp) (s : State) : Host.Outcome State Fault Refusal := gcpRow 0x0701 g s

/-- TABLE_SHADOW (R261): its packet, judged and carried out. -/
def execTableShadow (g : Gcp) (s : State) : Host.Outcome State Fault Refusal := gcpRow 0x0702 g s

/-- LEARN_CONFIG (R262): its packet, judged and carried out. -/
def execLearnConfig (g : Gcp) (s : State) : Host.Outcome State Fault Refusal := gcpRow 0x0703 g s

/-- L2_PORT_CONFIG (R263): its packet, judged and carried out. -/
def execL2PortConfig (g : Gcp) (s : State) : Host.Outcome State Fault Refusal := gcpRow 0x0704 g s

/-- FDB_FLUSH (R264): its packet, judged and carried out. -/
def execFdbFlush (g : Gcp) (s : State) : Host.Outcome State Fault Refusal := gcpRow 0x0705 g s

/-- TCAM_REBUILD (R265): its packet, judged and carried out. -/
def execTcamRebuild (g : Gcp) (s : State) : Host.Outcome State Fault Refusal := gcpRow 0x0706 g s

/-- TABLE_STATUS (R266): its packet, judged and carried out. -/
def execTableStatus (g : Gcp) (s : State) : Host.Outcome State Fault Refusal := gcpRow 0x0707 g s

/-! ### Group 0x08 -/

/-- NEG_STATUS (R491): its packet, judged and carried out. -/
def execNegStatus (g : Gcp) (s : State) : Host.Outcome State Fault Refusal := gcpRow 0x0800 g s

/-- NEG_READ (R492): its packet, judged and carried out. -/
def execNegRead (g : Gcp) (s : State) : Host.Outcome State Fault Refusal := gcpRow 0x0801 g s

/-- NEG_EXPORT (R493): its packet, judged and carried out. -/
def execNegExport (g : Gcp) (s : State) : Host.Outcome State Fault Refusal := gcpRow 0x0802 g s

/-! ### Group 0x09 -/

/-- CAL_SWEEP (R468): its packet, judged and carried out. -/
def execCalSweep (g : Gcp) (s : State) : Host.Outcome State Fault Refusal := gcpRow 0x0900 g s

/-- CAL_STATUS (R474): its packet, judged and carried out. -/
def execCalStatus (g : Gcp) (s : State) : Host.Outcome State Fault Refusal := gcpRow 0x0901 g s

/-- CONTACT_RESTORE (R471): its packet, judged and carried out. -/
def execContactRestore (g : Gcp) (s : State) : Host.Outcome State Fault Refusal := gcpRow 0x0902 g s

/-- CONTACT_STATUS (R476): its packet, judged and carried out. -/
def execContactStatus (g : Gcp) (s : State) : Host.Outcome State Fault Refusal := gcpRow 0x0903 g s

/-! ### Group 0x0A -/

/-- FW_STATUS (R519): its packet, judged and carried out. -/
def execFwStatus (g : Gcp) (s : State) : Host.Outcome State Fault Refusal := gcpRow 0x0A00 g s

/-- FW_UPDATE (R520): its packet, judged and carried out. -/
def execFwUpdate (g : Gcp) (s : State) : Host.Outcome State Fault Refusal := gcpRow 0x0A01 g s

/-- FW_DATA (R521): its packet, judged and carried out. -/
def execFwData (g : Gcp) (s : State) : Host.Outcome State Fault Refusal := gcpRow 0x0A02 g s

/-! ### Group 0x0B -/

/-- OP_QUERY (R96): its packet, judged and carried out. -/
def execOpQuery (g : Gcp) (s : State) : Host.Outcome State Fault Refusal := gcpRow 0x0B00 g s

/-- OP_SUSPEND (R92): its packet, judged and carried out. -/
def execOpSuspend (g : Gcp) (s : State) : Host.Outcome State Fault Refusal := gcpRow 0x0B01 g s

/-- OP_RESUME (R92): its packet, judged and carried out. -/
def execOpResume (g : Gcp) (s : State) : Host.Outcome State Fault Refusal := gcpRow 0x0B02 g s

/-- OP_CANCEL (R92): its packet, judged and carried out. -/
def execOpCancel (g : Gcp) (s : State) : Host.Outcome State Fault Refusal := gcpRow 0x0B03 g s

end Sys2Proof.Machine
end

