-- ==== Sys2Proof/Machine/PowerRows.lean ====
section
/-! DEFINITION. The meanings of the supply, temperature, wake and drain rows (R41, R42, R48, R92, R101, R116, R119, R120, R485). -/

namespace Sys2Proof.Machine

/-! ### Thresholds (R120) -/

/-- The supplies and the junction as measured. -/
def measure (m : Meas) (s : State) : State :=
  modPwr (fun p => { p with auxMv := m.auxMv, coreMv := m.coreMv, tj := m.tj, sensor := m.sensor }) s

/-- DATA of a threshold event (R533). -/
def thresholdData (s : State) : Bytes := le 2 s.pwr.auxMv ++ le 2 s.pwr.coreMv ++ leInt 2 s.pwr.tj

/-- A supply event is raised: record and event (R488, R533). `e` is its code in the record. -/
def supplyRaise (e : Nat) (s : State) : State :=
  let s := negWrite 0x0030 (b1 e ++ b1 0 ++ le 2 s.pwr.auxMv ++ le 2 s.pwr.coreMv ++ le 2 s.core.avs.target) s
  raise (32 + e) 0 (thresholdData s) s

/-- A supply event clears. -/
def supplyClear (e : Nat) (s : State) : State :=
  let s := negWrite 0x0030 (b1 e ++ b1 1 ++ le 2 s.pwr.auxMv ++ le 2 s.pwr.coreMv ++ le 2 s.core.avs.target) s
  raiseClear (32 + e) 0 (thresholdData s) s

/-- A thermal event is raised: 0 warning, 1 critical. -/
def thermalRaise (e : Nat) (s : State) : State :=
  let s := negWrite 0x0031 (b1 e ++ b1 0 ++ leInt 2 s.pwr.tj ++ b1 s.pwr.sensor.val) s
  raise (37 + e) s.pwr.sensor.val (thresholdData s) s

/-- A thermal event clears. -/
def thermalClear (e : Nat) (s : State) : State :=
  let s := negWrite 0x0031 (b1 e ++ b1 1 ++ leInt 2 s.pwr.tj ++ b1 s.pwr.sensor.val) s
  raiseClear (37 + e) s.pwr.sensor.val (thresholdData s) s

/-- VDD_CORE stands at or below `n` percent of its AVS target (R23, R322: the thresholds follow the target). -/
def coreAtMost (s : State) (n : Nat) : Bool := decide (100 * s.pwr.coreMv ≤ n * s.core.avs.target)

/-- A threshold row: the measurement is taken, and a crossing that changes the flag acts. `moves` reads the flag and the measured value against the threshold of R120; that a value has held for the time the threshold asks is what the row states. -/
def crossing (m : Meas) (moves : State → Bool) (f : State → State) (s : State) : State :=
  let s := measure m s
  if moves s then f s else s

/-- Operations that write non-volatile memory are asked to suspend with reason SUPPLY (R92). -/
def supplySuspend (s : State) : State :=
  { s with ops := s.ops.map (fun o =>
      if o.nvWrite && o.state == .running then { o.move .suspending s.clk.now with reason := .supply } else o) }

/-- Operations that the supply held go on (R92). -/
def supplyResume (s : State) : State :=
  { s with ops := s.ops.map (fun o =>
      if o.reason == .supply && (o.state == .suspending || o.state == .suspended) then { o.move .running s.clk.now with reason := .none }
      else o) }

/-- VDD_AUX at or below 1.14 V. -/
def auxWarn (s : State) : State :=
  supplySuspend (rideEnter (supplyRaise 0 (modPwr (fun p => { p with auxWarn := true }) s)))

/-- SUPPLY_WARN. -/
def execSupplyWarn (m : Meas) (s : State) : Host.Outcome State Fault Refusal := live s (crossing m (fun s => !s.pwr.auxWarn && decide (s.pwr.auxMv ≤ 1140)) auxWarn)

/-- VDD_AUX at or above 1.16 V for 10 ms. -/
def auxWarnClear (s : State) : State :=
  opsSettle (supplyResume (supplyClear 0 (modPwr (fun p => { p with auxWarn := false }) s)))

/-- SUPPLY_WARN_CLEAR. -/
def execSupplyWarnClear (m : Meas) (s : State) : Host.Outcome State Fault Refusal := live s (crossing m (fun s => s.pwr.auxWarn && decide (1160 ≤ s.pwr.auxMv)) auxWarnClear)

/-- VDD_AUX at or below 1.10 V: no non-volatile write starts; its own record is deferred (R26, R485). -/
def nvInhibit (s : State) : State := supplyRaise 1 (modPwr (fun p => { p with nvInhibit := true }) s)

/-- NV_INHIBIT. -/
def execNvInhibit (m : Meas) (s : State) : Host.Outcome State Fault Refusal := live s (crossing m (fun s => !s.pwr.nvInhibit && decide (s.pwr.auxMv ≤ 1100)) nvInhibit)

/-- The supply-critical condition on VDD_AUX clears with NV-inhibit. -/
def critAuxClear (s : State) : State :=
  if s.pwr.critAux then supplyClear 2 (modPwr (fun p => { p with critAux := false }) s) else s

/-- VDD_AUX at or above 1.12 V for 1 ms: the deferred records are written, and a retirement that stopped goes on (R41, R101, R121, R485). -/
def nvInhibitClear (s : State) : State :=
  retireResume (critAuxClear (supplyClear 1 (negFlush (modPwr (fun p => { p with nvInhibit := false }) s))))

/-- NV_INHIBIT_CLEAR. -/
def execNvInhibitClear (m : Meas) (s : State) : Host.Outcome State Fault Refusal := live s (crossing m (fun s => s.pwr.nvInhibit && decide (1120 ≤ s.pwr.auxMv)) nvInhibitClear)

/-- VDD_AUX at or below 1.10 V for 1 ms: the emergency of R42. -/
def critAux (s : State) : State := emergency false (supplyRaise 2 (modPwr (fun p => { p with critAux := true }) s))

/-- SUPPLY_CRITICAL_AUX. -/
def execSupplyCriticalAux (m : Meas) (s : State) : Host.Outcome State Fault Refusal := live s (crossing m (fun s => !s.pwr.critAux && decide (s.pwr.auxMv ≤ 1100)) critAux)

/-- VDD_CORE 12% or more under its target for 20 µs. -/
def critCore (s : State) : State := emergency false (supplyRaise 2 (modPwr (fun p => { p with critCore := true }) s))

/-- SUPPLY_CRITICAL_CORE. -/
def execSupplyCriticalCore (m : Meas) (s : State) : Host.Outcome State Fault Refusal := live s (crossing m (fun s => !s.pwr.critCore && coreAtMost s 88) critCore)

/-- VDD_CORE above −8% for 10 ms. -/
def critCoreClear (s : State) : State := supplyClear 2 (modPwr (fun p => { p with critCore := false }) s)

/-- SUPPLY_CRITICAL_CLEAR. -/
def execSupplyCriticalClear (m : Meas) (s : State) : Host.Outcome State Fault Refusal := live s (crossing m (fun s => s.pwr.critCore && !coreAtMost s 92) critCoreClear)

/-- VDD_CORE 5% under its target. -/
def coreWarn (s : State) : State := supplyRaise 3 (modPwr (fun p => { p with coreWarn := true }) s)

/-- CORE_WARN. -/
def execCoreWarn (m : Meas) (s : State) : Host.Outcome State Fault Refusal := live s (crossing m (fun s => !s.pwr.coreWarn && coreAtMost s 95) coreWarn)

/-- VDD_CORE above −5% for 10 ms. -/
def coreWarnClear (s : State) : State := supplyClear 3 (modPwr (fun p => { p with coreWarn := false }) s)

/-- CORE_WARN_CLEAR. -/
def execCoreWarnClear (m : Meas) (s : State) : Host.Outcome State Fault Refusal := live s (crossing m (fun s => s.pwr.coreWarn && !coreAtMost s 95) coreWarnClear)

/-- VDD_CORE 8% under its target: RIDE (R23). -/
def coreSag (s : State) : State := rideEnter (supplyRaise 4 (modPwr (fun p => { p with coreSag := true }) s))

/-- CORE_SAG. -/
def execCoreSag (m : Meas) (s : State) : Host.Outcome State Fault Refusal := live s (crossing m (fun s => !s.pwr.coreSag && coreAtMost s 92) coreSag)

/-- VDD_CORE above −5% and VDD_AUX at or above 1.16 V for 10 ms: CORE_SAG clears and the remembered state returns (R116). -/
def rideExit (s : State) : State :=
  let s := if s.pwr.coreSag then supplyClear 4 (modPwr (fun p => { p with coreSag := false }) s) else s
  if s.pwr.state = .ride then modPwr (fun p => { p with state := p.remembered }) s else s

/-- RIDE_EXIT. -/
def execRideExit (m : Meas) (s : State) : Host.Outcome State Fault Refusal := live s (crossing m (fun s => !coreAtMost s 95 && decide (1160 ≤ s.pwr.auxMv)) rideExit)

/-- The junction at or above 100 °C. -/
def thermWarn (s : State) : State := thermalRaise 0 (modPwr (fun p => { p with thermWarn := true }) s)

/-- THERMAL_WARN. -/
def execThermalWarn (m : Meas) (s : State) : Host.Outcome State Fault Refusal := live s (crossing m (fun s => !s.pwr.thermWarn && decide (1600 ≤ s.pwr.tj)) thermWarn)

/-- The junction below 97 °C. -/
def thermWarnClear (s : State) : State := thermalClear 0 (modPwr (fun p => { p with thermWarn := false }) s)

/-- THERMAL_WARN_CLEAR. -/
def execThermalWarnClear (m : Meas) (s : State) : Host.Outcome State Fault Refusal := live s (crossing m (fun s => s.pwr.thermWarn && decide (s.pwr.tj < 1552)) thermWarnClear)

/-- The junction at or above 110 °C: the emergency of R42, lanes off. -/
def thermCrit (s : State) : State := emergency true (thermalRaise 1 (modPwr (fun p => { p with thermCrit := true }) s))

/-- THERMAL_CRITICAL. -/
def execThermalCritical (m : Meas) (s : State) : Host.Outcome State Fault Refusal := live s (crossing m (fun s => !s.pwr.thermCrit && decide (1760 ≤ s.pwr.tj)) thermCrit)

/-- The junction below 107 °C. -/
def thermCritClear (s : State) : State := thermalClear 1 (modPwr (fun p => { p with thermCrit := false }) s)

/-- THERMAL_CRITICAL_CLEAR. -/
def execThermalCriticalClear (m : Meas) (s : State) : Host.Outcome State Fault Refusal := live s (crossing m (fun s => s.pwr.thermCrit && decide (s.pwr.tj < 1712)) thermCritClear)

/-! ### The wake from SLEEP (R119) -/

/-- The handshake-core counters start again at zero (R538). -/
def countersRestart (s : State) : State :=
  { s with
    portCnt := [], classCnt := [], stat := { s.stat with restarted := true },
    core := { s.core with pools := s.core.pools.map (fun x =>
      (x.1, { x.2 with drops := 0, doubleFree := 0, foreignFree := 0, stateFault := 0, parity := 0 })) } }

/-- A slice's tables come back empty; its counters, TCAM mode and unusable slots stay. -/
def SliceTab.emptied (T : SliceTab) : SliceTab :=
  { T with fdb := [], host := [], lpm := [], lpmTomb := [], nh := [], grp := [], mbr := [], cls := [], ecc := [] }

/-- Load the records of a shadow region. -/
def shadowLoad (t : Nat) (records : List Bytes) (s : State) : State :=
  (records.foldl (fun (x : Nat × State) r => (x.1 + 1, (bulkRecord t (if t ≤ 2 then 3 else 2) r x.1 x.2).2)) (0, s)).2

/-- Reload a table from its region, or raise TABLE_NOT_RESTORED for each slice. -/
def tableRestore (regions : List (Nat × List Bytes)) (s : State) (t : Nat) : State :=
  match s.tables.shadows.find? t with
  | some sh => shadowLoad t ((Tab.get [] regions t).take sh.count) s
  | none => (comparedSlices s).foldl (fun s i => raise 42 i (b1 t) s) s

/-- Every table empty, then reloaded. -/
def tablesRestore (regions : List (Nat × List Bytes)) (s : State) : State :=
  let s := { s with tables := { s.tables with slices := s.tables.slices.map (fun x => (x.1, x.2.emptied)) } }
  [0, 1, 2, 3, 4, 5, 6].foldl (tableRestore regions) s

/-- Power comes on: FULL, no masks, every lane. -/
def wakePower (s : State) : State :=
  modSys (fun y => { y with lanesOff := false, drainLanesOff := false })
    (modPwr (fun p => { p with state := .full, remembered := .full, portOff := 0, laneOff := 0, waking := false }) s)

/-- Every enabled port starts its bring-up again, those of a thermal stop too (R119). -/
def wakePorts (s : State) : State :=
  powerReturn { s with ports := s.ports.map (fun (x : Nat × PortRec) => (x.1, { x.2 with hot := false })) }

/-- The reply to the waking command; RETURN_SERVICE goes on under R50. -/
def wakeReply (s : State) : State :=
  let s := (dueOn (fun k => k == .wakeFull) s).foldl (fun s t => replyDue t stDone [] s) s
  (dueOn (fun k => match k with
      | .wakeReturn _ => true
      | _ => false) s).foldl (fun s t =>
    match (s.gcp.chan t).due with
    | some u =>
      match u.kind with
      | .wakeReturn target =>
        if returnBusy s then replyDue t stBusy [] s
        else replyDue t stDone [] (returnService target (Cmd.mk u.origin u.pkt).slotCode s)
      | _ => s
    | none => s) s

/-- The wake reaches FULL. -/
def wake (regions : List (Nat × List Bytes)) (s : State) : State :=
  if !s.pwr.waking then s
  else
    let old := s
    let s := tablesRestore regions (poolsRebuild (countersRestart (wakePower s)))
    let s := calWake old (wakePorts s)
    let s := if s.pwr.auxWarn || s.pwr.coreSag then rideEnter s else s
    wakeReply s

/-- WAKE_COMPLETE: the records of the shadow regions by table, as DMA reads them. -/
def execWakeComplete (regions : List (Nat × List Bytes)) (s : State) : Host.Outcome State Fault Refusal := live s (wake regions)

/-! ### The drain of QUIESCE (R48) -/

/-- QUIESCE_DRAIN_END: the last queued frame has left. -/
def execQuiesceDrainEnd (s : State) : Host.Outcome State Fault Refusal := live s (fun s => if framesQueued s then s else drainEnd s)

/-- DRAIN_LIMIT_EXPIRY. -/
def execDrainLimitExpiry (s : State) : Host.Outcome State Fault Refusal :=
  live s (fun s => if s.sys.draining then drainEnd (advanceTo s.sys.drainEnd s) else s)

/-! ### Debug (R111, R114) -/

/-- An unused nonce reaches its lifetime. -/
def challengeExpire (s : State) : State :=
  match s.dbg.challenge with
  | some c => { advanceTo c.deadline s with dbg := { s.dbg with challenge := none } }
  | none => s

/-- DEBUG_CHALLENGE_EXPIRY. -/
def execDebugChallengeExpiry (s : State) : Host.Outcome State Fault Refusal := live s challengeExpire

/-- An open session reaches its lifetime. -/
def sessionExpire (s : State) : State :=
  match s.dbg.session with
  | some d => dbgClose 1 (advanceTo d.deadline s)
  | none => s

/-- DEBUG_SESSION_EXPIRY. -/
def execDebugSessionExpiry (s : State) : Host.Outcome State Fault Refusal := live s sessionExpire

end Sys2Proof.Machine
end

