-- ==== Sys2Proof/Machine/PtpRows.lean ====
section
/-! DEFINITION. The rows of PTP on Ethernet ports (R401 to R409, R411, R414), of the parent candidate's presence (R408), of ANNOUNCE blocks (R412) and of withdrawal (R421). -/

namespace Sys2Proof.Machine

/-- Does a port take a message: PTP live on it, and the message in this device's domain? -/
def ptpTakes (s : State) (p : Nat) (m : PtpMsg) : Bool := ptpLive s p && ptpMine s m && !isTransparent s

/-- Is a message from the master a slave port follows? -/
def fromMaster (s : State) (p : Nat) (m : PtpMsg) : Bool :=
  (s.ptp p).st == .slave && ((s.ptp p).got.map (fun a => a.sender == m.sender.toNat && a.senderPort == m.senderPort.toNat)).getD false

/-! ### The frames that carry messages (R271, R306, R401) -/

/-- The bytes before a PTP message in its frame: the Ethernet header of L2, or the headers of UDP over IPv4 or IPv6 (log 116). -/
def ptpLead (s : State) (p : Nat) : Bytes :=
  match (s.ptp p).transport with
  | 0 => be 6 (if (s.ptp p).l2addr = 0 then 0x011B19000000 else 0x0180C200000E) ++ be 6 s.sys.deviceMac.toNat ++ be 2 0x88F7
  | 1 => zeros 42
  | _ => zeros 62

/-- A PTP message goes out on a port: a frame of firmware in TC7. -/
def ptpSend (p kind : Nat) (b : Bytes) (s : State) : State := fwSend p 7 (ptpLead s p ++ b) (some (.ptp p kind b)) s

/-- A PTP message of `n` bytes arrives on a port. -/
def ptpHeard (p n : Nat) (f : State → State) (s : State) : State := heard p (max 64 ((ptpLead s p).length + n + 4)) f s

/-! ### Sync (R402, R409) -/

/-- A Sync is complete: its master-to-slave interval, and on the parent port a phase sample once the path delay is known. -/
def syncDone (p : Nat) (t2 t1 corr : Int) (s : State) : State :=
  let ms := asTod s t2 - t1 - corr
  let s := modPtp p (fun q => { q with sync := none, syncAt := some s.clk.now, ms := some ms }) s
  let q := s.ptp p
  if s.tim.time.parent = some p ∧ q.delayKnown then takeSample p (ms - q.meanPath - asymOf q.asym q.meanPath) s else s

/-- PTP_SYNC_RX: a one-step Sync is complete; a two-step one waits for its Follow_Up. -/
def execPtpSyncRx (p : Port) (m : PtpMsg) (s : State) : Host.Outcome State Fault Refusal :=
  live s (ptpHeard p.val 44 fun s =>
    if !ptpTakes s p.val m || !fromMaster s p.val m then s
    else
      let t2 := rxStamp s p.val m.capture
      if m.twoStep then modPtp p.val (fun q => { q with sync := some (m.seq.toNat, t2, m.corr) }) s
      else syncDone p.val t2 m.stamp m.corr s)

/-- PTP_FOLLOW_UP_RX: the precise origin time of the Sync with the same sequence number. -/
def execPtpFollowUpRx (p : Port) (m : PtpMsg) (s : State) : Host.Outcome State Fault Refusal :=
  live s (ptpHeard p.val 44 fun s =>
    if !ptpTakes s p.val m || !fromMaster s p.val m then s
    else match (s.ptp p.val).sync with
      | some x => if x.1 = m.seq.toNat then syncDone p.val x.2.1 m.stamp (x.2.2 + m.corr) s else s
      | none => s)

/-! ### Delay request and response (R402, R408) -/

/-- A response's body: a timestamp and the requesting port's identity. -/
def respBody (t : Int) (m : PtpMsg) : Bytes := ptpTime t ++ be 8 m.sender.toNat ++ be 2 m.senderPort.toNat

/-- The part of a time below a nanosecond, in 2^-16 ns. -/
def subNs (t : Int) : Int := t % 65536

/-- PTP_DELAY_REQ_RX: a master port answers with Delay_Resp. -/
def execPtpDelayReqRx (p : Port) (m : PtpMsg) (s : State) : Host.Outcome State Fault Refusal :=
  live s (ptpHeard p.val 44 fun s =>
    if ptpTakes s p.val m && (s.ptp p.val).st == .master && s.clk.todSet then
      let t4 := asTod s (rxStamp s p.val m.capture)
      ptpSend p.val 9 (ptpHeader s p.val 9 54 0 (m.corr - subNs t4) m.seq.toNat (s.ptp p.val).logDelay ++ respBody t4 m) s
    else s)

/-- Is a response addressed to this port? -/
def respMine (s : State) (p : Nat) (m : PtpMsg) : Bool := m.reqId.toNat == clockId s && m.reqPort.toNat == p + 1

/-- PTP_DELAY_RESP_RX: the mean path delay of a slave port. -/
def execPtpDelayRespRx (p : Port) (m : PtpMsg) (s : State) : Host.Outcome State Fault Refusal :=
  live s (ptpHeard p.val 54 fun s =>
    if !ptpTakes s p.val m || !fromMaster s p.val m || !respMine s p.val m then s
    else match (s.ptp p.val).req, (s.ptp p.val).ms with
      | some x, some ms =>
        if x.1 = m.seq.toNat then
          let sm := m.stamp - asTod s x.2 - m.corr
          presence (modPtp p.val (fun q => { q with req := none, respAt := some s.clk.now, meanPath := (ms + sm) / 2, delayKnown := true }) s)
        else s
      | _, _ => s)

/-! ### Announce (R407) -/

/-- An Announce as a data set. -/
def annOfMsg (m : PtpMsg) (a : PtpAnnounce) : Ann :=
  { prio1 := a.prio1.toNat, cls := a.cls.toNat, acc := a.acc.toNat, oslv := a.oslv.toNat, prio2 := a.prio2.toNat,
    source := a.source.toNat, steps := a.steps.toNat, utc := a.utc, flags := a.flags.toNat % 64, gm := a.gm.toNat,
    te := accBound a.acc.toNat, path := a.path.map (·.toNat), trunc := false, ssm := 0, essm := 0, offer := true,
    sender := m.sender.toNat, senderPort := m.senderPort.toNat }

/-- Note an Announce of a sender: its data set, and when its last two arrived. -/
def noteForeign (a : Ann) (now : Nat) (l : List Foreign) : List Foreign :=
  let old := l.find? (fun f => f.ann.sender == a.sender && f.ann.senderPort == a.senderPort)
  l.filter (fun f => !(f.ann.sender == a.sender && f.ann.senderPort == a.senderPort)) ++
    [{ ann := a, at1 := now, at0 := old.map (fun f => f.at1) }]

/-- A port's best data set becomes the one it follows. -/
def takeBest (p : Nat) (s : State) : State := modPtp p (fun q => { q with got := portBest s p }) s

/-- PTP_ANNOUNCE_RX: the message enters the BMCA unless R407 discards it. -/
def execPtpAnnounceRx (p : Port) (m : PtpMsg) (a : PtpAnnounce) (s : State) : Host.Outcome State Fault Refusal :=
  live s (ptpHeard p.val (68 + 8 * a.path.length) fun s =>
    let x := annOfMsg m a
    if !ptpTakes s p.val m || !annAdmits s x then s
    else
      let s := modPtp p.val (fun q => { q with foreign := noteForeign x s.clk.now q.foreign, annLost := false }) s
      reelect (takeBest p.val s))

/-! ### Receipt timeouts (R33, R408): each arrival restarts the timer it guards, and a row stands for the expiry of the timer as last restarted (log 107) -/

/-- The period between a Dalom port's marks, 1,024 slots of 2,720 symbols (R158, R171), in timebase periods. -/
def markTicks (speed : Nat) : Nat := if speed = 5 then 65536 else 131072

/-- No Announce for ANNOUNCE_TIMEOUT intervals: what was heard on the port is forgotten and the parent is elected anew. -/
def announceTimeout (p : Nat) (s : State) : State :=
  if !ptpLive s p then s
  else
    let q := s.ptp p
    let s := if q.foreign.isEmpty then s else advanceTo ((q.foreign.map (·.at1)).foldl max 0 + q.annTimeout * logTicks q.logAnnounce) s
    reelect (takeBest p (modPtp p (fun q => { q with foreign := [], annLost := true }) s))

/-- ANNOUNCE_RECEIPT_TIMEOUT. -/
def execAnnounceReceiptTimeout (p : Port) (s : State) : Host.Outcome State Fault Refusal := live s (announceTimeout p.val)

/-- No complete Sync for 3 Sync intervals since the last one; nothing where none has been heard since. -/
def syncTimeout (p : Nat) (s : State) : State :=
  match (s.ptp p).syncAt with
  | some t => presence (modPtp p (fun q => { q with sync := none, syncAt := none }) (advanceTo (t + 3 * logTicks (s.ptp p).logSync) s))
  | none => s

/-- SYNC_RECEIPT_TIMEOUT. -/
def execSyncReceiptTimeout (p : Port) (s : State) : Host.Outcome State Fault Refusal := live s (syncTimeout p.val)

/-- No Delay_Resp for 3 Delay_Req intervals since the last one. -/
def respTimeout (p : Nat) (s : State) : State :=
  match (s.ptp p).respAt with
  | some t => presence (modPtp p (fun q => { q with respAt := none }) (advanceTo (t + 3 * logTicks (s.ptp p).logDelay) s))
  | none => s

/-- DELAY_RESP_TIMEOUT. -/
def execDelayRespTimeout (p : Port) (s : State) : Host.Outcome State Fault Refusal := live s (respTimeout p.val)

/-- No Dalom pair for 16 mark periods since the last one. -/
def pairTimeout (p : Nat) (s : State) : State :=
  match (s.ptp p).pairAt with
  | some t => presence (modPtp p (fun q => { q with pairAt := none }) (advanceTo (t + 16 * markTicks (s.port p).cfg.speed) s))
  | none => s

/-- OFFSET_PAIR_TIMEOUT. -/
def execOffsetPairTimeout (p : Port) (s : State) : Host.Outcome State Fault Refusal := live s (pairTimeout p.val)

/-! ### Link delay (R406) -/

/-- PTP_PDELAY_REQ_RX: answered with Pdelay_Resp and Pdelay_Resp_Follow_Up; `txc` is the raw capture of the response's departure. -/
def execPtpPdelayReqRx (p : Port) (m : PtpMsg) (txc : Int) (s : State) : Host.Outcome State Fault Refusal :=
  live s (ptpHeard p.val 54 fun s =>
    if ptpLive s p.val && ptpMine s m && (s.ptp p.val).linkDelay then
      let t2 := asTod s (rxStamp s p.val m.capture)
      let t3 := asTod s (txStamp s p.val txc)
      let s := ptpSend p.val 3 (ptpHeader s p.val 3 54 0x0200 (-(subNs t2)) m.seq.toNat 0x7F ++ respBody t2 m) s
      ptpSend p.val 10 (ptpHeader s p.val 10 54 0 (m.corr + subNs t3) m.seq.toNat 0x7F ++ respBody t3 m) s
    else s)

/-- PTP_PDELAY_RESP_RX. -/
def execPtpPdelayRespRx (p : Port) (m : PtpMsg) (s : State) : Host.Outcome State Fault Refusal :=
  live s (ptpHeard p.val 54 fun s =>
    if !ptpLive s p.val || !ptpMine s m || !respMine s p.val m then s
    else match (s.ptp p.val).pReq with
      | some x => if x.1 = m.seq.toNat then
          modPtp p.val (fun q => { q with pResp := some (x.1, rxStamp s p.val m.capture, m.stamp, m.corr) }) s
        else s
      | none => s)

/-- A peer-delay exchange completes (R406, R198): the mean of the last 16, once there are four, is the measured delay. -/
def pdelayDone (p : Nat) (d : Int) (s : State) : State :=
  let l := (d.toNat :: (s.flow p).exchanges).take 16
  let mean : Int := (l.sum : Nat) / (l.length : Int)
  let s := modFlow p (fun f => { f with exchanges := l, measured := if 4 ≤ l.length then some mean.toNat else f.measured }) s
  let s := modPtp p (fun q => { q with pReq := none, pResp := none, meanLink := some mean }) s
  headroomRecompute p s

/-- PTP_PDELAY_RESP_FOLLOW_UP_RX. -/
def execPtpPdelayRespFollowUpRx (p : Port) (m : PtpMsg) (s : State) : Host.Outcome State Fault Refusal :=
  live s (ptpHeard p.val 54 fun s =>
    if !ptpLive s p.val || !ptpMine s m || !respMine s p.val m then s
    else match (s.ptp p.val).pReq, (s.ptp p.val).pResp with
      | some x, some r =>
        if x.1 = m.seq.toNat ∧ r.1 = m.seq.toNat then
          let d := ((r.2.1 - x.2) - (m.stamp - r.2.2.1) - r.2.2.2 - m.corr) / 2
          pdelayDone p.val (d - asymOf (s.ptp p.val).asym d) s
        else s
      | _, _ => s)

/-! ### L1Sync (R405) -/

/-- L1_SYNC_TLV_RX: whether the partner reports all three flags; the port is in L1_SYNC_UP while both ends do (`l1SyncUp`). -/
def execL1SyncTlvRx (p : Port) (txCoherent rxCoherent congruent : Bool) (s : State) : Host.Outcome State Fault Refusal :=
  live s (ptpHeard p.val 60 fun s =>
    if s.tim.time.profile = 1 && (s.ptp p.val).l1sync && ptpLive s p.val then
      modPtp p.val (fun q => { q with l1Up := txCoherent && rxCoherent && congruent }) s
    else s)

/-- PTP_UNSUPPORTED_RX: discarded and counted (R402). -/
def execPtpUnsupportedRx (p : Port) (s : State) : Host.Outcome State Fault Refusal :=
  live s (ptpHeard p.val 44 fun s => cntPort p.val 25 1 (modPtp p.val (fun q => { q with unsupported := wrapAdd 32 q.unsupported 1 }) s))

/-! ### Messages sent (R401, R411) -/

/-- PTP_SYNC_TX: once time of day is set, a master port sends Sync, and Follow_Up in two-step; `txc` is the raw departure capture. -/
def execPtpSyncTx (p : Port) (txc : Int) (s : State) : Host.Outcome State Fault Refusal :=
  live s (fun s =>
    let q := s.ptp p.val
    if ptpLive s p.val && q.st == .master && s.clk.todSet then
      let t1 := asTod s (txStamp s p.val txc)
      let s := modPtp p.val (fun q => { q with seqSync := (q.seqSync + 1) % 65536 }) s
      if q.oneStep then ptpSend p.val 0 (ptpHeader s p.val 0 44 0 (subNs t1) q.seqSync q.logSync ++ ptpTime t1) s
      else
        ptpSend p.val 8 (ptpHeader s p.val 8 44 0 (subNs t1) q.seqSync q.logSync ++ ptpTime t1)
          (ptpSend p.val 0 (ptpHeader s p.val 0 44 0x0200 0 q.seqSync q.logSync ++ zeros 10) s)
    else s)

/-- The body of an Announce and its path trace (R411, R412). -/
def announceBody (s : State) : Bytes :=
  let a := advertised s
  let l := (ownPath s).1
  zeros 10 ++ (leInt 2 a.utc).reverse ++ zeros 1 ++ b1 a.prio1 ++ b1 a.cls ++ b1 a.acc ++ be 2 a.oslv ++ b1 a.prio2 ++
  be 8 a.gm ++ be 2 a.steps ++ b1 a.source ++ be 2 8 ++ be 2 (8 * l.length) ++ l.flatMap (be 8)

/-- PTP_ANNOUNCE_TX. -/
def execPtpAnnounceTx (p : Port) (s : State) : Host.Outcome State Fault Refusal :=
  live s (fun s =>
    let q := s.ptp p.val
    if ptpLive s p.val && q.st == .master && !isTransparent s then
      let b := announceBody s
      let s := modPtp p.val (fun q => { q with seqAnn := (q.seqAnn + 1) % 65536 }) s
      ptpSend p.val 11 (ptpHeader s p.val 11 (34 + b.length) (advertised s).flags 0 q.seqAnn q.logAnnounce ++ b) s
    else s)

/-- PTP_DELAY_REQ_TX: a slave port asks; `txc` is the raw departure capture. -/
def execPtpDelayReqTx (p : Port) (txc : Int) (s : State) : Host.Outcome State Fault Refusal :=
  live s (fun s =>
    let q := s.ptp p.val
    if ptpLive s p.val && q.st == .slave then
      let s := modPtp p.val (fun x => { x with req := some (q.seqReq, txStamp s p.val txc), seqReq := (q.seqReq + 1) % 65536 }) s
      ptpSend p.val 1 (ptpHeader s p.val 1 44 0 0 q.seqReq 0x7F ++ zeros 10) s
    else s)

/-- PTP_PDELAY_REQ_TX: a LINK_DELAY port asks its peer. -/
def execPtpPdelayReqTx (p : Port) (txc : Int) (s : State) : Host.Outcome State Fault Refusal :=
  live s (fun s =>
    let q := s.ptp p.val
    if ptpLive s p.val && q.linkDelay then
      let s := modPtp p.val (fun x => { x with pReq := some (q.seqPreq, txStamp s p.val txc), pResp := none, seqPreq := (q.seqPreq + 1) % 65536 }) s
      ptpSend p.val 2 (ptpHeader s p.val 2 54 0 0 q.seqPreq 0x7F ++ zeros 20) s
    else s)

/-! ### ANNOUNCE blocks (R407, R412) -/

/-- Firmware rewrites a Dalom port's ANNOUNCE block and takes its partner's into the BMCA. -/
def announceRewrite (p : Nat) (s : State) : State :=
  if !(s.port p).cfg.dalom || !timingRuns s then s
  else
    let d := s.dlk p
    let a := annOfBlock d.partnerAnnounce ((d.partner.map (fun (r : CapRec) => r.clockId.toNat)).getD 0)
    let s := if (s.port p).st = .active && annAdmits s a then modPtp p (fun q => { q with got := some a }) s
             else modPtp p (fun q => { q with got := none }) s
    let s := reelect s
    modDlk p (fun d => { d with announce := announceBlock s p }) s

/-- ANNOUNCE_BLOCK_REWRITE. -/
def execAnnounceBlockRewrite (p : Port) (s : State) : Host.Outcome State Fault Refusal := live s (announceRewrite p.val)

/-! ### Withdrawal (R421) -/

/-- A refusal run has lasted STEP_CONFIRM_MS: the source is withdrawn; the run's first sample is the loss. -/
def stepConfirm (s : State) : State :=
  match s.tim.time.run with
  | none => s
  | some r =>
    let s := advanceTo (r.since + s.tim.time.confirmMs * msTicks) s
    let k := sampleRef r.source
    let s := modTime (fun t => { t with run := none }) s
    refFail k r.since (modRef k (fun f => { f with absentUntil := some (s.clk.now + 10 * msTicks) }) s)

/-- STEP_CONFIRM_EXPIRY. -/
def execStepConfirmExpiry (s : State) : Host.Outcome State Fault Refusal := live s stepConfirm

/-- WITHDRAWAL_END: the 10 ms of absence are over for the parent candidate (0) or a PPSIN (1, 2). -/
def execWithdrawalEnd (k : Fin 3) (s : State) : Host.Outcome State Fault Refusal :=
  live s (fun s =>
    let r := if k.val = 0 then 15 else 3 + k.val
    match (s.ref r).absentUntil with
    | some t => modRef r (fun f => { f with absentUntil := none }) (advanceTo t s)
    | none => s)

end Sys2Proof.Machine
end

