-- ==== Sys2Proof/Machine/ResetRows.lean ====
section
/-! DEFINITION. The meanings of the reset and boot rows: the reset sources (R52 to R57, R555, R567), PERST_N and the power states of the endpoint (R53, R525), and image verification and firmware start (R58, R59). -/

namespace Sys2Proof.Machine

/-! ### Reset sources (R52) -/

/-- VDD_AUX rises through the reset threshold: the device resets with cause SUPPLY, unless the fall was already taken as one. -/
def powerOn (s : State) : State :=
  if s.sys.auxDown then bootStart (modSys (fun y => { y with auxDown := false }) s) else deviceReset 1 0 s

/-- POWER_ON. -/
def execPowerOn (s : State) : Host.Outcome State Fault Refusal := .next (powerOn s)

/-- VDD_AUX falls below 1.05 V: a reset with cause SUPPLY, held until power returns; one that SYS_RST_N holds already keeps its cause. -/
def supplyReset (s : State) : State :=
  let down := modSys (fun y => { y with auxDown := true, tripWait := false }) s
  if s.sys.auxDown || s.sys.sysRst then down else deviceReset 1 0 down

/-- SUPPLY_RESET. -/
def execSupplyReset (s : State) : Host.Outcome State Fault Refusal := .next (supplyReset s)

/-- SYS_RST_N falls: a reset with cause PIN, unless a reset holds the device already. -/
def pinAssert (s : State) : State :=
  let low := modSys (fun y => { y with sysRst := true }) s
  if s.held then low else deviceReset 2 0 low

/-- SYS_RST_N_ASSERT. -/
def execSysRstNAssert (s : State) : Host.Outcome State Fault Refusal := .next (pinAssert s)

/-- SYS_RST_N rises: the straps are sampled (R549); a pulse that ends after THERMTRIP_N was released ends the wait of R52; the boot ROM starts where nothing else holds the device. -/
def pinRelease (straps : Fin 4) (s : State) : State :=
  if !s.sys.sysRst then s
  else bootStart (modSys (fun y => { y with sysRst := false, straps := straps, tripWait := y.tripWait && y.thermTrip }) s)

/-- SYS_RST_N_RELEASE. -/
def execSysRstNRelease (straps : Fin 4) (s : State) : Host.Outcome State Fault Refusal := .next (pinRelease straps s)

/-- A temperature in 1/16 °C as whole °C in the 32 bits of the cause data. -/
def wholeDegrees (t : Int) : Nat := (t / 16 % 2 ^ 32).toNat

/-- The junction reaches 120 °C: THERMTRIP_N is asserted and reset is held (R567). -/
def thermalTrip (tj : Int) (s : State) : State :=
  if s.sys.thermTrip then s
  else
    let trip := modSys (fun y => { y with thermTrip := true, tripWait := true }) s
    if s.sys.auxDown then trip else deviceReset 5 (wholeDegrees tj) trip

/-- THERMAL_TRIP. -/
def execThermalTrip (tj : Int) (s : State) : Host.Outcome State Fault Refusal := .next (thermalTrip tj s)

/-- The junction falls below 110 °C: THERMTRIP_N is released, the peak is the cause data, and boot waits for SYS_RST_N. -/
def tripRelease (peak : Int) (s : State) : State :=
  if !s.sys.thermTrip then s
  else modSys (fun y => { y with thermTrip := false, resetData := if y.resetCode = 5 then wholeDegrees peak else y.resetData }) s

/-- THERMTRIP_RELEASE. -/
def execThermtripRelease (peak : Int) (s : State) : Host.Outcome State Fault Refusal := .next (tripRelease peak s)

/-- Ten ms after the DONE reply to RESET_DEVICE (R505): the reset, with the key slot used. -/
def resetAfterReply (s : State) : State :=
  match s.sys.resetDue with
  | some slot => deviceReset 3 slot s
  | none => s

/-- RESET_AFTER_REPLY. -/
def execResetAfterReply (s : State) : Host.Outcome State Fault Refusal := live s resetAfterReply

/-- FATAL_INTERNAL_ERROR: the management processor it names, its code and its address (R16, R486). -/
def execFatalInternalError (proc : Option (Fin 4)) (code addr : BitVec 32) (s : State) : Host.Outcome State Fault Refusal :=
  live s (fatal (proc.map Fin.val) code.toNat addr.toNat)

/-! ### The PCIe endpoint (R53, R525) -/

/-- PERST_N_ASSERT. -/
def execPerstNAssert (s : State) : Host.Outcome State Fault Refusal := .next (perstAssert s)

/-- PERST_N_RELEASE. -/
def execPerstNRelease (s : State) : Host.Outcome State Fault Refusal := .next (perstRelease s)

/-- A function level reset: an assertion and a release of PERST_N. -/
def flr (s : State) : State := if s.sys.perst then s else perstRelease (perstAssert s)

/-- FUNCTION_LEVEL_RESET. -/
def execFunctionLevelReset (s : State) : Host.Outcome State Fault Refusal := live s flr

/-- D3hot stops all DMA. -/
def d3Entry (s : State) : State := if s.sys.perst then s else modSys (fun y => { y with d3hot := true }) s

/-- D3HOT_ENTRY. -/
def execD3hotEntry (s : State) : Host.Outcome State Fault Refusal := live s d3Entry

/-- The return to D0 acts as a release of PERST_N: the host finds the host-interface domain as after one. -/
def d0Return (s : State) : State :=
  if s.sys.d3hot then hostReset (modSys (fun y => { y with d3hot := false }) s) else s

/-- D0_RETURN. -/
def execD0Return (s : State) : Host.Outcome State Fault Refusal := live s d0Return

/-! ### Boot (R56 to R59) -/

/-- XO_IN_DETECT: the nominal frequency found. -/
def execXoInDetect (freq : XoCode) (s : State) : Host.Outcome State Fault Refusal := live s (fun s => pump (xoDetect freq.val s))

/-- IMAGE_VERIFICATION_COMPLETE: what reading images A and B showed. -/
def execImageVerificationComplete (a b : ImageFacts) (s : State) : Host.Outcome State Fault Refusal := live s (verified a b)

/-- FIRMWARE_ALIVE. -/
def execFirmwareAlive (s : State) : Host.Outcome State Fault Refusal := live s (fun s => pump (alive s))

/-- FW_START_FAIL. -/
def execFwStartFail (s : State) : Host.Outcome State Fault Refusal := live s (fun s => pump (startFails s))

end Sys2Proof.Machine
end

