-- ==== Sys2Proof/Machine/TransportRows.lean ====
section
/-! DEFINITION. The meanings of the transport rows: the PCIe mailbox registers (R67 to R70, R529), in-band command frames (R71 to R73), the I2C sideband (R74, R75, R549) and start deadlines (R87). -/

namespace Sys2Proof.Machine

/-- COMMAND_DOORBELL: the new MBX_CMD_PI, and the packets of the entries it publishes as host memory holds them. -/
def execCommandDoorbell (pi : Byte) (packets : List Bytes) (s : State) : Host.Outcome State Fault Refusal :=
  live s (doorbell pi.toNat packets)

/-- MBX_RPL_CI_WRITE. -/
def execMbxRplCiWrite (ci : Byte) (s : State) : Host.Outcome State Fault Refusal := live s (repliesFreed ci.toNat)

/-- MBX_CTRL_ENABLE_WRITE: bit 0 of the word is ENABLE. -/
def execMbxCtrlEnableWrite (v : BitVec 32) (s : State) : Host.Outcome State Fault Refusal := live s (ringsArm (v.getLsbD 0))

/-- INBAND_COMMAND_FRAME: a whole frame, which the port grants a buffer and judges (R71, R271). -/
def execInbandCommandFrame (f : InbandFrame) (s : State) : Host.Outcome State Fault Refusal := live s (inbandArrives f)

/-- SIDEBAND_WRITE_TRANSFER: the bytes after the address byte, the PEC last. -/
def execSidebandWriteTransfer (bytes : Bytes) (s : State) : Host.Outcome State Fault Refusal := live s (sbWrite bytes)

/-- SIDEBAND_READ_TRANSFER. -/
def execSidebandReadTransfer (s : State) : Host.Outcome State Fault Refusal := live s sbRead

/-- SIDEBAND_SCL_TIMEOUT: the transfer in progress is a bad one. -/
def execSidebandSclTimeout (s : State) : Host.Outcome State Fault Refusal := live s sbBadCount

/-- COMMAND_START_DEADLINE: the transport, and the waiting command by its place. -/
def execCommandStartDeadline (t : Transport) (idx : Nat) (s : State) : Host.Outcome State Fault Refusal := live s (deadline t idx)

end Sys2Proof.Machine
end

