-- ==== Sys2Proof/Machine/Dispatch.lean ====
section
/-! DEFINITION. The dispatch: one arm per command, one direct call of its meaning. -/

namespace Sys2Proof.Machine

/-- The effect of a command on everything but the queue. -/
def exec (i : Instr) (s : State) : Host.Outcome State Fault Refusal :=
  match i with
  | .powerOn => Sys2Proof.Machine.execPowerOn s
  | .supplyReset => Sys2Proof.Machine.execSupplyReset s
  | .sysRstNAssert => Sys2Proof.Machine.execSysRstNAssert s
  | .sysRstNRelease straps => Sys2Proof.Machine.execSysRstNRelease straps s
  | .perstNAssert => Sys2Proof.Machine.execPerstNAssert s
  | .perstNRelease => Sys2Proof.Machine.execPerstNRelease s
  | .functionLevelReset => Sys2Proof.Machine.execFunctionLevelReset s
  | .d3hotEntry => Sys2Proof.Machine.execD3hotEntry s
  | .d0Return => Sys2Proof.Machine.execD0Return s
  | .thermalTrip tj => Sys2Proof.Machine.execThermalTrip tj s
  | .thermtripRelease peak => Sys2Proof.Machine.execThermtripRelease peak s
  | .resetAfterReply => Sys2Proof.Machine.execResetAfterReply s
  | .fatalInternalError proc code addr => Sys2Proof.Machine.execFatalInternalError proc code addr s
  | .xoInDetect freq => Sys2Proof.Machine.execXoInDetect freq s
  | .imageVerificationComplete a b => Sys2Proof.Machine.execImageVerificationComplete a b s
  | .firmwareAlive => Sys2Proof.Machine.execFirmwareAlive s
  | .fwStartFail => Sys2Proof.Machine.execFwStartFail s
  | .supplyWarn m => Sys2Proof.Machine.execSupplyWarn m s
  | .supplyWarnClear m => Sys2Proof.Machine.execSupplyWarnClear m s
  | .nvInhibit m => Sys2Proof.Machine.execNvInhibit m s
  | .nvInhibitClear m => Sys2Proof.Machine.execNvInhibitClear m s
  | .supplyCriticalAux m => Sys2Proof.Machine.execSupplyCriticalAux m s
  | .coreWarn m => Sys2Proof.Machine.execCoreWarn m s
  | .coreWarnClear m => Sys2Proof.Machine.execCoreWarnClear m s
  | .coreSag m => Sys2Proof.Machine.execCoreSag m s
  | .rideExit m => Sys2Proof.Machine.execRideExit m s
  | .supplyCriticalCore m => Sys2Proof.Machine.execSupplyCriticalCore m s
  | .supplyCriticalClear m => Sys2Proof.Machine.execSupplyCriticalClear m s
  | .thermalWarn m => Sys2Proof.Machine.execThermalWarn m s
  | .thermalWarnClear m => Sys2Proof.Machine.execThermalWarnClear m s
  | .thermalCritical m => Sys2Proof.Machine.execThermalCritical m s
  | .thermalCriticalClear m => Sys2Proof.Machine.execThermalCriticalClear m s
  | .wakeComplete regions => Sys2Proof.Machine.execWakeComplete regions s
  | .commandDoorbell pi packets => Sys2Proof.Machine.execCommandDoorbell pi packets s
  | .mbxRplCiWrite ci => Sys2Proof.Machine.execMbxRplCiWrite ci s
  | .mbxCtrlEnableWrite v => Sys2Proof.Machine.execMbxCtrlEnableWrite v s
  | .inbandCommandFrame f => Sys2Proof.Machine.execInbandCommandFrame f s
  | .sidebandWriteTransfer bytes => Sys2Proof.Machine.execSidebandWriteTransfer bytes s
  | .sidebandReadTransfer => Sys2Proof.Machine.execSidebandReadTransfer s
  | .sidebandSclTimeout => Sys2Proof.Machine.execSidebandSclTimeout s
  | .commandStartDeadline t idx => Sys2Proof.Machine.execCommandStartDeadline t idx s
  | .getStatus g => Sys2Proof.Machine.execGetStatus g s
  | .getResetCause g => Sys2Proof.Machine.execGetResetCause g s
  | .setBootPolicy g => Sys2Proof.Machine.execSetBootPolicy g s
  | .enterProvision g => Sys2Proof.Machine.execEnterProvision g s
  | .commitConfig g => Sys2Proof.Machine.execCommitConfig g s
  | .enterMaintenance g => Sys2Proof.Machine.execEnterMaintenance g s
  | .enterQuiesce g => Sys2Proof.Machine.execEnterQuiesce g s
  | .quiesceDrainEnd => Sys2Proof.Machine.execQuiesceDrainEnd s
  | .drainLimitExpiry => Sys2Proof.Machine.execDrainLimitExpiry s
  | .returnService g => Sys2Proof.Machine.execReturnService g s
  | .resetDevice g => Sys2Proof.Machine.execResetDevice g s
  | .setPowerState g => Sys2Proof.Machine.execSetPowerState g s
  | .avsConfig g => Sys2Proof.Machine.execAvsConfig g s
  | .deviceConfig g => Sys2Proof.Machine.execDeviceConfig g s
  | .getSecurityStatus g => Sys2Proof.Machine.execGetSecurityStatus g s
  | .takeOwnership g => Sys2Proof.Machine.execTakeOwnership g s
  | .installKey g => Sys2Proof.Machine.execInstallKey g s
  | .revokeKey g => Sys2Proof.Machine.execRevokeKey g s
  | .setOwnerPolicy g => Sys2Proof.Machine.execSetOwnerPolicy g s
  | .lockDevice g => Sys2Proof.Machine.execLockDevice g s
  | .setMinVersion g => Sys2Proof.Machine.execSetMinVersion g s
  | .retireDevice g => Sys2Proof.Machine.execRetireDevice g s
  | .debugChallenge g => Sys2Proof.Machine.execDebugChallenge g s
  | .debugUnlock g => Sys2Proof.Machine.execDebugUnlock g s
  | .debugClose g => Sys2Proof.Machine.execDebugClose g s
  | .debugChallengeExpiry => Sys2Proof.Machine.execDebugChallengeExpiry s
  | .debugSessionExpiry => Sys2Proof.Machine.execDebugSessionExpiry s
  | .portConfig g => Sys2Proof.Machine.execPortConfig g s
  | .portSetState g => Sys2Proof.Machine.execPortSetState g s
  | .portStatus g => Sys2Proof.Machine.execPortStatus g s
  | .laneMap g => Sys2Proof.Machine.execLaneMap g s
  | .laneTxEq g => Sys2Proof.Machine.execLaneTxEq g s
  | .laneRxEq g => Sys2Proof.Machine.execLaneRxEq g s
  | .laneStatus g => Sys2Proof.Machine.execLaneStatus g s
  | .laneTest g => Sys2Proof.Machine.execLaneTest g s
  | .laneTestResult g => Sys2Proof.Machine.execLaneTestResult g s
  | .laneTestDurationExpiry p => Sys2Proof.Machine.execLaneTestDurationExpiry p s
  | .dlkConfig g => Sys2Proof.Machine.execDlkConfig g s
  | .dlkDelay g => Sys2Proof.Machine.execDlkDelay g s
  | .dlkStatus g => Sys2Proof.Machine.execDlkStatus g s
  | .classMap g => Sys2Proof.Machine.execClassMap g s
  | .flowControl g => Sys2Proof.Machine.execFlowControl g s
  | .portDelay g => Sys2Proof.Machine.execPortDelay g s
  | .losslessBudget g => Sys2Proof.Machine.execLosslessBudget g s
  | .ecnConfig g => Sys2Proof.Machine.execEcnConfig g s
  | .losslessStatus g => Sys2Proof.Machine.execLosslessStatus g s
  | .moduleRead g => Sys2Proof.Machine.execModuleRead g s
  | .moduleWrite g => Sys2Proof.Machine.execModuleWrite g s
  | .moduleControl g => Sys2Proof.Machine.execModuleControl g s
  | .moduleBus g => Sys2Proof.Machine.execModuleBus g s
  | .xoConfig g => Sys2Proof.Machine.execXoConfig g s
  | .refConfig g => Sys2Proof.Machine.execRefConfig g s
  | .dpllConfig g => Sys2Proof.Machine.execDpllConfig g s
  | .esmcConfig g => Sys2Proof.Machine.execEsmcConfig g s
  | .jumpResolve g => Sys2Proof.Machine.execJumpResolve g s
  | .refStatus g => Sys2Proof.Machine.execRefStatus g s
  | .dpllStatus g => Sys2Proof.Machine.execDpllStatus g s
  | .synBandTable g => Sys2Proof.Machine.execSynBandTable g s
  | .synConfig g => Sys2Proof.Machine.execSynConfig g s
  | .outConfig g => Sys2Proof.Machine.execOutConfig g s
  | .ppsConfig g => Sys2Proof.Machine.execPpsConfig g s
  | .todConfig g => Sys2Proof.Machine.execTodConfig g s
  | .clockStatus g => Sys2Proof.Machine.execClockStatus g s
  | .ptpClockConfig g => Sys2Proof.Machine.execPtpClockConfig g s
  | .ptpPortConfig g => Sys2Proof.Machine.execPtpPortConfig g s
  | .timeProperties g => Sys2Proof.Machine.execTimeProperties g s
  | .stepTime g => Sys2Proof.Machine.execStepTime g s
  | .timeStatus g => Sys2Proof.Machine.execTimeStatus g s
  | .timePortStatus g => Sys2Proof.Machine.execTimePortStatus g s
  | .traceReport g => Sys2Proof.Machine.execTraceReport g s
  | .traceRead g => Sys2Proof.Machine.execTraceRead g s
  | .tdePin g => Sys2Proof.Machine.execTdePin g s
  | .tdeSource g => Sys2Proof.Machine.execTdeSource g s
  | .evConfig g => Sys2Proof.Machine.execEvConfig g s
  | .intervalMeasure g => Sys2Proof.Machine.execIntervalMeasure g s
  | .statsRun g => Sys2Proof.Machine.execStatsRun g s
  | .statsRead g => Sys2Proof.Machine.execStatsRead g s
  | .tdeStatus g => Sys2Proof.Machine.execTdeStatus g s
  | .poolConfig g => Sys2Proof.Machine.execPoolConfig g s
  | .bufThreshold g => Sys2Proof.Machine.execBufThreshold g s
  | .poolStatus g => Sys2Proof.Machine.execPoolStatus g s
  | .stopBath g => Sys2Proof.Machine.execStopBath g s
  | .stopBathHoldExpiry h => Sys2Proof.Machine.execStopBathHoldExpiry h s
  | .egressSched g => Sys2Proof.Machine.execEgressSched g s
  | .deadlockConfig g => Sys2Proof.Machine.execDeadlockConfig g s
  | .deadlockStatus g => Sys2Proof.Machine.execDeadlockStatus g s
  | .sliceAssign g => Sys2Proof.Machine.execSliceAssign g s
  | .sliceReturn g => Sys2Proof.Machine.execSliceReturn g s
  | .sliceStatus g => Sys2Proof.Machine.execSliceStatus g s
  | .mcastGroup g => Sys2Proof.Machine.execMcastGroup g s
  | .mcastConfig g => Sys2Proof.Machine.execMcastConfig g s
  | .tableBulkLoad g => Sys2Proof.Machine.execTableBulkLoad g s
  | .fence g => Sys2Proof.Machine.execFence g s
  | .fenceLimitExpiry h => Sys2Proof.Machine.execFenceLimitExpiry h s
  | .tableShadow g => Sys2Proof.Machine.execTableShadow g s
  | .learnConfig g => Sys2Proof.Machine.execLearnConfig g s
  | .l2PortConfig g => Sys2Proof.Machine.execL2PortConfig g s
  | .fdbFlush g => Sys2Proof.Machine.execFdbFlush g s
  | .tcamRebuild g => Sys2Proof.Machine.execTcamRebuild g s
  | .tableStatus g => Sys2Proof.Machine.execTableStatus g s
  | .negStatus g => Sys2Proof.Machine.execNegStatus g s
  | .negRead g => Sys2Proof.Machine.execNegRead g s
  | .negExport g => Sys2Proof.Machine.execNegExport g s
  | .calSweep g => Sys2Proof.Machine.execCalSweep g s
  | .calStatus g => Sys2Proof.Machine.execCalStatus g s
  | .contactRestore g => Sys2Proof.Machine.execContactRestore g s
  | .contactStatus g => Sys2Proof.Machine.execContactStatus g s
  | .fwStatus g => Sys2Proof.Machine.execFwStatus g s
  | .fwUpdate g => Sys2Proof.Machine.execFwUpdate g s
  | .fwData g => Sys2Proof.Machine.execFwData g s
  | .fwDataWaitExpiry h => Sys2Proof.Machine.execFwDataWaitExpiry h s
  | .fwSectorWritten h dma read => Sys2Proof.Machine.execFwSectorWritten h dma read s
  | .opQuery g => Sys2Proof.Machine.execOpQuery g s
  | .opSuspend g => Sys2Proof.Machine.execOpSuspend g s
  | .opResume g => Sys2Proof.Machine.execOpResume g s
  | .opCancel g => Sys2Proof.Machine.execOpCancel g s
  | .opCancelOutcome h => Sys2Proof.Machine.execOpCancelOutcome h s
  | .opUnrecoverableError h e => Sys2Proof.Machine.execOpUnrecoverableError h e s
  | .bulkRecordCommitted h dma => Sys2Proof.Machine.execBulkRecordCommitted h dma s
  | .exportRecordCopied h => Sys2Proof.Machine.execExportRecordCopied h s
  | .tracePortRecordBuilt h => Sys2Proof.Machine.execTracePortRecordBuilt h s
  | .idcode => Sys2Proof.Machine.execIdcode s
  | .bypass => Sys2Proof.Machine.execBypass s
  | .sample pins => Sys2Proof.Machine.execSample pins s
  | .preload cells => Sys2Proof.Machine.execPreload cells s
  | .extest => Sys2Proof.Machine.execExtest s
  | .dbgTrace n => Sys2Proof.Machine.execDbgTrace n s
  | .dbgRead addr => Sys2Proof.Machine.execDbgRead addr s
  | .dbgWrite addr data => Sys2Proof.Machine.execDbgWrite addr data s
  | .dbgReset => Sys2Proof.Machine.execDbgReset s
  | .factoryTest c => Sys2Proof.Machine.execFactoryTest c s
  | .testLogicReset => Sys2Proof.Machine.execTestLogicReset s
  | .losAssert l => Sys2Proof.Machine.execLosAssert l s
  | .losClear l => Sys2Proof.Machine.execLosClear l s
  | .lolAssert l => Sys2Proof.Machine.execLolAssert l s
  | .lolClear l => Sys2Proof.Machine.execLolClear l s
  | .rxAdaptUpdate l ctle dfe conv corrected offset => Sys2Proof.Machine.execRxAdaptUpdate l ctle dfe conv corrected offset s
  | .ethModuleReady p => Sys2Proof.Machine.execEthModuleReady p s
  | .anComplete p => Sys2Proof.Machine.execAnComplete p s
  | .ethTrainingComplete p taps => Sys2Proof.Machine.execEthTrainingComplete p taps s
  | .maxWaitTimerExpiry p => Sys2Proof.Machine.execMaxWaitTimerExpiry p s
  | .adaptConverged p => Sys2Proof.Machine.execAdaptConverged p s
  | .adaptTimeout p => Sys2Proof.Machine.execAdaptTimeout p s
  | .alignLock p lat => Sys2Proof.Machine.execAlignLock p lat s
  | .alignTimeout p => Sys2Proof.Machine.execAlignTimeout p s
  | .moduleRemoved p => Sys2Proof.Machine.execModuleRemoved p s
  | .alignLoss p => Sys2Proof.Machine.execAlignLoss p s
  | .hiBer p => Sys2Proof.Machine.execHiBer p s
  | .faultReceived p => Sys2Proof.Machine.execFaultReceived p s
  | .faultEnd m => Sys2Proof.Machine.execFaultEnd m s
  | .ethBackoffExpiry p => Sys2Proof.Machine.execEthBackoffExpiry p s
  | .dlkModuleReady p => Sys2Proof.Machine.execDlkModuleReady p s
  | .dlkTrainingComplete p => Sys2Proof.Machine.execDlkTrainingComplete p s
  | .dlkTrainTimeout p half => Sys2Proof.Machine.execDlkTrainTimeout p half s
  | .dlkLanesLocked p locked => Sys2Proof.Machine.execDlkLanesLocked p locked s
  | .dlkLockTimeout p locked => Sys2Proof.Machine.execDlkLockTimeout p locked s
  | .dlkExchangeTimeout p => Sys2Proof.Machine.execDlkExchangeTimeout p s
  | .dlkBackoffExpiry p => Sys2Proof.Machine.execDlkBackoffExpiry p s
  | .dlkSlot p deps => Sys2Proof.Machine.execDlkSlot p deps s
  | .dlkCapExchangeTx p => Sys2Proof.Machine.execDlkCapExchangeTx p s
  | .shutterMarkArrival p l index raw => Sys2Proof.Machine.execShutterMarkArrival p l index raw s
  | .tileLost p l pos mark stuffed stuffBad => Sys2Proof.Machine.execTileLost p l pos mark stuffed stuffBad s
  | .dlkDataTileRx p t => Sys2Proof.Machine.execDlkDataTileRx p t s
  | .dlkIdleTileRx p t => Sys2Proof.Machine.execDlkIdleTileRx p t s
  | .dlkCreditTileRx p t => Sys2Proof.Machine.execDlkCreditTileRx p t s
  | .dlkAbortTileRx p t => Sys2Proof.Machine.execDlkAbortTileRx p t s
  | .dlkTimeTileRx p t => Sys2Proof.Machine.execDlkTimeTileRx p t s
  | .dlkTrainTileRx p t eye tap action => Sys2Proof.Machine.execDlkTrainTileRx p t eye tap action s
  | .dlkCapExchangeRx p t => Sys2Proof.Machine.execDlkCapExchangeRx p t s
  | .dlkCapLaneStateRx p t => Sys2Proof.Machine.execDlkCapLaneStateRx p t s
  | .dlkCapDelayUpdateRx p t => Sys2Proof.Machine.execDlkCapDelayUpdateRx p t s
  | .dlkCapLaneTrainRx p t => Sys2Proof.Machine.execDlkCapLaneTrainRx p t s
  | .laneRetry p l => Sys2Proof.Machine.execLaneRetry p l s
  | .dlkLaneRelock p l => Sys2Proof.Machine.execDlkLaneRelock p l s
  | .sgpioScan inputs => Sys2Proof.Machine.execSgpioScan inputs s
  | .resetlRelease p => Sys2Proof.Machine.execResetlRelease p s
  | .moduleInitComplete p app cmis => Sys2Proof.Machine.execModuleInitComplete p app cmis s
  | .moduleIntl p flags cmis ready => Sys2Proof.Machine.execModuleIntl p flags cmis ready s
  | .moduleFlagPoll p flags cmis ready => Sys2Proof.Machine.execModuleFlagPoll p flags cmis ready s
  | .frameGrantPoint p head upsets => Sys2Proof.Machine.execFrameGrantPoint p head upsets s
  | .cacheRefillDone p => Sys2Proof.Machine.execCacheRefillDone p s
  | .cacheSpillDone p => Sys2Proof.Machine.execCacheSpillDone p s
  | .frameEnd p rest => Sys2Proof.Machine.execFrameEnd p rest s
  | .frameLookup p tokens faults corrected => Sys2Proof.Machine.execFrameLookup p tokens faults corrected s
  | .qmResultArrival sl p epoch more => Sys2Proof.Machine.execQmResultArrival sl p epoch more s
  | .crossbarRound upsets => Sys2Proof.Machine.execCrossbarRound upsets s
  | .egressFrameSelect p => Sys2Proof.Machine.execEgressFrameSelect p s
  | .pfcFrameRx p vec times => Sys2Proof.Machine.execPfcFrameRx p vec times s
  | .pauseFrameRx p quanta => Sys2Proof.Machine.execPauseFrameRx p quanta s
  | .rxPauseExpiry p c => Sys2Proof.Machine.execRxPauseExpiry p c s
  | .pfcRepeatTimer p c => Sys2Proof.Machine.execPfcRepeatTimer p c s
  | .trapFrameDelivery c => Sys2Proof.Machine.execTrapFrameDelivery c s
  | .injectFrameDone c => Sys2Proof.Machine.execInjectFrameDone c s
  | .readIndex w t => Sys2Proof.Machine.execReadIndex w t s
  | .writeIndex w t => Sys2Proof.Machine.execWriteIndex w t s
  | .insert w t => Sys2Proof.Machine.execInsert w t s
  | .delete w t => Sys2Proof.Machine.execDelete w t s
  | .search w t => Sys2Proof.Machine.execSearch w t s
  | .clearHit w t => Sys2Proof.Machine.execClearHit w t s
  | .tawPortGrant w => Sys2Proof.Machine.execTawPortGrant w s
  | .tawStartLimitExpiry w => Sys2Proof.Machine.execTawStartLimitExpiry w s
  | .ageingSweepVisit sl ix => Sys2Proof.Machine.execAgeingSweepVisit sl ix s
  | .tcamScrub sl lpm cls => Sys2Proof.Machine.execTcamScrub sl lpm cls s
  | .tcamRebuildDone sl => Sys2Proof.Machine.execTcamRebuildDone sl s
  | .tcamSelftestDone sl failing => Sys2Proof.Machine.execTcamSelftestDone sl failing s
  | .shadowCompareRead t r => Sys2Proof.Machine.execShadowCompareRead t r s
  | .watchdogWindowEnd sl stalled => Sys2Proof.Machine.execWatchdogWindowEnd sl stalled s
  | .sliceTakeover => Sys2Proof.Machine.execSliceTakeover s
  | .deadlockSuspect p c => Sys2Proof.Machine.execDeadlockSuspect p c s
  | .avsLoopTick ok pace => Sys2Proof.Machine.execAvsLoopTick ok pace s
  | .avsbusRetry ok => Sys2Proof.Machine.execAvsbusRetry ok s
  | .xoLost => Sys2Proof.Machine.execXoLost s
  | .xoRestored => Sys2Proof.Machine.execXoRestored s
  | .xoRdyChange level => Sys2Proof.Machine.execXoRdyChange level s
  | .warmHoldExpiry spread => Sys2Proof.Machine.execWarmHoldExpiry spread s
  | .refActivityFailure r => Sys2Proof.Machine.execRefActivityFailure r s
  | .freqMonitorUpdate r act offset slope => Sys2Proof.Machine.execFreqMonitorUpdate r act offset slope s
  | .driftClearExpiry r => Sys2Proof.Machine.execDriftClearExpiry r s
  | .qualificationTimerExpiry r => Sys2Proof.Machine.execQualificationTimerExpiry r s
  | .selectionTick loops src => Sys2Proof.Machine.execSelectionTick loops src s
  | .dpllLockDwellExpiry d => Sys2Proof.Machine.execDpllLockDwellExpiry d s
  | .dpllUnlock d => Sys2Proof.Machine.execDpllUnlock d s
  | .bandwidthNarrowStep d => Sys2Proof.Machine.execBandwidthNarrowStep d s
  | .frequencyLock o => Sys2Proof.Machine.execFrequencyLock o s
  | .slewComplete => Sys2Proof.Machine.execSlewComplete s
  | .ppsinPulse ix capture => Sys2Proof.Machine.execPpsinPulse ix capture s
  | .todRxMessage b late => Sys2Proof.Machine.execTodRxMessage b late s
  | .esmcPduRx p ssm essm => Sys2Proof.Machine.execEsmcPduRx p ssm essm s
  | .esmcTimeout p => Sys2Proof.Machine.execEsmcTimeout p s
  | .esmcInfoTx p => Sys2Proof.Machine.execEsmcInfoTx p s
  | .ptpSyncRx p m => Sys2Proof.Machine.execPtpSyncRx p m s
  | .ptpFollowUpRx p m => Sys2Proof.Machine.execPtpFollowUpRx p m s
  | .ptpDelayReqRx p m => Sys2Proof.Machine.execPtpDelayReqRx p m s
  | .ptpDelayRespRx p m => Sys2Proof.Machine.execPtpDelayRespRx p m s
  | .ptpAnnounceRx p m a => Sys2Proof.Machine.execPtpAnnounceRx p m a s
  | .ptpPdelayReqRx p m txc => Sys2Proof.Machine.execPtpPdelayReqRx p m txc s
  | .ptpPdelayRespRx p m => Sys2Proof.Machine.execPtpPdelayRespRx p m s
  | .ptpPdelayRespFollowUpRx p m => Sys2Proof.Machine.execPtpPdelayRespFollowUpRx p m s
  | .l1SyncTlvRx p txCoherent rxCoherent congruent => Sys2Proof.Machine.execL1SyncTlvRx p txCoherent rxCoherent congruent s
  | .ptpUnsupportedRx p => Sys2Proof.Machine.execPtpUnsupportedRx p s
  | .ptpSyncTx p txc => Sys2Proof.Machine.execPtpSyncTx p txc s
  | .ptpAnnounceTx p => Sys2Proof.Machine.execPtpAnnounceTx p s
  | .ptpDelayReqTx p txc => Sys2Proof.Machine.execPtpDelayReqTx p txc s
  | .ptpPdelayReqTx p txc => Sys2Proof.Machine.execPtpPdelayReqTx p txc s
  | .announceReceiptTimeout p => Sys2Proof.Machine.execAnnounceReceiptTimeout p s
  | .syncReceiptTimeout p => Sys2Proof.Machine.execSyncReceiptTimeout p s
  | .delayRespTimeout p => Sys2Proof.Machine.execDelayRespTimeout p s
  | .offsetPairTimeout p => Sys2Proof.Machine.execOffsetPairTimeout p s
  | .announceBlockRewrite p => Sys2Proof.Machine.execAnnounceBlockRewrite p s
  | .stepConfirmExpiry => Sys2Proof.Machine.execStepConfirmExpiry s
  | .withdrawalEnd k => Sys2Proof.Machine.execWithdrawalEnd k s
  | .ppsSecondBoundary m0 m1 => Sys2Proof.Machine.execPpsSecondBoundary m0 m1 s
  | .ppsWidthEnd n => Sys2Proof.Machine.execPpsWidthEnd n s
  | .todTxStart => Sys2Proof.Machine.execTodTxStart s
  | .rebandCheck ix => Sys2Proof.Machine.execRebandCheck ix s
  | .synthLockLoss ix => Sys2Proof.Machine.execSynthLockLoss ix s
  | .sourceSettled ix => Sys2Proof.Machine.execSourceSettled ix s
  | .tdeVisitSlot e c found => Sys2Proof.Machine.execTdeVisitSlot e c found s
  | .tdeEdge c stamp coarse tx => Sys2Proof.Machine.execTdeEdge c stamp coarse tx s
  | .tdeClaimGrant e => Sys2Proof.Machine.execTdeClaimGrant e s
  | .measurementWindowClose e => Sys2Proof.Machine.execMeasurementWindowClose e s
  | .statsStartWaitExpiry e => Sys2Proof.Machine.execStatsStartWaitExpiry e s
  | .calStep ix ok ws => Sys2Proof.Machine.execCalStep ix ok ws s
  | .calNoGapExpiry ix => Sys2Proof.Machine.execCalNoGapExpiry ix s
  | .delayPublication => Sys2Proof.Machine.execDelayPublication s
  | .calApply ix => Sys2Proof.Machine.execCalApply ix s
  | .calRestart ix => Sys2Proof.Machine.execCalRestart ix s
  | .statPeriod => Sys2Proof.Machine.execStatPeriod s
  | .statSnap => Sys2Proof.Machine.execStatSnap s
  | .tsuSnap => Sys2Proof.Machine.execTsuSnap s
  | .irqCauseWrite w v => Sys2Proof.Machine.execIrqCauseWrite w v s
  | .irqHoldoffExpiry v => Sys2Proof.Machine.execIrqHoldoffExpiry v s
  | .irqEvqCiWrite ci => Sys2Proof.Machine.execIrqEvqCiWrite ci s
  | .irqEvqArm => Sys2Proof.Machine.execIrqEvqArm s
  | .irqEvqLostRead => Sys2Proof.Machine.execIrqEvqLostRead s
  | .pacDropsLoRead sl => Sys2Proof.Machine.execPacDropsLoRead sl s
  | .trapHostIdxWrite c idx ds => Sys2Proof.Machine.execTrapHostIdxWrite c idx ds s
  | .injectHostIdxWrite c idx ds => Sys2Proof.Machine.execInjectHostIdxWrite c idx ds s
  | .cpuRingEnableWrite trap c en => Sys2Proof.Machine.execCpuRingEnableWrite trap c en s
  | .registerWrite bar2 off v => Sys2Proof.Machine.execRegisterWrite bar2 off v s
  | .holdoverSpecExpiry => Sys2Proof.Machine.execHoldoverSpecExpiry s
  | .bridgedChangeBack n => Sys2Proof.Machine.execBridgedChangeBack n s
  | .stopBathFrameDrained h => Sys2Proof.Machine.execStopBathFrameDrained h s
  | .laneRetryBackoffExpiry p l => Sys2Proof.Machine.execLaneRetryBackoffExpiry p l s
  | .contactSheetSaveDone h => Sys2Proof.Machine.execContactSheetSaveDone h s

end Sys2Proof.Machine
end

