-- ==== Sys2Proof/Machine/RegRead.lean ====
section
/-! DEFINITION. What an aligned 32-bit read of a register returns (R6, R7, R526, R527): RO and W1C fields their current value, RW fields the last value written or the reset value, WO and reserved fields zero. Reading changes nothing (log 99) but for the two reads that have rows, IRQ_EVQ_LOST (RC) and PAC_DROPS_LO (R531, R535). -/

namespace Sys2Proof.Machine

/-- The low or high 32 bits of a 64-bit value. -/
def halfOf (v : Nat) (hi : Bool) : Nat := if hi then v / 2 ^ 32 % 2 ^ 32 else v % 2 ^ 32

/-- Fields of a word as (lowest bit, width, value). -/
def fieldsOf (l : List (Nat × Nat × Nat)) : Nat := (l.map (fun x => x.2.2 % 2 ^ x.2.1 * 2 ^ x.1)).sum

/-- The pin levels of GPIO0 to GPIO7: the level driven where OE is 1, else what the board gives (R528). -/
def gpioIn (s : State) : Nat := ((s.sys.gpioOut &&& s.sys.gpioOe) ||| (Config.gpioLevels s.clk.now &&& ~~~s.sys.gpioOe)).toNat

/-- SYS (R528). -/
def sysRead (s : State) (off : Nat) : Nat :=
  match off with
  | 0x00 => 0xB16425
  | 0x04 => fieldsOf [(0, 3, s.sys.mode.code), (8, 3, s.pwr.state.code), (16, 2, s.nv.lifecycle.code), (20, 2, (s.dbg.session.map (·.level)).getD 0)]
  | 0x08 => bitsNat [!s.tim.xo.present || s.tim.xo.lost, s.sys.draining, s.sys.fallback, s.sys.noImage, bootHold s, s.sys.fwAlive] +
      fieldsOf [(8, 2, s.sys.running), (12, 3, s.sys.imgA.state), (16, 3, s.sys.imgB.state)]
  | 0x0C => fieldsOf [(0, 8, s.sys.resetCode), (8, 8, min 255 s.nv.attempts), (16, 2, s.sys.lastStart)]
  | 0x10 => s.sys.resetData
  | 0x14 => runningVersion s
  | 0x18 => halfOf Config.deviceId.toNat false
  | 0x1C => halfOf Config.deviceId.toNat true
  | 0x20 => fieldsOf [(0, 16, (s.pwr.tj % 65536).toNat), (16, 4, s.pwr.sensor.val)]
  | 0x24 => fieldsOf [(0, 16, s.pwr.auxMv), (16, 16, s.pwr.coreMv)]
  | 0x28 => s.sys.scratch.toNat
  | 0x2C => fieldsOf [(0, 8, gpioIn s), (8, 8, s.sys.gpioOut.toNat), (16, 8, s.sys.gpioOe.toNat)]
  | _ => 0

/-- MBX (R529). -/
def mbxRead (s : State) (off : Nat) : Nat :=
  match off with
  | 0x00 => halfOf s.mbx.cmdBase.toNat false
  | 0x04 => halfOf s.mbx.cmdBase.toNat true
  | 0x08 => halfOf s.mbx.rplBase.toNat false
  | 0x0C => halfOf s.mbx.rplBase.toNat true
  | 0x10 => s.mbx.cmdPi
  | 0x14 => s.mbx.cmdCi
  | 0x18 => s.mbx.rplPi
  | 0x1C => s.mbx.rplCi
  | 0x20 => bitsNat [s.mbx.enable]
  | 0x24 => fieldsOf [(0, 1, bitsNat [s.mbx.enable]), (8, 8, min 255 s.mbx.held.length)]
  | _ => 0

/-- IRQ, the MSI-X table and its pending bits (R527, R531). -/
def irqRead (s : State) (off : Nat) : Nat :=
  if off < 0x10 then bitsAt s.irq.cause.toNat (8 * off) 32
  else if off < 0x20 then bitsAt s.irq.mask.toNat (8 * (off - 0x10)) 32
  else if off = 0x20 then bitsNat [s.irq.pinEn, s.irq.evqEnable]
  else if off = 0x24 then halfOf s.irq.evqBase.toNat false
  else if off = 0x28 then halfOf s.irq.evqBase.toNat true
  else if off = 0x2C then s.irq.evqLog
  else if off = 0x30 then s.irq.evqPi
  else if off = 0x34 then s.irq.evqCi
  else if off = 0x38 then s.irq.evqLost
  else if 0x100 ≤ off ∧ off < 0x180 then fieldsOf ((List.range 4).map (fun k => (8 * k, 6, s.irq.vectorOf (off - 0x100 + k))))
  else if 0x200 ≤ off ∧ off < 0x300 then s.irq.holdoff.get 0 ((off - 0x200) / 4)
  else if 0x8000 ≤ off ∧ off < 0x8400 then s.irq.msix.get (if (off - 0x8000) / 4 % 4 = 3 then 1 else 0) ((off - 0x8000) / 4)
  else if off = 0x9000 ∨ off = 0x9004 then halfOf s.irq.pendingMsg.toNat (off == 0x9004)
  else 0

/-- The level of pin IRQ_N: low while PIN_EN is 1 and any enabled cause is set (R531, R561). -/
def State.irqN (s : State) : Bool := !(s.irq.pinEn && s.irq.cause &&& s.irq.mask != 0#128)

/-- A table access window (R244). -/
def tawRead32 (s : State) (w off : Nat) : Nat :=
  let q := s.win w
  if off = 0 then fieldsOf [(0, 4, q.op), (4, 4, q.table), (31, 1, bitsNat [q.busy])]
  else if off = 4 then q.index
  else if off = 8 then q.limit
  else if off = 0xC then fieldsOf [(0, 4, q.code), (8, 8, min 255 q.moves), (16, 1, bitsNat [q.dyn]), (17, 1, bitsNat [q.overflow])]
  else if off = 0x10 then q.rindex
  else if off = 0x14 then
    bitsNat ([q.overrun] ++ if w < 17 then
      [(s.tab w).mode != .tcam, (s.tab w).mode == .tcam, (s.slice w).st == .quarantine, (s.slice w).st == .spare] else [])
  else if 0x40 ≤ off ∧ off < 0x68 then bitsAt q.key (8 * (off - 0x40)) 32
  else if 0x80 ≤ off ∧ off < 0xA8 then bitsAt q.mask (8 * (off - 0x80)) 32
  else if 0xC0 ≤ off ∧ off < 0xCC then q.data.getD ((off - 0xC0) / 4) 0
  else 0

/-- TSU (R417). -/
def tsuRead (s : State) (off : Nat) : Nat :=
  let t := s.tim.time
  match off with
  | 0x04 => bitsNat [t.snapDone, s.clk.todSet, t.run.isSome, (s.dpll 0).jump.isSome] + fieldsOf [(4, 2, (s.dpll 0).st.code), (16, 16, s.nv.timeGen)]
  | 0x10 => t.snapSec % 2 ^ 32
  | 0x14 => fieldsOf [(0, 16, t.snapSec / 2 ^ 32), (16, 16, t.snapGen)]
  | 0x18 => t.snapNs
  | 0x1C => t.snapTs
  | 0x20 => t.snapFrac
  | 0x30 => s.ts32
  | _ => 0

/-- A slice's registers in PAC (R535). -/
def pacSlice (s : State) (i off : Nat) : Nat :=
  let r := s.slice i
  match off with
  | 0x00 => r.rate
  | 0x04 => r.rateMin
  | 0x08 => demand s i / 100
  | 0x0C => fieldsOf [(0, 16, margin s i), (16, 3, r.st.code)]
  | 0x10 => r.lpmExtra
  | 0x18 => r.paceDrops % 2 ^ 32
  | 0x1C => r.dropsHi
  | _ => 0

/-- PAC (R535). -/
def pacRead (s : State) (off : Nat) : Nat :=
  let a := s.core.avs
  if off = 0 then
    fieldsOf [(0, 10, a.target), (16, 10, s.pwr.coreMv), (28, 1, bitsNat [a.hold]), (29, 1, bitsNat [a.target == a.vmax]), (30, 1, bitsNat [a.fault])]
  else if off = 4 then fieldsOf [(0, 10, a.vmin), (16, 10, a.vmax)]
  else if off = 8 then fieldsOf [(0, 16, a.minMargin), (16, 5, a.minSlice)]
  else if 0x100 ≤ off ∧ off < 0x100 + 17 * 0x20 then pacSlice s ((off - 0x100) / 0x20) (off % 0x20)
  else 0

/-- STAT (R536). -/
def statRead (s : State) (off : Nat) : Nat :=
  match off with
  | 0x00 => bitsNat [s.stat.enable]
  | 0x04 => s.stat.periodMs
  | 0x08 => halfOf s.stat.base.toNat false
  | 0x0C => halfOf s.stat.base.toNat true
  | 0x10 => s.stat.slots
  | 0x14 => s.stat.pi
  | 0x18 => s.stat.seq
  | 0x1C => 83392
  | _ => 0

/-- A calibration window (R464). -/
def calRead32 (s : State) (i off : Nat) : Nat :=
  if off < 0x20 then (calRegs s i).getD (off / 4) 0
  else if 0x100 ≤ off ∧ off < 0x920 ∧ (off - 0x100) / 4 < calWords i then calLive s i ((off - 0x100) / 4)
  else 0

/-- A CPU-port ring's registers (R540). -/
def ringRead (r : CpuRing) (off : Nat) : Nat :=
  match off with
  | 0x00 => halfOf r.base.toNat false
  | 0x04 => halfOf r.base.toNat true
  | 0x08 => r.log
  | 0x0C => r.hostIdx
  | 0x10 => r.devIdx
  | 0x14 => bitsNat [r.enable]
  | _ => 0

/-- BAR2 (R540): trap rings, then inject rings. -/
def cpuRead (s : State) (off : Nat) : Nat :=
  let c := off % 0x1000 / 0x40
  if 7 < c ∨ 0x2000 ≤ off then 0
  else ringRead ((if off < 0x1000 then s.trap else s.inject).get CpuRing.reset c) (off % 0x40)

/-- What a read of the 32-bit register at a byte offset of BAR0 or BAR2 returns; none where the access is completed with Unsupported Request (R526) or PERST_N is low. In SAFE, BAR0 serves only SYS, MBX and IRQ, and the rest reads zero (R57, R527). -/
def State.regRead (s : State) (bar2 : Bool) (off : Nat) : Option Nat :=
  if off % 4 ≠ 0 ∨ s.sys.perst = true then none
  else some (
    if bar2 then cpuRead s off
    else if off < 0x10000 then sysRead s off
    else if off < 0x20000 then mbxRead s (off - 0x10000)
    else if off < 0x30000 then irqRead s (off - 0x20000)
    else if s.sys.mode = .safe then 0
    else if 0x100000 ≤ off ∧ off < 0x112000 then tawRead32 s ((off - 0x100000) / 0x1000) (off % 0x1000)
    else if 0x200000 ≤ off ∧ off < 0x210000 then tsuRead s (off - 0x200000)
    else if 0x300000 ≤ off ∧ off < 0x310000 then pacRead s (off - 0x300000)
    else if 0x400000 ≤ off ∧ off < 0x410000 then statRead s (off - 0x400000)
    else if 0x500000 ≤ off ∧ off < 0x500000 + 356 * 0x1000 then calRead32 s ((off - 0x500000) / 0x1000) (off % 0x1000)
    else 0)

end Sys2Proof.Machine
end

