-- ==== Sys2Proof/Safety.lean ====
section
/-! DEFINITION. What a safe run is, in the terms that claims use: a run of commands that meets no stop, what belongs to the owner, when a command packet is judged at once and accepted, and sparse tables in canonical form. -/

namespace Sys2Proof.Machine

/-- Carry out commands one after another; the first fault or refusal ends the run. -/
def runAll : List Instr → State → Host.Outcome State Fault Refusal
  | [], s => .next s
  | c :: cs, s =>
    match exec c s with
    | .next t => runAll cs t
    | .fault f => .fault f
    | .refused r => .refused r

/-- Does a command complete: with neither a fault nor a refusal? -/
def Completes (c : Instr) (s : State) : Prop := ∃ t, exec c s = .next t

/-! ### What belongs to the owner (R98 to R107) -/

/-- The keys that a lifecycle allows (R98): none in BLANK and RETIRED, K0 at least in OWNED and LOCKED. -/
def KeysFit (s : State) : Prop :=
  match s.nv.lifecycle with
  | .blank => s.nv.keys = []
  | .owned => (s.nv.keys.find? 0).isSome
  | .locked => (s.nv.keys.find? 0).isSome
  | .retired => s.nv.keys = []

/-- The queue of commands, and what belongs to the owner: lifecycle, keys, owner policy and hash, minimum version, RK. -/
def State.kept (s : State) : List Instr × Lifecycle × Tab Bytes × Bool × Bytes × Nat × Option Bytes :=
  (s.pending, s.nv.lifecycle, s.nv.keys, s.nv.ownerPolicy, s.nv.ownerHash, s.nv.minVersion, s.nv.rk)

/-- What a change may do to the owner's part (R99, R101, R107): the lifecycle never goes back, the minimum version never falls once LOCKED, and a stored RK stays. -/
def OwnerForward (s t : State) : Prop :=
  s.nv.lifecycle.code ≤ t.nv.lifecycle.code ∧
  (2 ≤ s.nv.lifecycle.code → s.nv.minVersion ≤ t.nv.minVersion) ∧
  (∀ r, s.nv.rk = some r → t.nv.rk = some r)

/-! ### Opcode rows -/

/-- The opcode and the operand of a row that is named after an opcode (R502 to R523). -/
def opcodeOf : Instr → Option (Nat × Gcp)
  | .getStatus g => some (0x0100, g)
  | .getResetCause g => some (0x0101, g)
  | .setBootPolicy g => some (0x0102, g)
  | .enterProvision g => some (0x0103, g)
  | .commitConfig g => some (0x0104, g)
  | .enterMaintenance g => some (0x0105, g)
  | .enterQuiesce g => some (0x0106, g)
  | .returnService g => some (0x0107, g)
  | .resetDevice g => some (0x0108, g)
  | .setPowerState g => some (0x0109, g)
  | .avsConfig g => some (0x010A, g)
  | .deviceConfig g => some (0x010B, g)
  | .getSecurityStatus g => some (0x0200, g)
  | .takeOwnership g => some (0x0201, g)
  | .installKey g => some (0x0202, g)
  | .revokeKey g => some (0x0203, g)
  | .setOwnerPolicy g => some (0x0204, g)
  | .lockDevice g => some (0x0205, g)
  | .setMinVersion g => some (0x0206, g)
  | .retireDevice g => some (0x0207, g)
  | .debugChallenge g => some (0x0208, g)
  | .debugUnlock g => some (0x0209, g)
  | .debugClose g => some (0x020A, g)
  | .portConfig g => some (0x0300, g)
  | .portSetState g => some (0x0301, g)
  | .portStatus g => some (0x0302, g)
  | .laneMap g => some (0x0303, g)
  | .laneTxEq g => some (0x0304, g)
  | .laneRxEq g => some (0x0305, g)
  | .laneStatus g => some (0x0306, g)
  | .laneTest g => some (0x0307, g)
  | .laneTestResult g => some (0x0308, g)
  | .dlkConfig g => some (0x0309, g)
  | .dlkDelay g => some (0x030A, g)
  | .dlkStatus g => some (0x030B, g)
  | .classMap g => some (0x030C, g)
  | .flowControl g => some (0x030D, g)
  | .portDelay g => some (0x030E, g)
  | .losslessBudget g => some (0x030F, g)
  | .ecnConfig g => some (0x0310, g)
  | .losslessStatus g => some (0x0311, g)
  | .moduleRead g => some (0x0312, g)
  | .moduleWrite g => some (0x0313, g)
  | .moduleControl g => some (0x0314, g)
  | .moduleBus g => some (0x0315, g)
  | .xoConfig g => some (0x0400, g)
  | .refConfig g => some (0x0401, g)
  | .dpllConfig g => some (0x0402, g)
  | .esmcConfig g => some (0x0403, g)
  | .jumpResolve g => some (0x0404, g)
  | .refStatus g => some (0x0405, g)
  | .dpllStatus g => some (0x0406, g)
  | .synBandTable g => some (0x0407, g)
  | .synConfig g => some (0x0408, g)
  | .outConfig g => some (0x0409, g)
  | .ppsConfig g => some (0x040A, g)
  | .todConfig g => some (0x040B, g)
  | .clockStatus g => some (0x040C, g)
  | .ptpClockConfig g => some (0x040D, g)
  | .ptpPortConfig g => some (0x040E, g)
  | .timeProperties g => some (0x040F, g)
  | .stepTime g => some (0x0410, g)
  | .timeStatus g => some (0x0411, g)
  | .timePortStatus g => some (0x0412, g)
  | .traceReport g => some (0x0413, g)
  | .traceRead g => some (0x0414, g)
  | .tdePin g => some (0x0500, g)
  | .tdeSource g => some (0x0501, g)
  | .evConfig g => some (0x0502, g)
  | .intervalMeasure g => some (0x0503, g)
  | .statsRun g => some (0x0504, g)
  | .statsRead g => some (0x0505, g)
  | .tdeStatus g => some (0x0506, g)
  | .poolConfig g => some (0x0600, g)
  | .bufThreshold g => some (0x0601, g)
  | .poolStatus g => some (0x0602, g)
  | .stopBath g => some (0x0603, g)
  | .egressSched g => some (0x0604, g)
  | .deadlockConfig g => some (0x0605, g)
  | .deadlockStatus g => some (0x0606, g)
  | .sliceAssign g => some (0x0607, g)
  | .sliceReturn g => some (0x0608, g)
  | .sliceStatus g => some (0x0609, g)
  | .mcastGroup g => some (0x060A, g)
  | .mcastConfig g => some (0x060B, g)
  | .tableBulkLoad g => some (0x0700, g)
  | .fence g => some (0x0701, g)
  | .tableShadow g => some (0x0702, g)
  | .learnConfig g => some (0x0703, g)
  | .l2PortConfig g => some (0x0704, g)
  | .fdbFlush g => some (0x0705, g)
  | .tcamRebuild g => some (0x0706, g)
  | .tableStatus g => some (0x0707, g)
  | .negStatus g => some (0x0800, g)
  | .negRead g => some (0x0801, g)
  | .negExport g => some (0x0802, g)
  | .calSweep g => some (0x0900, g)
  | .calStatus g => some (0x0901, g)
  | .contactRestore g => some (0x0902, g)
  | .contactStatus g => some (0x0903, g)
  | .fwStatus g => some (0x0A00, g)
  | .fwUpdate g => some (0x0A01, g)
  | .fwData g => some (0x0A02, g)
  | .opQuery g => some (0x0B00, g)
  | .opSuspend g => some (0x0B01, g)
  | .opResume g => some (0x0B02, g)
  | .opCancel g => some (0x0B03, g)
  | _ => none

/-- The rows, besides the opcodes', that start waiting commands or run the boot ROM: only these can bring a change to what belongs to the owner. -/
def runsOthers : Instr → Bool
  | .powerOn | .supplyReset | .sysRstNAssert | .sysRstNRelease _ | .thermalTrip _ | .resetAfterReply
  | .fatalInternalError .. | .xoInDetect _ | .firmwareAlive | .fwStartFail | .nvInhibitClear _ | .wakeComplete _
  | .commandDoorbell .. | .mbxRplCiWrite _ | .mbxCtrlEnableWrite _ | .inbandCommandFrame _ | .sidebandWriteTransfer _
  | .frameEnd .. | .dlkDataTileRx .. | .dlkIdleTileRx .. | .dlkCreditTileRx .. | .dlkAbortTileRx .. | .dlkTimeTileRx .. | .dlkTrainTileRx ..
  | .dlkCapExchangeRx .. | .dlkCapLaneStateRx .. | .dlkCapDelayUpdateRx .. | .dlkCapLaneTrainRx .. | .tileLost ..
  | .commandStartDeadline .. | .dbgReset | .measurementWindowClose .. | .statsStartWaitExpiry _ => true
  | _ => false

/-- The rows that act on a device held in reset: the reset sources themselves (R52, R567), PERST_N (R53) and the test port (R550). -/
def actsWhileHeld : Instr → Bool
  | .powerOn | .supplyReset | .sysRstNAssert | .sysRstNRelease _ | .thermalTrip _ | .thermtripRelease _ | .perstNAssert | .perstNRelease
  | .idcode | .bypass | .sample _ | .preload _ | .extest | .dbgTrace _ | .dbgRead _ | .dbgWrite .. | .dbgReset | .factoryTest _
  | .testLogicReset => true
  | _ => false

/-- The packet comes in: whether it finds room, and the state then. A frame is granted a buffer, which it lets go of once it is judged (R271, R292); an entry of the ring and a transfer need none. -/
def landed (op : Nat) (g : Gcp) (s : State) : Bool × State :=
  match g.origin with
  | .inband p _ _ => passBuffer (s.quadSlice (quadOf p.val)) (max 64 ((gcpBytes op g).length + 18)) s
  | _ => (true, s)

/-- A command packet reaches the device and is judged at once: reset does not hold the device, the packet finds room, no command waits, no POOL_CONFIG waits for buffers, the transport owes no reply, and the transport takes the packet (R68, R71 to R75, R271, R292). -/
def Arrives (op : Nat) (g : Gcp) (s : State) : Prop :=
  let u := (landed op g s).2
  s.held = false ∧ (landed op g s).1 = true ∧ u.gcp.pcie.waiting = [] ∧ u.gcp.inband.waiting = [] ∧ u.gcp.sideband.waiting = [] ∧
  u.core.poolsHold = none ∧ (u.gcp.chan (via g.origin)).due = none ∧
  match g.origin with
  | .pcie => u.sys.perst = false ∧ u.sys.d3hot = false ∧ u.mbx.enable = true ∧ u.mbx.held = [] ∧ u.mbx.replyRoom = true
  | .inband p src vlan =>
    let f : InbandFrame := { port := p, dst := s.sys.deviceMac, src := src, vlan := vlan, payload := gcpBytes op g }
    isCommandFrame f u = true ∧ inbandDiscards f (rateTick p.val u).1 (rateTick p.val u).2 = false
  | .sideband => 32 ≤ (gcpBytes op g).length ∧ (gcpBytes op g).length ≤ 4096

/-- The packet as the device reads it: a 4 KiB ring entry, a frame's payload cut to its lengths, or a transfer. -/
def arrivedCmd (op : Nat) (g : Gcp) : Cmd :=
  match g.origin with
  | .pcie => ⟨.pcie, toLen 4096 (gcpBytes op g)⟩
  | .inband p src vlan => ⟨.inband p src vlan, (gcpBytes op g).take (Cmd.mk (.inband p src vlan) (gcpBytes op g)).needs⟩
  | .sideband => ⟨.sideband, gcpBytes op g⟩

/-- The state in which it is judged: the ring's indices have passed the entry, or the frame has had its buffer and is counted, or the last sideband reply is gone; the next turn is the next transport's. -/
def arrivedState (op : Nat) (g : Gcp) (s : State) : State :=
  let s := (landed op g s).2
  match g.origin with
  | .pcie => { s with mbx := { s.mbx with cmdPi := (s.mbx.cmdPi + 1) % 256, cmdCi := (s.mbx.cmdCi + 1) % 256 },
                      gcp := { s.gcp with turn := 1 } }
  | .inband p _ _ => { (rateTick p.val s).2 with gcp := { (rateTick p.val s).2.gcp with turn := 2 } }
  | .sideband => { s with gcp := { s.gcp with sbReply := none, turn := 0 } }

/-- A command passes steps 1 to 14 of R80, is no repeat of a cached one (R88), and meets no failure inside the device at steps 15 and 16 (R85). -/
def Accepted (d : OpDef) (c : Cmd) (s : State) : Prop :=
  s.gcp.failing = none ∧
  early (some d) c = none ∧ cached? c s = none ∧ authFail d c s = none ∧ midFail d c s = none ∧ d.check c s = none

/-- A command passes steps 1 to 13 of R80 and is no repeat of a cached one: step 14 judges it. -/
def JudgedTo14 (d : OpDef) (c : Cmd) (s : State) : Prop :=
  early (some d) c = none ∧ cached? c s = none ∧ authFail d c s = none ∧ midFail d c s = none

/-- The key a command's reply is tagged under. -/
def replyTag (c : Cmd) (s : State) : Option Bytes := if c.auth then keyOf s c.slot else none

/-- The command of an opcode row, accepted, completes: step 15 persists its counter, the effect `f` of its opcode runs, and its answer is written (step 16). -/
def Carries (i : Instr) (f : Cmd → State → Answer × State) : Prop :=
  ∀ op g s d, opcodeOf i = some (op, g) → defOf op = some d →
    Arrives op g s → Accepted d (arrivedCmd op g) (arrivedState op g s) →
    exec i s = .next (d.after (answer (arrivedCmd op g) (replyTag (arrivedCmd op g) (arrivedState op g s))
      (f (arrivedCmd op g) (persist (arrivedCmd op g) (arrivedState op g s))).1
      (f (arrivedCmd op g) (persist (arrivedCmd op g) (arrivedState op g s))).2))

end Sys2Proof.Machine
end

