-- ==== Sys2Proof/Certificates/Slice0/Obligations.lean ====
section
/-! DEFINITION. The statements for the provers. Each says what a rule of the spec, or a whole-machine property of the model, asks of `step`, `exec` and the shared operations. -/

open Sys2Proof Sys2Proof.Machine

/-! ### The machine as a whole -/

/-- The block takes commands in the order of its queue: a step of a state with a command at the front of its queue is that command's effect on the state with the queue's rest. Where it rests on a reading or a choice of the model, that is log entry 3. -/
def Obligations.StepRunsTheFrontCommand : Prop :=
  (∀ (c : Instr) (s : State) (rest : List Instr), s.pending = c :: rest → step s = exec c { s with pending := rest }) ∧
  (∀ (c : Instr) (s : State), step (s.push c) = exec c s)

/-- With no command waiting, one timebase period of 800 ps passes (R2, R416; that a step on an empty queue is a tick is the model's choice, log entry 4): the TS counter advances by 0.8 ns where DPLL-T neither steers nor slews, and nothing but the clock and DPLL-T's slew moves. A POOL_CONFIG that waits for buffers is looked at after the period (R292). A device held in reset stays as it is. -/
def Obligations.EmptyQueuePassesOnePeriod : Prop :=
  (∀ s : State, s.pending = [] → s.held = true → step s = .next s) ∧
  (∀ s : State, s.pending = [] → s.held = false → s.core.poolsHold = none →
    ∃ t, step s = .next t ∧ t.clk.now = s.clk.now + 1 ∧
      t = { s with clk := t.clk, tim := { s.tim with dplls := t.tim.dplls } } ∧
      ((s.dpll 0).steer = 0 → (s.dpll 0).slew = none →
        t = { s with clk := { s.clk with now := s.clk.now + 1, acc := s.clk.acc + 524288 * 10 ^ 12 } })) ∧
  (∀ s : State, s.pending = [] → s.held = false → s.core.poolsHold.isSome = true → step s = .next (pump (passTicks 1 s)))

/-- No command adds to the queue, drops from it or reorders it: a next state has the queue it was given. -/
def Obligations.NoCommandTouchesTheQueue : Prop :=
  ∀ (c : Instr) (s t : State), exec c s = .next t → t.pending = s.pending

/-- The keys fit the lifecycle (R98): every step from a state in which BLANK and RETIRED hold no key, and OWNED and LOCKED hold K0, leads to such a state. -/
def Obligations.KeysFitTheLifecycleAlways : Prop :=
  ∀ s t : State, KeysFit s → step s = .next t → KeysFit t

/-- A device after its first reset holds no key, in BLANK. -/
def Obligations.KeysFitAtReset : Prop :=
  KeysFit State.reset ∧ State.reset.nv.lifecycle = .blank ∧ State.reset.nv.rk = none

/-- No event returns the device to an earlier lifecycle (R99), from LOCKED on no event lowers the minimum version (R107), and RK stays once it is stored (R101). -/
def Obligations.LifecycleNeverGoesBack : Prop :=
  ∀ s t : State, step s = .next t → OwnerForward s t

/-- Only a command packet, a row that starts packets that wait, or the boot ROM after a reset can change what belongs to the owner: every other command leaves lifecycle, keys, owner policy and hash, minimum version and RK as they are (R99, R103, R104). Where it rests on a reading or a choice of the model, that is log entry 16. -/
def Obligations.OnlyPacketsReachTheOwnersPart : Prop :=
  ∀ (c : Instr) (s t : State), opcodeOf c = none → runsOthers c = false → exec c s = .next t → t.kept = s.kept

/-! ### The command protocol (R66 to R88) -/

/-- A packet that arrives at an idle transport is judged at once (R68, R71, R74, R86): a row named after an opcode is its packet's arrival, and the three transport rows bring the same packet to the same judgement, the ring's indices past its entry, the frame counted in its second, or the last sideband reply gone. Where it rests on a reading or a choice of the model, that is log entries 1, 25 and 27. -/
def Obligations.ArrivingPacketIsJudgedAtOnce : Prop :=
  (∀ (i : Instr) (op : Nat) (g : Gcp) (s : State), opcodeOf i = some (op, g) → Arrives op g s →
    exec i s = .next (judge (defOf (arrivedCmd op g).opcode) (arrivedCmd op g) (arrivedState op g s))) ∧
  (∀ (op : Nat) (g : Gcp) (s : State), Arrives op g s →
    match g.origin with
    | .pcie => ∀ pi : Byte, pi.toNat = (s.mbx.cmdPi + 1) % 256 →
        exec (.commandDoorbell pi [gcpBytes op g]) s = .next (judge (defOf (arrivedCmd op g).opcode) (arrivedCmd op g) (arrivedState op g s))
    | .inband p src vlan =>
        exec (.inbandCommandFrame { port := p, dst := s.sys.deviceMac, src := src, vlan := vlan, payload := gcpBytes op g }) s =
          .next (judge (defOf (arrivedCmd op g).opcode) (arrivedCmd op g) (arrivedState op g s))
    | .sideband => ∀ b : Bytes, b = le 2 (gcpBytes op g).length ++ gcpBytes op g →
        exec (.sidebandWriteTransfer (b ++ sbPec s false b)) s =
          .next (judge (defOf (arrivedCmd op g).opcode) (arrivedCmd op g) (arrivedState op g s)))

/-- The steps of R80 in their order: each names the status of a command that passes the steps before it and fails there. At steps 6 to 13 the tagging key of the reply is the command's own where it verified, and the state is otherwise as it was, but for the AUTH_FAILED record and event of step 8 (R84). Where it rests on a reading or a choice of the model, that is log entries 18 to 20. -/
def Obligations.JudgedInTheOrderOfTheSteps : Prop :=
  ∀ (d : OpDef) (c : Cmd) (s : State),
    (c.version ≠ 4 → judge (some d) c s = refuse c (replyKey c none s) 0x0100 [] s) ∧
    (c.version = 4 → (4048 < c.len ∨ c.pkt.length < c.needs) → judge (some d) c s = refuse c (replyKey c none s) 0x0102 [] s) ∧
    (c.version = 4 → c.len ≤ 4048 → c.needs ≤ c.pkt.length → crc32 c.params ≠ c.crc →
      judge (some d) c s = refuse c (replyKey c none s) 0x0104 [] s ∧ judge none c s = refuse c (replyKey c none s) 0x0104 [] s) ∧
    (c.version = 4 → c.len ≤ 4048 → c.needs ≤ c.pkt.length → crc32 c.params = c.crc →
      judge none c s = refuse c (replyKey c none s) 0x0101 [] s ∧
      (transportOk d c.origin = false → judge (some d) c s = refuse c (replyKey c none s) 0x0101 [] s) ∧
      (transportOk d c.origin = true → d.lenOk c.len = false → judge (some d) c s = refuse c (replyKey c none s) 0x0102 [] s) ∧
      (transportOk d c.origin = true → d.lenOk c.len = true → fieldsOk d c = false →
        judge (some d) c s = refuse c (replyKey c none s) 0x0103 [] s)) ∧
    (early (some d) c = none → cached? c s = none →
      (c.auth = false → authNeeded d c s = true → judge (some d) c s = refuse c none 0x0200 [] s) ∧
      (c.auth = true → keyOf s c.slot = none → judge (some d) c s = refuse c none 0x0203 [] s) ∧
      (∀ k, c.auth = true → keyOf s c.slot = some k → Crypto.tag16 k (c.pkt.take (32 + c.len)) ≠ c.tag →
        judge (some d) c s = refuse c none 0x0201 [] (authRecord c s)) ∧
      (authFail d c s = none → ∀ st r, midFail d c s = some (st, r) →
        judge (some d) c s = refuse c (replyKey c (replyTag c s) s) st r s) ∧
      (authFail d c s = none → midFail d c s = none → ∀ st r, d.check c s = some (st, r) →
        judge (some d) c s = refuse c (replyKey c (replyTag c s) s) st r (d.trace c s)))

/-- Steps 9 to 13 of R80, each under the steps before it: SUPPLY_LOW under NV-inhibit for a tagged or N command, COUNTER_STALE outside the window, WRONG_LIFECYCLE, WRONG_MODE, BUSY in SLEEP and during a wake, LIMIT at sixteen live operations, BUSY where the resource is taken. Where it rests on a reading or a choice of the model, that is log entry 22. -/
def Obligations.MiddleStepsInOrder : Prop :=
  ∀ (d : OpDef) (c : Cmd) (s : State),
    let supply := (c.auth || d.nMark) && s.pwr.nvInhibit
    let stale := c.auth && !(decide (lastCounter s c.slot < c.counter) && decide (c.counter ≤ lastCounter s c.slot + 2 ^ 20))
    (supply = true → midFail d c s = some (0x0302, [])) ∧
    (supply = false → stale = true → midFail d c s = some (0x0202, [])) ∧
    (supply = false → stale = false → d.lifeOk c s = false → midFail d c s = some (0x0301, [])) ∧
    (supply = false → stale = false → d.lifeOk c s = true → d.modeOk c s = false → midFail d c s = some (0x0300, [])) ∧
    (supply = false → stale = false → d.lifeOk c s = true → d.modeOk c s = true → sleepRefuses d c s = true →
      midFail d c s = some (0x0303, [])) ∧
    (supply = false → stale = false → d.lifeOk c s = true → d.modeOk c s = true → sleepRefuses d c s = false →
      d.long = true → 16 ≤ liveOps s → midFail d c s = some (0x0304, [])) ∧
    (supply = false → stale = false → d.lifeOk c s = true → d.modeOk c s = true → sleepRefuses d c s = false →
      (d.long = true → liveOps s < 16) → d.free c s = false → midFail d c s = some (0x0303, [])) ∧
    (supply = false → stale = false → d.lifeOk c s = true → d.modeOk c s = true → sleepRefuses d c s = false →
      (d.long = true → liveOps s < 16) → d.free c s = true → midFail d c s = none)

/-- Each slot keeps one last-accepted counter of at most 64 bits, whichever transport a command came by; installing a key in a slot (by TAKE_OWNERSHIP in slot 0, by INSTALL_KEY in its slot) sets that slot's counter to zero; a command under a slot passes step 10 only if its counter C satisfies last < C ≤ last + 2^20; and a command that passes step 14 runs on a state in which C is that slot's last-accepted counter and no other slot's changed (R82). -/
def Obligations.CounterWindowAndPersist : Prop :=
  (∀ (d : OpDef) (c : Cmd) (s : State), c.auth = true → midFail d c s = none →
    lastCounter s c.slot < c.counter ∧ c.counter ≤ lastCounter s c.slot + 2 ^ 20) ∧
  (∀ (c : Cmd) (s : State), c.auth = true → c.counter < 2 ^ 64 ∧
    lastCounter (persist c s) c.slot = c.counter ∧
    (∀ k, k ≠ c.slot → lastCounter (persist c s) k = lastCounter s k) ∧
    persist c s = { s with nv := { s.nv with counters := (persist c s).nv.counters } }) ∧
  (∀ (c : Cmd) (s : State), c.auth = false → persist c s = s) ∧
  (∀ (c : Cmd) (o : Origin) (s : State), persist { c with origin := o } s = persist c s) ∧
  (∀ (d : OpDef) (c : Cmd) (s : State), Accepted d c s →
    judge (some d) c s = d.after (answer c (replyTag c s) (d.run c (persist c s)).1 (d.run c (persist c s)).2)) ∧
  (∀ (c : Cmd) (k : Bytes) (s : State), carriedKey c.params s = some k →
    keyOf (opInstallKey.run c s).2 (field c.params 0 1) = some k ∧
    lastCounter (opInstallKey.run c s).2 (field c.params 0 1) = 0 ∧
    (∀ j, j ≠ field c.params 0 1 → lastCounter (opInstallKey.run c s).2 j = lastCounter s j)) ∧
  (∀ (c : Cmd) (s : State),
    keyOf (opTakeOwnership.run c s).2 0 = some (slice c.params 0 32) ∧ lastCounter (opTakeOwnership.run c s).2 0 = 0 ∧
    (∀ j, j ≠ 0 → lastCounter (opTakeOwnership.run c s).2 j = lastCounter s j))

/-- A command refused at steps 1 to 14 changes nothing but what delivers its reply (R81): the reply ring with its interrupt and event state, the sideband's reply, the frames firmware has to send, and what is sent; a step-8 failure also leaves the AUTH_FAILED record; and FLOW_CONTROL's own trace is the one other. Its counter stays, and no operation is created. Where it rests on a reading or a choice of the model, that is log entry 23. -/
def Obligations.RefusedCommandLeavesOnlyItsReply : Prop :=
  ∀ (d : OpDef) (c : Cmd) (s t : State),
    (early (some d) c ≠ none ∨
      (cached? c s = none ∧ (authFail d c s ≠ none ∨ midFail d c s ≠ none ∨ (d.check c s ≠ none ∧ d.trace c s = s)))) →
    t = judge (some d) c s →
      t = { s with mbx := t.mbx, irq := t.irq, out := t.out, neg := t.neg, nv := t.nv,
                   core := { s.core with fwQueue := t.core.fwQueue },
                   gcp := { s.gcp with sbReply := t.gcp.sbReply } } ∧
      t.nv = { s.nv with slots := t.nv.slots, nextSeq := t.nv.nextSeq, lastChain := t.nv.lastChain, ringNext := t.nv.ringNext } ∧
      (authFail d c s ≠ some 0x0201 → t.nv = s.nv ∧ t.neg = s.neg)

/-- The reply caches (R88): each transport keeps the replies to its last 32 tagged commands that passed step 14, and no reply to another command or to a refused one; a packet whose header and tag are those of a cached command is answered by the cached reply with RESENT and is not carried out again; a device reset clears the caches, and PERST_N clears that of PCIe only. -/
def Obligations.RepeatedPacketGetsTheCachedReply : Prop :=
  (∀ (d : OpDef) (c : Cmd) (s : State) (e : Cached), early (some d) c = none → cached? c s = some e →
    judge (some d) c s = deliver c.origin e.resent s) ∧
  (∀ (c : Cmd) (s : State) (e : Cached), cached? c s = some e →
    e ∈ (s.gcp.chan (via c.origin)).cache ∧ e.header = c.header ∧ e.tag = c.tag) ∧
  (∀ (c : Cmd) (s : State) (e : Cached), c.auth = true → e ∈ (s.gcp.chan (via c.origin)).cache → e.header = c.header → e.tag = c.tag →
    (cached? c s).isSome = true) ∧
  (∀ (c : Cmd) (key : Option Bytes) (p : Bytes) (s : State),
    let ch := (keepReply c key p s).gcp.chan (via c.origin)
    let e : Cached := { header := c.header, tag := c.tag, reply := if key.isSome then p.take (p.length - 16) else p, key := key }
    ch.cache = ((s.gcp.chan (via c.origin)).cache ++ [e]).drop ((s.gcp.chan (via c.origin)).cache.length + 1 - 32) ∧
    (∀ u : Transport, u ≠ via c.origin → u ≠ .firmware → (keepReply c key p s).gcp.chan u = s.gcp.chan u)) ∧
  (∀ (c : Cmd) (key : Option Bytes) (st h : Nat) (r : Bytes) (s : State),
    let p := replyTo c (replyKey c key s) 0 st h r s
    conclude c key st h r s = deliver c.origin p (if c.auth then keepReply c (replyKey c key s) p s else s)) ∧
  (∀ (o : Origin) (p : Bytes) (s : State) (u : Transport), ((deliver o p s).gcp.chan u).cache = (s.gcp.chan u).cache) ∧
  (∀ (c : Cmd) (key : Option Bytes) (st : Nat) (r : Bytes) (s : State) (u : Transport),
    ((refuse c key st r s).gcp.chan u).cache = (s.gcp.chan u).cache ∧ (refuse c key st r s).nv.counters = s.nv.counters) ∧
  (∀ (code data : Nat) (s : State) (u : Transport), ((deviceReset code data s).gcp.chan u).cache = []) ∧
  (∀ s t : State, exec .perstNAssert s = .next t →
    t.gcp.pcie.cache = [] ∧ t.gcp.inband.cache = s.gcp.inband.cache ∧ t.gcp.sideband.cache = s.gcp.sideband.cache)

/-- A reply packet (R77): version 4, the RESPONSE flag, the command's opcode and sequence, the result's length and CRC, the status, the handle, and the mode, power state and time generation in force; 32 bytes, the result, and a 16-byte tag over both where it is tagged. -/
def Obligations.ReplyPacketLayout : Prop :=
  ∀ (flags opcode seq status handle counter : Nat) (result : Bytes) (key : Option Bytes) (s : State),
    flags < 256 → opcode < 65536 → seq < 2 ^ 32 → status < 65536 → handle < 2 ^ 32 → counter < 2 ^ 64 → result.length < 65536 →
    s.nv.timeGen < 65536 →
    let p := replyPacket flags opcode seq status handle counter result key s
    field p 0 1 = 4 ∧ field p 1 1 = (flags ||| 2 ||| (if key.isSome then 1 else 0)) ∧ field p 2 2 = opcode ∧ field p 4 4 = seq ∧
    field p 8 2 = result.length ∧ field p 10 2 = status ∧ field p 12 4 = handle ∧ field p 16 8 = counter ∧
    field p 24 1 = s.sys.mode.code ∧ field p 25 1 = s.pwr.state.code ∧ field p 26 2 = s.nv.timeGen ∧ field p 28 4 = crc32 result ∧
    slice p 32 result.length = result ∧
    p.length = 32 + result.length + (if key.isSome then 16 else 0) ∧
    (∀ k, key = some k → p.drop (32 + result.length) = Crypto.tag16 k (p.take (32 + result.length)))

/-- The other transport rows: a read transfer shifts out the ready reply with its length and PEC, or a length of zero (R74); SCL held low counts a bad transfer (R75, R549); reply entries returned and ENABLE set post what is held (R68, R530), ENABLE cleared stops the taking; and a command whose deadline has passed before it starts is answered BUSY with EXPIRED, with no effect and no counter spent (R87). Where it rests on a reading or a choice of the model, that is log entries 26 to 28. -/
def Obligations.TransportRowsComplete : Prop :=
  (∀ s : State, s.held = false →
    exec .sidebandReadTransfer s = .next (match s.gcp.sbReply with
      | none => { s with out := .i2cReply (le 2 0) :: s.out }
      | some p => { s with out := .i2cReply (le 2 p.length ++ p ++ sbPec s true (le 2 p.length ++ p)) :: s.out })) ∧
  (∀ s : State, s.held = false → exec .sidebandSclTimeout s = .next { s with gcp := { s.gcp with sbBad := s.gcp.sbBad + 1 } }) ∧
  (∀ (ci : Byte) (s : State), s.held = false → s.sys.perst = false → s.mbx.held = [] →
    s.gcp.pcie.waiting = [] → s.gcp.inband.waiting = [] → s.gcp.sideband.waiting = [] → s.core.poolsHold = none →
    exec (.mbxRplCiWrite ci) s = .next { s with mbx := { s.mbx with rplCi := ci.toNat } }) ∧
  (∀ (ci : Byte) (p : Bytes) (s : State), s.held = false → s.sys.perst = false → s.sys.d3hot = false → s.mbx.enable = true →
    s.mbx.held = [p] → s.gcp.pcie.due = none → s.gcp.pcie.waiting = [] → s.gcp.inband.waiting = [] → s.gcp.sideband.waiting = [] →
    s.core.poolsHold = none →
    (s.mbx.rplPi + 1) % 256 ≠ ci.toNat →
    exec (.mbxRplCiWrite ci) s = .next (mbxPost p { s with mbx := { s.mbx with rplCi := ci.toNat, held := [] } })) ∧
  (∀ (v : BitVec 32) (s : State), s.held = false → s.sys.perst = false → v.getLsbD 0 = false →
    exec (.mbxCtrlEnableWrite v) s =
      .next { s with mbx := { s.mbx with enable := false }, gcp := { s.gcp with pcie := { s.gcp.pcie with waiting := [] } } }) ∧
  (∀ (v : BitVec 32) (s : State), s.held = false → s.sys.perst = false → v.getLsbD 0 = true → s.mbx.enable = false → s.mbx.held = [] →
    s.gcp.pcie.waiting = [] → s.gcp.inband.waiting = [] → s.gcp.sideband.waiting = [] → s.core.poolsHold = none →
    exec (.mbxCtrlEnableWrite v) s =
      .next { s with mbx := { s.mbx with enable := true, cmdCi := s.mbx.cmdPi, rplPi := s.mbx.rplCi } }) ∧
  (∀ (t : Transport) (w : Waiting) (s : State), s.held = false → t = .inband ∨ t = .sideband → (s.gcp.chan t).waiting = [w] →
    (t ≠ .inband → s.gcp.inband.waiting = []) → (t ≠ .sideband → s.gcp.sideband.waiting = []) → s.gcp.pcie.waiting = [] →
    w.expired = false → (Cmd.mk w.origin w.pkt).timeout ≠ 0 → via w.origin = t → s.core.poolsHold = none →
    let u := modChan t (fun ch => { ch with waiting := [] }) (advanceTo (w.received + (Cmd.mk w.origin w.pkt).timeout * msTicks) s)
    exec (.commandStartDeadline t 0) s =
      .next (deliver w.origin (replyTo ⟨w.origin, w.pkt⟩ (replyKey ⟨w.origin, w.pkt⟩ none u) 8 0x0303 0 [] u) u)) ∧
  (∀ (w : Waiting) (rest : List Waiting) (s : State), s.gcp.inband.waiting = w :: rest → w.expired = false →
    (Cmd.mk w.origin w.pkt).timeout ≠ 0 → w.received + (Cmd.mk w.origin w.pkt).timeout * msTicks ≤ s.clk.now →
    let u := modChan .inband (fun ch => { ch with waiting := rest }) s
    startOn .inband s = deliver w.origin (replyTo ⟨w.origin, w.pkt⟩ (replyKey ⟨w.origin, w.pkt⟩ none u) 8 0x0303 0 [] u) u)

/-! ### What each opcode does (R502 to R523) -/

/-- Group 0x01, accepted: status and reset cause are read; the boot policy, a start of firmware, the modes, a reset 10 ms after the reply, the power states, the AVS limits, and the device's MAC and management VID are set as R502 to R506, R40 to R51, R116, R117 and R329 say. Where it rests on a reading or a choice of the model, that is log entries 1, 31, 41, 44 and 45. -/
def Obligations.SystemOpcodesDoWhatTheySay : Prop :=
  ∀ g : Gcp,
    Carries (.getStatus g) (fun _ s => (.done (statusBytes s), s)) ∧
    Carries (.getResetCause g) (fun _ s => (.done (b1 s.sys.resetCode ++ b1 (min 255 s.nv.attempts) ++ b1 s.sys.lastStart ++ b1 0 ++ le 4 s.sys.resetData), s)) ∧
    Carries (.setBootPolicy g) (fun c s => (.done [],
      { s with nv := { s.nv with hold := field c.params 0 1 == 1,
                                 preferred := if field c.params 1 1 = 0 then s.nv.preferred else field c.params 1 1 } })) ∧
    Carries (.enterProvision g) (fun c s => (.later .provision, tryImages (imageOrder s (field c.params 0 1)) (some (via c.origin)) s)) ∧
    Carries (.commitConfig g) (fun c s => (.done [],
      let t := rebuildUnloaded { s with nv := { s.nv with attempts := 0 } }
      enterMode (if serviceGrade t then .run else .coast) 1 c.slotCode 0x0104 0 t)) ∧
    Carries (.enterMaintenance g) (fun c s => (.done [],
      let t := enterMode .maintenance 1 c.slotCode 0x0105 (field c.params 0 1) { s with sys := { s.sys with paused := field c.params 0 1 == 1 } }
      if field c.params 0 1 = 1 then pauseAll t else t)) ∧
    Carries (.enterQuiesce g) (fun c s => (.done [],
      let t := enterMode .quiesce 1 c.slotCode 0x0106 (field c.params 4 1) s
      { t with sys := { t.sys with draining := true, drainLanesOff := field c.params 4 1 == 1,
                                   drainEnd := t.clk.now + (if field c.params 0 4 = 0 then 100 else field c.params 0 4) * msTicks } })) ∧
    Carries (.returnService g) (fun c s =>
      if s.pwr.state = .sleep then (.later (.wakeReturn (field c.params 0 1)), { s with pwr := { s.pwr with waking := true } })
      else (.done [], returnService (field c.params 0 1) c.slotCode s)) ∧
    Carries (.resetDevice g) (fun c s => (.done [], { s with sys := { s.sys with resetDue := some (s.sys.resetDue.getD c.slotCode) } })) ∧
    Carries (.setPowerState g) (fun c s =>
      if s.pwr.state = .sleep then (.later .wakeFull, { s with pwr := { s.pwr with waking := true } })
      else if field c.params 0 1 = 3 then (.done [], sleepEnter s)
      else if field c.params 0 1 = 1 then
        (.done [], setMasks .trim (BitVec.ofNat 64 (field c.params 4 8)) (BitVec.ofNat 256 (field c.params 12 32)) s)
      else (.done [], setMasks .full 0 0 s)) ∧
    Carries (.avsConfig g) (fun c s => (.done [],
      { s with core := { s.core with avs := { s.core.avs with
          vmin := field c.params 0 2, vmax := field c.params 2 2,
          margin := if field c.params 4 2 = 0 then 1050 else field c.params 4 2, hold := field c.params 6 1 == 1 } } })) ∧
    Carries (.deviceConfig g) (fun c s => (.done [], deviceConfig c.params s))

/-- Group 0x02, accepted: the security state is read; ownership, keys, policy, lock, minimum version and retirement change what MRAM holds as R99 to R107 say, each lifecycle change with its Negative record and the close of a debug session; a challenge draws a nonce of 30 s, an unlock uses it up and opens its level, and a close answers the level closed (R110 to R114). Where it rests on a reading or a choice of the model, that is log entries 16, 30, 33 and 38. -/
def Obligations.SecurityOpcodesDoWhatTheySay : Prop :=
  ∀ g : Gcp,
    Carries (.getSecurityStatus g) (fun _ s => (.done (securityBytes s), s)) ∧
    Carries (.takeOwnership g) (fun c s => (.done [],
      let t := dbgClose 4 (negWrite 0x0003 (b1 s.nv.lifecycle.code ++ b1 1 ++ b1 0xFF ++ b1 0 ++ le 4 0) s)
      { t with nv := { t.nv with keys := t.nv.keys.set 0 (slice c.params 0 32), counters := t.nv.counters.set 0 0,
                                 ownerPolicy := field c.params 32 1 == 1, ownerHash := slice c.params 36 48, lifecycle := .owned } })) ∧
    Carries (.installKey g) (fun c s => (.done [],
      match carriedKey c.params s with
      | none => s
      | some k => { s with nv := { s.nv with keys := s.nv.keys.set (field c.params 0 1) k,
                                             counters := s.nv.counters.set (field c.params 0 1) 0 } })) ∧
    Carries (.revokeKey g) (fun c s => (.done [], { s with nv := { s.nv with keys := s.nv.keys.erase (field c.params 0 1) } })) ∧
    Carries (.setOwnerPolicy g) (fun c s => (.done [],
      { s with nv := { s.nv with ownerPolicy := field c.params 0 1 == 1, ownerHash := slice c.params 4 48 } })) ∧
    Carries (.lockDevice g) (fun c s => (.done [],
      let t := dbgClose 4 (negWrite 0x0003 (b1 s.nv.lifecycle.code ++ b1 2 ++ b1 c.slotCode ++ b1 0 ++ le 4 (runningVersion s)) s)
      { t with nv := { t.nv with minVersion := runningVersion s, lifecycle := .locked } })) ∧
    Carries (.setMinVersion g) (fun c s => (.done [], { s with nv := { s.nv with minVersion := field c.params 0 4 } })) ∧
    Carries (.retireDevice g) (fun c s => (.done [],
      let t := dbgClose 4 (negWrite 0x0003 (b1 s.nv.lifecycle.code ++ b1 3 ++ b1 c.slotCode ++ b1 (if (keyOf s 0).isSome then 1 else 0) ++ le 4 s.nv.minVersion) s)
      retireSequence { t with nv := { t.nv with retiring := true } })) ∧
    Carries (.debugChallenge g) (fun c s =>
      let nonce := le 32 (Config.freshNonce s.free).toNat
      (.done (nonce ++ le 8 Config.deviceId.toNat ++ le 4 30000),
       { s with free := s.free + 1, dbg := { s.dbg with challenge := some { level := field c.params 0 1, nonce := nonce, deadline := s.clk.now + 30000 * msTicks } } })) ∧
    Carries (.debugUnlock g) (fun c s => (.done [],
      let lv := field c.params 0 1
      let life := if field c.params 2 2 = 0 then 600 else field c.params 2 2
      let slot := if lv = 3 then 0xFF else c.slot
      let t := negWrite 0x0005 (b1 lv ++ b1 slot ++ b1 0 ++ b1 0 ++ le 2 life) s
      raise 40 lv (b1 0 ++ b1 0)
        { t with dbg := { t.dbg with challenge := none, session := some { level := lv, slot := slot, lifetime := life, deadline := t.clk.now + life * secTicks } } })) ∧
    Carries (.debugClose g) (fun _ s => (.done (b1 (debugLevel s)), dbgClose 0 s))

/-- Retirement (R101, R102): RK is stored from K0 where none is stored yet, keys, counters, policy and hash are erased, and the lifecycle is RETIRED with the marker clear; nothing else in the device changes. Where it rests on a reading or a choice of the model, that is log entry 16. -/
def Obligations.RetirementErasesAndKeepsRk : Prop :=
  ∀ s : State,
    retireSequence s = { s with nv := { s.nv with
      rk := (match s.nv.rk with
             | some r => some r
             | none => (keyOf s 0).map retireKey),
      keys := [], counters := [], ownerPolicy := false, ownerHash := zeros 48, lifecycle := .retired, retiring := false } } ∧
    (s.held = false → s.nv.retiring = true → s.pwr.nvInhibit = false → bootStart s = retireSequence s) ∧
    (s.nv.retiring = false ∨ s.pwr.nvInhibit = true → bootStart s = s)

/-- Ports and lanes, accepted: a port takes its configuration, is enabled or disabled, and maps its lanes; equalizer settings and lane tests are set; status and results are read (R145 to R151, R510, R511). Where it rests on a reading or a choice of the model, that is log entries 46 to 48. -/
def Obligations.PortAndLaneOpcodesDoWhatTheySay : Prop :=
  ∀ g : Gcp,
    Carries (.portConfig g) (fun c s =>
      let cfg : PortCfg := { configured := true, dalom := field c.params 1 1 == 1, speed := field c.params 2 1, lanes := field c.params 3 1, fec := field c.params 4 1,
                             media := field c.params 5 1, an := field c.params 6 1 == 1, mgmt := (byteAt c.params 7).getLsbD 0,
                             maxFrame := if field c.params 8 2 = 0 then 9216 else field c.params 8 2 }
      (.done [], reelect (portSettle (field c.params 0 1) (reselectApp (field c.params 0 1) (modPort (field c.params 0 1) (fun r => { r with cfg := cfg }) s))))) ∧
    Carries (.portSetState g) (fun c s => (.done [],
      if field c.params 1 1 = 1 then portEnable (field c.params 0 1) s else portDisable (field c.params 0 1) s)) ∧
    Carries (.portStatus g) (fun c s => (.done (portStatus (field c.params 0 1) s), s)) ∧
    Carries (.laneMap g) (fun c s => (.done [], portSettle (field c.params 0 1) (modPort (field c.params 0 1) (fun r => { r with
      txMap := [0, 1, 2, 3].map (fun i => field c.params (2 + i) 1), rxMap := [0, 1, 2, 3].map (fun i => field c.params (6 + i) 1),
      polarity := byteAt c.params 10 }) s))) ∧
    Carries (.laneTxEq g) (fun c s => (.done [], modLane (field c.params 0 2) (fun r => { r with
      hostTaps := [3, 4, 5, 6, 7].map (fun i => fieldInt c.params i 1), txSet := true, txTrained := field c.params 2 1 == 1,
      trainedTaps := r.trainedTaps && field c.params 2 1 == 1 }) s)) ∧
    Carries (.laneRxEq g) (fun c s => (.done [], modLane (field c.params 0 2) (fun r => { r with
      ctleFrozen := (byteAt c.params 2).getLsbD 0, dfeFrozen := (byteAt c.params 2).getLsbD 1, ctle := field c.params 3 1,
      losThresh := if field c.params 4 1 = 0 then r.losThresh else field c.params 4 1,
      dfe := if (byteAt c.params 2).getLsbD 1 then (List.range 12).map (fun i => fieldInt c.params (5 + i) 1) else r.dfe }) s)) ∧
    Carries (.laneStatus g) (fun c s => (.done (laneStatus (field c.params 0 2) s), s)) ∧
    Carries (.laneTest g) (fun c s => (.done [],
      if field c.params 1 1 = 0 ∧ field c.params 2 1 = 0 then
        (if (s.port (field c.params 0 1)).test.state = 1 then laneTestEnd (field c.params 0 1) s else s)
      else testStart c.params s)) ∧
    Carries (.laneTestResult g) (fun c s => (.done (testResult (field c.params 0 1) s), s))

/-- Dalom links, classes, flow control and modules, accepted (R189 to R201, R210 to R218): FLOW_CONTROL answers 0xFF where every class was reserved; a module transfer, whose outcome is free, selects the module's channel, is seen on its bus and answers its bytes, or ends BUSY with 1 for no module, 2 for no acknowledge and 3 for a bus held low. Where it rests on a reading or a choice of the model, that is log entries 31, 51, 53 and 56. -/
def Obligations.LinkAndModuleOpcodesDoWhatTheySay : Prop :=
  ∀ g : Gcp,
    Carries (.dlkConfig g) (fun c s => (.done [], reelect (modDlk (field c.params 0 1) (fun d => { d with
      minLanes := if field c.params 1 1 = 0 then 1 else field c.params 1 1, role := field c.params 2 1 }) s))) ∧
    Carries (.dlkDelay g) (fun c s => (.done [], dlkDelay c.params s)) ∧
    Carries (.dlkStatus g) (fun c s => (.done (dlkStatus (field c.params 0 1) s), s)) ∧
    Carries (.classMap g) (fun c s =>
      let m : ClassMap := { trust := field c.params 1 1, defaultTc := field c.params 2 1, pcpToTc := bytesAt c.params 4 8, tcToPcp := bytesAt c.params 12 8, dscpToTc := bytesAt c.params 20 64 }
      (.done [], { s with maps := s.maps.set (field c.params 0 1) m })) ∧
    Carries (.flowControl g) (fun c s => (.done [0xFF, 0, 0, 0], flowControl c.params s)) ∧
    Carries (.portDelay g) (fun c s => (.done [], headroomRecompute (field c.params 0 1)
      (modFlow (field c.params 0 1) (fun f => { f with hostDelay := if field c.params 4 4 = 0 then none else some (field c.params 4 4) }) s))) ∧
    Carries (.losslessBudget g) (fun c s => (.done [], xonAll { s with core := { s.core with
      nearBudget := field c.params 0 4 * 1024, deepBudget := field c.params 8 4 * 1048576 } })) ∧
    Carries (.ecnConfig g) (fun c s => (.done [],
      (List.range 8).foldl (fun s k => modFc (field c.params 0 1) k (fun q => { q with ecnK := field c.params (4 + 2 * k) 2 }) s) s)) ∧
    Carries (.losslessStatus g) (fun c s => (.done (losslessStatus (field c.params 0 1) s), s)) ∧
    (∀ s : State,
      let c := arrivedCmd 0x0312 g
      let u := arrivedState 0x0312 g s
      Arrives 0x0312 g s → u.gcp.failing = none → JudgedTo14 opModuleRead c u → spanOk c.params = true →
      exec (.moduleRead g) s = .next (
        if (u.port (field c.params 0 1)).module.present = false then refuse c (replyKey c (replyTag c u) u) 0x0303 (b1 1) { u with free := u.free + 1 }
        else match (Config.moduleBus u.free).val with
          | 0 => answer c (replyTag c u) (.done ((List.range (field c.params 4 2)).map (fun i => Config.moduleByte u.free i)))
              { persist c u with out := .moduleI2c (field c.params 0 1) false (slice c.params 1 5) :: (muxSelect (field c.params 0 1) u).out, free := u.free + 1 }
          | 1 => refuse c (replyKey c (replyTag c u) u) 0x0303 (b1 2) { u with free := u.free + 1 }
          | _ => refuse c (replyKey c (replyTag c u) u) 0x0303 (b1 3) { u with free := u.free + 1 })) ∧
    (∀ s : State,
      let c := arrivedCmd 0x0313 g
      let u := arrivedState 0x0313 g s
      Arrives 0x0313 g s → u.gcp.failing = none → JudgedTo14 opModuleWrite c u → writeOk c.params = true →
      exec (.moduleWrite g) s = .next (
        if (u.port (field c.params 0 1)).module.present = false then refuse c (replyKey c (replyTag c u) u) 0x0303 (b1 1) { u with free := u.free + 1 }
        else match (Config.moduleBus u.free).val with
          | 0 => answer c (replyTag c u) (.done [])
              { persist c u with out := .moduleI2c (field c.params 0 1) true (slice c.params 1 5 ++ c.params.drop 8) :: (muxSelect (field c.params 0 1) u).out, free := u.free + 1 }
          | 1 => refuse c (replyKey c (replyTag c u) u) 0x0303 (b1 2) { u with free := u.free + 1 }
          | _ => refuse c (replyKey c (replyTag c u) u) 0x0303 (b1 3) { u with free := u.free + 1 })) ∧
    Carries (.moduleControl g) (fun c s =>
      let t := modModule (field c.params 0 1) (fun m => { m with resetPolicy := field c.params 1 1, lpPolicy := field c.params 2 1 }) s
      (.done (b1 (t.port (field c.params 0 1)).module.code ++ b1 (t.port (field c.params 0 1)).module.cmis), t)) ∧
    Carries (.moduleBus g) (fun c s => (.done [], { s with core := { s.core with
      moduleBus := (List.range 8).map (fun m => (m, field c.params (2 * m) 1, field c.params (2 * m + 1) 1)) } }))

/-- The oscillator, references, DPLLs, synthesizers and outputs, accepted (R365 to R371, R394 to R399): a pending JUMP is slewed once it is resolved, a PPS output and the TOD line take their fields at once, zero standing for the defaults. Where it rests on a reading or a choice of the model, that is log entries 80 to 83, 129 and 130. -/
def Obligations.ClockOpcodesDoWhatTheySay : Prop :=
  ∀ g : Gcp,
    Carries (.xoConfig g) (fun c s => (.done [], xoConfig c.params s)) ∧
    Carries (.refConfig g) (fun c s => (.done [], refConfig c.params s)) ∧
    Carries (.dpllConfig g) (fun c s => (.done [], dpllConfig c.params s)) ∧
    Carries (.esmcConfig g) (fun c s => (.done [], modEsmc (field c.params 0 1) (fun e =>
      if e.enable = (field c.params 1 1 == 1) then e else { Esmc.reset with enable := field c.params 1 1 == 1 }) s)) ∧
    Carries (.jumpResolve g) (fun _ s => (.done [], match (s.dpll 0).jump with
      | some o => startSlew o (modDpll 0 (fun q => { q with jump := none }) s)
      | none => s)) ∧
    Carries (.refStatus g) (fun c s => (.done (refStatus (field c.params 0 1) s), s)) ∧
    Carries (.dpllStatus g) (fun c s => (.done (dpllStatus (field c.params 0 1) s), s)) ∧
    Carries (.synBandTable g) (fun c s => (.done [], modSyn (field c.params 0 1) (fun y => { y with table := bandsOf c.params }) s)) ∧
    Carries (.synConfig g) (fun c s => (.done [], synConfig c.params s)) ∧
    Carries (.outConfig g) (fun c s => (.done [], outConfig c.params s)) ∧
    Carries (.ppsConfig g) (fun c s => (.done [], modPps (field c.params 0 1) (fun o => { o with
      gate := field c.params 1 1, width := if field c.params 4 4 = 0 then 100000000 else field c.params 4 4, phase := fieldInt c.params 8 4 }) s)) ∧
    Carries (.todConfig g) (fun c s => (.done [], modTod (fun t => { t with
      tx := field c.params 0 1 == 1, rx := field c.params 1 1 == 1, pps := field c.params 2 1,
      delayMs := if field c.params 4 2 = 0 then 10 else field c.params 4 2 }) s)) ∧
    Carries (.clockStatus g) (fun _ s => (.done (clockStatus s), s))

/-- Time distribution and traceability, accepted (R422 to R434): a step of time of day moves the offset and raises the generation, with TIME_STEP's record and event; a first setting starts time of day; a step of zero changes nothing. Where it rests on a reading or a choice of the model, that is log entries 86 to 88 and 131. -/
def Obligations.TimeOpcodesDoWhatTheySay : Prop :=
  ∀ g : Gcp,
    Carries (.ptpClockConfig g) (fun c s => (.done [], ptpClockConfig c.params s)) ∧
    Carries (.ptpPortConfig g) (fun c s => (.done [], ptpPortConfig c.params s)) ∧
    Carries (.timeProperties g) (fun c s => (.done [], modTime (fun t => { t with
      utc := fieldInt c.params 0 2, flags := field c.params 2 1 % 64, fromTod := (byteAt c.params 2).getLsbD 7,
      source := if field c.params 3 1 = 0 then 0x20 else field c.params 3 1 }) s)) ∧
    Carries (.stepTime g) (fun c s =>
      if s.clk.todSet = false then
        let t := firstTod ((field c.params 4 6 : Int) * sec16) s
        let t := stepNotes 2 c.slotCode s.nv.timeGen t.nv.timeGen 0 t
        (.done (leInt 8 0 ++ le 2 t.nv.timeGen ++ zeros 6), t)
      else if stepOf c.params s = 0 then (.done (leInt 8 0 ++ le 2 s.nv.timeGen ++ zeros 6), s)
      else
        let d := stepOf c.params s
        let t := { s with clk := { s.clk with off := s.clk.off + d }, nv := { s.nv with timeGen := (s.nv.timeGen + 1) % 65536 } }
        let t := modDpll 0 (fun q => { q with jump := none }) (modTime (fun x => { x with run := none, accepted := satAdd 32 x.accepted 1 }) t)
        let t := stepNotes (field c.params 0 1) c.slotCode s.nv.timeGen t.nv.timeGen d t
        (.done (leInt 8 d ++ le 2 t.nv.timeGen ++ zeros 6), t)) ∧
    Carries (.timeStatus g) (fun _ s => (.done (timeStatus s), s)) ∧
    Carries (.timePortStatus g) (fun c s => (.done (portTimeRecord s (field c.params 0 1)), s)) ∧
    Carries (.traceReport g) (fun c s => startOp 8 false (.trace { built := traceHeader s, key := (keyOf s 1).getD [] }) c s) ∧
    Carries (.traceRead g) (fun c s => (.done (slice (s.tim.time.report.getD []) (field c.params 0 4) (field c.params 4 2)), s))

/-- Measurement, accepted (R441, R442, R450 to R458): pins, sources and event inputs are set; a measurement claims an engine, its reply due when its window closes; a statistics run claims one for its handle; results and status are read. Where it rests on a reading or a choice of the model, that is log entry 90. -/
def Obligations.MeasurementOpcodesDoWhatTheySay : Prop :=
  ∀ g : Gcp,
    Carries (.tdePin g) (fun c s => (.done [], pinSet c.params s)) ∧
    Carries (.tdeSource g) (fun c s =>
      let q : TdeSource := { enable := (byteAt c.params 1).getLsbD 0, weight := if field c.params 2 1 = 0 then 1 else field c.params 2 1, prescale := field c.params 4 4 }
      (.done [], modTde (fun t => { t with sources := t.sources.set (field c.params 0 1) q }) s)) ∧
    Carries (.evConfig g) (fun c s =>
      let q : EvInput := { enable := (byteAt c.params 4).getLsbD 0, slope := field c.params 1 1, thresh := fieldInt c.params 2 2 }
      (.done [], modTde (fun t => { t with evs := t.evs.set (field c.params 0 1) q }) s)) ∧
    Carries (.intervalMeasure g) (fun c s => (.later (.measure (claim c.params 0 0 s).1), (claim c.params 0 0 s).2)) ∧
    Carries (.statsRun g) (fun c s =>
      startOp 6 false (.stats (claim c.params s.nextHandle (field c.params 16 4) s).1 none) c (claim c.params s.nextHandle (field c.params 16 4) s).2) ∧
    Carries (.statsRead g) (fun c s => (.done (statsRead (field c.params 0 4) s), s)) ∧
    Carries (.tdeStatus g) (fun _ s => (.done (tdeStatus s), s))

/-- Pools, thresholds, the Stop bath, scheduling, slices and multicast, accepted (R291 to R294, R318, R327, R328 to R336): POOL_CONFIG empties the ledger and builds six pools of the counts asked, and where a buffer is not FREE waits up to 10 ms for it before it answers BUSY; a multicast group is set, or deleted by COUNT 0; the deadlock time and the multicast α are set at once. Where it rests on a reading or a choice of the model, that is log entries 74, 76, 77 and 78. -/
def Obligations.CoreOpcodesDoWhatTheySay : Prop :=
  ∀ g : Gcp,
    Carries (.poolConfig g) (fun c s =>
      let counts := (List.range 6).map (fun p => if field c.params (4 * p) 4 = 0 then poolDefault p else field c.params (4 * p) 4)
      if s.core.ledger.any (fun x => evenParity x.2 && ledgerState x.2 != 0) then
        (.later (.pools counts), { s with core := { s.core with poolsHold := some (s.clk.now + 10 * msTicks) } })
      else (.done [], poolsBuild counts s)) ∧
    (∀ (counts : List Nat) (s : State), poolsBuild counts s = xonAll (shadowRestart { s with core := { s.core with
      ledger := [], poolsHold := none, frames := s.core.frames.filter (fun f => f.stage != .stuck),
      pools := (List.range 6).map (fun p => (p, Pool.build (counts.getD p 512))) } })) ∧
    (∀ (t : Transport) (n : Nat) (counts : List Nat) (s : State), s.core.poolsHold = some n → poolsDue s = some (t, counts) →
      (bufferBusy s = false → poolsSettle s = dueReply t 0 [] (poolsBuild counts s)) ∧
      (bufferBusy s = true → s.clk.now < n → poolsSettle s = s) ∧
      (bufferBusy s = true → n ≤ s.clk.now →
        poolsSettle s = dueReply t 0x0303 [] { s with core := { s.core with poolsHold := none } })) ∧
    Carries (.bufThreshold g) (fun c s => (.done [], thresholdSet c.params s)) ∧
    Carries (.poolStatus g) (fun _ s => (.done (poolStatus s), s)) ∧
    Carries (.stopBath g) (fun c s =>
      let w : BathWork := { discard := field c.params 0 1 == 0, classMask := field c.params 1 1, inPort := field c.params 2 1, outPort := field c.params 3 1, holdMs := field c.params 4 4, mc := (byteAt c.params 8).getLsbD 0, emptyAt := none, left := 0 }
      startOp 4 false (.bath w) c s) ∧
    Carries (.egressSched g) (fun c s => (.done [], schedSet c.params s)) ∧
    Carries (.deadlockConfig g) (fun c s => (.done [], { s with core := { s.core with dlTime := field c.params 0 4 } })) ∧
    Carries (.deadlockStatus g) (fun _ s => (.done (deadlockStatus s), s)) ∧
    Carries (.sliceAssign g) (fun c s => (.done [], assign c.params s)) ∧
    Carries (.sliceReturn g) (fun c s => (.done (sliceReturn (field c.params 0 1) s).1, (sliceReturn (field c.params 0 1) s).2)) ∧
    Carries (.sliceStatus g) (fun c s => (.done (sliceStatus (field c.params 0 1) s), s)) ∧
    Carries (.mcastGroup g) (fun c s => (.done [],
      let t := resolveHeads s
      let l := if field c.params 2 2 = 0 then t.core.groups.erase (field c.params 0 2) else t.core.groups.set (field c.params 0 2) (memberList c.params)
      { t with core := { t.core with groups := l } })) ∧
    Carries (.mcastConfig g) (fun c s => (.done [], { s with core := { s.core with mcAlpha := field c.params 0 1 } }))

/-- Tables, accepted (R253, R257 to R266): a bulk load, a FENCE and a rebuild start their operations, a FENCE over the frames looked up by then, a rebuild with its self-test only from TCAM and FAULT; the shadow region, learning and port settings take the fields as given; a flush deletes the dynamic entries it selects on every slice and counts them. Where it rests on a reading or a choice of the model, that is log entries 19, 64, 66 and 79. -/
def Obligations.TableOpcodesDoWhatTheySay : Prop :=
  ∀ g : Gcp,
    Carries (.tableBulkLoad g) (fun c s => startOp 2 false (.bulk (bulkOf c.params)) c s) ∧
    Carries (.fence g) (fun c s => startOp 9 false (.fence (fenceIds s) (fenceIds s).length (field c.params 0 4)) c s) ∧
    Carries (.tableShadow g) (fun c s =>
      let q : Shadow := { addr := field c.params 8 8, count := field c.params 4 4, rate := field c.params 16 4, next := 0, seen := [] }
      (.done [], { s with tables := { s.tables with shadows := s.tables.shadows.set (field c.params 0 1) q } })) ∧
    Carries (.learnConfig g) (fun c s =>
      let t := (List.range 17).foldl (fun s i => fillLearn i s) s
      (.done [], { t with tables := { t.tables with
      ageOn := field c.params 0 1 == 1, agePeriod := if field c.params 2 2 = 0 then 300 else field c.params 2 2,
      learnRate := if field c.params 4 4 = 0 then 1000000 else field c.params 4 4,
      learnBurst := if field c.params 8 4 = 0 then 4096 else field c.params 8 4 } })) ∧
    Carries (.l2PortConfig g) (fun c s =>
      let q : L2Port := { pvid := field c.params 2 2, limit := field c.params 4 2, drop := field c.params 1 1 == 1 }
      (.done [], { s with tables := { s.tables with l2 := s.tables.l2.set (field c.params 0 1) q } })) ∧
    Carries (.fdbFlush g) (fun c s =>
      let takes (e : Nat × KSlot) : Bool := flushes (field c.params 0 1) (field c.params 2 2) e.2
      (.done (le 4 ((s.tables.slices.map (fun x => (x.2.fdb.filter takes).length)).sum)),
       { s with tables := { s.tables with slices := s.tables.slices.map (fun x => (x.1, { x.2 with fdb := x.2.fdb.filter (fun e => !takes e) })) } })) ∧
    Carries (.tcamRebuild g) (fun c s =>
      let i := field c.params 0 1
      let test := field c.params 1 1 == 1 && ((s.tab i).mode == .tcam || (s.tab i).mode == .fault)
      startOp 3 false (.rebuild i test) c (modTab i (fun T =>
        if test then { T with mode := .selftest } else if T.mode != .fault || T.fits [] then { T.load with mode := .rebuild } else T) s)) ∧
    Carries (.tableStatus g) (fun c s => (.done (tableStatus (field c.params 0 1) s), s))

/-- The Negative and calibration, accepted (R468, R471 to R476, R490 to R494): records are read in SEQ order, an export and a sweep start their operations, a sheet is restored block by block, and what a block's registers hold is read. Where it rests on a reading or a choice of the model, that is log entries 38, 92 and 93. -/
def Obligations.NegativeAndCalibrationOpcodes : Prop :=
  ∀ g : Gcp,
    Carries (.negStatus g) (fun _ s => (.done (negStatus s), s)) ∧
    Carries (.negRead g) (fun c s => (.done (
      let l := ((bySeq s.nv.slots).filter (fun x => decide (field c.params 0 4 ≤ x.1))).take (field c.params 4 2)
      b1 l.length ++ zeros 3 ++ le 4 ((l.getLast?.map (fun x => x.1 + 1)).getD (field c.params 0 4)) ++ l.flatMap (fun x => x.2)), s)) ∧
    Carries (.negExport g) (fun c s => startOp 7 false (.negExport (exportOf c.params s)) c s) ∧
    Carries (.calSweep g) (fun c s => startOp 5 ((byteAt c.params 4).getLsbD 0)
      (.sweep { first := field c.params 0 2, count := field c.params 2 2, save := (byteAt c.params 4).getLsbD 0, before := [], saving := none }) c s) ∧
    Carries (.calStatus g) (fun c s => (.done ((calRegs s (field c.params 0 2)).flatMap (le 4)), s)) ∧
    Carries (.contactRestore g) (fun c s =>
      let k := restoreSlot c.params s
      let x := contactLoad k (field c.params 1 1) s
      (.done (le 2 x.1.1 ++ le 2 x.1.2.1 ++ le 2 x.1.2.2 ++ b1 k ++ b1 0), x.2)) ∧
    Carries (.contactStatus g) (fun _ s => (.done (contactStatus s), s))

/-- Firmware and long-operation control, accepted (R92, R93, R518 to R523): an update starts, FW_DATA's bytes join those that wait to be written, and an operation is read, asked to suspend, sent on or cancelled by the states of R92. Where it rests on a reading or a choice of the model, that is log entries 94 and 96. -/
def Obligations.FirmwareAndOperationOpcodes : Prop :=
  ∀ g : Gcp,
    Carries (.fwStatus g) (fun _ s => (.done (fwStatus s), s)) ∧
    Carries (.fwUpdate g) (fun c s =>
      let w : FwWork := { target := field c.params 0 1, source := field c.params 1 1, size := field c.params 4 4, addr := field c.params 8 8, crc := field c.params 16 4,
                          accepted := 0, buffer := [], written := 0, crcNow := 0xFFFFFFFF, lastData := s.clk.now, version := 0 }
      startOp 1 true (.fw w) c s) ∧
    Carries (.fwData g) (fun c s => (.done [], match s.op? (field c.params 0 4) with
      | none => s
      | some o =>
        match o.work with
        | .fw w => setOp { o with work := .fw { w with accepted := w.accepted + (c.params.length - 8), buffer := w.buffer ++ c.params.drop 8, lastData := s.clk.now } } s
        | _ => s)) ∧
    Carries (.opQuery g) (fun c s => (.done (match s.op? c.handle with
      | some o => o.record s.clk.now
      | none => []), s)) ∧
    Carries (.opSuspend g) (fun c s => (.done [], match s.op? c.handle with
      | none => s
      | some o => setOp { (if o.state = .running then o.move .suspending s.clk.now else o) with reason := .host } s)) ∧
    Carries (.opResume g) (fun c s => (.done [], match s.op? c.handle with
      | none => s
      | some o =>
        if o.state = .suspending ∨ o.state = .suspended then setOp { o.move .running s.clk.now with reason := .none } s else s)) ∧
    Carries (.opCancel g) (fun c s => (.done [], match s.op? c.handle with
      | none => s
      | some o => if o.state = .cancelling then s else setOp { o.move .cancelling s.clk.now with reason := .none } s))

/-! ### The opcode table (R496 to R500) -/

/-- The opcodes and their rows in the tables of R502 to R523: no opcode but these 107 is defined; each has its class, its N marker, its long type, and, where the table gives one, its single PARAM_LEN; it is accepted in the modes of its row and in its lifecycles (R497), but for the two debug opcodes whose level decides and LANE_TEST, which also wants forwarding paused (R46). The opcodes with several lengths take one of two, a range, or 24 and the lengths of 1 to 41 records; the opcodes accepted in SAFE are the fifteen of R500, and they are the sideband's (R66), and in-band frames carry all but TAKE_OWNERSHIP (R99) and TABLE_SHADOW, which only PCIe carries (R80). -/
def Obligations.OpcodeTableAsTheSpecGivesIt : Prop :=
  let rows : List (Nat × Bool × Bool × Bool × Option Nat × Nat × Nat) :=
    [(0x0100, false, false, false, some 0, 63, 15), (0x0101, false, false, false, some 0, 63, 15), (0x0102, true, true, false, some 2, 19, 7),
     (0x0103, true, false, false, some 1, 1, 15), (0x0104, true, false, false, some 0, 2, 6), (0x0105, true, false, false, some 1, 12, 7),
     (0x0106, true, false, false, some 8, 12, 7), (0x0107, true, false, false, some 1, 48, 7), (0x0108, true, false, false, some 1, 63, 7),
     (0x0109, true, false, false, some 44, 62, 7), (0x010A, true, false, false, some 8, 62, 7), (0x010B, true, false, false, some 8, 2, 7)] ++
    [(0x0200, false, false, false, some 0, 63, 15), (0x0201, true, true, false, some 84, 3, 1), (0x0202, true, true, false, some 44, 18, 6),
     (0x0203, true, true, false, some 4, 18, 6), (0x0204, true, true, false, some 52, 2, 2), (0x0205, true, true, false, some 0, 18, 2),
     (0x0206, true, true, false, some 4, 18, 4), (0x0207, true, true, false, some 0, 3, 7), (0x0208, false, false, false, some 1, 19, 15),
     (0x0209, true, false, false, none, 19, 7), (0x020A, false, false, false, some 0, 63, 15)] ++
    [(0x0300, true, false, false, some 12, 62, 7), (0x0301, true, false, false, some 2, 62, 7), (0x0302, false, false, false, some 1, 62, 15),
     (0x0303, true, false, false, some 12, 62, 7), (0x0304, true, false, false, some 8, 62, 7), (0x0305, true, false, false, some 20, 62, 7),
     (0x0306, false, false, false, some 2, 62, 15), (0x0307, true, false, false, some 8, 16, 7), (0x0308, false, false, false, some 1, 16, 15),
     (0x0309, true, false, false, some 4, 62, 7), (0x030A, true, false, false, some 16, 62, 7), (0x030B, false, false, false, some 1, 62, 15),
     (0x030C, true, false, false, some 84, 62, 7), (0x030D, true, false, false, some 16, 62, 7), (0x030E, true, false, false, some 8, 62, 7),
     (0x030F, true, false, false, some 16, 2, 7), (0x0310, true, false, false, some 20, 62, 7), (0x0311, false, false, false, some 1, 62, 15),
     (0x0312, false, false, false, some 8, 62, 15), (0x0313, true, false, false, none, 62, 7), (0x0314, true, false, false, some 4, 62, 7),
     (0x0315, true, false, false, some 16, 2, 7)] ++
    [(0x0400, true, false, false, some 12, 62, 7), (0x0401, true, false, false, some 32, 62, 7), (0x0402, true, false, false, some 48, 62, 7),
     (0x0403, true, false, false, some 4, 62, 7), (0x0404, true, false, false, some 0, 56, 7), (0x0405, false, false, false, some 1, 62, 15),
     (0x0406, false, false, false, some 1, 62, 15), (0x0407, true, false, false, none, 62, 7), (0x0408, true, false, false, some 12, 62, 7),
     (0x0409, true, false, false, some 20, 62, 7), (0x040A, true, false, false, some 12, 62, 7), (0x040B, true, false, false, some 8, 62, 7),
     (0x040C, false, false, false, some 0, 62, 15), (0x040D, true, false, false, some 32, 18, 7), (0x040E, true, false, false, some 32, 62, 7),
     (0x040F, true, false, false, some 8, 62, 7), (0x0410, true, true, false, some 16, 54, 7), (0x0411, false, false, false, some 0, 62, 15),
     (0x0412, false, false, false, some 1, 62, 15), (0x0413, true, false, true, some 0, 62, 7), (0x0414, false, false, false, some 8, 62, 15)] ++
    [(0x0500, true, false, false, some 8, 62, 7), (0x0501, true, false, false, some 8, 62, 7), (0x0502, true, false, false, some 8, 62, 7),
     (0x0503, true, false, false, some 16, 62, 7), (0x0504, true, false, true, some 20, 62, 7), (0x0505, false, false, false, some 4, 62, 15),
     (0x0506, false, false, false, some 0, 62, 15)] ++
    [(0x0600, true, false, false, some 24, 2, 7), (0x0601, true, false, false, some 36, 62, 7), (0x0602, false, false, false, some 0, 62, 15),
     (0x0603, true, false, true, some 12, 60, 7), (0x0604, true, false, false, some 24, 62, 7), (0x0605, true, false, false, some 4, 62, 7),
     (0x0606, false, false, false, some 0, 62, 15), (0x0607, true, false, false, some 20, 2, 7), (0x0608, true, false, false, some 4, 16, 7),
     (0x0609, false, false, false, some 1, 62, 15), (0x060A, true, false, false, none, 62, 7), (0x060B, true, false, false, some 4, 62, 7)] ++
    [(0x0700, true, false, true, none, 62, 7), (0x0701, false, false, true, some 4, 62, 7), (0x0702, true, false, false, some 24, 62, 7),
     (0x0703, true, false, false, some 12, 62, 7), (0x0704, true, false, false, some 8, 62, 7), (0x0705, true, false, false, some 4, 60, 7),
     (0x0706, true, false, true, some 4, 18, 7), (0x0707, false, false, false, some 1, 62, 15)] ++
    [(0x0800, false, false, false, some 0, 62, 15), (0x0801, false, false, false, some 8, 62, 15), (0x0802, false, false, true, some 24, 62, 15)] ++
    [(0x0900, true, true, true, some 8, 62, 7), (0x0901, false, false, false, some 4, 62, 15), (0x0902, true, false, false, some 4, 18, 7),
     (0x0903, false, false, false, some 0, 62, 15)] ++
    [(0x0A00, false, false, false, some 0, 63, 15), (0x0A01, true, true, true, some 24, 63, 7), (0x0A02, true, true, false, none, 63, 7)] ++
    [(0x0B00, false, false, false, some 0, 63, 15), (0x0B01, true, false, false, some 0, 62, 7), (0x0B02, true, false, false, some 0, 62, 7),
     (0x0B03, true, false, false, some 0, 62, 7)]
  (∀ op, (defOf op).isSome = true ↔ op ∈ rows.map (fun r => r.1)) ∧
  (∀ op clsA nMark long len modes lives, (op, clsA, nMark, long, len, modes, lives) ∈ rows →
    ∃ d, defOf op = some d ∧ d.clsA = clsA ∧ d.nMark = nMark ∧ d.long = long ∧
      (∀ n, len = some n → ∀ k, d.lenOk k = (k == n)) ∧
      (op ≠ 0x0209 → op ≠ 0x0307 → ∀ c s, d.modeOk c s = Nat.testBit modes s.sys.mode.code) ∧
      (op ≠ 0x0208 → op ≠ 0x0209 → ∀ c s, d.lifeOk c s = Nat.testBit lives s.nv.lifecycle.code)) ∧
  (∀ c s, opLaneTest.modeOk c s = (s.sys.mode == .maintenance && s.sys.paused)) ∧
  (∀ c s, opDebugChallenge.lifeOk c s = (s.nv.lifecycle != .retired && levelLife (field c.params 0 1) s)) ∧
  (∀ c s, opDebugUnlock.lifeOk c s = levelLife (field c.params 0 1) s ∧ opDebugUnlock.modeOk c s = levelMode (field c.params 0 1) s) ∧
  (∀ n : Nat,
    opDebugUnlock.lenOk n = (n == 44 || n == 140) ∧
    (opModuleWrite.lenOk n = true ↔ 9 ≤ n ∧ n ≤ 136) ∧
    (opSynBandTable.lenOk n = true ↔ 8 ≤ n ∧ n ≤ 1032) ∧
    (opMcastGroup.lenOk n = true ↔ 8 ≤ n ∧ n ≤ 2056) ∧
    (opTableBulkLoad.lenOk n = true ↔ n = 24 ∨ ∃ k, 1 ≤ k ∧ k ≤ 41 ∧ n = 24 + 96 * k) ∧
    (opFwData.lenOk n = true ↔ 9 ≤ n ∧ n ≤ 4048)) ∧
  (∀ op d, defOf op = some d →
    ((∃ (c : Cmd) (s : State), s.sys.mode = .safe ∧ d.modeOk c s = true) ↔ d.sidebandOk = true) ∧
    (d.sidebandOk = true ↔ op ∈ [0x0100, 0x0101, 0x0102, 0x0103, 0x0108, 0x0200, 0x0201, 0x0207, 0x0208, 0x0209, 0x020A, 0x0A00, 0x0A01, 0x0A02, 0x0B00]) ∧
    (d.inbandOk = false ↔ op = 0x0201 ∨ op = 0x0702) ∧
    transportOk d .pcie = true)
/-! ### Resets, boot and the endpoint (R40 to R60, R525, R555, R567) -/

/-- What a device reset leaves (R40, R52, R54): MRAM with lifecycle, keys, counters, policy, attempts, time generation and Negative as it was; the pins and comparators as they are; the latched cause with its data; and every volatile register, table, ring, operation, clock and port as after reset, in SAFE with no image running. Where it rests on a reading or a choice of the model, that is log entry 10. -/
def Obligations.WhatADeviceResetLeaves : Prop :=
  ∀ (code data : Nat) (s : State), s.nv.retiring = false →
    let t := deviceReset code data s
    t.nv = s.nv ∧ t.clk = { now := s.clk.now, acc := 0, todSet := false, off := 0 } ∧
    t.sys.mode = .safe ∧ t.sys.resetCode = code ∧ t.sys.resetData = data ∧ t.sys.running = 0 ∧ t.sys.fwAlive = false ∧
    t.sys.lastStart = (if code = 1 then 0 else s.sys.lastStart) ∧ t.sys.scratch = 0 ∧ t.sys.deviceMac = Config.baseMac ∧ t.sys.mgmtVid = 0 ∧
    t.sys.straps = s.sys.straps ∧ t.sys.sysRst = s.sys.sysRst ∧ t.sys.thermTrip = s.sys.thermTrip ∧ t.sys.tripWait = s.sys.tripWait ∧
    t.sys.auxDown = s.sys.auxDown ∧ t.sys.perst = s.sys.perst ∧ t.sys.d3hot = false ∧
    t.pwr.portOff = 0 ∧ t.pwr.laneOff = 0 ∧
    t.pwr.state = (if code ≠ 1 ∧ (s.pwr.auxWarn || s.pwr.coreSag) = true then .ride else .full) ∧
    (code ≠ 1 → t.pwr.auxWarn = s.pwr.auxWarn ∧ t.pwr.nvInhibit = s.pwr.nvInhibit ∧ t.pwr.tj = s.pwr.tj) ∧
    t = { State.reset with clk := t.clk, sys := t.sys, pwr := t.pwr, nv := s.nv, tim := t.tim, free := s.free, out := s.out, pending := s.pending } ∧
    t.tim = { Timing.reset with xo := { Timing.reset.xo with rdyPin := s.tim.xo.rdyPin } }

/-- The reset sources (R52, R55, R567): power and SUPPLY, the pin, the thermal trip, RESET_DEVICE's 10 ms and a fatal error each reset the device with their cause and data where it is not held; where a source already holds it, the pin's level is noted and the cause stays. Where it rests on a reading or a choice of the model, that is log entries 11 and 12. -/
def Obligations.ResetSourcesLatchTheirCause : Prop :=
  ∀ s : State,
    (s.sys.auxDown = false → exec .powerOn s = .next (deviceReset 1 0 s)) ∧
    (s.sys.auxDown = true → exec .powerOn s = .next (bootStart { s with sys := { s.sys with auxDown := false } })) ∧
    (let down := { s with sys := { s.sys with auxDown := true, tripWait := false } }
     exec .supplyReset s = .next (if s.sys.auxDown = true ∨ s.sys.sysRst = true then down else deviceReset 1 0 down)) ∧
    (let low := { s with sys := { s.sys with sysRst := true } }
     exec .sysRstNAssert s = .next (if s.held then low else deviceReset 2 0 low)) ∧
    (∀ straps : Fin 4, s.sys.sysRst = true →
      exec (.sysRstNRelease straps) s = .next (bootStart { s with sys := { s.sys with
        sysRst := false, straps := straps, tripWait := s.sys.tripWait && s.sys.thermTrip } })) ∧
    (∀ straps : Fin 4, s.sys.sysRst = false → exec (.sysRstNRelease straps) s = .next s) ∧
    (∀ tj : Int, s.sys.thermTrip = false →
      let trip := { s with sys := { s.sys with thermTrip := true, tripWait := true } }
      exec (.thermalTrip tj) s = .next (if s.sys.auxDown then trip else deviceReset 5 (tj / 16 % 2 ^ 32).toNat trip)) ∧
    (∀ tj : Int, s.sys.thermTrip = true → exec (.thermalTrip tj) s = .next s) ∧
    (∀ peak : Int, s.sys.thermTrip = true → s.sys.resetCode = 5 →
      exec (.thermtripRelease peak) s = .next { s with sys := { s.sys with thermTrip := false, resetData := (peak / 16 % 2 ^ 32).toNat } }) ∧
    (∀ peak : Int, s.sys.thermTrip = true → s.sys.resetCode ≠ 5 →
      exec (.thermtripRelease peak) s = .next { s with sys := { s.sys with thermTrip := false } }) ∧
    (∀ peak : Int, s.sys.thermTrip = false → exec (.thermtripRelease peak) s = .next s) ∧
    (∀ slot, s.held = false → s.sys.resetDue = some slot → exec .resetAfterReply s = .next (deviceReset 3 slot s)) ∧
    (s.held = false → s.sys.resetDue = none → exec .resetAfterReply s = .next s)

/-- A fatal internal error (R16, R486): outside SAFE the device writes an INTERNAL record, adds a boot attempt and resets with cause FATAL, the record's SEQ as its data; under NV-inhibit neither is written (R120) and the data is 0xFFFFFFFF. In SAFE, where no firmware runs, nothing happens. Where it rests on a reading or a choice of the model, that is log entry 45. -/
def Obligations.FatalErrorRecordsAndResets : Prop :=
  ∀ (proc : Option (Fin 4)) (code addr : BitVec 32) (s : State), s.held = false →
    (s.sys.mode = .safe → exec (.fatalInternalError proc code addr) s = .next s) ∧
    (s.sys.mode ≠ .safe → s.pwr.nvInhibit = true →
      exec (.fatalInternalError proc code addr) s = .next (deviceReset 4 0xFFFFFFFF s)) ∧
    (s.sys.mode ≠ .safe → s.pwr.nvInhibit = false →
      let data := b1 ((proc.map Fin.val).getD 0xFF) ++ b1 1 ++ le 2 0 ++ le 4 code.toNat ++ le 4 addr.toNat
      let r := negWrite 0x00FF data s
      exec (.fatalInternalError proc code addr) s =
        .next (deviceReset 4 s.nv.nextSeq { r with nv := { r.nv with attempts := s.nv.attempts + 1 } }) ∧
      r.nv.nextSeq = s.nv.nextSeq + 1)

/-- A device held in reset does nothing: every command but those of its reset sources, PERST_N and the test port leaves it as it is (that no other command acts on a held device is the model's reading of R52 and R567). Where it rests on a reading or a choice of the model, that is log entry 7. -/
def Obligations.HeldDeviceStandsStill : Prop :=
  ∀ (c : Instr) (s : State), s.held = true → actsWhileHeld c = false → exec c s = .next s

/-- The endpoint (R53, R57, R70, R525, R545): PERST_N resets the host-interface domain, which keeps its held replies, event records, causes and sequence, and is low or high as the pin; a function level reset is an assertion and a release; D3hot only stops DMA, and the return from it finds the domain reset. Where it rests on a reading or a choice of the model, that is log entry 13. -/
def Obligations.EndpointResetsOnlyTheHostDomain : Prop :=
  (∀ s : State,
    let t := hostReset s
    t.mbx = { Mbx.reset with held := s.mbx.held } ∧ t.irq.cause = s.irq.cause ∧ t.irq.held = s.irq.held ∧ t.irq.seq = s.irq.seq ∧
    t.irq.mask = 0 ∧ t.irq.evqEnable = false ∧ t.stat.enable = false ∧ t.stat.seq = s.stat.seq ∧ t.trap = [] ∧ t.inject = [] ∧
    t.gcp.pcie.waiting = [] ∧ t.gcp.pcie.cache = [] ∧ t.gcp.inband = s.gcp.inband ∧ t.gcp.sideband = s.gcp.sideband ∧
    t.nv = s.nv ∧ t.sys = s.sys ∧ t.pwr = s.pwr ∧ t.ports = s.ports ∧ t.tables = s.tables ∧ t.tim = s.tim ∧ t.ops = s.ops ∧ t.clk = s.clk) ∧
  (∀ s : State, exec .perstNAssert s = .next (hostReset { s with sys := { s.sys with perst := true, d3hot := false } })) ∧
  (∀ s : State, exec .perstNRelease s = .next { s with sys := { s.sys with perst := false } }) ∧
  (∀ s : State, s.held = false → s.sys.perst = false →
    exec .functionLevelReset s =
      .next (let t := hostReset { s with sys := { s.sys with perst := true, d3hot := false } }
             { t with sys := { t.sys with perst := false } })) ∧
  (∀ s : State, s.held = false → s.sys.perst = true → exec .functionLevelReset s = .next s ∧ exec .d3hotEntry s = .next s) ∧
  (∀ s : State, s.held = false → s.sys.perst = false → exec .d3hotEntry s = .next { s with sys := { s.sys with d3hot := true } }) ∧
  (∀ s : State, s.held = false → s.sys.d3hot = true → exec .d0Return s = .next (hostReset { s with sys := { s.sys with d3hot := false } })) ∧
  (∀ s : State, s.held = false → s.sys.d3hot = false → exec .d0Return s = .next s)

/-- The boot ROM (R56 to R60): XO_IN's frequency is one of five and locks SYN-T; verification gives each image its state, and an AUTO start follows; firmware that reports alive is running, with its records, and the device enters PROVISION; firmware that does not counts a failed attempt (under NV-inhibit none is written), clears SYS_SCRATCH, and the next valid image is tried, or NO_IMAGE is set. Where it rests on a reading or a choice of the model, that is log entries 15, 17 and 102. -/
def Obligations.BootRomStartsFirmware : Prop :=
  (∀ (freq : XoCode) (s : State), s.held = false → s.sys.mode = .safe → s.tim.xo.present = false → 1 ≤ freq.val → freq.val ≤ 5 →
    s.sys.autoWaits = false → s.gcp.pcie.waiting = [] → s.gcp.inband.waiting = [] → s.gcp.sideband.waiting = [] → s.core.poolsHold = none →
    exec (.xoInDetect freq) s =
      .next (modSyn 0 (fun y => { y with st := 1 }) (modXo (fun x => { x with freq := freq.val, present := true, rdyAt := s.clk.now }) s))) ∧
  (∀ (freq : XoCode) (s : State), s.held = false → (s.sys.mode ≠ .safe ∨ s.tim.xo.present = true ∨ freq.val = 0 ∨ 5 < freq.val) →
    s.gcp.pcie.waiting = [] → s.gcp.inband.waiting = [] → s.gcp.sideband.waiting = [] → s.core.poolsHold = none → exec (.xoInDetect freq) s = .next s) ∧
  (∀ (a b : ImageFacts) (s : State), s.held = false → s.sys.mode = .safe → s.sys.verifying = true →
    let A := { s.sys.imgA with facts := some a, state := imageState s { s.sys.imgA with facts := some a } }
    let B := { s.sys.imgB with facts := some b, state := imageState s { s.sys.imgB with facts := some b } }
    exec (.imageVerificationComplete a b) s = .next (autoStart { s with sys := { s.sys with verifying := false, imgA := A, imgB := B } })) ∧
  (∀ (a b : ImageFacts) (s : State), s.held = false → (s.sys.mode ≠ .safe ∨ s.sys.verifying = false) →
    exec (.imageVerificationComplete a b) s = .next s) ∧
  (∀ (f : FwStart) (s : State), s.held = false → s.sys.start = some f → f.asked = none →
    s.gcp.pcie.waiting = [] → s.gcp.inband.waiting = [] → s.gcp.sideband.waiting = [] → s.core.poolsHold = none →
    let up := { s with sys := { s.sys with start := none, running := f.image, fwAlive := true, noImage := false, fallback := f.image != s.nv.preferred } }
    exec .firmwareAlive s = .next (pump ([1, 2, 3, 4, 5, 6].foldl synStart (setMode .provision 0 0xFF 0 0 (startRecords f.image up))))) ∧
  (∀ (f : FwStart) (s : State), s.held = false → s.sys.start = some f → f.asked = none → f.rest = [] →
    s.gcp.pcie.waiting = [] → s.gcp.inband.waiting = [] → s.gcp.sideband.waiting = [] → s.core.poolsHold = none →
    exec .fwStartFail s =
      .next { s with sys := { s.sys with start := none, noImage := true, resetCode := 6, resetData := f.image, scratch := 0 },
                     nv := { s.nv with attempts := if s.pwr.nvInhibit then s.nv.attempts else s.nv.attempts + 1 } }) ∧
  (∀ (k : Nat) (f : FwStart) (s : State), s.held = false → s.sys.start = some f → f.rest = [k] → imageValid s k = true →
    s.gcp.pcie.waiting = [] → s.gcp.inband.waiting = [] → s.gcp.sideband.waiting = [] → s.core.poolsHold = none →
    exec .fwStartFail s =
      .next { s with sys := { s.sys with start := some { image := k, rest := [], asked := f.asked }, lastStart := k,
                                         resetCode := 6, resetData := f.image, scratch := 0 },
                     nv := { s.nv with attempts := if s.pwr.nvInhibit then s.nv.attempts else s.nv.attempts + 1 } })

/-- An image's state (R58, R106, R108, R519): no header is NO_IMAGE; torn, without a valid vendor signature, or without the countersignature that the policy wants is INVALID; in LOCKED one below the minimum version is TOO_OLD; else VALID. The boot ROM tries the preferred image and then the other, and by itself only in SAFE, with verification ended, under AUTO, and with fewer than three failed attempts (R59, R60). Where it rests on a reading or a choice of the model, that is log entries 14 and 15. -/
def Obligations.ImageStatesAndAutoStart : Prop :=
  (∀ (s : State) (i : Img) (f : ImageFacts), i.facts = some f →
    (f.header = false → imageState s i = 0) ∧
    (f.header = true → (i.torn = true ∨ f.vendorOk = false ∨ (s.nv.ownerPolicy = true ∧ f.ownerKey ≠ some s.nv.ownerHash)) → imageState s i = 2) ∧
    (f.header = true → i.torn = false → f.vendorOk = true → (s.nv.ownerPolicy = true → f.ownerKey = some s.nv.ownerHash) →
      imageState s i = if s.nv.lifecycle = .locked ∧ f.version.toNat < s.nv.minVersion then 3 else 1)) ∧
  (∀ s : State, imageOrder s 0 = [s.nv.preferred, 3 - s.nv.preferred] ∧ imageOrder s 1 = [1] ∧ imageOrder s 2 = [2]) ∧
  (∀ s : State, (s.sys.mode ≠ .safe ∨ s.sys.verifying = true ∨ s.sys.start ≠ none ∨ s.sys.fwAlive = true ∨ s.nv.hold = true ∨ 3 ≤ s.nv.attempts) →
    autoStart s = s) ∧
  (∀ s : State, autoMay s = true → s.tim.xo.missing = false → imageValid s s.nv.preferred = true →
    autoStart s = { s with sys := { s.sys with autoWaits := false, lastStart := s.nv.preferred,
                                               start := some { image := s.nv.preferred, rest := [3 - s.nv.preferred], asked := none } } })

/-! ### Supplies, temperature, the wake and the drain (R41, R42, R48, R92, R115 to R124) -/

/-- The supply thresholds (R23, R120, R322, R485): each row takes the measurement; where its flag stands on the other side and the measurement is at or past the threshold, the VDD_CORE ones in percent of the AVS target in force, the record and the event of R488 and R533 are made, then the effect: RIDE and the suspension of operations that write at SUPPLY_WARN, their going on at its clearing, the inhibit of non-volatile writes, RIDE at CORE_SAG, the emergency of R42 at SUPPLY_CRITICAL. Else only the measurement is taken (that a repeated crossing does no more is the model's reading of R120). RIDE is entered from FULL and TRIM, which it remembers, and closes an open debug session of any level; it is not entered from RIDE or SLEEP (R116, R123, R124). Where it rests on a reading or a choice of the model, that is log entries 39 and 40. -/
def Obligations.SupplyThresholdsAct : Prop :=
  (∀ (m : Meas) (s : State), s.held = false →
    let u := { s with pwr := { s.pwr with auxMv := m.auxMv, coreMv := m.coreMv, tj := m.tj, sensor := m.sensor } }
    let goal := s.core.avs.target
    exec (.supplyWarn m) s =
      .next (if s.pwr.auxWarn = false ∧ m.auxMv ≤ 1140 then supplySuspend (rideEnter (supplyRaise 0 { u with pwr := { u.pwr with auxWarn := true } })) else u) ∧
    exec (.supplyWarnClear m) s =
      .next (if s.pwr.auxWarn = true ∧ 1160 ≤ m.auxMv then opsSettle (supplyResume (supplyClear 0 { u with pwr := { u.pwr with auxWarn := false } })) else u) ∧
    exec (.nvInhibit m) s =
      .next (if s.pwr.nvInhibit = false ∧ m.auxMv ≤ 1100 then supplyRaise 1 { u with pwr := { u.pwr with nvInhibit := true } } else u) ∧
    exec (.nvInhibitClear m) s =
      .next (if s.pwr.nvInhibit = true ∧ 1120 ≤ m.auxMv then
        retireResume (critAuxClear (supplyClear 1 (negFlush { u with pwr := { u.pwr with nvInhibit := false } }))) else u) ∧
    exec (.supplyCriticalAux m) s =
      .next (if s.pwr.critAux = false ∧ m.auxMv ≤ 1100 then emergency false (supplyRaise 2 { u with pwr := { u.pwr with critAux := true } }) else u) ∧
    exec (.supplyCriticalCore m) s =
      .next (if s.pwr.critCore = false ∧ 100 * m.coreMv ≤ 88 * goal then emergency false (supplyRaise 2 { u with pwr := { u.pwr with critCore := true } }) else u) ∧
    exec (.supplyCriticalClear m) s =
      .next (if s.pwr.critCore = true ∧ 92 * goal < 100 * m.coreMv then supplyClear 2 { u with pwr := { u.pwr with critCore := false } } else u) ∧
    exec (.coreWarn m) s =
      .next (if s.pwr.coreWarn = false ∧ 100 * m.coreMv ≤ 95 * goal then supplyRaise 3 { u with pwr := { u.pwr with coreWarn := true } } else u) ∧
    exec (.coreWarnClear m) s =
      .next (if s.pwr.coreWarn = true ∧ 95 * goal < 100 * m.coreMv then supplyClear 3 { u with pwr := { u.pwr with coreWarn := false } } else u) ∧
    exec (.coreSag m) s =
      .next (if s.pwr.coreSag = false ∧ 100 * m.coreMv ≤ 92 * goal then rideEnter (supplyRaise 4 { u with pwr := { u.pwr with coreSag := true } }) else u) ∧
    (let good := 95 * goal < 100 * m.coreMv ∧ 1160 ≤ m.auxMv
     let t := if s.pwr.coreSag then supplyClear 4 { u with pwr := { u.pwr with coreSag := false } } else u
     (¬ good → exec (.rideExit m) s = .next u) ∧
     (good → s.pwr.state ≠ .ride → exec (.rideExit m) s = .next t) ∧
     (good → s.pwr.state = .ride → exec (.rideExit m) s = .next { t with pwr := { t.pwr with state := s.pwr.remembered } }))) ∧
  (∀ s : State,
    ((s.pwr.state = .full ∨ s.pwr.state = .trim) →
      (rideEnter s).pwr = { s.pwr with state := .ride, remembered := s.pwr.state } ∧ (rideEnter s).dbg.session = none ∧
      (s.dbg.session = none → rideEnter s = { s with pwr := { s.pwr with state := .ride, remembered := s.pwr.state } })) ∧
    ((s.pwr.state = .ride ∨ s.pwr.state = .sleep) → rideEnter s = s))
/-- The temperature thresholds (in 1/16 °C), the wake, the drain and the debug lifetimes (R42, R48, R114, R119, R120): a temperature at or past a threshold whose flag stands on the other side acts; a wake that runs restores power, pools, tables and ports and replies; a drain ends with its last frame or at its limit; an unused challenge and an open session end at their lifetimes, at which the clock stands at least. Where it rests on a reading or a choice of the model, that is log entries 39 and 41 to 43. -/
def Obligations.ThermalWakeAndDrainRowsAct : Prop :=
  ∀ s : State, s.held = false →
    (∀ m : Meas,
      let u := { s with pwr := { s.pwr with auxMv := m.auxMv, coreMv := m.coreMv, tj := m.tj, sensor := m.sensor } }
      exec (.thermalWarn m) s =
        .next (if s.pwr.thermWarn = false ∧ 1600 ≤ m.tj then thermalRaise 0 { u with pwr := { u.pwr with thermWarn := true } } else u) ∧
      exec (.thermalWarnClear m) s =
        .next (if s.pwr.thermWarn = true ∧ m.tj < 1552 then thermalClear 0 { u with pwr := { u.pwr with thermWarn := false } } else u) ∧
      exec (.thermalCritical m) s =
        .next (if s.pwr.thermCrit = false ∧ 1760 ≤ m.tj then emergency true (thermalRaise 1 { u with pwr := { u.pwr with thermCrit := true } }) else u) ∧
      exec (.thermalCriticalClear m) s =
        .next (if s.pwr.thermCrit = true ∧ m.tj < 1712 then thermalClear 1 { u with pwr := { u.pwr with thermCrit := false } } else u)) ∧
    (∀ regions, s.pwr.waking = false → exec (.wakeComplete regions) s = .next s) ∧
    (∀ regions, s.pwr.waking = true →
      let t := calWake s (wakePorts (tablesRestore regions (poolsRebuild (countersRestart (wakePower s)))))
      exec (.wakeComplete regions) s = .next (wakeReply (if t.pwr.auxWarn || t.pwr.coreSag then rideEnter t else t))) ∧
    exec .quiesceDrainEnd s = .next (if framesQueued s then s else drainEnd s) ∧
    (s.sys.draining = true → exec .drainLimitExpiry s = .next (drainEnd (advanceTo s.sys.drainEnd s))) ∧
    (s.sys.draining = false → exec .drainLimitExpiry s = .next s) ∧
    (∀ c, s.dbg.challenge = some c →
      exec .debugChallengeExpiry s = .next { advanceTo c.deadline s with dbg := { s.dbg with challenge := none } }) ∧
    (s.dbg.challenge = none → exec .debugChallengeExpiry s = .next s) ∧
    (∀ d, s.dbg.session = some d → exec .debugSessionExpiry s = .next (dbgClose 1 (advanceTo d.deadline s))) ∧
    (s.dbg.session = none → exec .debugSessionExpiry s = .next s)
/-! ### Lanes, Ethernet bring-up and modules (R127 to R151, R215 to R218) -/

/-- The loss detectors and adaptation (R133, R136, R137): an assertion counts once and LOS forces LOL; a lane that is unused by its port does no more; LOL does not clear while LOS forces it; an update moves the CTLE code and the DFE taps that are not frozen, within their spans, on a lane whose receiver adapts, and nothing elsewhere. Where it rests on a reading or a choice of the model, that is log entries 14 and 49. -/
def Obligations.LaneDetectorsAndAdaptation : Prop :=
  ∀ (l : Fin 256) (s : State), s.held = false →
    ((s.lane l).los = true → exec (.losAssert l) s = .next s) ∧
    ((s.lane l).los = false → (s.lane l).lol = true →
      exec (.losAssert l) s = .next (portLaneLoss l true (modLane l (fun r => { r with los := true, losCount := wrapAdd 32 r.losCount 1 }) s))) ∧
    ((s.lane l).los = false → (s.lane l).lol = false →
      exec (.losAssert l) s = .next (portLaneLoss l true (prefLoss l (modLane l (fun r => { r with
        los := true, losCount := wrapAdd 32 r.losCount 1, lol := true, converged := false, lolCount := wrapAdd 32 r.lolCount 1 }) s)))) ∧
    ((s.lane l).lol = true → exec (.lolAssert l) s = .next s) ∧
    ((s.lane l).lol = false →
      exec (.lolAssert l) s = .next (portLaneLoss l false
        (prefLoss l (modLane l (fun r => { r with lol := true, converged := false, lolCount := wrapAdd 32 r.lolCount 1 }) s)))) ∧
    (∀ b t, (t.port (l / 4)).rxLanes.contains (l % 4) = false → portLaneLoss l b t = t) ∧
    exec (.losClear l) s = .next (dlkTry (l / 4) (ethTry (l / 4) (modLane l (fun r => { r with los := false }) s))) ∧
    ((s.lane l).los = true → exec (.lolClear l) s = .next s) ∧
    ((s.lane l).los = false → exec (.lolClear l) s = .next (modLane l (fun r => { r with lol := false }) s)) ∧
    (∀ ctle dfe conv corrected offset, adapts s l = false → exec (.rxAdaptUpdate l ctle dfe conv corrected offset) s = .next s) ∧
    (∀ ctle dfe conv corrected offset, adapts s l = true →
      ∃ t, exec (.rxAdaptUpdate l ctle dfe conv corrected offset) s = .next t ∧ t = { s with lanes := t.lanes } ∧
        (∀ k, k ≠ l.val → t.lane k = s.lane k) ∧
        (t.lane l).ctle = (if (s.lane l).ctleFrozen then (s.lane l).ctle else ctle.val) ∧
        ((s.lane l).dfeFrozen = true → (t.lane l).dfe = (s.lane l).dfe) ∧
        ((s.lane l).dfeFrozen = false → (t.lane l).dfe.length = 12 ∧
          ∀ i v, (t.lane l).dfe[i]? = some v → if i = 0 then -128 ≤ v ∧ v ≤ 127 else -64 ≤ v ∧ v ≤ 64) ∧
        (t.lane l).converged = (conv && !(s.lane l).lol) ∧
        (t.lane l).fecCorrected = wrapAdd 64 (s.lane l).fecCorrected corrected)

/-- Ethernet bring-up (R139 to R144): each row acts only in its own state. Clause 73 leads to TRAIN, training and adaptation to ALIGN, a lock to UP with the measured latencies; a timeout to BACKOFF with cause TIMEOUT and one more attempt; a fault leaves UP for FAULT and comes back with latencies measured anew; BACKOFF ends with LINK_RETRY. In any other state the row changes nothing. Where it rests on a reading or a choice of the model, that is log entries 46, 47, 49 and 106. -/
def Obligations.EthernetBringUpMovesInOrder : Prop :=
  ∀ (p : Port) (s : State), s.held = false →
    (let m := (s.port p).module
     let found : State := modPort p (fun r => { r with module := { r.module with present := true, ready := true, noApp := false } }) s
     exec (.ethModuleReady p) s = .next (ethTry p (if m.present && m.ready then s else moduleEvent p found))) ∧
    exec (.anComplete p) s = .next (if ethIn s p .an then enterTrain p s else s) ∧
    (∀ taps, ethIn s p .train = false → exec (.ethTrainingComplete p taps) s = .next s) ∧
    (∀ taps, ethIn s p .train = true →
      ∃ t, exec (.ethTrainingComplete p taps) s = .next t ∧ (t.port p).st = .align ∧ t = { s with ports := t.ports, lanes := t.lanes } ∧
        ∀ l, l ∈ (s.port p).usedLanes → (t.lane (gLane p l)).taps =
          if (s.lane (gLane p l)).txTrained && tapsOk (taps.getD l []) then taps.getD l [] else (s.lane (gLane p l)).taps) ∧
    exec (.maxWaitTimerExpiry p) s = .next (if ethIn s p .train then enterBackoff p 9 0xFF s else s) ∧
    (ethIn s p .adapt = true → lolLanes s p = [] →
      ∃ t, exec (.adaptConverged p) s = .next t ∧ (t.port p).st = .align ∧ t = { s with ports := t.ports, lanes := t.lanes } ∧
        ∀ l, l ∈ (s.port p).rxLanes → (t.lane (gLane p l)).converged = true) ∧
    (ethIn s p .adapt = false ∨ lolLanes s p ≠ [] → exec (.adaptConverged p) s = .next s) ∧
    exec (.adaptTimeout p) s = .next (if ethIn s p .adapt then enterBackoff p 9 0xFF s else s) ∧
    (∀ lat, exec (.alignLock p lat) s = .next (if ethIn s p .align then alignDone p lat s else s)) ∧
    exec (.alignTimeout p) s = .next (if ethIn s p .align then enterBackoff p 9 0xFF s else s) ∧
    exec (.faultReceived p) s = .next (if ethIn s p .up then reelect (leaveUp p .fault 10 0xFF s) else s) ∧
    (∀ lat, exec (.faultEnd ⟨p, lat⟩) s = .next (if ethIn s p .fault then alignDone p lat s else s)) ∧
    (∀ (lat : List (Nat × Nat)) (t : State), alignDone p lat t = reelect (enterUp p .up ((t.port p).usedLanes.foldl (fun t l =>
      modLane (gLane p l) (fun r => { r with txLatency := (lat.getD l (0, 0)).1 % 2 ^ 32, rxLatency := (lat.getD l (0, 0)).2 % 2 ^ 32 }) t) t))) ∧
    exec (.ethBackoffExpiry p) s =
      .next (if ethIn s p .backoff then ethTry p (modPort p (fun r => { r with st := .waitSignal }) (linkEvent 66 p s)) else s) ∧
    exec (.alignLoss p) s = .next (ethDown p 3 s) ∧ exec (.hiBer p) s = .next (ethDown p 4 s) ∧
    exec (.moduleRemoved p) s = .next (if (s.port p).module.ready then moduleEvent p (moduleGone p s) else moduleGone p s) ∧
    ((s.port p).test.state = 1 → (s.port p).test.duration ≠ 0 →
      exec (.laneTestDurationExpiry p) s =
        .next (laneTestEnd p (advanceTo ((s.port p).test.started + (s.port p).test.duration * msTicks) s))) ∧
    (((s.port p).test.state ≠ 1 ∨ (s.port p).test.duration = 0) → exec (.laneTestDurationExpiry p) s = .next s)

/-- What a port's moves leave (R139, R142): BACKOFF counts the attempt and raises nothing; UP and ACTIVE clear the attempts, count an up and raise LINK_UP; leaving them counts a down and raises LINK_DOWN, as leaving FAULT does uncounted, and frames for the port and those it receives are dropped first; the back-off wait is 10 ms and doubles up to 2,560 ms. Where it rests on a reading or a choice of the model, that is log entries 46 and 49. -/
def Obligations.PortMovesCountAndReport : Prop :=
  (∀ (p cause lane : Nat) (s : State),
    let t := enterBackoff p cause lane s
    t = { s with ports := t.ports } ∧ (t.port p).st = .backoff ∧ (t.port p).cause = cause ∧ (t.port p).downLane = lane ∧
    (t.port p).attempts = min 65535 ((s.port p).attempts + 1) ∧ ∀ q, q ≠ p → t.port q = s.port q) ∧
  (∀ (p : Nat) (st : PortSt) (s : State),
    let u := modPort p (fun r => { r with st := st, attempts := 0, upCount := wrapAdd 32 r.upCount 1 }) s
    enterUp p st s = raise 64 p (b1 (s.port p).cause ++ b1 (s.port p).downLane ++ le 2 0) u ∧ (enterUp p st s).ports = u.ports) ∧
  (∀ (p cause lane : Nat) (st : PortSt) (s : State), (s.port p).isUp = true →
    let d := downRule p s
    let u := modPort p (fun r => { r with downCount := wrapAdd 32 r.downCount 1, st := st, cause := cause, downLane := lane }) d
    leaveUp p st cause lane s = raise 65 p (b1 cause ++ b1 lane ++ le 2 (u.port p).attempts) u) ∧
  (∀ (p cause lane : Nat) (st : PortSt) (s : State), (s.port p).isUp = false →
    let u := modPort p (fun r => { r with st := st, cause := cause, downLane := lane }) s
    leaveUp p st cause lane s = if (s.port p).st = .fault then raise 65 p (b1 cause ++ b1 lane ++ le 2 (u.port p).attempts) u else u) ∧
  backoffMs 1 = 10 ∧ backoffMs 2 = 20 ∧ backoffMs 9 = 2560 ∧ (∀ k, 9 ≤ k → backoffMs k = 2560)

/-- Modules (R216, R217): a scan latches 64 modules and shifts out their ResetL and LPMode, a level taking effect in its fourth equal scan; firmware releases ResetL 2 ms after presence, selects an initialised module's application by the host interface of its port's configuration, a passive copper cable needing none, and reports a module that is initialised or whose flags, state or readiness changed; the channel of a module is selected before it is read (R215); in SAFE, where no firmware runs, only the scan acts (that an absent or unmanaged module's rows do nothing is the model's reading). Where it rests on a reading or a choice of the model, that is log entries 50 and 127. -/
def Obligations.ModuleRowsAct : Prop :=
  ∀ (p : Port) (s : State), s.held = false →
    let m := (s.port p).module
    (∀ inputs : BitVec 128,
      let t := (List.range 64).foldl (scanModule inputs.toNat) s
      exec (.sgpioScan inputs) s = .next { t with out := .modulePins (chainOut t) :: t.out }) ∧
    (∀ inputs : Nat, m.scans = 0 → m.seen = m.present → inputs.testBit (2 * p) = !m.present → inputs.testBit (2 * p + 1) = !m.intL →
      (m.intL = true → m.present = true) → scanModule inputs s p = s) ∧
    (s.sys.mode ≠ .safe → m.present = true → m.releaseDue = true →
      exec (.resetlRelease p) s = .next (modModule p (fun m => { m with releaseDue := false, resetLow := false, lpMode := false }) s)) ∧
    ((s.sys.mode = .safe ∨ m.present = false ∨ m.releaseDue = false) → exec (.resetlRelease p) s = .next s) ∧
    (∀ (apps : List HostIf) (passive ready path : Bool) (cmis : Byte), s.sys.mode ≠ .safe → m.present = true → m.drivesReset = false →
      let noApp := !passive && match (s.port p).cfg.hostIf with
        | some h => !apps.contains h
        | none => false
      let app := if passive then none else ((s.port p).cfg.hostIf).filter (fun h => apps.contains h)
      let works := ready && (passive || (path && app.isSome))
      exec (.moduleInitComplete p ⟨apps, passive, ready, path⟩ cmis) s =
        .next (readiness p works (moduleEvent p (modModule p (fun m => { m with
          initDone := true, apps := apps, passive := passive, cmis := cmis.toNat, app := app, noApp := noApp, ready := works }) (muxSelect p s))))) ∧
    (∀ apps passive ready path cmis, (s.sys.mode = .safe ∨ m.present = false ∨ m.drivesReset = true) →
      exec (.moduleInitComplete p ⟨apps, passive, ready, path⟩ cmis) s = .next s) ∧
    (∀ flags cmis ready path, exec (.moduleIntl p flags cmis ⟨ready, path⟩) s = exec (.moduleFlagPoll p flags cmis ⟨ready, path⟩) s) ∧
    (∀ flags cmis ready path, (s.sys.mode = .safe ∨ m.present = false) → exec (.moduleFlagPoll p flags cmis ⟨ready, path⟩) s = .next s) ∧
    (∀ (flags : BitVec 32) (cmis : Byte) (ready path : Bool), s.sys.mode ≠ .safe → m.present = true →
      let works := m.initDone && ready && (m.passive || (path && m.app.isSome))
      let u := modModule p (fun m => { m with flags := flags.toNat, cmis := cmis.toNat, ready := works, intL := false }) (muxSelect p s)
      let v := if m.flags = flags.toNat ∧ m.cmis = cmis.toNat ∧ m.ready = works then u else moduleEvent p u
      exec (.moduleFlagPoll p flags cmis ⟨ready, path⟩) s = .next (if works = m.ready then v else readiness p works v)) ∧
    (muxSelect p s).out = .moduleMux (p / 8) (s.core.moduleBus.get (0x70, 1) (p / 8)).1 (s.core.moduleBus.get (0x70, 1) (p / 8)).2 (2 ^ (p.val % 8)) :: s.out

/-! ### Dalom links (R156 to R187) -/

/-- Dalom bring-up and background training (R170, R177, R180, R185, R187): each row acts only in its own state. DETECT leads to TRAIN, training to LOCK with the trained lanes, a lock to EXCHANGE with the locked lanes; a time limit goes on where MIN_LANES lanes are there, and else, with every frame in progress abandoned, to BACKOFF with its cause; EXCHANGE starts with every credit counter at zero, nothing learned of the partner, the locked lanes striped and a CAP of kind 0 waiting; BACKOFF ends with LINK_RETRY. In EXCHANGE and ACTIVE a lane out of service that reaches a limit counts a retry, waits, and trains again; once complete, not waiting, and locked by R180 (LOL clear, eight good codewords, a mark, and the skew to every lane in service), it is offered again. In any other state the row changes nothing. Where it rests on a reading or a choice of the model, that is log entries 52 to 54. -/
def Obligations.DalomBringUpMovesInOrder : Prop :=
  ∀ (p : Port) (s : State), s.held = false →
    let d := s.dlk p
    let st := (s.port p).st
    let m := trainedMask s p
    let retry (cause : Nat) : State := modDlk p dlkFresh (enterBackoff p cause 0xFF (abandonAll p s))
    exec (.dlkModuleReady p) s = .next (dlkTry p (moduleFound p s)) ∧
    ((st ≠ .dlkTrain ∨ m ≠ losClear s p ∨ m = 0) → exec (.dlkTrainingComplete p) s = .next s) ∧
    (st = .dlkTrain → m = losClear s p → m ≠ 0 → exec (.dlkTrainingComplete p) s =
      .next (modDlk p (fun d => { d with trained := m, striped := false }) (modPort p (fun r => { r with st := .lock }) s))) ∧
    (∀ half, st ≠ .dlkTrain → exec (.dlkTrainTimeout p half) s = .next s) ∧
    (∀ half, st = .dlkTrain → d.minLanes ≤ popcount 4 m → exec (.dlkTrainTimeout p half) s =
      .next (modDlk p (fun d => { d with trained := m, striped := false }) (modPort p (fun r => { r with st := .lock }) s))) ∧
    (∀ half, st = .dlkTrain → popcount 4 m < d.minLanes → exec (.dlkTrainTimeout p half) s =
      .next (retry (if half then 11 else 9))) ∧
    (∀ lock : BitVec 4, let k := lockedMask s p lock.toNat
      (st ≠ .lock → exec (.dlkLanesLocked p lock) s = .next s ∧ exec (.dlkLockTimeout p lock) s = .next s) ∧
      (st = .lock → (k ≠ d.trained ∨ k = 0) → exec (.dlkLanesLocked p lock) s = .next s) ∧
      (st = .lock → k = d.trained → k ≠ 0 → exec (.dlkLanesLocked p lock) s = .next (exchangeEnter p k s)) ∧
      (st = .lock → d.minLanes ≤ popcount 4 k → exec (.dlkLockTimeout p lock) s = .next (exchangeEnter p k s)) ∧
      (st = .lock → popcount 4 k < d.minLanes → exec (.dlkLockTimeout p lock) s = .next (retry 9))) ∧
    (st ≠ .exchange → exec (.dlkExchangeTimeout p) s = .next s ∧ exec (.dlkCapExchangeTx p) s = .next s) ∧
    (st = .exchange → exec (.dlkExchangeTimeout p) s = .next (retry 9) ∧
      exec (.dlkCapExchangeTx p) s = .next (queueCap p 0 0 [] (refreshOwn p s))) ∧
    ((st ≠ .backoff ∨ (s.port p).cfg.dalom = false) → exec (.dlkBackoffExpiry p) s = .next s) ∧
    (st = .backoff → (s.port p).cfg.dalom = true → exec (.dlkBackoffExpiry p) s =
      .next (dlkTry p (modDlk p dlkFresh (modPort p (fun r => { r with st := .detect }) (linkEvent 66 p s))))) ∧
    (∀ k : Nat,
      let t := exchangeEnter p k s
      let e := t.dlk p
      (t.port p).st = .exchange ∧ e.rxGood = k ∧ e.txActive = k ∧ e.txTime = lowestBit 4 k % 4 ∧ e.rxTime = lowestBit 4 k % 4 ∧
      e.tileNo = 0 ∧ e.rxTileNo = 16 ∧ e.partner = none ∧ e.accounted = [] ∧ e.recovered = [] ∧ e.consumed = [] ∧ e.taken = [] ∧
      e.returnsSeen = [] ∧ e.carried = [] ∧ e.delayValid = false ∧ e.held4 = popcount 4 k ∧ (∃ b, b ∈ e.caps ∧ b.1 = 0) ∧
      (∀ q, q ≠ p.val → t.port q = s.port q) ∧ t = { s with ports := t.ports, dlks := t.dlks }) ∧
    (∀ l : Fin 4,
      let again (t : Tab DlkTrain) : Tab DlkTrain := t.modify DlkTrain.reset l DlkTrain.again
      let ready := stripes (s.port p) = true ∧ d.rxGood.testBit l = false ∧ d.bgState.get 0 l ≠ 2 ∧ (d.train l).complete = true ∧
        (s.lane (rxLaneOf s p l)).lol = false ∧ 8 ≤ (d.train l).run8 ∧ (d.train l).marked = true ∧
        ∀ k, k < 4 → d.rxGood.testBit k = true → skewOk s p l k = true
      ((stripes (s.port p) = false ∨ d.rxGood.testBit l = true ∨ d.bgState.get 1 l = 2) → exec (.laneRetry p l) s = .next s) ∧
      (stripes (s.port p) = true → d.rxGood.testBit l = false → d.bgState.get 1 l ≠ 2 →
        let u := modDlk p (fun d => { d with laneRetries := wrapAdd 16 d.laneRetries 1, bgState := d.bgState.set l 2,
                                             bgAttempts := d.bgAttempts.modify 0 l (· + 1), trains := again d.trains }) s
        exec (.laneRetry p l) s = .next (raise 69 p (b1 d.rxGood ++ b1 d.txActive ++ b1 d.timeLanes) u)) ∧
      (d.bgState.get 0 l ≠ 2 → exec (.laneRetryBackoffExpiry p l) s = .next s) ∧
      (d.bgState.get 0 l = 2 → exec (.laneRetryBackoffExpiry p l) s =
        .next (modDlk p (fun d => { d with bgState := d.bgState.set l 1, trains := again d.trains }) s)) ∧
      (¬ ready → exec (.dlkLaneRelock p l) s = .next s) ∧
      (ready → exec (.dlkLaneRelock p l) s = .next (queueCap p 1 0 [] (refreshOwn p (modDlk p (fun d =>
          { d with rxGood := setBit d.rxGood l, readmitWait := setBit d.readmitWait l, bgState := d.bgState.erase l,
                   bgAttempts := d.bgAttempts.erase l, trains := again d.trains }) s)))))

/-- An arriving striped tile (R156, R158, R160, R161, R168, R171), of any kind: nothing where the port sends no tiles; outside EXCHANGE and ACTIVE only the line and the training are followed; there it takes its turn by slot and logical lane: one that comes after its turn is lost, one whose turn it is is taken at once, another waits. In turn, one on a lane out of service, or whose port tile number is not the expected one, is lost and every frame in progress with it; of any other the number and the header's credit return are taken, and then what its kind says. A lost tile is counted, and a mark in it is missed. Where it rests on a reading or a choice of the model, that is log entries 52, 53, 55, 56, 110 and 113. -/
def Obligations.StripedTilesAreTakenInOrder : Prop :=
  ∀ (p : Port) (t : DlkTile) (s : State), s.held = false →
    let rows : List (Instr × RxKind) := [(.dlkDataTileRx p t, .data), (.dlkIdleTileRx p t, .idle), (.dlkCreditTileRx p t, .credit),
      (.dlkAbortTileRx p t, .abort), (.dlkTimeTileRx p t, .time), (.dlkCapExchangeRx p t, .cap 0), (.dlkCapLaneStateRx p t, .cap 1),
      (.dlkCapDelayUpdateRx p t, .cap 2), (.dlkCapLaneTrainRx p t, .cap 3)]
    let st := (s.port p).st
    let l := t.lane.val
    let u := rxLine p l t.pos t.stuffAt.length t.stuffBad false t.mark s
    let d := u.dlk p
    let quiet := modTrain p l (fun x => { x with trainRun := 0 }) u
    let late := 512 ≤ slotAhead t.pos d.rxAt ∨ (slotAhead t.pos d.rxAt = 0 ∧ d.rxDone.testBit l = true)
    (sendsTiles (s.port p) = false → ∀ r, r ∈ rows → exec r.1 s = .next (arrivedDrain s)) ∧
    (sendsTiles (s.port p) = true → st ≠ .lock → st ≠ .exchange → st ≠ .active → ∀ r, r ∈ rows → exec r.1 s = .next (arrivedDrain quiet)) ∧
    (sendsTiles (s.port p) = true → st = .lock → ∀ r, r ∈ rows → exec r.1 s = .next (arrivedDrain (modDlk p (fun d => { d with striped := true }) quiet))) ∧
    (sendsTiles (s.port p) = true → stripes (s.port p) = true → late → ∀ r, r ∈ rows → exec r.1 s = .next (arrivedDrain (lostCount p l t.mark u))) ∧
    (sendsTiles (s.port p) = true → stripes (s.port p) = true → ¬ late → ∀ r, r ∈ rows →
      exec r.1 s = .next (arrivedDrain (tileDrain p 5200 (modDlk p (fun d => { d with rxBuf := d.rxBuf ++ [{ kind := r.2, tile := t }] }) u)))) ∧
    (sendsTiles (s.port p) = true → stripes (s.port p) = true → d.rxBuf = [] → t.pos.val = d.rxAt → d.rxDone.testBit l = false →
      (∀ k, k < l → d.rxDone.testBit k = true) → ∀ r, r ∈ rows →
      exec r.1 s = .next (arrivedDrain (tileDrain p 5199 (tileTurn p { kind := r.2, tile := t }
        (modDlk p (fun d => { d with rxBuf := [], rxDone := setBit d.rxDone l }) u))))) ∧
    (s.gcp.arrived = [] → arrivedDrain s = s) ∧
    (∀ v : State,
      let e := v.dlk p
      let w := modTrain p l (fun x => { x with trainRun := 0 }) v
      let n := (t.lseq.val + 1) % 16
      let b := Tile.scramble t.pos l t.payload
      (∀ r, r ∈ rows → e.rxGood.testBit l = false →
        tileTurn p { kind := r.2, tile := t } v =
          modDlk p (fun d => { d with rxTileNo := n, striped := true, rxStripe := setBit d.rxStripe l }) (lostCount p l t.mark (abandonAll p w))) ∧
      (∀ r, r ∈ rows → e.rxGood.testBit l = true → e.rxTileNo < 16 → e.rxTileNo ≠ t.lseq.val → (r.2 = .abort → e.slotBase ≠ t.lseq.val) →
        tileTurn p { kind := r.2, tile := t } v =
          modDlk p (fun d => { d with rxTileNo := n, rxStripe := setBit (d.rxStripe &&& d.rxGood) l }) (lostCount p l t.mark (abandonAll p w))) ∧
      (e.rxGood.testBit l = true → (16 ≤ e.rxTileNo ∨ e.rxTileNo = t.lseq.val) →
        let x := headerCredit p t.credit.toNat (readmitDone p (2 ^ l)
          (modDlk p (fun d => { d with rxTileNo := n, striped := true, rxStripe := setBit d.rxStripe l }) w))
        tileTurn p { kind := .idle, tile := t } v = x ∧
        tileTurn p { kind := .data, tile := t } v = (if (x.port p).st = .active then segmentsRx p t (Tile.parse 161 0 b) x else x) ∧
        tileTurn p { kind := .credit, tile := t } v = reconcile p b x ∧
        tileTurn p { kind := .abort, tile := t } v = degradeDone p (reconcile p b (abandonAll p x)) ∧
        tileTurn p { kind := .time, tile := t } v = timeRx p b x ∧
        tileTurn p { kind := .cap 0, tile := t } v = capExchangeRx p b x ∧
        tileTurn p { kind := .cap 1, tile := t } v = capLaneRx p b x ∧
        tileTurn p { kind := .cap 2, tile := t } v = capDelayRx p b x ∧
        tileTurn p { kind := .cap 3, tile := t } v = capTrainRx p b x)) ∧
    (∀ l pos mark n bad, sendsTiles (s.port p) = false → exec (.tileLost p l pos mark n bad) s = .next (arrivedDrain s)) ∧
    (∀ (l : Fin 4) (pos : Fin 1024) (mark : Bool) (n bad : Nat), sendsTiles (s.port p) = true → stripes (s.port p) = false →
      exec (.tileLost p l pos mark n bad) s = .next (arrivedDrain (lostCount p l mark (rxLine p l pos n bad true mark s)))) ∧
    (∀ (l : Fin 4) (pos : Fin 1024) (mark : Bool) (n bad : Nat), sendsTiles (s.port p) = true → stripes (s.port p) = true →
      let v := rxLine p l pos n bad true mark s
      let e := v.dlk p
      (512 ≤ slotAhead pos e.rxAt ∨ (slotAhead pos e.rxAt = 0 ∧ e.rxDone.testBit l = true) →
        exec (.tileLost p l pos mark n bad) s = .next (arrivedDrain (lostCount p l mark v))) ∧
      (slotAhead pos e.rxAt < 512 → (slotAhead pos e.rxAt ≠ 0 ∨ e.rxDone.testBit l = false) →
        exec (.tileLost p l pos mark n bad) s = .next (arrivedDrain (tileDrain p 5200 (modDlk p (fun d =>
          { d with rxBuf := d.rxBuf ++ [{ kind := .lost, tile := lostTile l pos mark n bad }] }) v))))) ∧
    (∀ (x : RxTile) (v : State), x.kind = .lost → tileTurn p x v = tileLost p x.tile.lane x.tile.mark v) ∧
    (∀ (l : Nat) (mark : Bool) (v : State), lostCount p l mark v = modDlk p (fun d =>
      { d with tilesLost := wrapAdd 32 d.tilesLost 1, marksMissed := if mark then wrapAdd 32 d.marksMissed 1 else d.marksMissed,
               trains := d.trains.modify DlkTrain.reset l (fun t => { t with good := 0, trainRun := 0 }) }) v) ∧
    (∀ (l : Nat) (mark : Bool) (v : State),
      let x := modDlk p (fun d => if d.rxStripe.testBit l && decide (d.rxTileNo < 16) then { d with rxTileNo := (d.rxTileNo + 1) % 16 } else d) (lostCount p l mark v)
      tileLost p l mark v = if (v.dlk p).rxStripe.testBit l then abandonAll p x else x) ∧
    (∀ (credit : BitVec 8) (v : State), let c := credit.toNat % 8
      let a := (v.dlk p).returnsSeen.get 0 c
      a < 2 ^ 32 → let b := ((headerCredit p credit.toNat v).dlk p).returnsSeen.get 0 c
      b % 32 = credit.toNat / 8 ∧ (b + 2 ^ 32 - a) % 2 ^ 32 < 32)
/-- Marks, time and training on a link (R171 to R179): a received byte's timestamp is its tile's captured start, its bits and the stuff symbols before it, less the fixed delay (R166); a mark's capture is its latch corrected by the symbols removed and the skips since the last one; four times give the round trip, the offset and the one-way delay; a TRAIN tile trains a lane that is neither in service nor waiting for its next try, its credit return is taken where credits run, and eight in a row on every lane in service, after striped tiles, mean that the partner restarted; a slot serves every lane and advances the slot number. Where it rests on a reading or a choice of the model, that is log entries 52, 54, 56, 57, 108 to 110 and 114. -/
def Obligations.MarksTimesAndTraining : Prop :=
  ∀ (p : Port) (s : State), s.held = false →
    (∀ l index raw, sendsTiles (s.port p) = false → exec (.shutterMarkArrival p l index raw) s = .next s) ∧
    (∀ (l : Fin 4) (index : BitVec 48) (raw : Int), sendsTiles (s.port p) = true →
      ∃ t, exec (.shutterMarkArrival p l index raw) s = .next t ∧ t = { s with dlks := t.dlks } ∧
        (t.dlk p).marksRx.head?.map (fun m => (m.index, m.lane, m.time)) = some (index.toNat, l.val,
          raw + symTime (s.port p).cfg.speed ((((s.dlk p).lineOf l).rxSince : Int) - 2720 * ((s.dlk p).lineOf l).rxSkips)) ∧
        ((t.dlk p).lineOf l).rxSince = 0 ∧ ((t.dlk p).lineOf l).rxSkips = 0 ∧ ∀ q, q ≠ p.val → t.dlk q = s.dlk q) ∧
    (∀ t1 t2 t3 t4 ta rb tb ra asym : Int,
      let v := pairValues t1 t2 t3 t4 (ta, rb, tb, ra) asym
      v.1 = ((t2 - t1) - ta - rb) + ((t4 - t3) - tb - ra) ∧
      v.2.1 = ((t4 - t3) - tb - ra) - v.1 * (1000000000 + asym) / 2000000000 ∧
      v.2.2 = ((t2 - t1) + (t4 - t3)) / 2) ∧
    (∀ t eye tap action, sendsTiles (s.port p) = false → exec (.dlkTrainTileRx p t eye tap action) s = .next (arrivedDrain s)) ∧
    (∀ (t : DlkTile) (eye : Bool) (tap : Fin 7) (action : Fin 3), sendsTiles (s.port p) = true → stripes (s.port p) = false →
      exec (.dlkTrainTileRx p t eye tap action) s =
        .next (arrivedDrain (trainRx p t eye tap action (rxLine p t.lane t.pos t.stuffAt.length t.stuffBad false t.mark s)))) ∧
    (∀ (t : DlkTile) (eye : Bool) (tap : Fin 7) (action : Fin 3), sendsTiles (s.port p) = true → stripes (s.port p) = true →
      let v := rxLine p t.lane t.pos t.stuffAt.length t.stuffBad false t.mark s
      let e := v.dlk p
      let late := 512 ≤ slotAhead t.pos e.rxAt ∨ (slotAhead t.pos e.rxAt = 0 ∧ e.rxDone.testBit t.lane = true)
      (late → exec (.dlkTrainTileRx p t eye tap action) s = .next (arrivedDrain (trainRx p t eye tap action v))) ∧
      (¬ late → exec (.dlkTrainTileRx p t eye tap action) s = .next (arrivedDrain (tileDrain p 5200 (modDlk p (fun d =>
        { d with rxBuf := d.rxBuf ++ [{ kind := .train eye tap action, tile := t }] }) v))))) ∧
    (∀ (t : DlkTile) (o : Nat), byteArrives s p t o =
      t.start + bitTime (s.port p).cfg.speed (20 + 8 * o : Nat) +
        symTime (s.port p).cfg.speed ((t.stuffAt.filter (fun k => decide (k ≤ 10 + 4 * o))).length : Nat) -
        unit16 (rxFixedNow s p t.lane (s.dlk p).extRx)) ∧
    (∀ (t : DlkTile) (eye : Bool) (tap action : Nat) (v : State),
      let l := t.lane.val
      let w := modTrain p l (fun x => { x with trainRun := x.trainRun + 1 }) v
      let u := if stripes (v.port p) then headerCredit p t.credit.toNat (modDlk p (fun d => { d with rxStripe := clearBit d.rxStripe l }) w) else w
      let serving := if (u.port p).st = .lock then (u.dlk p).trained else (u.dlk p).rxGood
      let restart := ((u.port p).st = .lock ∨ (u.port p).st = .exchange ∨ (u.port p).st = .active) ∧ (u.dlk p).striped = true ∧ serving ≠ 0 ∧
        ∀ k, k < 4 → serving.testBit k = true → 8 ≤ ((u.dlk p).train k).trainRun
      let trains := (u.port p).st = .dlkTrain ∨ (stripes (u.port p) = true ∧ (u.dlk p).rxGood.testBit l = false ∧ (u.dlk p).bgState.get 0 l ≠ 2)
      (restart → trainRx p t eye tap action v = dlkLeave p .detect 14 0xFF u) ∧
      (¬ restart → trains → trainRx p t eye tap action v = reverseBlock p l (controlRx p l (Tile.control t.payload) eye tap action u)) ∧
      (¬ restart → ¬ trains → trainRx p t eye tap action v = u)) ∧
    (∀ deps, sendsTiles (s.port p) = false → exec (.dlkSlot p deps) s = .next (settle s)) ∧
    (∀ deps, sendsTiles (s.port p) = true → ∃ t, exec (.dlkSlot p deps) s = .next t ∧
      (t.dlk p).slot = ((s.dlk p).slot + 1) % 2 ^ 58 ∧ ∀ q, q ≠ p.val → t.dlk q = s.dlk q)
/-! ### Frames (R9, R203 to R206, R221, R271 to R281, R298 to R318, R324) -/

/-- The ownership ledger (R278 to R281): a ledger byte carries even parity and reads back its owner and state; an operation that its claimed owner and expected state do not allow, or that finds bad parity, leaves the byte as it is and is counted, raised and recorded; a free that is allowed makes the buffer FREE and puts its handle on its pool's cache. Where it rests on a reading or a choice of the model, that is log entry 73. -/
def Obligations.TheLedgerGuardsEveryBuffer : Prop :=
  (∀ o k : Nat, o < 32 → k < 4 → evenParity (ledgerByte o k) = true ∧ ledgerOwner (ledgerByte o k) = o ∧ ledgerState (ledgerByte o k) = k ∧
    ledgerByte o k < 256) ∧
  (∀ (h owner expect newOwner newState : Nat) (s : State),
    let v := s.ledgerOf h
    let r := ledgerMove h owner expect newOwner newState s
    (evenParity v = true ∧ ledgerOwner v = owner ∧ ledgerState v = expect →
      r = (true, setLedger h (ledgerByte newOwner newState) s)) ∧
    (¬ (evenParity v = true ∧ ledgerOwner v = owner ∧ ledgerState v = expect) → r.1 = false ∧ ∀ k, r.2.ledgerOf k = s.ledgerOf k)) ∧
  (∀ (h owner expect : Nat) (s : State),
    let v := s.ledgerOf h
    let p := handlePool h
    let t := freeHandle h owner expect s
    (evenParity v = true → ledgerState v ≠ 0 → ledgerOwner v = owner → ledgerState v = expect →
      t = poolWatch p (spillStart p (modPool p (fun q => { q with cache := (h % 2 ^ 29) :: q.cache })
        (setLedger h (ledgerByte owner 0) s))) ∧ t.ledgerOf h = ledgerByte owner 0) ∧
    (evenParity v = true → ledgerState v = 0 →
      (∀ k, t.ledgerOf k = s.ledgerOf k) ∧ (t.pool p).doubleFree = satAdd 32 (s.pool p).doubleFree 1 ∧ (t.pool p).cache = (s.pool p).cache) ∧
    (evenParity v = true → ledgerState v ≠ 0 → ledgerOwner v ≠ owner →
      (∀ k, t.ledgerOf k = s.ledgerOf k) ∧ (t.pool p).foreignFree = satAdd 32 (s.pool p).foreignFree 1 ∧ (t.pool p).cache = (s.pool p).cache) ∧
    (evenParity v = false →
      (∀ k, t.ledgerOf k = s.ledgerOf k) ∧ (t.pool p).parity = satAdd 16 (s.pool p).parity 1 ∧
      (t.pool p).lostBytes = (s.pool p).lostBytes + poolBufSize p ∧ (t.pool p).cache = (s.pool p).cache))

/-- A frame's way to its queue (R9, R22, R37, R45, R142, R146, R221, R271 to R274, R298, R324): its grant point puts one more frame in the device, with a buffer only where the mode, the quad and admission allow it, one that is not switched without admission; its end is judged and counted, one that outgrew its buffer as such whatever else is wrong, and the command frames received whole are then judged; a lookup that costs more tokens than are left is a pace drop, and else issues a result; a result of the quad's own slice in service with the quad's epoch is accepted, and whether it cuts through decided then; one with another epoch, or of another slice, is shed; from a dead slice a stale one is a ghost, the first of them recorded; refills and spills of a pool complete. Where it rests on a reading or a choice of the model, that is log entries 67, 68, 73, 74 and 115. -/
def Obligations.FramesAreJudgedOnTheirWay : Prop :=
  ∀ (p : Port) (s : State), s.held = false →
    (∀ (head : Bytes) (ups : List (Nat × Byte)),
      let u := upset ups s
      let r := (lookup (u.quadSlice (quadOf p)) p 0 head u).1
      let f := newFrame u p 0 r.tc head (grantSize (u.port p).cfg.maxFrame head (decide (head.length < 128))) (rxStamp u p u.ts16)
      let add (f : Frame) (w : State) : State := modCore (fun c => { c with frames := c.frames ++ [f], nextFrame := c.nextFrame + 1 }) w
      let stopped := u.sys.mode = .provision ∨ u.sys.mode = .quiesce ∨ u.sys.mode = .safe
      let pausing := u.pausedMode = true ∧ u.lossless p r.tc = false
      ((u.port p).st ≠ .up ∨ (receivingOn u p).isSome → exec (.frameGrantPoint p head ups) s = .next u) ∧
      ((u.port p).st = .up → receivingOn u p = none →
        (ownTraffic u head = true →
          exec (.frameGrantPoint p head ups) s = .next (add (ownBuffer { f with accepted := true } u).1 (ownBuffer { f with accepted := true } u).2)) ∧
        (ownTraffic u head = false → stopped → exec (.frameGrantPoint p head ups) s = .next (add f (cntPort p 8 1 u))) ∧
        (ownTraffic u head = false → ¬ stopped → pausing → exec (.frameGrantPoint p head ups) s = .next (add f (cntClass p r.tc 4 1 u))) ∧
        (ownTraffic u head = false → ¬ stopped → ¬ pausing → quadLost u p = true →
          exec (.frameGrantPoint p head ups) s = .next (add f (takeoverDrop p r.tc u))) ∧
        (ownTraffic u head = false → ¬ stopped → ¬ pausing → quadLost u p = false →
          ∃ g w, exec (.frameGrantPoint p head ups) s = .next (add g w) ∧ w.core.frames = s.core.frames ∧ w.core.nextFrame = s.core.nextFrame ∧
            g = { f with handle := g.handle, buffered := g.buffered, charge := g.charge, deep := g.deep, chargeBytes := g.chargeBytes,
                         bufBytes := g.bufBytes, resv := g.resv, voq := g.voq } ∧
            (g.buffered = false → g = f)))) ∧
    (∀ rest, receivingOn s p = none ∨ (s.port p).st ≠ .up → exec (.frameEnd p rest) s = .next (pump (arrivedDrain s))) ∧
    (s.gcp.arrived = [] → s.gcp.pcie.waiting = [] → s.gcp.inband.waiting = [] → s.gcp.sideband.waiting = [] → s.core.poolsHold = none →
      pump (arrivedDrain s) = s) ∧
    (∀ (rest : Bytes) (f : Frame), receivingOn s p = some f → s.frame? f.id = some f → (s.port p).st = .up →
      let b := f.bytes ++ rest
      let overran := f.buffered && decide (f.bufBytes < b.length)
      let g := { f with bytes := b, len := b.length, complete := true, overrun := overran,
                        chargeBytes := if f.charge = .headroom then headroomCharge (s.port p).cfg.dalom b.length else 0 }
      let base := if overran then cntClass p f.tc 7 1 s else s
      let fault (k cause : Nat) : State := endBad f.id cause (cntPort p k 1 (setFrame { g with good := false } base))
      let counted := cntClass p f.tc 0 1 (cntClass p f.tc 1 b.length (cntPort p 0 1 (cntPort p 1 b.length (setFrame g base))))
      let own := f.accepted = true ∧ f.result = none
      let ends (v : State) : Prop := exec (.frameEnd p rest) s = .next (pump (arrivedDrain v))
      (b.length < 64 → ends (fault 6 (if overran then 1 else 0))) ∧
      (64 ≤ b.length → (s.port p).cfg.maxFrame < b.length → ends (fault 7 1)) ∧
      (64 ≤ b.length → b.length ≤ (s.port p).cfg.maxFrame → fcsGood b = false → ends (fault 4 (if overran then 1 else 0))) ∧
      (64 ≤ b.length → b.length ≤ (s.port p).cfg.maxFrame → fcsGood b = true →
        (own → ends (endBad f.id 0 (ownEnd g b counted))) ∧
        (¬ own → f.buffered = false → ends (endBad f.id 0 counted)) ∧
        (¬ own → f.buffered = true → f.bufBytes < b.length → ends (endBad f.id 1 (setFrame { g with good := false } counted))) ∧
        (¬ own → f.buffered = true → b.length ≤ f.bufBytes → ends (settle (eligible f.id counted))))) ∧
    (∀ tokens faults n, awaitingLookup s p = none ∨ quadLost s p = true → exec (.frameLookup p tokens faults n) s = .next s) ∧
    (∀ (tokens : Nat) (faults : List (Nat × Nat)) (n : Nat) (f : Frame), awaitingLookup s p = some f → quadLost s p = false →
      let sl := s.quadSlice (quadOf p)
      let u := modTab sl (fun T => { T with eccCorrected := satAdd 32 T.eccCorrected n }) (faults.foldl (noteFault sl) s)
      let r := lookup sl p f.rxTc f.bytes u
      (tokens < r.2.1 → exec (.frameLookup p tokens faults n) s =
        .next (shed f (modSlice sl (fun q => { q with paceDrops := satAdd 64 q.paceDrops 1 }) r.2.2))) ∧
      (r.2.1 ≤ tokens → exec (.frameLookup p tokens faults n) s =
        .next (setFrame { f with result := some r.1, tc := r.1.tc, voq := ((queueOf u p r.1.tc r.1.dest).map (·.1)).getD noKey } r.2.2))) ∧
    (∀ (sl : Slice) (epoch : Fin 16) (more : Bytes),
      let go := exec (.qmResultArrival sl p epoch more) s
      let now := s.epoch (quadOf p)
      let w := modSlice sl (fun r => { r with ghosts := satAdd 32 r.ghosts 1 }) s
      ((s.slice sl).st = .dead → epoch.val ≠ now → go = .next (modSlice sl (fun r => { r with st := .quarantine })
        (negWrite 0x0021 (b1 sl ++ b1 (quadOf p) ++ b1 epoch ++ b1 now) w))) ∧
      ((s.slice sl).st = .quarantine → epoch.val ≠ now → go = .next w) ∧
      (((s.slice sl).st = .dead ∨ (s.slice sl).st = .quarantine) → epoch.val = now → go = .next s) ∧
      ((s.slice sl).st ≠ .dead → (s.slice sl).st ≠ .quarantine →
        (awaitingResult s p = none → go = .next s) ∧
        (∀ f r, awaitingResult s p = some f → f.result = some r →
          let h := if f.complete then f else { f with bytes := f.bytes ++ more, len := f.bytes.length + more.length }
          let cuts := cutsThrough s h r && h.good
          let g := { h with accepted := true, express := cuts }
          (r.slice ≠ sl.val → go = .next s) ∧
          (r.slice = sl.val → (epoch.val ≠ now ∨ sl.val ≠ s.quadSlice (quadOf p)) → go = .next (shed f (takeoverDrop p f.tc s))) ∧
          (r.slice = sl.val → epoch.val = now → sl.val = s.quadSlice (quadOf p) →
            (cuts = false ∨ f.complete = true → go = .next (settle (eligible f.id (setFrame g s)))) ∧
            (cuts = true → f.complete = false → h.len < 256 → go = .next (setFrame g s)) ∧
            (cuts = true → f.complete = false → 256 ≤ h.len → go = .next (settle (dispose g r (setFrame g s)))))))) ∧
    (∀ k : Fin 6,
      (∀ l, (s.pool k).refill = some l →
        exec (.cacheRefillDone k) s = .next (poolWatch k (modPool k (fun q => { q with cache := q.cache ++ l, refill := none, rr := 21 }) s))) ∧
      ((s.pool k).refill = none → exec (.cacheRefillDone k) s = .next s) ∧
      (∀ l, (s.pool k).spill = some l → ∃ ring,
        exec (.cacheSpillDone k) s = .next (modPool k (fun q => { q with ring := ring, spill := none, rr := 21 }) s) ∧
        ring.flatMap (fun r => (List.range r.2).map (· + r.1)) =
          (s.pool k).ring.flatMap (fun r => (List.range r.2).map (· + r.1)) ++ l) ∧
      ((s.pool k).spill = none → exec (.cacheSpillDone k) s = .next s))

/-- The crossbar (R301, R304): a round looks at the multicast heads and then pairs inputs with outputs in three iterations; every pair was asked for, no two pairs share an output, and pairs that share an input carry one multicast queue. Where it rests on a reading or a choice of the model, that is log entries 70 and 73. -/
def Obligations.CrossbarPairsAreAMatching : Prop :=
  (∀ (ups : List (Nat × Byte)) (s : State), s.held = false →
    exec (.crossbarRound ups) s = .next (crossbarRound (upset ups s)) ∧ (crossbarRound (upset ups s)).kept = s.kept) ∧
  (∀ (reqs : List Req) (s : State), (∀ r, r ∈ reqs → r.i < 64 ∧ r.j < 64 ∧ r.c < 8) →
    let a := iteration reqs true [] s
    let b := iteration reqs false a.1 a.2
    let m := (iteration reqs false b.1 b.2).1
    (∀ r, r ∈ m → r ∈ reqs) ∧ (m.map (·.j)).Nodup ∧
    (∀ r q, r ∈ m → q ∈ m → r.i = q.i → r ≠ q → r.mc = true ∧ q.mc = true ∧ r.c = q.c) ∧
    (reqs ≠ [] → m ≠ []))

/-- Egress, pauses and Stop baths (R203, R205, R206, R306, R308, R315, R318): a port that is down sends nothing, and while nothing moves only what has started and firmware's frames; a started express frame goes first, then TC7 under its shaper, then TC6, and among TC0 to TC5 only a class whose head fits its deficit; what is sent debits its shaper or its deficit by its length and 20 bytes; a pause frame pauses the classes it names until its time; an expiry ends the pause; an XOFF that holds is repeated; a Stop bath discards from its queues one frame at a time, none that is in flight, counts the frames that have gone, and ends when they have been empty long enough. Where it rests on a reading or a choice of the model, that is log entries 59, 71, 77 and 118. -/
def Obligations.EgressPausesAndBaths : Prop :=
  ∀ s : State, s.held = false →
    (∀ p : Port,
      let t := fillShapers p (fwAdmit p (s.core.fwQueue.get [] p).length s)
      let started := (List.range 8).findSome? (fun c =>
        if segBusy t p c then none else ((t.storeOf p c).find? (fun e => e.started)).map (fun e => (c, e)))
      ((s.port p).isUp = false → exec (.egressFrameSelect p) s = .next s) ∧
      ((s.port p).isUp = true →
        (∀ c e, started = some (c, e) → exec (.egressFrameSelect p) s = .next (serve p c e t)) ∧
        (∀ e, started = none → t.moves = false → fwReady t p = some e → exec (.egressFrameSelect p) s = .next (serve p 7 e t)) ∧
        (started = none → t.moves = false → fwReady t p = none → exec (.egressFrameSelect p) s = .next t) ∧
        (∀ e, started = none → t.moves = true → 0 ≤ (t.eg p).bucket7.level → classReady t p 7 = some e →
          exec (.egressFrameSelect p) s = .next (serve p 7 e t)) ∧
        (∀ e, started = none → t.moves = true → ((t.eg p).bucket7.level < 0 ∨ classReady t p 7 = none) →
          ((t.eg p).permil6 = 0 ∨ 0 ≤ (t.eg p).bucket6.level) → classReady t p 6 = some e →
          exec (.egressFrameSelect p) s = .next (serve p 6 e t)) ∧
        (started = none → t.moves = true → (∀ c, c < 8 → classReady t p c = none) → exec (.egressFrameSelect p) s = .next t))) ∧
    (∀ ready weights fuel v d c d', dwrr ready weights fuel v d = some (c, d') → ∃ n, (c, n) ∈ ready ∧ n ≤ d'.getD c 0) ∧
    (∀ (j c n : Nat) (v : State),
      let g := v.eg j
      (c = 7 → (debit j c n v).eg j = { g with bucket7 := { g.bucket7 with level := g.bucket7.level - 1000 * (n + 20 : Nat) } }) ∧
      (c = 6 → g.permil6 ≠ 0 → (debit j c n v).eg j = { g with bucket6 := { g.bucket6 with level := g.bucket6.level - 1000 * (n + 20 : Nat) } }) ∧
      (c = 6 → g.permil6 = 0 → (debit j c n v).eg j = g) ∧
      (c < 6 → (debit j c n v).eg j = { g with deficits := g.deficits.modify c (· - (n + 20)) })) ∧
    (∀ (p : Port) (vec : Byte) (times : List (BitVec 16)),
      ((s.port p).isUp = false → exec (.pfcFrameRx p vec times) s = .next s) ∧
      ((s.port p).isUp = true → (s.flow p).mode ≠ 2 → exec (.pfcFrameRx p vec times) s = .next (cntPort p 10 1 s)) ∧
      ((s.port p).isUp = true → (s.flow p).mode = 2 → ∃ t, exec (.pfcFrameRx p vec times) s = .next t ∧ ∀ c, c < 8 →
        let prio := (s.flow p).prio.getD c c
        let q := ((times.map (·.toNat)).getD prio 0)
        (vec.toNat.testBit prio = false → t.fc p c = s.fc p c) ∧
        (vec.toNat.testBit prio = true → q = 0 → (t.fc p c).paused = false) ∧
        (vec.toNat.testBit prio = true → q ≠ 0 → (t.fc p c).paused = true ∧
          (t.fc p c).pauseEnd = s.clk.now + q * 64 * secTicks / speedBytes (s.port p).cfg.speed))) ∧
    (∀ (p : Port) (quanta : BitVec 16),
      ((s.port p).isUp = false → exec (.pauseFrameRx p quanta) s = .next s) ∧
      ((s.port p).isUp = true → (s.flow p).mode ≠ 1 → exec (.pauseFrameRx p quanta) s = .next (cntPort p 10 1 s)) ∧
      ((s.port p).isUp = true → (s.flow p).mode = 1 → ∃ t, exec (.pauseFrameRx p quanta) s = .next t ∧ ∀ c, c < 8 →
        (quanta = 0 → (t.fc p c).paused = false) ∧
        (quanta ≠ 0 → (t.fc p c).paused = true ∧
          (t.fc p c).pauseEnd = s.clk.now + quanta.toNat * 64 * secTicks / speedBytes (s.port p).cfg.speed))) ∧
    (∀ (p : Port) (c : TC),
      ((s.fc p c).paused = false → exec (.rxPauseExpiry p c) s = .next s) ∧
      ((s.fc p c).paused = true → ∃ t, exec (.rxPauseExpiry p c) s = .next t ∧ (t.fc p c).paused = false ∧
        t.core.deadlocks = s.core.deadlocks.filter (fun d => !(d.port == p.val && d.tc == c.val))) ∧
      (s.lossless p c = true → (s.fc p c).xoff = true → (s.port p).isUp = true → exec (.pfcRepeatTimer p c) s = .next (sendPause p c 0xFFFF s)) ∧
      ((s.lossless p c = false ∨ (s.fc p c).xoff = false ∨ (s.port p).isUp = false) → exec (.pfcRepeatTimer p c) s = .next s)) ∧
    (∀ h : Nat,
      let u := bathCheck s
      (u.op? h = none → exec (.stopBathHoldExpiry h) s = .next u) ∧
      (∀ o w t, u.op? h = some o → o.work = .bath w → w.emptyAt = some t → o.state = .running →
        exec (.stopBathHoldExpiry h) s = .next (opFinish h .done 0 (advanceTo (t + w.holdMs * msTicks) u))) ∧
      (∀ o w, u.op? h = some o → o.work = .bath w → w.emptyAt = none → exec (.stopBathHoldExpiry h) s = .next u) ∧
      (s.op? h = none → exec (.stopBathFrameDrained h) s = .next s) ∧
      (∀ o w, s.op? h = some o → o.work = .bath w → (w.discard = false ∨ o.working = false) → exec (.stopBathFrameDrained h) s = .next s) ∧
      (∀ o w, s.op? h = some o → o.work = .bath w → w.discard = true → o.working = true →
        s.core.queues.findSome? (fun (_, ids) => ((ids.head?).bind s.frame?).filter (fun f => w.selects f && !f.inFlight)) = none →
        exec (.stopBathFrameDrained h) s = .next (settle (suspendPoint h s))) ∧
      (∀ o w f, s.op? h = some o → o.work = .bath w → w.discard = true → o.working = true →
        s.core.queues.findSome? (fun (_, ids) => ((ids.head?).bind s.frame?).filter (fun f => w.selects f && !f.inFlight)) = some f →
        let x := ledgerMove f.handle f.owner 1 20 1 s
        exec (.stopBathFrameDrained h) s =
          .next (settle (giveUp f.id (cntBath f (setFrame { f with owner := if x.1 then 20 else f.owner } x.2)))))) ∧
    (∀ (h : Nat) (w : BathWork) (o : Op) (v : State), v.ops = [o] → o.handle = h → o.work = .bath w → o.working = true →
      let n := (v.core.frames.filter w.selects).length
      n < w.left →
      let o' := { o with units := o.units + (w.left - n), progress := (o.units + (w.left - n)) * 10000 / (o.units + (w.left - n) + n),
                         work := .bath { w with emptyAt := if n = 0 then some (w.emptyAt.getD v.clk.now) else none, left := n } }
      bathCheck v = suspendPoint h (setOp o' v))
/-! ### The CPU port, the slices and the voltage loop (R316 to R326, R540 to R548) -/

/-- The CPU port (R540 to R545), and the other registers the host reads and writes (R7, R417, R464, R531, R535, R537): a live trap ring with a descriptor and a trapped frame writes the frame, then its descriptor, advances DEV_IDX past it, raises TRAP_DONE and frees the buffer; an inject ring writes back the descriptor that is done, raises INJECT_DONE and takes the next, which is refused by length, forwarding or port with its status; posting takes the descriptors up to the index of an enabled ring; arming starts at HOST_IDX with nothing posted, and disarming forgets what was posted and the write-backs of frames already copied. While BAR0 is served, every write, read and tick of its registers completes: a W1C write clears its bits, a read of a lost count clears it, a read of a drop count's low half latches its high half, a snapshot latches the time, and the staged words of a calibration block are taken. Where it rests on a reading or a choice of the model, that is log entries 75, 98 and 107. -/
def Obligations.CpuRingsServeTheHost : Prop :=
  ∀ (c : TC) (s : State), s.held = false →
    (∀ (d b : Bytes) (rest : List (Bytes × Bytes)) (f : Frame),
      let r := s.trapRing c
      r.enable = true → s.dma = true → r.posted = (d, b) :: rest → nextTrap s c = some f →
      let desc := slice d 0 10 ++ le 2 f.len ++ b1 f.inPort ++ b1 c ++ b1 (trapCode f) ++
        b1 (bitsNat [true, decide (min f.len (field d 8 2) < f.len), (f.result.map (fun (x : Result) => x.tagged)).getD false]) ++
        le 2 ((f.result.map (fun (x : Result) => x.vid)).getD 0) ++ le 2 (f.stamp.toNat % 65536) ++
        le 4 (f.stamp.toNat / 65536 % 2 ^ 32) ++ le 2 f.gen ++ zeros 2 ++ le 4 f.handle
      let u := modTrap c CpuRing.pop ((s.send (.hostWrite (field d 0 8) (f.bytes.take (min f.len (field d 8 2))))).send (.hostWrite r.slot desc))
      let w := modCore (fun k => { k with trapRr := k.trapRr.set c ((f.inPort + 1) % 65) }) u
      exec (.trapFrameDelivery c) s = .next (settle (dropFrame f.id (raise (8 + c.val) 0 [] w))) ∧
      (u.trapRing c).devIdx = (r.devIdx + 1) % r.size ∧ (u.trapRing c).posted = rest) ∧
    (((s.trapRing c).enable = false ∨ s.dma = false ∨ (s.trapRing c).posted = [] ∨ nextTrap s c = none) →
      exec (.trapFrameDelivery c) s = .next s) ∧
    (∀ (d b w : Bytes) (rest : List (Bytes × Bytes)),
      let r := s.injRing c
      r.enable = true → s.dma = true → r.posted = (d, b) :: rest → r.fin = some w →
      exec (.injectFrameDone c) s = .next (injectTake c (raise (16 + c.val) 0 [] (modInj c CpuRing.pop
        (s.send (.hostWrite r.slot (d.take 12 ++ [byteAt d 12 ||| 1] ++ w ++ zeros 2 ++ slice d 24 8))))))) ∧
    (((s.injRing c).enable = false ∨ s.dma = false ∨ (s.injRing c).posted = [] ∨ (s.injRing c).fin = none) →
      exec (.injectFrameDone c) s = .next (injectTake c s)) ∧
    (∀ (d b : Bytes) (rest : List (Bytes × Bytes)) (k : Nat) (t : State),
      (t.injRing c).enable = true → t.dma = true → (t.injRing c).taken = false → (t.injRing c).posted = (d, b) :: rest →
      (injectRefusal t d = some k →
        let r := (injectTake c t).injRing c
        r.taken = true ∧ r.fin = some (b1 k ++ zeros 8) ∧ (injectTake c t).core = t.core) ∧
      (field d 8 2 < 60 ∨ 9212 < field d 8 2 ∨ 7 < (byteAt d 11).toNat → injectRefusal t d = some 3) ∧
      (60 ≤ field d 8 2 → field d 8 2 ≤ 9212 → (byteAt d 11).toNat ≤ 7 → t.moves = false → injectRefusal t d = some 4) ∧
      (60 ≤ field d 8 2 → field d 8 2 ≤ 9212 → (byteAt d 11).toNat ≤ 7 → t.moves = true →
        injectRefusal t d = if 63 < (byteAt d 10).toNat ∨ (t.port (byteAt d 10).toNat).isUp = false then some 1 else none)) ∧
    (s.sys.perst = true → ∀ idx ds fs trap en, exec (.trapHostIdxWrite c idx ds) s = .next s ∧ exec (.injectHostIdxWrite c idx fs) s = .next s ∧
      exec (.cpuRingEnableWrite trap c en) s = .next s) ∧
    (s.sys.perst = false → ∀ (idx : BitVec 16) (ds : List Bytes),
      ∃ t, exec (.trapHostIdxWrite c idx ds) s = .next t ∧ t = { s with trap := t.trap } ∧
        let r := s.trapRing c
        let n := (idx.toNat + r.size - r.hostIdx % r.size) % r.size
        t.trapRing c = { r with hostIdx := idx.toNat % r.size,
                                posted := if r.enable then r.posted ++ (ds.take n).map (fun d => (toLen 32 d, [])) else r.posted }) ∧
    (s.sys.perst = false → ∀ (idx : BitVec 16) (fs : List (Bytes × Bytes)),
      let r := s.injRing c
      let n := (idx.toNat + r.size - r.hostIdx % r.size) % r.size
      exec (.injectHostIdxWrite c idx fs) s = .next (injectTake c (modInj c (fun r => { r with
        hostIdx := idx.toNat % r.size,
        posted := if r.enable then r.posted ++ (fs.take n).map (fun d => (toLen 32 d.1, d.2)) else r.posted }) s))) ∧
    (s.sys.perst = false → ∃ t, exec (.cpuRingEnableWrite true c true) s = .next t ∧ t = { s with trap := t.trap } ∧
      t.trapRing c = if (s.trapRing c).enable then s.trapRing c else
        { s.trapRing c with enable := true, devIdx := (s.trapRing c).hostIdx % (s.trapRing c).size, posted := [], taken := false, fin := none }) ∧
    (s.sys.perst = false → ∃ t, exec (.cpuRingEnableWrite true c false) s = .next t ∧ t = { s with trap := t.trap } ∧
      t.trapRing c = { s.trapRing c with enable := false, posted := [], taken := false, fin := none }) ∧
    (s.sys.perst = false → ∃ t, exec (.cpuRingEnableWrite false c true) s = .next t ∧ t = { s with inject := t.inject } ∧
      t.injRing c = if (s.injRing c).enable then s.injRing c else
        { s.injRing c with enable := true, devIdx := (s.injRing c).hostIdx % (s.injRing c).size, posted := [], taken := false, fin := none }) ∧
    (s.sys.perst = false → ∃ t, exec (.cpuRingEnableWrite false c false) s = .next t ∧ t = { s with inject := t.inject, core := t.core, dlks := t.dlks } ∧
      t.injRing c = { s.injRing c with enable := false, posted := [], taken := false, fin := none } ∧
      (∀ k q e, (k, q) ∈ t.core.store → e ∈ q → ∀ b, e.inject ≠ some (c.val, b)) ∧
      ∀ p d k x, (p, d) ∈ t.dlks → (k, x) ∈ d.segTx → ∀ b, x.inject ≠ some (c.val, b)) ∧
    (s.barServed = true →
      (∀ w v, exec (.irqCauseWrite w v) s = .next (causeWrite w v s) ∧
        (causeWrite w v s).irq.cause = s.irq.cause &&& ~~~(v.setWidth 128 <<< (32 * w.val))) ∧
      (∀ v, exec (.irqHoldoffExpiry v) s = .next (holdoffEnd v s) ∧ (holdoffEnd v s).irq.cause = s.irq.cause) ∧
      (∀ ci, exec (.irqEvqCiWrite ci) s = .next (evqFree ci.toNat s)) ∧ exec .irqEvqArm s = .next (evqArm true s) ∧
      (exec .irqEvqLostRead s = .next (lostRead s) ∧ (lostRead s).irq.evqLost = 0 ∧ (lostRead s).out = .readData s.irq.evqLost :: s.out) ∧
      (∀ sl, exec (.pacDropsLoRead sl) s = .next (dropsRead sl s) ∧ ((dropsRead sl s).slice sl).dropsHi = (s.slice sl).paceDrops / 2 ^ 32) ∧
      (exec .statPeriod s = .next (statPeriod s) ∧ (s.stat.enable = true → statLive s = true → (statPeriod s).stat.pi = (s.stat.pi + 1) % s.stat.count)) ∧
      (exec .statSnap s = .next (statSnap s) ∧ (statLive s = true → (statSnap s).stat.pi = (s.stat.pi + 1) % s.stat.count)) ∧
      (exec .tsuSnap s = .next (tsuSnap s) ∧ (tsuSnap s).tim.time.snapDone = true ∧ (tsuSnap s).tim.time.snapTs = s.ts32) ∧
      (∀ i, exec (.calApply i) s = .next (calApplyStaged i s) ∧ ((calApplyStaged i s).cal i).staged = []) ∧
      (∀ i, exec (.calRestart i) s = .next (calRestart i s) ∧ ((calRestart i s).cal i).live = []) ∧
      (∀ b off v, exec (.registerWrite b off v) s = .next (registerWrite b off.toNat v.toNat s)))

/-- Slices, deadlocks and voltage (R256, R316, R317, R320 to R326, R548): a window that stalls makes an active slice suspect, and two more in a row make it dead, with its quad's epoch raised, the spare taking over or the quad unserved; a window with progress clears it, and no window ends in SLEEP. Takeovers complete in the order they began, and the spare starts with no learned entry. A class paused for DL_TIME since its pause or its last dequeue is recorded once, at that instant. Three failed AVSBus transactions make a fault, and the loop then runs only by retries; the target moves by 5 mV within its limits, up on a low margin and down after 100 high ones. Where it rests on a reading or a choice of the model, that is log entries 69, 76, 78, 107 and 121. -/
def Obligations.SlicesFailOverAndTheVoltageFollows : Prop :=
  ∀ s : State, s.held = false →
    (∀ (sl : Slice) (stalled : Bool),
      let go := exec (.watchdogWindowEnd sl stalled) s
      (s.pwr.state = .sleep ∨ sliceQuad s sl = none → go = .next s) ∧
      (∀ q, s.pwr.state ≠ .sleep → sliceQuad s sl = some q →
        ((s.slice sl).st = .active → stalled = true → go = .next (raise 79 sl (b1 q ++ b1 (s.epoch q) ++ b1 0xFF)
          (modSlice sl (fun r => { r with st := .suspect, stalled := 1, suspects := satAdd 32 r.suspects 1 }) s))) ∧
        ((s.slice sl).st = .active → stalled = false → go = .next s) ∧
        ((s.slice sl).st = .suspect → stalled = false → go = .next (modSlice sl (fun r => { r with st := .active, stalled := 0 }) s)) ∧
        ((s.slice sl).st = .suspect → stalled = true → (s.slice sl).stalled < 2 → go = .next (modSlice sl (fun r => { r with stalled := 2 }) s)) ∧
        ((s.slice sl).st = .suspect → stalled = true → 2 ≤ (s.slice sl).stalled → go = .next (declareDead sl q s) ∧
          ((declareDead sl q s).slice sl).st = .dead ∧ (declareDead sl q s).epoch q = (s.epoch q + 1) % 16 ∧
          (∀ t, s.core.spare = some t → (declareDead sl q s).core.taking = s.core.taking ++ [(t, q)] ∧ (declareDead sl q s).core.spare = none) ∧
          (s.core.spare = none → (declareDead sl q s).quadDown q = true)) ∧
        ((s.slice sl).st ≠ .active → (s.slice sl).st ≠ .suspect → go = .next s))) ∧
    (s.core.taking = [] → exec .sliceTakeover s = .next s) ∧
    (∀ t q rest, s.core.taking = (t, q) :: rest → ∃ u, exec .sliceTakeover s = .next u ∧ u.quadSlice q = t ∧ u.core.taking = rest ∧
      (u.slice t).st = .active ∧ (u.slice t).stalled = 0 ∧ ∀ i e, (i, KSlot.entry e) ∈ (u.tab t).fdb → e.dyn = false) ∧
    (∀ (p : Port) (c : TC),
      let known := s.core.deadlocks.any (fun d => d.port == p.val && d.tc == c.val)
      let due := pausedFrom s p c + s.core.dlTime * msTicks
      let u := advanceTo due s
      let mask := xoffMask u p
      (s.core.dlTime = 0 ∨ pausedUntil s p c due = false ∨ known = true → exec (.deadlockSuspect p c) s = .next s) ∧
      (s.core.dlTime ≠ 0 → pausedUntil s p c due = true → known = false → u.clk.now = max s.clk.now due ∧ ∃ d, d.port = p.val ∧ d.tc = c.val ∧ d.xoffMask = mask ∧
        d.cycle = mask.testBit p ∧ d.dalom = (s.port p).cfg.dalom ∧ d.since = pausedFrom s p c ∧
        exec (.deadlockSuspect p c) s = .next (raise 74 p (b1 c ++ b1 (bitsNat [mask.testBit p, (s.port p).cfg.dalom]))
          (modCore (fun q => { q with deadlocks := q.deadlocks ++ [d] }) u)))) ∧
    (∀ ok : Bool,
      (s.core.avs.fault = false → exec (.avsbusRetry ok) s = .next s) ∧
      (s.core.avs.fault = true → exec (.avsbusRetry ok) s =
        .next (if ok then modCore (fun c => { c with avs := { s.core.avs with fault := false, fails := 0 } }) s else s))) ∧
    (∀ pace, ∀ ok : Bool,
      let u := if s.core.avs.fault then s else avsBus ok s
      let w := readExtra (pace.foldl notePace u)
      let a := w.core.avs
      let r := (avsLoop pace u).core.avs.target
      exec (.avsLoopTick ok pace) s = .next (avsLoop pace u) ∧
      (s.core.avs.fault = false → ok = true → u.core.avs = { s.core.avs with fault := false, fails := 0 }) ∧
      (s.core.avs.fault = false → ok = false → s.core.avs.fails + 1 < 3 →
        u = modCore (fun c => { c with avs := { s.core.avs with fails := s.core.avs.fails + 1 } }) s) ∧
      (s.core.avs.fault = false → ok = false → 3 ≤ s.core.avs.fails + 1 →
        u = raise 5 0 (le 2 s.core.avs.target) (modCore (fun c => { c with avs := { s.core.avs with fault := true, fails := 3 } }) s)) ∧
      (w.pwr.state = .sleep ∨ w.core.avs.fault = true → avsLoop pace u = w) ∧
      (w.pwr.state ≠ .sleep → a.fault = false → a.vmax < a.target → r = max a.vmax (a.target - 5)) ∧
      (a.target ≤ a.vmax → a.vmin ≤ a.target → a.vmin ≤ r ∧ r ≤ a.vmax ∧ r ≤ a.target + 5 ∧ a.target ≤ r + 5) ∧
      (a.target ≤ a.vmax → a.hold = true → r = a.target) ∧
      (w.pwr.state ≠ .sleep → a.fault = false → a.hold = false → ∀ sl, leastOf (margin w) (avsSlices w) = some sl →
        (a.target < a.vmax → margin w sl < a.margin → r = min a.vmax (a.target + 5)) ∧
        (a.target ≤ a.vmax → a.margin + 50 < margin w sl → a.vmin < a.target → 99 ≤ a.above → a.above ≤ 100 → r = max a.vmin (a.target - 5)) ∧
        (a.target ≤ a.vmax → a.margin ≤ margin w sl → a.above < 99 → r = a.target)))
/-! ### Tables (R226, R233, R234, R242 to R259) -/

/-- Window operations (R243 to R250, R254): a command on a busy window only sets OVERRUN; else the operation runs on the window's registers with the table and the operation it names, answers there and clears BUSY; outside the blocks BAR0 serves nothing happens; a grant runs a waiting operation in its turn and the start limit ends it with EXPIRED. A slice's maintenance port serves its contenders in turn: a grant first runs the windows that wait ahead, a window whose turn it is stands ahead of every other contender, and the turn then passes on (R251). No operation reaches a table outside its range, reads change no slice, writes are DENIED in SLEEP and RETIRED and on a dead slice, and an entry of an indexed table reads as it was last written, or as empty once deleted. A keyed DELETE or CLEAR_HIT that finds its key answers the entry's index, DYNAMIC and OVERFLOW (R244); a longest-prefix SEARCH outside the TCAM returns no uncorrectable route (R247). Where it rests on a reading or a choice of the model, that is log entries 60 and 61. -/
def Obligations.WindowOperationsAnswerInTheirWindow : Prop :=
  (∀ (w : Fin 18) (t : Fin 16) (s : State), s.held = false →
    let rows := [(Instr.readIndex w t, 1), (.writeIndex w t, 2), (.insert w t, 3), (.delete w t, 4), (.search w t, 5), (.clearHit w t, 6)]
    (s.barServed = false → ∀ r, r ∈ rows → exec r.1 s = .next s) ∧
    (s.barServed = true → (s.win w).busy = true → ∀ r, r ∈ rows → exec r.1 s = .next (modWin w (fun q => { q with overrun := true }) s)) ∧
    (s.barServed = true → (s.win w).busy = false → ∀ r, r ∈ rows →
      let u := modWin w (fun q => { q with op := r.2, table := t, busy := true }) s
      let q := s.win w
      let x := tawExec w r.2 t q.key q.mask q.data q.index u
      exec r.1 s = .next (tawFinish w x.1 x.2) ∧ ((tawFinish w x.1 x.2).win w).busy = false ∧ ((tawFinish w x.1 x.2).win w).code = x.1.code) ∧
    ((s.win w).busy = false → exec (.tawPortGrant w) s = .next s ∧ exec (.tawStartLimitExpiry w) s = .next s) ∧
    ((s.win w).busy = true →
      let u := if w.val < 17 then portGrant w 0 s else portGrants 1 s
      let q := u.win w
      let x := tawExec w q.op q.table q.key q.mask q.data q.index u
      exec (.tawPortGrant w) s = .next (tawFinish w x.1 x.2) ∧
      ((tawFinish w x.1 x.2).win w).busy = false ∧
      exec (.tawStartLimitExpiry w) s = .next (modWin w (fun q =>
        { q with busy := false, code := 6, rindex := 0, moves := 0, dyn := false, overflow := false }) s))) ∧
  (∀ (sl k : Nat) (s : State),
    (portAhead sl k s = [] → portGrant sl k s = { s with tables := { s.tables with turns := s.tables.turns.set sl ((k + 1) % 7) } }) ∧
    (∀ v, portAhead sl k s = [v] → ((portGrant sl k s).win v).busy = false ∧ (portGrant sl k s).tables.turns.get 0 sl = (k + 1) % 7) ∧
    (s.tables.turns.get 0 sl = 0 → (s.win sl).busy = true → 0 < k → k < 7 → sl ∈ portAhead sl k s) ∧
    (s.tables.turns.get 0 sl = 1 → (s.win 17).busy = true → k ≠ 1 → k < 7 → 17 ∈ portAhead sl k s)) ∧
  (∀ (w op t key mask : Nat) (data : List Nat) (i : Nat) (s : State),
    let x := tawExec w op t key mask data i s
    (6 < t → x = (TawOut.bare 7, s)) ∧
    (t ≤ 6 → (op = 2 ∨ op = 3 ∨ op = 4 ∨ op = 6) → writesDenied s = true → x = (TawOut.bare 5, s)) ∧
    (t ≤ 6 → (op = 2 ∨ op = 3 ∨ op = 4 ∨ op = 6) → w < 17 → (s.slice w).st = .dead → x = (TawOut.bare 5, s)) ∧
    ((op = 1 ∨ op = 5) → x.2 = s)) ∧
  (∀ (w t i : Nat) (data : List Nat) (s : State), w < 17 → t = 3 ∨ t = 4 ∨ t = 5 → dataOk t data = true → (s.tab w).ecc.wf →
    let x := tawIndexed w 2 t 0 0 data i s
    let y := tawIndexed w 1 t 0 0 [] i x.2
    x.1.code = 0 ∧ y.1.code = 0 ∧ y.1.rindex = i ∧
    y.1.load = some (0, 0, [data.getD 0 0, if t = 3 then data.getD 1 0 else 0, if t = 3 then data.getD 2 0 else 0]) ∧
    (∀ j, j ≠ w → x.2.tab j = s.tab j)) ∧
  (∀ (w t op key i j : Nat) (data : List Nat) (e : KEntry) (s : State), w < 17 → op = 4 ∨ op = 6 →
    xFind ((s.tab w).x t) (xKey t key) = some (j, e) →
    let x := tawExact w op t key data i s
    x.1.code = 0 ∧ x.1.rindex = j ∧ x.1.dyn = e.dyn ∧ x.1.overflow = decide (4 * xBuckets t ≤ j)) ∧
  (∀ (w key i : Nat) (data : List Nat) (s : State), w < 17 → lpmLen key = 0xFF → (s.tab w).mode ≠ .tcam →
    let x := tawLpm w 5 key data i s
    x.2 = s ∧ (x.1 = TawOut.bare 1 ∨ ∃ h r, (h, r) ∈ (s.tab w).lpm ∧ r.covers (key.testBit 0) (keyAddr key) = true ∧
      (((s.tab w).lpm.find? h).any (fun y => y.bad)) = false ∧ x.1 = routeLoad (s.tab w) h r)) ∧
  (∀ (w i : Nat) (s : State), w < 17 → (s.tab w).ecc.wf → (s.tab w).nh.wf →
    let x := tawIndexed w 4 3 0 0 [] i s
    x.1.code = (if ((s.tab w).nh.find? i).isSome then 0 else 1) ∧ (tawIndexed w 1 3 0 0 [] i x.2).1.code = 1)

/-- The tables' own work (R233, R234, R242, R253, R255, R256, R259): the sweep clears HIT and then deletes a dynamic entry; the scrub rebuilds a filter bank that is due (R232), acts on the errors it finds and pauses in RIDE; both stand still in SLEEP (R15); a self-test's failing slots are unusable, and a content that no longer fits fails the rebuild with LIMIT; a rebuild that ends serves lookups from the TCAM; the shadow compare notes a difference only on its second sight; a bulk load ends at the first record that does not answer OK; a FENCE past its limit fails with BUSY. Where it rests on a reading or a choice of the model, that is log entries 64 to 66 and 79. -/
def Obligations.TablesLookAfterThemselves : Prop :=
  ∀ s : State, s.held = false →
    (∀ (sl : Slice) (i : Nat),
      let u := portGrant sl 4 s
      (s.pwr.state = .sleep ∨ s.tables.ageOn = false → exec (.ageingSweepVisit sl i) s = .next s) ∧
      (s.pwr.state ≠ .sleep → s.tables.ageOn = true → xAt (u.tab sl).fdb i = none → exec (.ageingSweepVisit sl i) s = .next u) ∧
      (∀ e, s.pwr.state ≠ .sleep → s.tables.ageOn = true → xAt (u.tab sl).fdb i = some e →
        (e.dyn = false → exec (.ageingSweepVisit sl i) s = .next u) ∧
        (e.dyn = true → e.hit = true → exec (.ageingSweepVisit sl i) s =
          .next (modTab sl (fun T => { T with fdb := T.fdb.set i (.entry { e with hit := false }) }) u)) ∧
        (e.dyn = true → e.hit = false → exec (.ageingSweepVisit sl i) s =
          .next (modTab sl (fun T => { T.mend 0 i with fdb := T.fdb.erase i, aged := satAdd 32 T.aged 1 }) u)))) ∧
    (∀ (sl : Slice) lpm cls,
      (s.pwr.state = .ride ∨ s.pwr.state = .sleep → exec (.tcamScrub sl lpm cls) s = .next s) ∧
      (s.pwr.state ≠ .ride → s.pwr.state ≠ .sleep → exec (.tcamScrub sl lpm cls) s =
        .next (cls.foldl (fun s x => clsParity sl x.1 x.2 s)
          (lpm.foldl (fun s k => tcamParity sl k s) (modTab sl filterRebuild (portGrant sl 6 s)))))) ∧
    (∀ T : SliceTab,
      (T.deletes < 4096 → filterRebuild T = T) ∧
      (4096 ≤ T.deletes → (filterRebuild T).deletes = 0 ∧ (filterRebuild T).bank = !T.bank ∧ (filterRebuild T).lpm = T.lpm ∧
        ∀ x, x ∈ T.lpm → (filterRebuild T).named x.2.v6 x.2.len x.2.pfx = true)) ∧
    (∀ (sl slot : Nat) (t : State), (t.tab sl).mode = .tcam →
      tcamParity sl slot t = (opStart 3 .firmware none none false (.rebuild sl false) (negWrite 0x0024 (b1 sl ++ b1 2 ++ le 2 slot)
        (raise 85 sl (b1 2 ++ zeros 3 ++ le 2 slot) (modTab sl (fun T => { T with mode := .rebuild }) t)))).2) ∧
    (∀ sl : Slice,
      (rebuildOp s sl = none → exec (.tcamRebuildDone sl) s = .next s) ∧
      (∀ o, rebuildOp s sl = some o → o.state = .running → (s.tab sl).mode = .rebuild →
        exec (.tcamRebuildDone sl) s = .next (opFinish o.handle .done 0
          (setOp { o with units := (s.tab sl).lpm.length } (modTab sl (fun T => { T with mode := .tcam }) s)))) ∧
      (∀ o, rebuildOp s sl = some o → (o.state ≠ .running ∨ (s.tab sl).mode ≠ .rebuild) → exec (.tcamRebuildDone sl) s = .next s)) ∧
    (∀ (sl : Slice) (bad : List Nat),
      let u := modTab sl (fun T => { T with badSlots := (bad.filter (fun b => !T.badSlots.contains b)) ++ T.badSlots }) s
      let f := raise 86 sl (b1 2 ++ zeros 3 ++ le 2 (bad.headD 0)) (modTab sl (fun T => { T with mode := .fault }) u)
      ((s.tab sl).mode ≠ .selftest → exec (.tcamSelftestDone sl bad) s = .next s) ∧
      ((s.tab sl).mode = .selftest → (u.tab sl).fits [] = true → exec (.tcamSelftestDone sl bad) s = .next (modTab sl rebuildBegin u)) ∧
      ((s.tab sl).mode = .selftest → (u.tab sl).fits [] = false → rebuildOp f sl = none →
        exec (.tcamSelftestDone sl bad) s = .next f) ∧
      (∀ o, (s.tab sl).mode = .selftest → (u.tab sl).fits [] = false → rebuildOp f sl = some o →
        exec (.tcamSelftestDone sl bad) s = .next (opFinish o.handle .failed stLimit f))) ∧
    (∀ (t : Fin 7) (r : Bytes),
      (s.tables.shadows.find? t = none → exec (.shadowCompareRead t r) s = .next s) ∧
      (∀ sh, s.tables.shadows.find? t = some sh → (sh.rate = 0 ∨ s.pwr.state = .ride ∨ s.pwr.state = .sleep ∨ s.dma = false) →
        exec (.shadowCompareRead t r) s = .next s) ∧
      (∀ sh, s.tables.shadows.find? t = some sh → sh.rate ≠ 0 → sh.count = 0 → s.pwr.state ≠ .ride → s.pwr.state ≠ .sleep → s.dma = true →
        exec (.shadowCompareRead t r) s = .next (if t.val ≤ 2 then countCompare t 0 (portGrants 5 s) else s)) ∧
      (∀ sh, s.tables.shadows.find? t = some sh → sh.rate ≠ 0 → sh.count ≠ 0 → s.pwr.state ≠ .ride → s.pwr.state ≠ .sleep → s.dma = true →
        ∃ u sh', exec (.shadowCompareRead t r) s = .next u ∧ u.tables.shadows.find? t = some sh' ∧
          sh'.next = (if sh.next + 1 = sh.count then 0 else sh.next + 1) ∧ sh'.rate = sh.rate ∧ sh'.count = sh.count)) ∧
    (∀ (t sl i : Nat) (sh : Shadow) (u : State), u.tables.shadows.find? t = some sh →
      (sh.seen.find? (fun x => x.1 == sl && x.2.1 == i) = none →
        let v := shadowNote t sl i true u
        v.tables.slices = u.tables.slices ∧ v.neg = u.neg ∧ v.irq = u.irq ∧ v.nv = u.nv) ∧
      (∀ x, sh.seen.find? (fun x => x.1 == sl && x.2.1 == i) = some x → u.clk.now < x.2.2 + 10 * msTicks →
        shadowNote t sl i true u = u) ∧
      (∀ x, sh.seen.find? (fun x => x.1 == sl && x.2.1 == i) = some x → x.2.2 + 10 * msTicks ≤ u.clk.now →
        ((shadowNote t sl i true u).tab sl).shadowMismatch = satAdd 32 (u.tab sl).shadowMismatch 1)) ∧
    (∀ (h : Nat) (dma : Bytes),
      (s.op? h = none → exec (.bulkRecordCommitted h dma) s = .next s ∧ exec (.fenceLimitExpiry h) s = .next s) ∧
      (∀ o w, s.op? h = some o → o.work = .bulk w →
        ((o.working = false ∨ w.count ≤ w.next ∨ (w.source ≠ 0 ∧ s.dma = false)) → exec (.bulkRecordCommitted h dma) s = .next s) ∧
        (o.working = true → w.next < w.count → (w.source = 0 ∨ s.dma = true) →
          let x := bulkRecord w.table w.op (if w.source = 0 then w.records.getD w.next [] else dma) (w.firstIndex + w.next) (portGrants 2 s)
          let u := setOp { o with units := w.next + 1, progress := (w.next + 1) * 10000 / w.count, work := .bulk { w with next := w.next + 1 } } x.2
          (x.1 = 2 → exec (.bulkRecordCommitted h dma) s = .next (opFail h stLimit x.2)) ∧
          (x.1 ≠ 0 → x.1 ≠ 2 → exec (.bulkRecordCommitted h dma) s = .next (opFail h stBadParam x.2)) ∧
          (x.1 = 0 → w.next + 1 = w.count → exec (.bulkRecordCommitted h dma) s = .next (opComplete h u)) ∧
          (x.1 = 0 → w.next + 1 ≠ w.count → exec (.bulkRecordCommitted h dma) s = .next (suspendPoint h u)))) ∧
      (∀ o ids total lim, s.op? h = some o → o.work = .fence ids total lim →
        ((lim = 0 ∨ o.state ≠ .running) → exec (.fenceLimitExpiry h) s = .next s) ∧
        (lim ≠ 0 → o.state = .running → exec (.fenceLimitExpiry h) s =
          .next (opFinish h .failed stBusy (advanceTo (o.since + lim * msTicks) s)))))
/-! ### Long operations and calibration at work (R91, R92, R426, R448 to R456, R460 to R470, R493, R520, R521) -/

/-- What long operations do as they work (R91, R92, R426, R448, R450, R456, R493, R520, R521): each row acts on an operation of its own kind and on no other; a cancelled one ends CANCELLED with its work undone, and one that fails ends FAILED with its status, INTERNAL after the Negative record of its cause (R85), while handle 0, which names none, makes the next persisted or executed command answer INTERNAL (R80); firmware sectors wait for their data, are not written under NV-inhibit or without DMA, and the last is followed by the verification; an export copies its records in order and ends with header and tag; a report takes 64 ports; a window that closes passes to 50 ns after its end. Where it rests on a reading or a choice of the model, that is log entries 38, 91 and 94 to 96. -/
def Obligations.OperationsWorkStepByStep : Prop :=
  ∀ (h : Nat) (s : State), s.held = false →
    (∀ st f, exec (.opUnrecoverableError 0 ⟨st, f⟩) s = .next { s with gcp := { s.gcp with failing := some f } }) ∧
    (s.op? h = none → exec (.opCancelOutcome h) s = .next s ∧ (h ≠ 0 → ∀ st f, exec (.opUnrecoverableError h ⟨st, f⟩) s = .next s) ∧
      (∀ dma read, exec (.fwSectorWritten h dma read) s = .next s) ∧ exec (.fwDataWaitExpiry h) s = .next s ∧
      exec (.exportRecordCopied h) s = .next s ∧ exec (.tracePortRecordBuilt h) s = .next s ∧ exec (.contactSheetSaveDone h) s = .next s) ∧
    (∀ o, s.op? h = some o →
      (exec (.opCancelOutcome h) s = .next (if o.state = .cancelling then opFinish h .cancelled 0 (opUndo h o.work s) else s)) ∧
      (h ≠ 0 → ∀ (st : BitVec 16) f, exec (.opUnrecoverableError h ⟨st, f⟩) s =
        .next (if o.state = .running then
          opFinish h .failed st.toNat (opUndo h o.work (if st.toNat = stInternal then (negInternal f 0 s).2 else s)) else s)) ∧
      (∀ w dma read, o.work = .fw w →
        ((o.working = false ∨ s.pwr.nvInhibit = true ∨ (w.source = 0 ∧ s.dma = false)) → exec (.fwSectorWritten h dma read) s = .next s) ∧
        (o.working = true → s.pwr.nvInhibit = false → (w.source ≠ 0 ∨ s.dma = true) →
          (w.size ≤ w.written → o.state = .running → exec (.fwSectorWritten h dma read) s = .next (fwVerify o w read s)) ∧
          (w.written < w.size → w.waits = true → exec (.fwSectorWritten h dma read) s = .next (suspendPoint h s)) ∧
          (w.written < w.size → w.waits = false →
            let n := min 65536 (w.size - w.written)
            let data := if w.source = 1 then w.buffer.take n else toLen n dma
            let v := { w with written := w.written + n, buffer := w.buffer.drop n, crcNow := crcRun 0xEDB88320#32 w.crcNow data }
            let p := { o with units := o.units + 1, progress := v.written * 10000 / w.size, work := .fw v }
            (v.written < w.size → exec (.fwSectorWritten h dma read) s = .next (suspendPoint o.handle (setOp p s))) ∧
            (w.size ≤ v.written → o.state = .running → exec (.fwSectorWritten h dma read) s = .next (fwVerify p v read (setOp p s))))) ∧
        (o.state = .running → w.waits = true →
          exec (.fwDataWaitExpiry h) s = .next (opFinish h .failed stBusy (advanceTo (w.lastData + 60 * secTicks) s))) ∧
        ((o.state ≠ .running ∨ w.waits = false) → exec (.fwDataWaitExpiry h) s = .next s)) ∧
      (∀ w, o.work = .negExport w →
        ((o.working = false ∨ s.dma = false) → exec (.exportRecordCopied h) s = .next s) ∧
        (o.working = true → s.dma = true → exportNext w s = none → o.state = .running →
          let v := { w with missing := w.span - w.count }
          let tag := (w.key.map (fun k => Crypto.tag16 k (v.header ++ w.copied))).getD (zeros 16)
          exec (.exportRecordCopied h) s =
            .next (opFinish h .done 0 ((s.send (.hostWrite w.addr v.header)).send (.hostWrite (w.addr + 64 + 64 * w.count) tag)))) ∧
        (∀ seq r, o.working = true → s.dma = true → exportNext w s = some (seq, r) →
          let v := { w with next := seq + 1, count := w.count + 1, copied := w.copied ++ r }
          let p := { o with units := o.units + 1, progress := (seq + 1 - w.first) * 10000 / w.span, work := .negExport v }
          let u := setOp p (s.send (.hostWrite (w.addr + 64 + 64 * w.count) r))
          exec (.exportRecordCopied h) s =
            .next (if exportNext v u = none then (if o.state = .running then exportEnds h { v with missing := v.span - v.count } u
              else suspendPoint h u) else suspendPoint h u))) ∧
      (∀ w, o.work = .trace w →
        (o.working = false → exec (.tracePortRecordBuilt h) s = .next s) ∧
        (o.working = true → o.units < 64 →
          let v := { w with built := w.built ++ portTimeRecord s o.units }
          let u := setOp { o with units := o.units + 1, progress := (o.units + 1) * 10000 / 64, work := .trace v } s
          exec (.tracePortRecordBuilt h) s = .next (if o.units = 63 ∧ o.state = .running then traceEnds h v u else suspendPoint h u))) ∧
      (∀ w, o.work = .sweep w →
        let done := o.state = .running ∧ w.save = true ∧ s.pwr.nvInhibit = false ∧ ∀ i, w.first ≤ i → i < w.first + w.count → (s.cal i).converged = true
        (¬ done → exec (.contactSheetSaveDone h) s = .next s) ∧
        (∀ k b, done → w.saving = some (k, b) →
          exec (.contactSheetSaveDone h) s = .next (opFinish h .done 0 (sweepClear w (contactCommit k b s)))) ∧
        (done → w.saving = none → let c := contactBegin s
          exec (.contactSheetSaveDone h) s = .next (opFinish h .done 0 (sweepClear w (contactCommit c.1 c.2.1 c.2.2)))))) ∧
    (∀ e : Fin 8,
      ((∀ a b k, (s.engine e).role ≠ .claimed a b k) ∨ (s.engine e).meter = none →
        exec (.measurementWindowClose e) s = .next s ∧ exec (.statsStartWaitExpiry e) s = .next s) ∧
      (∀ a b k m, (s.engine e).role = .claimed a b k → (s.engine e).meter = some m →
        (m.startStamp = none → exec (.measurementWindowClose e) s = .next (suspendPoint k s)) ∧
        (m.startStamp ≠ none → k = 0 → exec (.measurementWindowClose e) s = .next (measured e m 0 (advanceTo m.closeAt s))) ∧
        (m.startStamp ≠ none → k ≠ 0 → exec (.measurementWindowClose e) s = .next (sampleClose e k m (advanceTo m.closeAt s))) ∧
        ((m.granted = false ∨ m.startStamp ≠ none) → exec (.statsStartWaitExpiry e) s = .next s) ∧
        (m.granted = true → m.startStamp = none → k = 0 →
          exec (.statsStartWaitExpiry e) s = .next (measured e m 1 (advanceTo (m.waitFrom 0 + m.waitMs * msTicks) s))) ∧
        (∀ o, m.granted = true → m.startStamp = none → k ≠ 0 → s.op? k = some o → o.state = .running →
          exec (.statsStartWaitExpiry e) s =
            .next (opFinish k .failed stBusy (statsRelease k e (advanceTo (m.waitFrom o.since + m.waitMs * msTicks) s))))))

/-- Calibration (R460 to R466): a block that is paused, or in SAFE, or whose sweep does not work, takes no step; a step that an APPLY at the same instant preceded is dropped (R477); a step whose input has left its assumed state is discarded (R32), another accepted one counts, clears the run of discards and the stall, and after the block's full number of steps in a row it has converged; a discard counts and starts the run again, and the 64th in a row raises CAL_STALL once; changed delays are published together, at least 1 s after the last publication, and a Dalom port in EXCHANGE or ACTIVE keeps the old ones until its next mark. APPLY makes the staged words live and RESTART reloads the factory's. Where it rests on a reading or a choice of the model, that is log entries 92, 125 and 126. -/
def Obligations.CalibrationTakesItsSteps : Prop :=
  ∀ (i : Fin 356) (s : State), s.held = false →
    (∀ ok ws, calSteps? s i = false → exec (.calStep i ok ws) s = .next s ∧ exec (.calNoGapExpiry i) s = .next s) ∧
    (∀ ok ws, calSteps? s i = true → (s.cal i).applied = some s.clk.now →
      exec (.calStep i ok ws) s = .next (modCal i (fun b => { b with applied := none }) s)) ∧
    (∀ ws, calSteps? s i = true → (s.cal i).applied ≠ some s.clk.now → calAssumed s i ws = true → sweepOf s i = none →
      ∃ t, exec (.calStep i true ws) s = .next t ∧ t = { s with tim := t.tim } ∧
        (t.cal i).steps = wrapAdd 32 (s.cal i).steps 1 ∧ (t.cal i).consec = 0 ∧ (t.cal i).stall = false ∧ (t.cal i).temp = s.pwr.tj ∧
        (t.cal i).run = (s.cal i).run + 1 ∧ (t.cal i).converged = ((s.cal i).converged || decide (calSteps i ≤ (s.cal i).run + 1)) ∧
        (t.cal i).discards = (s.cal i).discards ∧ ∀ j, j ≠ i.val → t.cal j = s.cal j) ∧
    (∀ ws o, calSteps? s i = true → (s.cal i).applied ≠ some s.clk.now → calAssumed s i ws = true → sweepOf s i = some o → exec (.calStep i true ws) s = .next (sweepStep o.handle (calAccept i ws s))) ∧
    (∀ (k : Nat) (t : State),
      let u := calDiscard i k t
      (u.cal i).consec = satAdd 16 (t.cal i).consec 1 ∧ (u.cal i).discards = wrapAdd 32 (t.cal i).discards 1 ∧ (u.cal i).cause = k ∧
      (u.cal i).run = 0 ∧ (u.cal i).converged = (t.cal i).converged ∧
      (u.cal i).stall = ((t.cal i).stall || decide (64 ≤ satAdd 16 (t.cal i).consec 1))) ∧
    (calSteps? s i = true →
      (∀ ok ws, (s.cal i).applied ≠ some s.clk.now → ok = false ∨ calAssumed s i ws = false →
        exec (.calStep i ok ws) s = .next (afterDiscard i (s.cal i).stall (calDiscard i 1 s))) ∧
      exec (.calNoGapExpiry i) s = .next (afterDiscard i (s.cal i).stall (calDiscard i 2 s))) ∧
    (s.tim.calDirty = [] → exec .delayPublication s = .next s) ∧
    (s.tim.calDirty ≠ [] → ∃ t, exec .delayPublication s = .next t ∧ t = { s with clk := t.clk, tim := t.tim, dlks := t.dlks } ∧
      t.clk.now = max s.clk.now ((s.tim.pubAt.map (fun x => x + secTicks)).getD 0) ∧ t.tim.pubAt = some t.clk.now ∧ t.tim.calDirty = [] ∧
      (∀ k w, k ∈ s.tim.calDirty → w ∈ delayWords k → calPub t k w = calLive s k w) ∧
      (∀ p, (s.tim.calDirty.any (fun k => calPort k == p)) = false → t.dlk p = s.dlk p) ∧
      (∀ p l, p < 64 → l < 4 → (s.tim.calDirty.any (fun k => calPort k == p)) = true → stripes (s.port p) = true → (s.port p).cfg.dalom = true →
        txInForce t p l = txInForce s p l ∧ rxInForce t p l = rxInForce s p l)) ∧
    (s.barServed = false → exec (.calApply i) s = .next s ∧ exec (.calRestart i) s = .next s) ∧
    (s.barServed = true →
      (∃ t, exec (.calApply i) s = .next t ∧ t = { s with tim := t.tim } ∧ (t.cal i).staged = [] ∧ (t.cal i).restored = true ∧
        (t.cal i).converged = false ∧ (t.cal i).applied = some s.clk.now ∧ ∀ j, j ≠ i.val → t.cal j = s.cal j) ∧
      (∃ t, exec (.calRestart i) s = .next t ∧ t = { s with tim := t.tim } ∧ (t.cal i).live = [] ∧ (t.cal i).restored = false ∧
        (t.cal i).converged = false ∧ ∀ j, j ≠ i.val → t.cal j = s.cal j))
/-! ### The host's registers and the test port (R7, R110, R417, R464, R465, R526 to R539, R550) -/

/-- Interrupts, records and registers (R7, R417, R464, R465, R479, R526 to R539): a cause latches; its record goes straight to the queue where there is room, waits behind held ones else, and beyond 256 held is lost and counted; a W1C write clears exactly its bits; a read of the lost count clears it; a pending message goes out when its holdoff ends. A register write must be aligned, and does nothing while PERST_N is low, or in SAFE beyond SYS, MBX and IRQ; bases do not move while their block is enabled; a statistics record advances its slot; a snapshot latches the time; staged words become live together. A read returns the field's value, reserved bits, WO bits and unassigned offsets read zero, a write to an RW field reads back, a W1C register reads its pending bits, IRQ_N is low while PIN_EN is 1 and an enabled cause is set, and a misaligned read or one with PERST_N low returns none. Where it rests on a reading or a choice of the model, that is log entries 37, 97 to 100 and 128. -/
def Obligations.InterruptsRecordsAndRegisters : Prop :=
  (∀ (c subject : Nat) (data : Bytes) (s : State), c < 128 →
    let t := raise c subject data s
    t = { s with irq := t.irq, out := t.out } ∧ t.irq.cause = s.irq.cause ||| BitVec.twoPow 128 c ∧ t.irq.mask = s.irq.mask ∧
    t.irq.seq = (if unqueued c then s.irq.seq else (s.irq.seq + 1) % 2 ^ 32) ∧
    (unqueued c = false → s.irq.held = [] → s.irq.evqRoom = true → s.dma = true →
      t.irq.held = [] ∧ t.irq.evqPi = (s.irq.evqPi + 1) % s.irq.evqEntries ∧ t.irq.evqLost = s.irq.evqLost) ∧
    (unqueued c = false → (s.irq.held ≠ [] ∨ s.irq.evqRoom = false ∨ s.dma = false) → s.irq.held.length < 256 →
      t.irq.held = s.irq.held ++ [evRecord s.irq.seq c false subject data s.stampBytes] ∧ t.irq.evqPi = s.irq.evqPi) ∧
    (unqueued c = false → 256 ≤ s.irq.held.length → t.irq.held = s.irq.held ∧ t.irq.evqLost = satAdd 32 s.irq.evqLost 1)) ∧
  (∀ (r : NegRec) (s : State), s.pwr.nvInhibit = true → (negPut r s).nv = s.nv) ∧
  (∀ s : State, s.held = false →
    (∀ (w : Fin 4) (v : BitVec 32),
      (s.sys.perst = true → exec (.irqCauseWrite w v) s = .next s) ∧
      (s.sys.perst = false → ∃ t, exec (.irqCauseWrite w v) s = .next t ∧
        t.irq.cause = s.irq.cause &&& ~~~(v.setWidth 128 <<< (32 * w.val)) ∧ t = { s with irq := t.irq, out := t.out })) ∧
    (∀ v : Fin 64,
      (s.irq.pendingMsg.getLsbD v = false → exec (.irqHoldoffExpiry v) s = .next s) ∧
      (s.irq.pendingMsg.getLsbD v = true → s.irq.masked v = false → s.dma = true →
        ∃ t, exec (.irqHoldoffExpiry v) s = .next t ∧ t.irq.pendingMsg.getLsbD v = false ∧ t.out = .msix v :: s.out ∧ t.irq.cause = s.irq.cause)) ∧
    (s.sys.perst = true → (∀ ci, exec (.irqEvqCiWrite ci) s = .next s) ∧ exec .irqEvqArm s = .next s ∧ exec .irqEvqLostRead s = .next s) ∧
    (s.sys.perst = false →
      (∀ ci : BitVec 16, exec (.irqEvqCiWrite ci) s = .next (evqDrain { s with irq := { s.irq with evqCi := ci.toNat } })) ∧
      exec .irqEvqArm s = .next (evqDrain { s with irq := { s.irq with evqEnable := true } }) ∧
      exec .irqEvqLostRead s = .next { s with irq := { s.irq with evqLost := 0 }, out := .readData s.irq.evqLost :: s.out }) ∧
    (∀ sl : Slice,
      (s.barServed = false → exec (.pacDropsLoRead sl) s = .next s) ∧
      (s.barServed = true → ∃ t, exec (.pacDropsLoRead sl) s = .next t ∧ t.out = .readData ((s.slice sl).paceDrops % 2 ^ 32) :: s.out ∧
        (t.slice sl).dropsHi = (s.slice sl).paceDrops / 2 ^ 32 ∧ (t.slice sl).paceDrops = (s.slice sl).paceDrops)) ∧
    ((s.stat.enable = false ∨ statLive s = false) → exec .statPeriod s = .next s) ∧
    (s.stat.enable = true → statLive s = true →
      exec .statPeriod s = .next (statWrite false false (advanceTo (s.stat.lastAt + s.stat.period * msTicks) s))) ∧
    (statLive s = false → exec .statSnap s = .next s) ∧
    (statLive s = true → ∃ t, exec .statSnap s = .next t ∧ t.stat.pi = (s.stat.pi + 1) % s.stat.count ∧
      t.stat.seq = s.stat.seq % (2 ^ 32 - 1) + 1 ∧ t.stat.lastAt = s.clk.now ∧ t.irq.cause.getLsbD 3 = true) ∧
    (s.barServed = false → exec .tsuSnap s = .next s ∧ (∀ i, exec (.calApply i) s = .next s ∧ exec (.calRestart i) s = .next s)) ∧
    (s.barServed = true →
      (∃ t, exec .tsuSnap s = .next t ∧ t = { s with tim := t.tim } ∧ t.tim.time.snapDone = true ∧ t.tim.time.snapSec = s.todSec ∧
        t.tim.time.snapNs = s.todNs ∧ t.tim.time.snapTs = s.ts32 ∧ t.tim.time.snapGen = s.nv.timeGen) ∧
      (∀ i : Fin 356, ∃ t, exec (.calApply i) s = .next t ∧ t = { s with tim := t.tim } ∧ (t.cal i).staged = [] ∧
        (t.cal i).restored = true ∧ (t.cal i).converged = false ∧ ∀ j, j ≠ i.val → t.cal j = s.cal j) ∧
      (∀ i : Fin 356, ∃ t, exec (.calRestart i) s = .next t ∧ t = { s with tim := t.tim } ∧ (t.cal i).live = [] ∧
        (t.cal i).restored = false ∧ (t.cal i).converged = false ∧ ∀ j, j ≠ i.val → t.cal j = s.cal j)) ∧
    (∀ (b : Bool) (off : BitVec 24) (v : BitVec 32),
      let o := off.toNat
      let go := exec (.registerWrite b off v) s
      ((o % 4 ≠ 0 ∨ s.sys.perst = true) → go = .next s) ∧
      (b = false → s.sys.mode = .safe → 0x30000 ≤ o → go = .next s) ∧
      (b = false → o % 4 = 0 → s.sys.perst = false →
        (o < 0x10000 → o ≠ 0x28 → o ≠ 0x2C → go = .next s) ∧
        (o = 0x28 → go = .next { s with sys := { s.sys with scratch := v } }) ∧
        (0x10000 ≤ o → o < 0x20000 → s.mbx.enable = true → go = .next s) ∧
        (0x100000 ≤ o → o < 0x112000 → s.sys.mode ≠ .safe → (s.win ((o - 0x100000) / 0x1000)).busy = true → o % 0x1000 < 0x14 →
          go = .next (modWin ((o - 0x100000) / 0x1000) (fun q => { q with overrun := true }) s)) ∧
        (0x400008 ≤ o → o ≤ 0x400010 → s.stat.enable = true → go = .next s)) ∧
      (b = true → o % 4 = 0 → s.sys.perst = false → o < 0x200 → o % 0x40 ≠ 0x14 → (s.trapRing (o / 0x40)).enable = true →
        ∃ t, go = .next t ∧ t = { s with trap := t.trap } ∧ ∀ c, t.trapRing c = s.trapRing c)) ∧
    (s.irqN = false ↔ s.irq.pinEn = true ∧ ∃ c : Fin 128, s.irq.cause.getLsbD c.val = true ∧ s.irq.mask.getLsbD c.val = true) ∧
    (∀ (b : Bool) (o : Nat), (o % 4 ≠ 0 ∨ s.sys.perst = true → s.regRead b o = none) ∧
      (o % 4 = 0 → s.sys.perst = false → (s.regRead b o).isSome = true) ∧
      (b = false → o % 4 = 0 → s.sys.perst = false → s.sys.mode = .safe → 0x30000 ≤ o → s.regRead b o = some 0)) ∧
    (s.sys.perst = false →
      s.regRead false 0x0 = some 0xB16425 ∧
      (∃ v, s.regRead false 0x04 = some v ∧ v % 8 = s.sys.mode.code % 8 ∧ v / 2 ^ 8 % 8 = s.pwr.state.code % 8 ∧
        v / 2 ^ 16 % 4 = s.nv.lifecycle.code % 4 ∧ v / 8 % 32 = 0 ∧ v / 2 ^ 11 % 32 = 0 ∧ v < 2 ^ 22) ∧
      (∀ v : BitVec 32, ∃ t, exec (.registerWrite false 0x28#24 v) s = .next t ∧ t.regRead false 0x28 = some v.toNat) ∧
      (∀ k, 12 ≤ k → k < 0x4000 → s.regRead false (4 * k) = some 0) ∧
      (∀ w : Fin 4, s.regRead false (0x20000 + 4 * w.val) = some (bitsAt s.irq.cause.toNat (32 * w.val) 32) ∧
        s.regRead false (0x20010 + 4 * w.val) = some (bitsAt s.irq.mask.toNat (32 * w.val) 32)) ∧
      s.regRead false 0x20038 = some s.irq.evqLost ∧
      (s.sys.mode ≠ .safe → s.regRead false 0x200000 = some 0 ∧ s.regRead false 0x200018 = some s.tim.time.snapNs ∧
        s.regRead false 0x400014 = some s.stat.pi ∧
        (∀ sl : Slice, s.regRead false (0x300100 + 0x20 * sl.val + 0x1C) = some (s.slice sl).dropsHi) ∧
        (∀ i : Fin 356, s.regRead false (0x500000 + 0x1000 * i.val + 4) = some (if (s.cal i).hold then 1 else 0))) ∧
      (∀ c : TC, s.regRead true (0x40 * c.val + 0x10) = some (s.trapRing c).devIdx ∧
        s.regRead true (0x1000 + 0x40 * c.val + 0x10) = some (s.injRing c).devIdx)))

/-- The test access port (R110, R550): it runs while VDD_AUX is up and does nothing without it; an instruction above the open debug level selects BYPASS and does no more; at its level IDCODE and SAMPLE shift out, PRELOAD loads the cells, EXTEST drives them, DBG_RESET resets the device with cause DEBUG and the level; a DBG_WRITE at level 2 reaches a space the spec does not give and is refused, and a factory instruction at level 3 faults. Where it rests on a reading or a choice of the model, that is log entries 35 and 36. -/
def Obligations.TestPortActsAtItsLevel : Prop :=
  ∀ s : State,
    let ir (code : Nat) : State := { s with dbg := { s.dbg with ir := code, driven := code == 0 } }
    (s.sys.auxDown = true → ∀ pins cells n addr data c,
      exec .idcode s = .next s ∧ exec .bypass s = .next s ∧ exec (.sample pins) s = .next s ∧ exec (.preload cells) s = .next s ∧
      exec .extest s = .next s ∧ exec (.dbgTrace n) s = .next s ∧ exec (.dbgRead addr) s = .next s ∧ exec (.dbgWrite addr data) s = .next s ∧
      exec .dbgReset s = .next s ∧ exec (.factoryTest c) s = .next s ∧ exec .testLogicReset s = .next s) ∧
    (s.sys.auxDown = false →
      exec .idcode s = .next ((ir 0xFE).send (.jtag 0xFE [0x6F, 0x55, 0x42, 0x16])) ∧ exec .testLogicReset s = .next (ir 0xFE) ∧
      exec .bypass s = .next (ir 0xFF) ∧ (∀ pins, exec (.sample pins) s = .next ((ir 1).send (.jtag 1 pins))) ∧
      (∀ cells, exec (.preload cells) s =
        .next (if debugLevel s < 2 then ir 0xFF else { ir 2 with dbg := { (ir 2).dbg with cells := cells } })) ∧
      exec .extest s = .next (if debugLevel s < 2 then ir 0xFF else ir 0) ∧
      (∀ n : Fin 4096, ∃ b : Bytes, b.length = n ∧ exec (.dbgTrace n) s =
        .next (if debugLevel s < 1 then ir 0xFF else { ir 0x10 with free := s.free + 1, out := .jtag 0x10 b :: s.out })) ∧
      (∀ addr : BitVec 64, ∃ b : Bytes, b.length = 13 ∧ exec (.dbgRead addr) s =
        .next (if debugLevel s < 1 then ir 0xFF else { ir 0x11 with free := s.free + 1, out := .jtag 0x11 b :: s.out })) ∧
      exec .dbgReset s = .next (if debugLevel s < 2 then ir 0xFF else deviceReset 7 (debugLevel s) (ir 0x19)) ∧
      (∀ addr data, debugLevel s < 2 → exec (.dbgWrite addr data) s = .next (ir 0xFF)) ∧
      (∀ addr data, 2 ≤ debugLevel s → exec (.dbgWrite addr data) s = .refused .debugSpaceWrite) ∧
      (∀ c, debugLevel s < 3 → exec (.factoryTest c) s = .next (ir 0xFF)) ∧
      (∀ c, 3 ≤ debugLevel s → exec (.factoryTest c) s = .fault .factoryTest))
/-! ### The oscillator, the references and the loops (R338 to R363, R411, R570) -/

/-- The oscillator, the references and the loops (R339, R340, R345 to R347, R350, R351, R355, R356, R358, R360 to R362, R411): losing XO_IN clears WARM, is noted, holds the qualification timers and makes each locked loop wide again; a reference beyond its reject limit is disqualified, one in its accept limit qualifies when its timer runs out, and crossing the soft limit raises DRIFT once; a loop locks after its dwell, unlocks beyond eight thresholds, and narrows by four to TRACK_BW; a frequency lock slews a small offset and raises JUMP for a large one; a slew passes its remaining time. A PDU that finds no buffer is lost. Rows whose condition does not hold change nothing. Where it rests on a reading or a choice of the model, that is log entries 80 to 82 and 89. -/
def Obligations.OscillatorReferencesAndLoops : Prop :=
  ∀ s : State, s.held = false →
    ((s.tim.xo.present = false ∨ s.tim.xo.lost = true) → exec .xoLost s = .next s) ∧
    (s.tim.xo.present = true → s.tim.xo.lost = false →
      let u := selectBand 0 (refIds.foldl holdTimer (raise 96 0 (b1 0) (negWrite 0x0016 (b1 0 ++ b1 s.tim.xo.freq)
        (setWarm false (modXo (fun x => { x with lost := true }) s)))))
      exec .xoLost s = .next ([0, 1, 2, 3].foldl (fun s d => modDpll d (fun q =>
        if q.st = .locked then { q with bw := q.acqBw * 1000000 } else if q.st = .holdover then { q with cold := true } else q) s) u)) ∧
    (s.tim.xo.lost = false → exec .xoRestored s = .next s) ∧
    (s.tim.xo.lost = true → exec .xoRestored s =
      .next (selectBand 0 (xoNote 1 (modXo (fun x => { x with lost := false, rdyAt := s.clk.now }) s)))) ∧
    (∀ level,
      let u := modXo (fun x => { x with rdyPin := level }) s
      exec (.xoRdyChange level) s = .next (if u.tim.xo.ready = s.tim.xo.ready then u
        else if s.tim.xo.ready then setWarm false u else modXo (fun x => { x with rdyAt := u.clk.now }) u)) ∧
    (∀ spread,
      let u := if s.tim.xo.warm then s else advanceTo (s.tim.xo.rdyAt + s.tim.xo.holdS * secTicks) s
      ((s.tim.xo.ready = false ∨ s.tim.xo.missing = true) → exec (.warmHoldExpiry spread) s = .next s) ∧
      (s.tim.xo.ready = true → s.tim.xo.missing = false → spread ≤ s.tim.xo.wander * 1000 → exec (.warmHoldExpiry spread) s = .next (setWarm true u)) ∧
      (s.tim.xo.ready = true → s.tim.xo.missing = false → s.tim.xo.wander * 1000 < spread → exec (.warmHoldExpiry spread) s =
        .next (if s.tim.xo.warm then modXo (fun x => { x with rdyAt := s.clk.now }) (setWarm false s) else u))) ∧
    (∀ r : Fin 14, exec (.refActivityFailure r) s =
      .next (if s.sys.mode ≠ .safe ∧ (s.ref r).st ≠ .disabled then refFail r s.clk.now s else s)) ∧
    (∀ (r : Fin 15) act offset slope,
      let k := if r.val = 14 then 15 else r.val
      let trend := (s.ref k).st = .qualified ∧ s.tim.xo.missing = false
      let u := modRef k (fun f => { f with offset := offset, slope := if trend then slope else f.slope }) s
      let v := modRef k (fun f => { f with activity := true }) u
      ((s.sys.mode = .safe ∨ (s.ref k).st = .disabled) → exec (.freqMonitorUpdate r act offset slope) s = .next s) ∧
      (s.sys.mode ≠ .safe → (s.ref k).st ≠ .disabled →
        (activeNow s k act = true → exec (.freqMonitorUpdate r act offset slope) s = .next (judgeRef k v)) ∧
        (activeNow s k act = false → (s.ref k).activity = true → exec (.freqMonitorUpdate r act offset slope) s = .next (refFail k u.clk.now u)) ∧
        (activeNow s k act = false → (s.ref k).activity = false → exec (.freqMonitorUpdate r act offset slope) s = .next u))) ∧
    (∀ (k : Nat) (t : State), t.tim.xo.missing = false →
      let f := t.ref k
      let ok := mag f.offset ≤ f.accept * 1000
      (f.st = .unqualified → ok → ((judgeRef k t).ref k).st = .qualifying ∧ ((judgeRef k t).ref k).remain = f.qualS * secTicks) ∧
      (f.st = .unqualified → ¬ ok → ((judgeRef k t).ref k).st = .unqualified) ∧
      (f.st = .qualifying → ((judgeRef k t).ref k).st = if ok then .qualifying else .unqualified) ∧
      (f.st = .qualified → mag f.offset ≤ f.reject * 1000 → ((judgeRef k t).ref k).st = .qualified ∧
        ((judgeRef k t).ref k).drift = (f.drift || decide (softLimit f < mag f.offset)))) ∧
    (∀ r : Fin 15, let k := if r.val = 14 then 15 else r.val
      let f := s.ref k
      (f.drift = true → mag f.offset ≤ softLimit f → s.tim.xo.missing = false →
        exec (.driftClearExpiry r) s = .next (modRef k (fun f => { f with drift := false }) s)) ∧
      ((f.drift = false ∨ softLimit f < mag f.offset ∨ s.tim.xo.missing = true) → exec (.driftClearExpiry r) s = .next s) ∧
      ((f.st ≠ .qualifying ∨ s.tim.xo.missing = true ∨ f.measured = false) → exec (.qualificationTimerExpiry r) s = .next s) ∧
      (f.st = .qualifying → s.tim.xo.missing = false → f.measured = true →
        exec (.qualificationTimerExpiry r) s = .next (raise 98 k (leInt 4 (clampInt 32 f.offset))
          (modRef k (fun f => { f with st := .qualified, remain := 0 }) (advanceTo (f.timerAt + f.remain) s))))) ∧
    (∀ loops src, (s.sys.mode = .safe → exec (.selectionTick loops src) s = .next s) ∧
      (s.sys.mode ≠ .safe →
        let u := advanceTo (nextTick s.clk.now) s
        let v := [0, 1, 2, 3].foldl (fun s d => match loops[d]? with
            | some x => loopTick d x.1 x.2 s
            | none => s) u
        exec (.selectionTick loops src) s =
          .next (announceLowered (v.dpll 0).st (esmcChanges ([0, 1, 2, 3].foldl (dpllTick src) v))) ∧ u.clk.now = nextTick s.clk.now ∧ s.clk.now < nextTick s.clk.now ∧ nextTick s.clk.now % (10 * msTicks) = 0)) ∧
    (∀ d : Fin 4,
      let q := s.dpll d
      let close := mag q.phase * 1000 < q.thresh * 65536
      exec (.dpllLockDwellExpiry d) s =
        .next (if q.st = .acquire ∧ q.lossAt = none ∧ q.freqOnly = false ∧ q.jump = none ∧ q.slew = none ∧ close then enterLocked d s else s) ∧
      exec (.dpllUnlock d) s = .next (if q.st = .locked ∧ q.lossAt = none ∧ 8 * q.thresh * 65536 < mag q.phase * 1000
        then dpllEvent 103 d (modDpll d (fun q => { q with st := .acquire, bw := q.acqBw * 1000000 }) s) else s) ∧
      exec (.bandwidthNarrowStep d) s = .next (if q.st = .locked ∧ close ∧ q.trackBw < q.bw
        then modDpll d (fun q => { q with bw := max q.trackBw (bwNow s d / 4) }) s else s)) ∧
    (∀ o : Int,
      let q := s.dpll 0
      let locks := q.st = .acquire ∧ q.freqOnly = true ∧ q.lossAt = none ∧ q.jump = none
      let u := modDpll 0 (fun q => { q with freqOnly := false }) s
      (¬ locks → exec (.frequencyLock o) s = .next s) ∧
      (locks → mag o * 1000 ≤ q.stepLimit * 65536 → exec (.frequencyLock o) s = .next (startSlew o u)) ∧
      (locks → q.stepLimit * 65536 < mag o * 1000 →
        let v := modDpll 0 (fun q => { q with jump := some o }) u
        exec (.frequencyLock o) s = .next (raise 107 0 (leInt 8 o) (negWrite 0x0011 (sourceOfT v ++ zeros 2 ++ leInt 8 o) v)))) ∧
    ((s.dpll 0).slew = none → exec .slewComplete s = .next s) ∧
    (∀ r : Int, (s.dpll 0).slew = some r → 0 < (s.dpll 0).slope → ∃ t, exec .slewComplete s = .next t ∧ (t.dpll 0).slew = none ∧
      t.clk.now = s.clk.now + (mag r + 524288 * (s.dpll 0).slope - 1) / (524288 * (s.dpll 0).slope)) ∧
    exec .holdoverSpecExpiry s = .next (if (s.dpll 0).ho then
      modDpll 0 (fun q => { q with specOut := true }) (advanceTo ((s.dpll 0).hoStart + s.tim.time.hoSpec * secTicks) s) else s) ∧
    (∀ p : Port,
      let on := (s.esmc p).enable = true ∧ (s.port p).st = .up ∧ s.sys.mode ≠ .safe
      (∀ n f, ((s.port p).isUp = false → heard p n f s = f s) ∧
        ((s.port p).isUp = true → let x := passBuffer (s.quadSlice (quadOf p)) n s
          heard p n f s = if x.1 = true then f x.2 else x.2)) ∧
      (∀ ssm essm : Byte, exec (.esmcPduRx p ssm essm) s = .next (heard p 64 (fun s =>
        if (s.esmc p).enable = true ∧ (s.port p).st = .up ∧ s.sys.mode ≠ .safe then
          modEsmc p (fun e => { e with ssm := ssm.toNat, essm := essm.toNat, got := some s.clk.now, timeout := false }) s else s) s)) ∧
      ((s.esmc p).got = none → exec (.esmcTimeout p) s = .next
        (if s.sys.mode ≠ .safe ∧ ((s.esmc p).enable = true ∨ (s.port p).cfg.dalom = true) then
          modEsmc p (fun e => { e with timeout := true }) s else s)) ∧
      (∀ t, (s.esmc p).got = some t → exec (.esmcTimeout p) s =
        .next (modEsmc p (fun e => { e with timeout := true }) (advanceTo (t + 5 * secTicks) s))) ∧
      exec (.esmcInfoTx p) s = .next (if on ∧ (s.port p).cfg.dalom = false then esmcSend p s else s))

/-- Clocks, PPS, TOD lines and time-interval engines (R379, R384, R388, R389, R391, R392, R409, R432, R436 to R445, R451): a SYN-O whose band no longer covers its frequency takes one that does and relocks; a settled source lets its squelched outputs run; at a whole second an open PPS output rises if its last rise is half a second back, else it is skipped; a TOD message is malformed, late, or valid and waits for its pulse; an edge of an input too close to the last one is only counted; an engine that is not rotating is not visited, and a rotating one visits a source in a round that owes it a visit (R24, R25, R444); a round that is over gives way to the next; a claimed engine is armed once. Where it rests on a reading or a choice of the model, that is log entries 83 to 85, 90, 91, 122 and 124. -/
def Obligations.OutputsLinesAndEngines : Prop :=
  ∀ s : State, s.held = false →
    (∀ i : Fin 2,
      let k := 5 + i.val
      let y := s.syn k
      let covers := ∃ b, y.inForce = some b ∧ b.serves k y.freq s.pwr.tj = true
      ((s.sys.mode = .safe ∨ covers) → exec (.rebandCheck i) s = .next s) ∧
      (s.sys.mode ≠ .safe → ¬ covers → pickBand (y.bands k) k y.freq s.pwr.tj = none → exec (.rebandCheck i) s = .next s) ∧
      (∀ b, s.sys.mode ≠ .safe → ¬ covers → pickBand (y.bands k) k y.freq s.pwr.tj = some b →
        exec (.rebandCheck i) s = .next (synRelock k (raise 109 k (b1 b) (modSyn k (fun y => { y with shifted := true }) (takeBand k b s)))))) ∧
    (∀ i : Fin 7, exec (.synthLockLoss i) s = .next (synRelock i s) ∧
      ∃ t, exec (.sourceSettled i) s = .next t ∧ t = { s with tim := t.tim } ∧ (t.syn i).st = 1 ∧ ∀ n, n < 8 →
        t.cko n = if sourceSyn (s.cko n).source = i.val ∧ (s.cko n).st = .squelched ∧ (s.cko n).fmt ≠ 0 ∧ s.sys.mode ≠ .safe then
          { s.cko n with st := .run, relocks := if (s.cko n).relock then satAdd 16 (s.cko n).relocks 1 else (s.cko n).relocks, relock := false }
          else s.cko n) ∧
    (∀ n : Fin 8, exec (.bridgedChangeBack n) s = .next (if (s.cko n).st = .bridged ∧ sourceSettled s (s.cko n).source = true then
      modCko n (fun o => { o with st := .run, relocks := satAdd 16 o.relocks 1, relock := false }) s else s)) ∧
    (∀ m0 m1, s.clk.todSet = false → exec (.ppsSecondBoundary m0 m1) s = .next s) ∧
    (∀ m0 m1, s.clk.todSet = true →
      let u := passTicks (ticksToSecond s) s
      exec (.ppsSecondBoundary m0 m1) s = .next (let t := ppsRise m1 (ppsRise m0 u 0) 1; meterEdge 0xFE (baseStamp t - t.tod16 % sec16 * 1000) t)) ∧
    (∀ (meas : Int) (n : Nat) (u : State),
      let near := ∃ t, (u.pps n).lastRise = some t ∧ u.clk.now < t + secTicks / 2
      (ppsOpen u n = false → ppsRise meas u n = u) ∧
      (ppsOpen u n = true → near → ppsRise meas u n = modPps n (fun p => { p with skipped := satAdd 16 p.skipped 1 }) u) ∧
      (ppsOpen u n = true → ¬ near → ((ppsRise meas u n).pps n).high = true ∧ ((ppsRise meas u n).pps n).lastRise = some u.clk.now ∧
        ((ppsRise meas u n).pps n).pulse = (u.pps n).width ∧ (ppsRise meas u n).out = .pps n true :: u.out)) ∧
    (∀ n : Fin 2, ((s.pps n).high = false → exec (.ppsWidthEnd n) s = .next s) ∧
      ((s.pps n).high = true → ∃ t, exec (.ppsWidthEnd n) s = .next t ∧ (t.pps n).high = false ∧ t.out = .pps n false :: s.out)) ∧
    exec .todTxStart s = .next (if s.tim.tod.tx = true ∧ s.clk.todSet = true ∧ s.sys.mode ≠ .safe then s.send (.tod (todOut s)) else s) ∧
    (∀ b late,
      let on := s.tim.tod.rx = true ∧ s.sys.mode ≠ .safe
      (¬ on → exec (.todRxMessage b late) s = .next s) ∧
      (on → todParse b = none → exec (.todRxMessage b late) s = .next (modTod (fun t => { t with bad := satAdd 32 t.bad 1 }) s)) ∧
      (∀ m, on → todParse b = some m → late = true →
        exec (.todRxMessage b late) s = .next (modTod (fun t => { t with late := satAdd 16 t.late 1 }) s)) ∧
      (∀ m, on → todParse b = some m → late = false → ∃ t, exec (.todRxMessage b late) s = .next t ∧ t = { s with tim := t.tim } ∧
        t.tim.tod.msg = some m ∧ t.tim.tod.valid = satAdd 32 s.tim.tod.valid 1 ∧
        t.tim.tod.extra = (if s.tim.tod.msg.isSome then satAdd 16 s.tim.tod.extra 1 else s.tim.tod.extra) ∧
        (s.tim.time.fromTod = false → t.tim.time = s.tim.time) ∧ (s.tim.time.fromTod = true → t.tim.time.utc = m.utc))) ∧
    (∀ (i : Fin 2) (capture : Int),
      let on := s.tim.tod.rx = true ∧ s.tim.tod.pps = i.val ∧ s.sys.mode ≠ .safe
      let v := modTod (fun t => { t with
        paired := t.msg, msg := none, lastHad := t.msg.isSome, missing := if t.msg.isSome then t.missing else satAdd 16 t.missing 1 }) s
      let u := modTde (fun t => { t with pulses := t.pulses.erase i }) v
      let refined := capture + s.tim.tde.pulses.get 0 i / 1000
      (¬ on → exec (.ppsinPulse i capture) s = .next s) ∧
      (on → (s.tim.tod.msg = none ∨ (s.ref (4 + i.val)).st = .disabled) → exec (.ppsinPulse i capture) s = .next u) ∧
      (∀ m, on → s.tim.tod.msg = some m → (s.ref (4 + i.val)).st ≠ .disabled →
        exec (.ppsinPulse i capture) s = .next (takeSample (100 + i.val) (asTod u refined - ppsDelay16 u - (m.sec : Int) * sec16) u))) ∧
    (∀ (c : Fin 82) (stamp coarse : Int) (tx : Bool),
      let n := prescale s c
      let k := s.tim.tde.passed.get 0 c + 1
      let near := 64 ≤ c.val ∧ ∃ x, (s.tim.tde.rings.get [] c).head? = some x ∧ stamp - x < 104857600 ∧ x ≤ stamp
      let u := modTde (fun t => { t with passed := t.passed.erase c }) s
      (presents s c = false → exec (.tdeEdge c stamp coarse tx) s = .next s) ∧
      (presents s c = true → k < n → exec (.tdeEdge c stamp coarse tx) s = .next (modTde (fun t => { t with passed := t.passed.set c k }) s)) ∧
      (presents s c = true → n ≤ k → near → exec (.tdeEdge c stamp coarse tx) s = .next (countSpacing c u)) ∧
      (presents s c = true → n ≤ k → ¬ near → c.val < 74 → enginePinned s c = none →
        exec (.tdeEdge c stamp coarse tx) s =
          .next (meterEdge c stamp (modTde (fun t => { t with rings := t.rings.set c ((stamp :: t.rings.get [] c).take 16) }) u)))) ∧
    (∀ (e : Fin 8) (c : Fin 82) (found : List (Int × Int × Bool)),
      ((isRotating s e = false ∨ (rotatingSources s).contains c.val = false) → exec (.tdeVisitSlot e c found) s = .next s) ∧
      (isRotating s e = true → (rotatingSources s).contains c.val = true → roundFor c s = none → exec (.tdeVisitSlot e c found) s = .next s) ∧
      (∀ u, isRotating s e = true → (rotatingSources s).contains c.val = true → roundFor c s = some u → exec (.tdeVisitSlot e c found) s =
        .next ((if c.val < 64 then (found.filter (fun x => x.2.2)).take 1 ++ (found.filter (fun x => !x.2.2)).take 1 else found.take 1).foldl
          (fun s x => refine e c x.2.2 x.1 x.2.1 s) (modEngine e (fun x => { x with visits := wrapAdd 32 x.visits 1 })
            (modTde (fun t => { t with visited := c.val :: t.visited }) u))))) ∧
    (∀ (c : Nat) (u : State),
      let v := if roundEnd u ≤ u.clk.now then roundStart u else u
      (roundEnd u ≤ u.clk.now → v.tim.tde.visited = [] ∧ v.tim.tde.roundAt = u.clk.now) ∧
      (c ∉ v.tim.tde.visited ∨ slowSource v c = true → roundFor c u = some v) ∧
      (visitDue v c = false → roundServed v = false → roundFor c u = none) ∧
      (visitDue v c = false → roundServed v = true → roundFor c u = some (roundStart (advanceTo (roundEnd v) v)))) ∧
    (∀ e : Fin 8,
      ((s.engine e).meter = none → exec (.tdeClaimGrant e) s = .next s) ∧
      (∀ m a b h, (s.engine e).role = .claimed a b h → (s.engine e).meter = some m →
        (m.granted = true → exec (.tdeClaimGrant e) s = .next s) ∧
        (m.granted = false → ∃ t f, exec (.tdeClaimGrant e) s = .next t ∧ t = { s with tim := t.tim } ∧
          (t.engine e).meter = some { m with granted := true, armedAt := s.clk.now, found := f } ∧
          ∀ x, x ∈ f → x ∈ s.tim.tde.rings.get [] b ∧ baseStamp s - 100 * ns16ps ≤ x)))
/-! ### PTP and the parent (R401 to R412, R414, R421) -/

/-- Received PTP messages (R402, R405 to R409, R414): each is a frame granted a buffer like any other, and lost where none is found (R271); one that the port does not take, or that is not from the master it follows, or not addressed to it, changes nothing; a one-step Sync is complete, a two-step one waits for the Follow_Up of its sequence number; a Delay_Req is answered by a master, with the request's correction less the fraction of the receipt; the mean path delay is half of both ways; a peer delay is a mean of at most 16 exchanges and is in use from the fourth; an unsupported message is counted. Where it rests on a reading or a choice of the model, that is log entries 87 and 116. -/
def Obligations.ReceivedPtpMessagesAct : Prop :=
  ∀ (p : Port) (z : State), z.held = false →
    let h (n : Nat) : Bool × State :=
      if (z.port p).isUp = false then (true, z) else passBuffer (z.quadSlice (quadOf p)) (max 64 ((ptpLead z p).length + n + 4)) z
    (∀ (m : PtpMsg) (a : PtpAnnounce) (txc : Int) (tc rc cg : Bool),
      ((h 44).1 = false → ∀ c, c ∈ [Instr.ptpSyncRx p m, .ptpFollowUpRx p m, .ptpDelayReqRx p m, .ptpUnsupportedRx p] → exec c z = .next (h 44).2) ∧
      ((h 54).1 = false → ∀ c, c ∈ [Instr.ptpDelayRespRx p m, .ptpPdelayReqRx p m txc, .ptpPdelayRespRx p m, .ptpPdelayRespFollowUpRx p m] →
        exec c z = .next (h 54).2) ∧
      ((h (68 + 8 * a.path.length)).1 = false → exec (.ptpAnnounceRx p m a) z = .next (h (68 + 8 * a.path.length)).2) ∧
      ((h 60).1 = false → exec (.l1SyncTlvRx p tc rc cg) z = .next (h 60).2)) ∧
      (∀ m : PtpMsg, (h 44).1 = true →
      let s := (h 44).2
      let takes := ptpTakes s p m = true ∧ fromMaster s p m = true
      let t2 := rxStamp s p m.capture
      (¬ takes → exec (.ptpSyncRx p m) z = .next s ∧ exec (.ptpFollowUpRx p m) z = .next s) ∧
      (takes → m.twoStep = true → exec (.ptpSyncRx p m) z = .next (modPtp p (fun q => { q with sync := some (m.seq.toNat, t2, m.corr) }) s)) ∧
      (takes → m.twoStep = false → exec (.ptpSyncRx p m) z = .next (syncDone p t2 m.stamp m.corr s)) ∧
      (∀ n t c, takes → (s.ptp p).sync = some (n, t, c) → exec (.ptpFollowUpRx p m) z =
        .next (if n = m.seq.toNat then syncDone p t m.stamp (c + m.corr) s else s)) ∧
      (takes → (s.ptp p).sync = none → exec (.ptpFollowUpRx p m) z = .next s) ∧
      (exec (.ptpDelayReqRx p m) z = .next (if ptpTakes s p m = true ∧ (s.ptp p).st = .master ∧ s.clk.todSet = true then
        ptpSend p 9 (ptpHeader s p 9 54 0 (m.corr - subNs (asTod s t2)) m.seq.toNat (s.ptp p).logDelay ++
          (ptpTime (asTod s t2) ++ be 8 m.sender.toNat ++ be 2 m.senderPort.toNat)) s else s)) ∧
      exec (.ptpUnsupportedRx p) z = .next (cntPort p 25 1 (modPtp p (fun q => { q with unsupported := wrapAdd 32 q.unsupported 1 }) s))) ∧
    (∀ m : PtpMsg, (h 54).1 = true →
      let s := (h 54).2
      let takes := ptpTakes s p m = true ∧ fromMaster s p m = true
      (¬ takes → exec (.ptpDelayRespRx p m) z = .next s) ∧
      (takes → (respMine s p m = false ∨ (s.ptp p).req = none ∨ (s.ptp p).ms = none) → exec (.ptpDelayRespRx p m) z = .next s) ∧
      (∀ n t ms, takes → respMine s p m = true → (s.ptp p).req = some (n, t) → (s.ptp p).ms = some ms → exec (.ptpDelayRespRx p m) z =
        .next (if n = m.seq.toNat then presence (modPtp p (fun q => { q with
          req := none, respAt := some s.clk.now, meanPath := (ms + (m.stamp - asTod s t - m.corr)) / 2, delayKnown := true }) s) else s))) ∧
    (∀ (t2 t1 corr : Int) (s : State),
      let ms := asTod s t2 - t1 - corr
      let u := modPtp p (fun q => { q with sync := none, syncAt := some s.clk.now, ms := some ms }) s
      let q := s.ptp p
      (s.tim.time.parent = some p.val → q.delayKnown = true → syncDone p t2 t1 corr s = takeSample p (ms - q.meanPath - asymOf q.asym q.meanPath) u) ∧
      ((s.tim.time.parent ≠ some p.val ∨ q.delayKnown = false) → syncDone p t2 t1 corr s = u)) ∧
    (∀ (m : PtpMsg) (a : PtpAnnounce), (h (68 + 8 * a.path.length)).1 = true →
      let s := (h (68 + 8 * a.path.length)).2
      let x := annOfMsg m a
      ((ptpTakes s p m = false ∨ annAdmits s x = false) → exec (.ptpAnnounceRx p m a) z = .next s) ∧
      (ptpTakes s p m = true → annAdmits s x = true → exec (.ptpAnnounceRx p m a) z =
        .next (let u := modPtp p (fun q => { q with foreign := noteForeign x s.clk.now q.foreign, annLost := false }) s
               reelect (modPtp p (fun q => { q with got := portBest u p }) u)))) ∧
    (∀ (m : PtpMsg) (txc : Int), (h 54).1 = true →
      let s := (h 54).2
      let t2 := asTod s (rxStamp s p m.capture)
      let t3 := asTod s (txStamp s p txc)
      let who := be 8 m.sender.toNat ++ be 2 m.senderPort.toNat
      let go := exec (.ptpPdelayReqRx p m txc) z
      ((ptpLive s p = false ∨ ptpMine s m = false ∨ (s.ptp p).linkDelay = false) → go = .next s) ∧
      (ptpLive s p = true → ptpMine s m = true → (s.ptp p).linkDelay = true → go = .next
        (ptpSend p 10 (ptpHeader s p 10 54 0 (m.corr + subNs t3) m.seq.toNat 0x7F ++ (ptpTime t3 ++ who))
          (ptpSend p 3 (ptpHeader s p 3 54 0x0200 (-(subNs t2)) m.seq.toNat 0x7F ++ (ptpTime t2 ++ who)) s)))) ∧
    (∀ m : PtpMsg, (h 54).1 = true →
      let s := (h 54).2
      let mine := ptpLive s p = true ∧ ptpMine s m = true ∧ respMine s p m = true
      (¬ mine → exec (.ptpPdelayRespRx p m) z = .next s ∧ exec (.ptpPdelayRespFollowUpRx p m) z = .next s) ∧
      ((s.ptp p).pReq = none → exec (.ptpPdelayRespRx p m) z = .next s ∧ exec (.ptpPdelayRespFollowUpRx p m) z = .next s) ∧
      (∀ n t, mine → (s.ptp p).pReq = some (n, t) → exec (.ptpPdelayRespRx p m) z = .next (if n = m.seq.toNat then
        modPtp p (fun q => { q with pResp := some (n, rxStamp s p m.capture, m.stamp, m.corr) }) s else s)) ∧
      (mine → (s.ptp p).pResp = none → exec (.ptpPdelayRespFollowUpRx p m) z = .next s) ∧
      (∀ n t1 k t4 t2 c, mine → (s.ptp p).pReq = some (n, t1) → (s.ptp p).pResp = some (k, t4, t2, c) →
        let d := ((t4 - t1) - (m.stamp - t2) - c - m.corr) / 2
        exec (.ptpPdelayRespFollowUpRx p m) z = .next (if n = m.seq.toNat ∧ k = m.seq.toNat then
          pdelayDone p (d - asymOf (s.ptp p).asym d) s else s))) ∧
    (∀ (d : Int) (u : State), (u.flow p).exchanges.length ≤ 16 →
      let l := (d.toNat :: (u.flow p).exchanges).take 16
      let t := pdelayDone p d u
      (t.flow p).exchanges = l ∧ (t.ptp p).meanLink = some ((l.sum : Int) / (l.length : Int)) ∧ (t.ptp p).pReq = none ∧ (t.ptp p).pResp = none ∧
      (t.flow p).measured = if 3 ≤ (u.flow p).exchanges.length then some ((l.sum : Int) / (l.length : Int)).toNat else (u.flow p).measured) ∧
    (∀ tc rc cg, (h 60).1 = true →
      let s := (h 60).2
      exec (.l1SyncTlvRx p tc rc cg) z = .next (if s.tim.time.profile = 1 ∧ (s.ptp p).l1sync = true ∧ ptpLive s p = true then
        modPtp p (fun q => { q with l1Up := tc && rc && cg }) s else s))
/-- Sent PTP messages, timeouts and withdrawals (R401, R402, R407, R408, R411, R412, R421): each message is sent only by a port whose PTP runs, in the state of its sender, with the next sequence number, waits in TC7 for the port's egress store, and changes nothing else but what awaits its answer; a timeout falls due its number of intervals after the last arrival, forgets what it timed and the parent's presence is judged again (R408), and one whose timer runs no more changes nothing (R33); an ANNOUNCE block is rewritten after the election; a run of refused samples that lasts withdraws its source for 10 ms. Where it rests on a reading or a choice of the model, that is log entries 84, 87, 88, 107, 116 and 123. -/
def Obligations.SentPtpMessagesAndTimeouts : Prop :=
  ∀ (p : Port) (s : State), s.held = false →
    let q := s.ptp p
    (∀ (k : Nat) (b : Bytes) (u : State),
      let t := ptpSend p k b u
      ((u.port p).isUp = false → t = u) ∧
      ((u.port p).isUp = true → t = { u with core := { u.core with fwQueue := t.core.fwQueue } } ∧
        t.core.fwQueue.get [] p = u.core.fwQueue.get [] p ++ [{ tc := 7, bytes := ptpLead u p ++ b, note := some (.ptp p k b) }])) ∧
    (∀ txc : Int,
      let t := txStamp s p txc
      let t1 := asTod s t
      let u := modPtp p (fun q => { q with seqSync := (q.seqSync + 1) % 65536 }) s
      ((ptpLive s p = false ∨ q.st ≠ .master ∨ s.clk.todSet = false) → exec (.ptpSyncTx p txc) s = .next s) ∧
      (ptpLive s p = true → q.st = .master → s.clk.todSet = true → q.oneStep = true → exec (.ptpSyncTx p txc) s =
        .next (ptpSend p 0 (ptpHeader u p 0 44 0 (subNs t1) q.seqSync q.logSync ++ ptpTime t1) u)) ∧
      (ptpLive s p = true → q.st = .master → s.clk.todSet = true → q.oneStep = false → exec (.ptpSyncTx p txc) s =
        .next (ptpSend p 8 (ptpHeader u p 8 44 0 (subNs t1) q.seqSync q.logSync ++ ptpTime t1)
          (ptpSend p 0 (ptpHeader u p 0 44 0x0200 0 q.seqSync q.logSync ++ zeros 10) u))) ∧
      ((ptpLive s p = false ∨ q.st ≠ .slave) → exec (.ptpDelayReqTx p txc) s = .next s) ∧
      (ptpLive s p = true → q.st = .slave → ∃ v b, exec (.ptpDelayReqTx p txc) s = .next (ptpSend p 1 b v) ∧ v = { s with tim := v.tim } ∧
        v.ptp p = { q with req := some (q.seqReq, t), seqReq := (q.seqReq + 1) % 65536 } ∧ b.length = 44) ∧
      ((ptpLive s p = false ∨ q.linkDelay = false) → exec (.ptpPdelayReqTx p txc) s = .next s) ∧
      (ptpLive s p = true → q.linkDelay = true → ∃ v b, exec (.ptpPdelayReqTx p txc) s = .next (ptpSend p 2 b v) ∧ v = { s with tim := v.tim } ∧
        v.ptp p = { q with pReq := some (q.seqPreq, t), pResp := none, seqPreq := (q.seqPreq + 1) % 65536 } ∧ b.length = 54)) ∧
    ((ptpLive s p = false ∨ q.st ≠ .master ∨ isTransparent s = true) → exec (.ptpAnnounceTx p) s = .next s) ∧
    (ptpLive s p = true → q.st = .master → isTransparent s = false → ∃ v b, exec (.ptpAnnounceTx p) s = .next (ptpSend p 11 (b ++ announceBody s) v) ∧
      v = { s with tim := v.tim } ∧ v.ptp p = { q with seqAnn := (q.seqAnn + 1) % 65536 } ∧ b.length = 34) ∧
    (ptpLive s p = false → exec (.announceReceiptTimeout p) s = .next s) ∧
    (ptpLive s p = true → exec (.announceReceiptTimeout p) s =
      .next (let w := if q.foreign = [] then s else advanceTo ((q.foreign.map (fun f => f.at1)).foldl max 0 + q.annTimeout * logTicks q.logAnnounce) s
             let u := modPtp p (fun q => { q with foreign := [], annLost := true }) w
             reelect (modPtp p (fun q => { q with got := portBest u p }) u))) ∧
    (q.syncAt = none → exec (.syncReceiptTimeout p) s = .next s) ∧
    (∀ t, q.syncAt = some t → exec (.syncReceiptTimeout p) s =
      .next (presence (modPtp p (fun q => { q with sync := none, syncAt := none }) (advanceTo (t + 3 * logTicks q.logSync) s)))) ∧
    (q.respAt = none → exec (.delayRespTimeout p) s = .next s) ∧
    (∀ t, q.respAt = some t → exec (.delayRespTimeout p) s =
      .next (presence (modPtp p (fun q => { q with respAt := none }) (advanceTo (t + 3 * logTicks q.logDelay) s)))) ∧
    (q.pairAt = none → exec (.offsetPairTimeout p) s = .next s) ∧
    (∀ t, q.pairAt = some t → exec (.offsetPairTimeout p) s =
      .next (presence (modPtp p (fun q => { q with pairAt := none }) (advanceTo (t + 16 * markTicks (s.port p).cfg.speed) s)))) ∧
    (((s.port p).cfg.dalom = false ∨ s.sys.mode = .safe) → exec (.announceBlockRewrite p) s = .next s) ∧
    ((s.port p).cfg.dalom = true → s.sys.mode ≠ .safe →
      let d := s.dlk p
      let a := annOfBlock d.partnerAnnounce ((d.partner.map (fun (r : CapRec) => r.clockId.toNat)).getD 0)
      let u := reelect (modPtp p (fun q => { q with got := if (s.port p).st = .active ∧ annAdmits s a = true then some a else none }) s)
      exec (.announceBlockRewrite p) s = .next (modDlk p (fun d => { d with announce := announceBlock u p }) u)) ∧
    (s.tim.time.run = none → exec .stepConfirmExpiry s = .next s) ∧
    (∀ r, s.tim.time.run = some r →
      let u := modTime (fun t => { t with run := none }) (advanceTo (r.since + s.tim.time.confirmMs * msTicks) s)
      exec .stepConfirmExpiry s = .next (refFail (sampleRef r.source) r.since
        (modRef (sampleRef r.source) (fun f => { f with absentUntil := some (u.clk.now + 10 * msTicks) }) u))) ∧
    (∀ k : Fin 3,
      let r := if k.val = 0 then 15 else 3 + k.val
      ((s.ref r).absentUntil = none → exec (.withdrawalEnd k) s = .next s) ∧
      (∀ t, (s.ref r).absentUntil = some t → exec (.withdrawalEnd k) s = .next (modRef r (fun f => { f with absentUntil := none }) (advanceTo t s))))
end

