-- ==== Sys2Proof/Laws/Exec.lean ====
section
/-! SUPPORT. The dispatch, one equation per command: what `exec` runs for it. No proof unfolds `exec` itself. -/

namespace Sys2Proof.Machine

theorem exec_powerOn (s : State) : exec .powerOn s = execPowerOn s := rfl

theorem exec_supplyReset (s : State) : exec .supplyReset s = execSupplyReset s := rfl

theorem exec_sysRstNAssert (s : State) : exec .sysRstNAssert s = execSysRstNAssert s := rfl

theorem exec_sysRstNRelease (straps : Fin 4) (s : State) : exec (.sysRstNRelease straps) s = execSysRstNRelease straps s := rfl

theorem exec_perstNAssert (s : State) : exec .perstNAssert s = execPerstNAssert s := rfl

theorem exec_perstNRelease (s : State) : exec .perstNRelease s = execPerstNRelease s := rfl

theorem exec_functionLevelReset (s : State) : exec .functionLevelReset s = execFunctionLevelReset s := rfl

theorem exec_d3hotEntry (s : State) : exec .d3hotEntry s = execD3hotEntry s := rfl

theorem exec_d0Return (s : State) : exec .d0Return s = execD0Return s := rfl

theorem exec_thermalTrip (tj : Int) (s : State) : exec (.thermalTrip tj) s = execThermalTrip tj s := rfl

theorem exec_thermtripRelease (peak : Int) (s : State) : exec (.thermtripRelease peak) s = execThermtripRelease peak s := rfl

theorem exec_resetAfterReply (s : State) : exec .resetAfterReply s = execResetAfterReply s := rfl

theorem exec_fatalInternalError (proc : Option (Fin 4)) (code addr : BitVec 32) (s : State) : exec (.fatalInternalError proc code addr) s = execFatalInternalError proc code addr s := rfl

theorem exec_xoInDetect (freq : XoCode) (s : State) : exec (.xoInDetect freq) s = execXoInDetect freq s := rfl

theorem exec_imageVerificationComplete (a : ImageFacts) (b : ImageFacts) (s : State) : exec (.imageVerificationComplete a b) s = execImageVerificationComplete a b s := rfl

theorem exec_firmwareAlive (s : State) : exec .firmwareAlive s = execFirmwareAlive s := rfl

theorem exec_fwStartFail (s : State) : exec .fwStartFail s = execFwStartFail s := rfl

theorem exec_supplyWarn (m : Meas) (s : State) : exec (.supplyWarn m) s = execSupplyWarn m s := rfl

theorem exec_supplyWarnClear (m : Meas) (s : State) : exec (.supplyWarnClear m) s = execSupplyWarnClear m s := rfl

theorem exec_nvInhibit (m : Meas) (s : State) : exec (.nvInhibit m) s = execNvInhibit m s := rfl

theorem exec_nvInhibitClear (m : Meas) (s : State) : exec (.nvInhibitClear m) s = execNvInhibitClear m s := rfl

theorem exec_supplyCriticalAux (m : Meas) (s : State) : exec (.supplyCriticalAux m) s = execSupplyCriticalAux m s := rfl

theorem exec_coreWarn (m : Meas) (s : State) : exec (.coreWarn m) s = execCoreWarn m s := rfl

theorem exec_coreWarnClear (m : Meas) (s : State) : exec (.coreWarnClear m) s = execCoreWarnClear m s := rfl

theorem exec_coreSag (m : Meas) (s : State) : exec (.coreSag m) s = execCoreSag m s := rfl

theorem exec_rideExit (m : Meas) (s : State) : exec (.rideExit m) s = execRideExit m s := rfl

theorem exec_supplyCriticalCore (m : Meas) (s : State) : exec (.supplyCriticalCore m) s = execSupplyCriticalCore m s := rfl

theorem exec_supplyCriticalClear (m : Meas) (s : State) : exec (.supplyCriticalClear m) s = execSupplyCriticalClear m s := rfl

theorem exec_thermalWarn (m : Meas) (s : State) : exec (.thermalWarn m) s = execThermalWarn m s := rfl

theorem exec_thermalWarnClear (m : Meas) (s : State) : exec (.thermalWarnClear m) s = execThermalWarnClear m s := rfl

theorem exec_thermalCritical (m : Meas) (s : State) : exec (.thermalCritical m) s = execThermalCritical m s := rfl

theorem exec_thermalCriticalClear (m : Meas) (s : State) : exec (.thermalCriticalClear m) s = execThermalCriticalClear m s := rfl

theorem exec_wakeComplete (regions : List (Nat × List Bytes)) (s : State) : exec (.wakeComplete regions) s = execWakeComplete regions s := rfl

theorem exec_commandDoorbell (pi : Byte) (packets : List Bytes) (s : State) : exec (.commandDoorbell pi packets) s = execCommandDoorbell pi packets s := rfl

theorem exec_mbxRplCiWrite (ci : Byte) (s : State) : exec (.mbxRplCiWrite ci) s = execMbxRplCiWrite ci s := rfl

theorem exec_mbxCtrlEnableWrite (v : BitVec 32) (s : State) : exec (.mbxCtrlEnableWrite v) s = execMbxCtrlEnableWrite v s := rfl

theorem exec_inbandCommandFrame (f : InbandFrame) (s : State) : exec (.inbandCommandFrame f) s = execInbandCommandFrame f s := rfl

theorem exec_sidebandWriteTransfer (bytes : Bytes) (s : State) : exec (.sidebandWriteTransfer bytes) s = execSidebandWriteTransfer bytes s := rfl

theorem exec_sidebandReadTransfer (s : State) : exec .sidebandReadTransfer s = execSidebandReadTransfer s := rfl

theorem exec_sidebandSclTimeout (s : State) : exec .sidebandSclTimeout s = execSidebandSclTimeout s := rfl

theorem exec_commandStartDeadline (t : Transport) (idx : Nat) (s : State) : exec (.commandStartDeadline t idx) s = execCommandStartDeadline t idx s := rfl

theorem exec_getStatus (g : Gcp) (s : State) : exec (.getStatus g) s = execGetStatus g s := rfl

theorem exec_getResetCause (g : Gcp) (s : State) : exec (.getResetCause g) s = execGetResetCause g s := rfl

theorem exec_setBootPolicy (g : Gcp) (s : State) : exec (.setBootPolicy g) s = execSetBootPolicy g s := rfl

theorem exec_enterProvision (g : Gcp) (s : State) : exec (.enterProvision g) s = execEnterProvision g s := rfl

theorem exec_commitConfig (g : Gcp) (s : State) : exec (.commitConfig g) s = execCommitConfig g s := rfl

theorem exec_enterMaintenance (g : Gcp) (s : State) : exec (.enterMaintenance g) s = execEnterMaintenance g s := rfl

theorem exec_enterQuiesce (g : Gcp) (s : State) : exec (.enterQuiesce g) s = execEnterQuiesce g s := rfl

theorem exec_quiesceDrainEnd (s : State) : exec .quiesceDrainEnd s = execQuiesceDrainEnd s := rfl

theorem exec_drainLimitExpiry (s : State) : exec .drainLimitExpiry s = execDrainLimitExpiry s := rfl

theorem exec_returnService (g : Gcp) (s : State) : exec (.returnService g) s = execReturnService g s := rfl

theorem exec_resetDevice (g : Gcp) (s : State) : exec (.resetDevice g) s = execResetDevice g s := rfl

theorem exec_setPowerState (g : Gcp) (s : State) : exec (.setPowerState g) s = execSetPowerState g s := rfl

theorem exec_avsConfig (g : Gcp) (s : State) : exec (.avsConfig g) s = execAvsConfig g s := rfl

theorem exec_deviceConfig (g : Gcp) (s : State) : exec (.deviceConfig g) s = execDeviceConfig g s := rfl

theorem exec_getSecurityStatus (g : Gcp) (s : State) : exec (.getSecurityStatus g) s = execGetSecurityStatus g s := rfl

theorem exec_takeOwnership (g : Gcp) (s : State) : exec (.takeOwnership g) s = execTakeOwnership g s := rfl

theorem exec_installKey (g : Gcp) (s : State) : exec (.installKey g) s = execInstallKey g s := rfl

theorem exec_revokeKey (g : Gcp) (s : State) : exec (.revokeKey g) s = execRevokeKey g s := rfl

theorem exec_setOwnerPolicy (g : Gcp) (s : State) : exec (.setOwnerPolicy g) s = execSetOwnerPolicy g s := rfl

theorem exec_lockDevice (g : Gcp) (s : State) : exec (.lockDevice g) s = execLockDevice g s := rfl

theorem exec_setMinVersion (g : Gcp) (s : State) : exec (.setMinVersion g) s = execSetMinVersion g s := rfl

theorem exec_retireDevice (g : Gcp) (s : State) : exec (.retireDevice g) s = execRetireDevice g s := rfl

theorem exec_debugChallenge (g : Gcp) (s : State) : exec (.debugChallenge g) s = execDebugChallenge g s := rfl

theorem exec_debugUnlock (g : Gcp) (s : State) : exec (.debugUnlock g) s = execDebugUnlock g s := rfl

theorem exec_debugClose (g : Gcp) (s : State) : exec (.debugClose g) s = execDebugClose g s := rfl

theorem exec_debugChallengeExpiry (s : State) : exec .debugChallengeExpiry s = execDebugChallengeExpiry s := rfl

theorem exec_debugSessionExpiry (s : State) : exec .debugSessionExpiry s = execDebugSessionExpiry s := rfl

theorem exec_portConfig (g : Gcp) (s : State) : exec (.portConfig g) s = execPortConfig g s := rfl

theorem exec_portSetState (g : Gcp) (s : State) : exec (.portSetState g) s = execPortSetState g s := rfl

theorem exec_portStatus (g : Gcp) (s : State) : exec (.portStatus g) s = execPortStatus g s := rfl

theorem exec_laneMap (g : Gcp) (s : State) : exec (.laneMap g) s = execLaneMap g s := rfl

theorem exec_laneTxEq (g : Gcp) (s : State) : exec (.laneTxEq g) s = execLaneTxEq g s := rfl

theorem exec_laneRxEq (g : Gcp) (s : State) : exec (.laneRxEq g) s = execLaneRxEq g s := rfl

theorem exec_laneStatus (g : Gcp) (s : State) : exec (.laneStatus g) s = execLaneStatus g s := rfl

theorem exec_laneTest (g : Gcp) (s : State) : exec (.laneTest g) s = execLaneTest g s := rfl

theorem exec_laneTestResult (g : Gcp) (s : State) : exec (.laneTestResult g) s = execLaneTestResult g s := rfl

theorem exec_laneTestDurationExpiry (p : Port) (s : State) : exec (.laneTestDurationExpiry p) s = execLaneTestDurationExpiry p s := rfl

theorem exec_dlkConfig (g : Gcp) (s : State) : exec (.dlkConfig g) s = execDlkConfig g s := rfl

theorem exec_dlkDelay (g : Gcp) (s : State) : exec (.dlkDelay g) s = execDlkDelay g s := rfl

theorem exec_dlkStatus (g : Gcp) (s : State) : exec (.dlkStatus g) s = execDlkStatus g s := rfl

theorem exec_classMap (g : Gcp) (s : State) : exec (.classMap g) s = execClassMap g s := rfl

theorem exec_flowControl (g : Gcp) (s : State) : exec (.flowControl g) s = execFlowControl g s := rfl

theorem exec_portDelay (g : Gcp) (s : State) : exec (.portDelay g) s = execPortDelay g s := rfl

theorem exec_losslessBudget (g : Gcp) (s : State) : exec (.losslessBudget g) s = execLosslessBudget g s := rfl

theorem exec_ecnConfig (g : Gcp) (s : State) : exec (.ecnConfig g) s = execEcnConfig g s := rfl

theorem exec_losslessStatus (g : Gcp) (s : State) : exec (.losslessStatus g) s = execLosslessStatus g s := rfl

theorem exec_moduleRead (g : Gcp) (s : State) : exec (.moduleRead g) s = execModuleRead g s := rfl

theorem exec_moduleWrite (g : Gcp) (s : State) : exec (.moduleWrite g) s = execModuleWrite g s := rfl

theorem exec_moduleControl (g : Gcp) (s : State) : exec (.moduleControl g) s = execModuleControl g s := rfl

theorem exec_moduleBus (g : Gcp) (s : State) : exec (.moduleBus g) s = execModuleBus g s := rfl

theorem exec_xoConfig (g : Gcp) (s : State) : exec (.xoConfig g) s = execXoConfig g s := rfl

theorem exec_refConfig (g : Gcp) (s : State) : exec (.refConfig g) s = execRefConfig g s := rfl

theorem exec_dpllConfig (g : Gcp) (s : State) : exec (.dpllConfig g) s = execDpllConfig g s := rfl

theorem exec_esmcConfig (g : Gcp) (s : State) : exec (.esmcConfig g) s = execEsmcConfig g s := rfl

theorem exec_jumpResolve (g : Gcp) (s : State) : exec (.jumpResolve g) s = execJumpResolve g s := rfl

theorem exec_refStatus (g : Gcp) (s : State) : exec (.refStatus g) s = execRefStatus g s := rfl

theorem exec_dpllStatus (g : Gcp) (s : State) : exec (.dpllStatus g) s = execDpllStatus g s := rfl

theorem exec_synBandTable (g : Gcp) (s : State) : exec (.synBandTable g) s = execSynBandTable g s := rfl

theorem exec_synConfig (g : Gcp) (s : State) : exec (.synConfig g) s = execSynConfig g s := rfl

theorem exec_outConfig (g : Gcp) (s : State) : exec (.outConfig g) s = execOutConfig g s := rfl

theorem exec_ppsConfig (g : Gcp) (s : State) : exec (.ppsConfig g) s = execPpsConfig g s := rfl

theorem exec_todConfig (g : Gcp) (s : State) : exec (.todConfig g) s = execTodConfig g s := rfl

theorem exec_clockStatus (g : Gcp) (s : State) : exec (.clockStatus g) s = execClockStatus g s := rfl

theorem exec_ptpClockConfig (g : Gcp) (s : State) : exec (.ptpClockConfig g) s = execPtpClockConfig g s := rfl

theorem exec_ptpPortConfig (g : Gcp) (s : State) : exec (.ptpPortConfig g) s = execPtpPortConfig g s := rfl

theorem exec_timeProperties (g : Gcp) (s : State) : exec (.timeProperties g) s = execTimeProperties g s := rfl

theorem exec_stepTime (g : Gcp) (s : State) : exec (.stepTime g) s = execStepTime g s := rfl

theorem exec_timeStatus (g : Gcp) (s : State) : exec (.timeStatus g) s = execTimeStatus g s := rfl

theorem exec_timePortStatus (g : Gcp) (s : State) : exec (.timePortStatus g) s = execTimePortStatus g s := rfl

theorem exec_traceReport (g : Gcp) (s : State) : exec (.traceReport g) s = execTraceReport g s := rfl

theorem exec_traceRead (g : Gcp) (s : State) : exec (.traceRead g) s = execTraceRead g s := rfl

theorem exec_tdePin (g : Gcp) (s : State) : exec (.tdePin g) s = execTdePin g s := rfl

theorem exec_tdeSource (g : Gcp) (s : State) : exec (.tdeSource g) s = execTdeSource g s := rfl

theorem exec_evConfig (g : Gcp) (s : State) : exec (.evConfig g) s = execEvConfig g s := rfl

theorem exec_intervalMeasure (g : Gcp) (s : State) : exec (.intervalMeasure g) s = execIntervalMeasure g s := rfl

theorem exec_statsRun (g : Gcp) (s : State) : exec (.statsRun g) s = execStatsRun g s := rfl

theorem exec_statsRead (g : Gcp) (s : State) : exec (.statsRead g) s = execStatsRead g s := rfl

theorem exec_tdeStatus (g : Gcp) (s : State) : exec (.tdeStatus g) s = execTdeStatus g s := rfl

theorem exec_poolConfig (g : Gcp) (s : State) : exec (.poolConfig g) s = execPoolConfig g s := rfl

theorem exec_bufThreshold (g : Gcp) (s : State) : exec (.bufThreshold g) s = execBufThreshold g s := rfl

theorem exec_poolStatus (g : Gcp) (s : State) : exec (.poolStatus g) s = execPoolStatus g s := rfl

theorem exec_stopBath (g : Gcp) (s : State) : exec (.stopBath g) s = execStopBath g s := rfl

theorem exec_stopBathHoldExpiry (h : Nat) (s : State) : exec (.stopBathHoldExpiry h) s = execStopBathHoldExpiry h s := rfl

theorem exec_egressSched (g : Gcp) (s : State) : exec (.egressSched g) s = execEgressSched g s := rfl

theorem exec_deadlockConfig (g : Gcp) (s : State) : exec (.deadlockConfig g) s = execDeadlockConfig g s := rfl

theorem exec_deadlockStatus (g : Gcp) (s : State) : exec (.deadlockStatus g) s = execDeadlockStatus g s := rfl

theorem exec_sliceAssign (g : Gcp) (s : State) : exec (.sliceAssign g) s = execSliceAssign g s := rfl

theorem exec_sliceReturn (g : Gcp) (s : State) : exec (.sliceReturn g) s = execSliceReturn g s := rfl

theorem exec_sliceStatus (g : Gcp) (s : State) : exec (.sliceStatus g) s = execSliceStatus g s := rfl

theorem exec_mcastGroup (g : Gcp) (s : State) : exec (.mcastGroup g) s = execMcastGroup g s := rfl

theorem exec_mcastConfig (g : Gcp) (s : State) : exec (.mcastConfig g) s = execMcastConfig g s := rfl

theorem exec_tableBulkLoad (g : Gcp) (s : State) : exec (.tableBulkLoad g) s = execTableBulkLoad g s := rfl

theorem exec_fence (g : Gcp) (s : State) : exec (.fence g) s = execFence g s := rfl

theorem exec_fenceLimitExpiry (h : Nat) (s : State) : exec (.fenceLimitExpiry h) s = execFenceLimitExpiry h s := rfl

theorem exec_tableShadow (g : Gcp) (s : State) : exec (.tableShadow g) s = execTableShadow g s := rfl

theorem exec_learnConfig (g : Gcp) (s : State) : exec (.learnConfig g) s = execLearnConfig g s := rfl

theorem exec_l2PortConfig (g : Gcp) (s : State) : exec (.l2PortConfig g) s = execL2PortConfig g s := rfl

theorem exec_fdbFlush (g : Gcp) (s : State) : exec (.fdbFlush g) s = execFdbFlush g s := rfl

theorem exec_tcamRebuild (g : Gcp) (s : State) : exec (.tcamRebuild g) s = execTcamRebuild g s := rfl

theorem exec_tableStatus (g : Gcp) (s : State) : exec (.tableStatus g) s = execTableStatus g s := rfl

theorem exec_negStatus (g : Gcp) (s : State) : exec (.negStatus g) s = execNegStatus g s := rfl

theorem exec_negRead (g : Gcp) (s : State) : exec (.negRead g) s = execNegRead g s := rfl

theorem exec_negExport (g : Gcp) (s : State) : exec (.negExport g) s = execNegExport g s := rfl

theorem exec_calSweep (g : Gcp) (s : State) : exec (.calSweep g) s = execCalSweep g s := rfl

theorem exec_calStatus (g : Gcp) (s : State) : exec (.calStatus g) s = execCalStatus g s := rfl

theorem exec_contactRestore (g : Gcp) (s : State) : exec (.contactRestore g) s = execContactRestore g s := rfl

theorem exec_contactStatus (g : Gcp) (s : State) : exec (.contactStatus g) s = execContactStatus g s := rfl

theorem exec_fwStatus (g : Gcp) (s : State) : exec (.fwStatus g) s = execFwStatus g s := rfl

theorem exec_fwUpdate (g : Gcp) (s : State) : exec (.fwUpdate g) s = execFwUpdate g s := rfl

theorem exec_fwData (g : Gcp) (s : State) : exec (.fwData g) s = execFwData g s := rfl

theorem exec_fwDataWaitExpiry (h : Nat) (s : State) : exec (.fwDataWaitExpiry h) s = execFwDataWaitExpiry h s := rfl

theorem exec_fwSectorWritten (h : Nat) (dma : Bytes) (read : ImageFacts) (s : State) : exec (.fwSectorWritten h dma read) s = execFwSectorWritten h dma read s := rfl

theorem exec_opQuery (g : Gcp) (s : State) : exec (.opQuery g) s = execOpQuery g s := rfl

theorem exec_opSuspend (g : Gcp) (s : State) : exec (.opSuspend g) s = execOpSuspend g s := rfl

theorem exec_opResume (g : Gcp) (s : State) : exec (.opResume g) s = execOpResume g s := rfl

theorem exec_opCancel (g : Gcp) (s : State) : exec (.opCancel g) s = execOpCancel g s := rfl

theorem exec_opCancelOutcome (h : Nat) (s : State) : exec (.opCancelOutcome h) s = execOpCancelOutcome h s := rfl

theorem exec_opUnrecoverableError (h : Nat) (e : OpError) (s : State) : exec (.opUnrecoverableError h e) s = execOpUnrecoverableError h e s := rfl

theorem exec_bulkRecordCommitted (h : Nat) (dma : Bytes) (s : State) : exec (.bulkRecordCommitted h dma) s = execBulkRecordCommitted h dma s := rfl

theorem exec_exportRecordCopied (h : Nat) (s : State) : exec (.exportRecordCopied h) s = execExportRecordCopied h s := rfl

theorem exec_tracePortRecordBuilt (h : Nat) (s : State) : exec (.tracePortRecordBuilt h) s = execTracePortRecordBuilt h s := rfl

theorem exec_idcode (s : State) : exec .idcode s = execIdcode s := rfl

theorem exec_bypass (s : State) : exec .bypass s = execBypass s := rfl

theorem exec_sample (pins : Bytes) (s : State) : exec (.sample pins) s = execSample pins s := rfl

theorem exec_preload (cells : Bytes) (s : State) : exec (.preload cells) s = execPreload cells s := rfl

theorem exec_extest (s : State) : exec .extest s = execExtest s := rfl

theorem exec_dbgTrace (n : Fin 4096) (s : State) : exec (.dbgTrace n) s = execDbgTrace n s := rfl

theorem exec_dbgRead (addr : BitVec 64) (s : State) : exec (.dbgRead addr) s = execDbgRead addr s := rfl

theorem exec_dbgWrite (addr : BitVec 64) (data : BitVec 32) (s : State) : exec (.dbgWrite addr data) s = execDbgWrite addr data s := rfl

theorem exec_dbgReset (s : State) : exec .dbgReset s = execDbgReset s := rfl

theorem exec_factoryTest (c : Fin 16) (s : State) : exec (.factoryTest c) s = execFactoryTest c s := rfl

theorem exec_testLogicReset (s : State) : exec .testLogicReset s = execTestLogicReset s := rfl

theorem exec_losAssert (l : Fin 256) (s : State) : exec (.losAssert l) s = execLosAssert l s := rfl

theorem exec_losClear (l : Fin 256) (s : State) : exec (.losClear l) s = execLosClear l s := rfl

theorem exec_lolAssert (l : Fin 256) (s : State) : exec (.lolAssert l) s = execLolAssert l s := rfl

theorem exec_lolClear (l : Fin 256) (s : State) : exec (.lolClear l) s = execLolClear l s := rfl

theorem exec_rxAdaptUpdate (l : Fin 256) (ctle : Fin 32) (dfe : List Int) (conv : Bool) (corrected : Nat) (offset : Int) (s : State) : exec (.rxAdaptUpdate l ctle dfe conv corrected offset) s = execRxAdaptUpdate l ctle dfe conv corrected offset s := rfl

theorem exec_ethModuleReady (p : Port) (s : State) : exec (.ethModuleReady p) s = execEthModuleReady p s := rfl

theorem exec_anComplete (p : Port) (s : State) : exec (.anComplete p) s = execAnComplete p s := rfl

theorem exec_ethTrainingComplete (p : Port) (taps : List (List Int)) (s : State) : exec (.ethTrainingComplete p taps) s = execEthTrainingComplete p taps s := rfl

theorem exec_maxWaitTimerExpiry (p : Port) (s : State) : exec (.maxWaitTimerExpiry p) s = execMaxWaitTimerExpiry p s := rfl

theorem exec_adaptConverged (p : Port) (s : State) : exec (.adaptConverged p) s = execAdaptConverged p s := rfl

theorem exec_adaptTimeout (p : Port) (s : State) : exec (.adaptTimeout p) s = execAdaptTimeout p s := rfl

theorem exec_alignLock (p : Port) (lat : List (Nat × Nat)) (s : State) : exec (.alignLock p lat) s = execAlignLock p lat s := rfl

theorem exec_alignTimeout (p : Port) (s : State) : exec (.alignTimeout p) s = execAlignTimeout p s := rfl

theorem exec_moduleRemoved (p : Port) (s : State) : exec (.moduleRemoved p) s = execModuleRemoved p s := rfl

theorem exec_alignLoss (p : Port) (s : State) : exec (.alignLoss p) s = execAlignLoss p s := rfl

theorem exec_hiBer (p : Port) (s : State) : exec (.hiBer p) s = execHiBer p s := rfl

theorem exec_faultReceived (p : Port) (s : State) : exec (.faultReceived p) s = execFaultReceived p s := rfl

theorem exec_faultEnd (m : UpMeasure) (s : State) : exec (.faultEnd m) s = execFaultEnd m s := rfl

theorem exec_ethBackoffExpiry (p : Port) (s : State) : exec (.ethBackoffExpiry p) s = execEthBackoffExpiry p s := rfl

theorem exec_dlkModuleReady (p : Port) (s : State) : exec (.dlkModuleReady p) s = execDlkModuleReady p s := rfl

theorem exec_dlkTrainingComplete (p : Port) (s : State) : exec (.dlkTrainingComplete p) s = execDlkTrainingComplete p s := rfl

theorem exec_dlkTrainTimeout (p : Port) (half : Bool) (s : State) : exec (.dlkTrainTimeout p half) s = execDlkTrainTimeout p half s := rfl

theorem exec_dlkLanesLocked (p : Port) (locked : BitVec 4) (s : State) : exec (.dlkLanesLocked p locked) s = execDlkLanesLocked p locked s := rfl

theorem exec_dlkLockTimeout (p : Port) (locked : BitVec 4) (s : State) : exec (.dlkLockTimeout p locked) s = execDlkLockTimeout p locked s := rfl

theorem exec_dlkExchangeTimeout (p : Port) (s : State) : exec (.dlkExchangeTimeout p) s = execDlkExchangeTimeout p s := rfl

theorem exec_dlkBackoffExpiry (p : Port) (s : State) : exec (.dlkBackoffExpiry p) s = execDlkBackoffExpiry p s := rfl

theorem exec_dlkSlot (p : Port) (deps : List Int) (s : State) : exec (.dlkSlot p deps) s = execDlkSlot p deps s := rfl

theorem exec_dlkCapExchangeTx (p : Port) (s : State) : exec (.dlkCapExchangeTx p) s = execDlkCapExchangeTx p s := rfl

theorem exec_shutterMarkArrival (p : Port) (l : Fin 4) (index : BitVec 48) (raw : Int) (s : State) : exec (.shutterMarkArrival p l index raw) s = execShutterMarkArrival p l index raw s := rfl

theorem exec_tileLost (p : Port) (l : Fin 4) (pos : Fin 1024) (mark : Bool) (stuffed : Nat) (stuffBad : Nat) (s : State) : exec (.tileLost p l pos mark stuffed stuffBad) s = execTileLost p l pos mark stuffed stuffBad s := rfl

theorem exec_dlkDataTileRx (p : Port) (t : DlkTile) (s : State) : exec (.dlkDataTileRx p t) s = execDlkDataTileRx p t s := rfl

theorem exec_dlkIdleTileRx (p : Port) (t : DlkTile) (s : State) : exec (.dlkIdleTileRx p t) s = execDlkIdleTileRx p t s := rfl

theorem exec_dlkCreditTileRx (p : Port) (t : DlkTile) (s : State) : exec (.dlkCreditTileRx p t) s = execDlkCreditTileRx p t s := rfl

theorem exec_dlkAbortTileRx (p : Port) (t : DlkTile) (s : State) : exec (.dlkAbortTileRx p t) s = execDlkAbortTileRx p t s := rfl

theorem exec_dlkTimeTileRx (p : Port) (t : DlkTile) (s : State) : exec (.dlkTimeTileRx p t) s = execDlkTimeTileRx p t s := rfl

theorem exec_dlkTrainTileRx (p : Port) (t : DlkTile) (eye : Bool) (tap : Fin 7) (action : Fin 3) (s : State) : exec (.dlkTrainTileRx p t eye tap action) s = execDlkTrainTileRx p t eye tap action s := rfl

theorem exec_dlkCapExchangeRx (p : Port) (t : DlkTile) (s : State) : exec (.dlkCapExchangeRx p t) s = execDlkCapExchangeRx p t s := rfl

theorem exec_dlkCapLaneStateRx (p : Port) (t : DlkTile) (s : State) : exec (.dlkCapLaneStateRx p t) s = execDlkCapLaneStateRx p t s := rfl

theorem exec_dlkCapDelayUpdateRx (p : Port) (t : DlkTile) (s : State) : exec (.dlkCapDelayUpdateRx p t) s = execDlkCapDelayUpdateRx p t s := rfl

theorem exec_dlkCapLaneTrainRx (p : Port) (t : DlkTile) (s : State) : exec (.dlkCapLaneTrainRx p t) s = execDlkCapLaneTrainRx p t s := rfl

theorem exec_laneRetry (p : Port) (l : Fin 4) (s : State) : exec (.laneRetry p l) s = execLaneRetry p l s := rfl

theorem exec_dlkLaneRelock (p : Port) (l : Fin 4) (s : State) : exec (.dlkLaneRelock p l) s = execDlkLaneRelock p l s := rfl

theorem exec_sgpioScan (inputs : BitVec 128) (s : State) : exec (.sgpioScan inputs) s = execSgpioScan inputs s := rfl

theorem exec_resetlRelease (p : Port) (s : State) : exec (.resetlRelease p) s = execResetlRelease p s := rfl

theorem exec_moduleInitComplete (p : Port) (app : ModuleInit) (cmis : Byte) (s : State) : exec (.moduleInitComplete p app cmis) s = execModuleInitComplete p app cmis s := rfl

theorem exec_moduleIntl (p : Port) (flags : BitVec 32) (cmis : Byte) (ready : ModuleWorks) (s : State) : exec (.moduleIntl p flags cmis ready) s = execModuleIntl p flags cmis ready s := rfl

theorem exec_moduleFlagPoll (p : Port) (flags : BitVec 32) (cmis : Byte) (ready : ModuleWorks) (s : State) : exec (.moduleFlagPoll p flags cmis ready) s = execModuleFlagPoll p flags cmis ready s := rfl

theorem exec_frameGrantPoint (p : Port) (head : Bytes) (upsets : List (Nat × Byte)) (s : State) : exec (.frameGrantPoint p head upsets) s = execFrameGrantPoint p head upsets s := rfl

theorem exec_cacheRefillDone (p : Fin 6) (s : State) : exec (.cacheRefillDone p) s = execCacheRefillDone p s := rfl

theorem exec_cacheSpillDone (p : Fin 6) (s : State) : exec (.cacheSpillDone p) s = execCacheSpillDone p s := rfl

theorem exec_frameEnd (p : Port) (rest : Bytes) (s : State) : exec (.frameEnd p rest) s = execFrameEnd p rest s := rfl

theorem exec_frameLookup (p : Port) (tokens : Nat) (faults : List (Nat × Nat)) (corrected : Nat) (s : State) : exec (.frameLookup p tokens faults corrected) s = execFrameLookup p tokens faults corrected s := rfl

theorem exec_qmResultArrival (sl : Slice) (p : Port) (epoch : Fin 16) (more : Bytes) (s : State) : exec (.qmResultArrival sl p epoch more) s = execQmResultArrival sl p epoch more s := rfl

theorem exec_crossbarRound (upsets : List (Nat × Byte)) (s : State) : exec (.crossbarRound upsets) s = execCrossbarRound upsets s := rfl

theorem exec_egressFrameSelect (p : Port) (s : State) : exec (.egressFrameSelect p) s = execEgressFrameSelect p s := rfl

theorem exec_pfcFrameRx (p : Port) (vec : Byte) (times : List (BitVec 16)) (s : State) : exec (.pfcFrameRx p vec times) s = execPfcFrameRx p vec times s := rfl

theorem exec_pauseFrameRx (p : Port) (quanta : BitVec 16) (s : State) : exec (.pauseFrameRx p quanta) s = execPauseFrameRx p quanta s := rfl

theorem exec_rxPauseExpiry (p : Port) (c : TC) (s : State) : exec (.rxPauseExpiry p c) s = execRxPauseExpiry p c s := rfl

theorem exec_pfcRepeatTimer (p : Port) (c : TC) (s : State) : exec (.pfcRepeatTimer p c) s = execPfcRepeatTimer p c s := rfl

theorem exec_trapFrameDelivery (c : TC) (s : State) : exec (.trapFrameDelivery c) s = execTrapFrameDelivery c s := rfl

theorem exec_injectFrameDone (c : TC) (s : State) : exec (.injectFrameDone c) s = execInjectFrameDone c s := rfl

theorem exec_readIndex (w : Fin 18) (t : Fin 16) (s : State) : exec (.readIndex w t) s = execReadIndex w t s := rfl

theorem exec_writeIndex (w : Fin 18) (t : Fin 16) (s : State) : exec (.writeIndex w t) s = execWriteIndex w t s := rfl

theorem exec_insert (w : Fin 18) (t : Fin 16) (s : State) : exec (.insert w t) s = execInsert w t s := rfl

theorem exec_delete (w : Fin 18) (t : Fin 16) (s : State) : exec (.delete w t) s = execDelete w t s := rfl

theorem exec_search (w : Fin 18) (t : Fin 16) (s : State) : exec (.search w t) s = execSearch w t s := rfl

theorem exec_clearHit (w : Fin 18) (t : Fin 16) (s : State) : exec (.clearHit w t) s = execClearHit w t s := rfl

theorem exec_tawPortGrant (w : Fin 18) (s : State) : exec (.tawPortGrant w) s = execTawPortGrant w s := rfl

theorem exec_tawStartLimitExpiry (w : Fin 18) (s : State) : exec (.tawStartLimitExpiry w) s = execTawStartLimitExpiry w s := rfl

theorem exec_ageingSweepVisit (sl : Slice) (ix : Nat) (s : State) : exec (.ageingSweepVisit sl ix) s = execAgeingSweepVisit sl ix s := rfl

theorem exec_tcamScrub (sl : Slice) (lpm : List Nat) (cls : List (Nat × Bytes)) (s : State) : exec (.tcamScrub sl lpm cls) s = execTcamScrub sl lpm cls s := rfl

theorem exec_tcamRebuildDone (sl : Slice) (s : State) : exec (.tcamRebuildDone sl) s = execTcamRebuildDone sl s := rfl

theorem exec_tcamSelftestDone (sl : Slice) (failing : List Nat) (s : State) : exec (.tcamSelftestDone sl failing) s = execTcamSelftestDone sl failing s := rfl

theorem exec_shadowCompareRead (t : Fin 7) (r : Bytes) (s : State) : exec (.shadowCompareRead t r) s = execShadowCompareRead t r s := rfl

theorem exec_watchdogWindowEnd (sl : Slice) (stalled : Bool) (s : State) : exec (.watchdogWindowEnd sl stalled) s = execWatchdogWindowEnd sl stalled s := rfl

theorem exec_sliceTakeover (s : State) : exec .sliceTakeover s = execSliceTakeover s := rfl

theorem exec_deadlockSuspect (p : Port) (c : TC) (s : State) : exec (.deadlockSuspect p c) s = execDeadlockSuspect p c s := rfl

theorem exec_avsLoopTick (ok : Bool) (pace : List (Nat × Nat × Nat)) (s : State) : exec (.avsLoopTick ok pace) s = execAvsLoopTick ok pace s := rfl

theorem exec_avsbusRetry (ok : Bool) (s : State) : exec (.avsbusRetry ok) s = execAvsbusRetry ok s := rfl

theorem exec_xoLost (s : State) : exec .xoLost s = execXoLost s := rfl

theorem exec_xoRestored (s : State) : exec .xoRestored s = execXoRestored s := rfl

theorem exec_xoRdyChange (level : Bool) (s : State) : exec (.xoRdyChange level) s = execXoRdyChange level s := rfl

theorem exec_warmHoldExpiry (spread : Nat) (s : State) : exec (.warmHoldExpiry spread) s = execWarmHoldExpiry spread s := rfl

theorem exec_refActivityFailure (r : Fin 14) (s : State) : exec (.refActivityFailure r) s = execRefActivityFailure r s := rfl

theorem exec_freqMonitorUpdate (r : Fin 15) (act : Bool) (offset : Int) (slope : Int) (s : State) : exec (.freqMonitorUpdate r act offset slope) s = execFreqMonitorUpdate r act offset slope s := rfl

theorem exec_driftClearExpiry (r : Fin 15) (s : State) : exec (.driftClearExpiry r) s = execDriftClearExpiry r s := rfl

theorem exec_qualificationTimerExpiry (r : Fin 15) (s : State) : exec (.qualificationTimerExpiry r) s = execQualificationTimerExpiry r s := rfl

theorem exec_selectionTick (loops : List (Int × Int)) (src : Int) (s : State) : exec (.selectionTick loops src) s = execSelectionTick loops src s := rfl

theorem exec_dpllLockDwellExpiry (d : Fin 4) (s : State) : exec (.dpllLockDwellExpiry d) s = execDpllLockDwellExpiry d s := rfl

theorem exec_dpllUnlock (d : Fin 4) (s : State) : exec (.dpllUnlock d) s = execDpllUnlock d s := rfl

theorem exec_bandwidthNarrowStep (d : Fin 4) (s : State) : exec (.bandwidthNarrowStep d) s = execBandwidthNarrowStep d s := rfl

theorem exec_frequencyLock (o : Int) (s : State) : exec (.frequencyLock o) s = execFrequencyLock o s := rfl

theorem exec_slewComplete (s : State) : exec .slewComplete s = execSlewComplete s := rfl

theorem exec_ppsinPulse (ix : Fin 2) (capture : Int) (s : State) : exec (.ppsinPulse ix capture) s = execPpsinPulse ix capture s := rfl

theorem exec_todRxMessage (b : Bytes) (late : Bool) (s : State) : exec (.todRxMessage b late) s = execTodRxMessage b late s := rfl

theorem exec_esmcPduRx (p : Port) (ssm : Byte) (essm : Byte) (s : State) : exec (.esmcPduRx p ssm essm) s = execEsmcPduRx p ssm essm s := rfl

theorem exec_esmcTimeout (p : Port) (s : State) : exec (.esmcTimeout p) s = execEsmcTimeout p s := rfl

theorem exec_esmcInfoTx (p : Port) (s : State) : exec (.esmcInfoTx p) s = execEsmcInfoTx p s := rfl

theorem exec_ptpSyncRx (p : Port) (m : PtpMsg) (s : State) : exec (.ptpSyncRx p m) s = execPtpSyncRx p m s := rfl

theorem exec_ptpFollowUpRx (p : Port) (m : PtpMsg) (s : State) : exec (.ptpFollowUpRx p m) s = execPtpFollowUpRx p m s := rfl

theorem exec_ptpDelayReqRx (p : Port) (m : PtpMsg) (s : State) : exec (.ptpDelayReqRx p m) s = execPtpDelayReqRx p m s := rfl

theorem exec_ptpDelayRespRx (p : Port) (m : PtpMsg) (s : State) : exec (.ptpDelayRespRx p m) s = execPtpDelayRespRx p m s := rfl

theorem exec_ptpAnnounceRx (p : Port) (m : PtpMsg) (a : PtpAnnounce) (s : State) : exec (.ptpAnnounceRx p m a) s = execPtpAnnounceRx p m a s := rfl

theorem exec_ptpPdelayReqRx (p : Port) (m : PtpMsg) (txc : Int) (s : State) : exec (.ptpPdelayReqRx p m txc) s = execPtpPdelayReqRx p m txc s := rfl

theorem exec_ptpPdelayRespRx (p : Port) (m : PtpMsg) (s : State) : exec (.ptpPdelayRespRx p m) s = execPtpPdelayRespRx p m s := rfl

theorem exec_ptpPdelayRespFollowUpRx (p : Port) (m : PtpMsg) (s : State) : exec (.ptpPdelayRespFollowUpRx p m) s = execPtpPdelayRespFollowUpRx p m s := rfl

theorem exec_l1SyncTlvRx (p : Port) (txCoherent : Bool) (rxCoherent : Bool) (congruent : Bool) (s : State) : exec (.l1SyncTlvRx p txCoherent rxCoherent congruent) s = execL1SyncTlvRx p txCoherent rxCoherent congruent s := rfl

theorem exec_ptpUnsupportedRx (p : Port) (s : State) : exec (.ptpUnsupportedRx p) s = execPtpUnsupportedRx p s := rfl

theorem exec_ptpSyncTx (p : Port) (txc : Int) (s : State) : exec (.ptpSyncTx p txc) s = execPtpSyncTx p txc s := rfl

theorem exec_ptpAnnounceTx (p : Port) (s : State) : exec (.ptpAnnounceTx p) s = execPtpAnnounceTx p s := rfl

theorem exec_ptpDelayReqTx (p : Port) (txc : Int) (s : State) : exec (.ptpDelayReqTx p txc) s = execPtpDelayReqTx p txc s := rfl

theorem exec_ptpPdelayReqTx (p : Port) (txc : Int) (s : State) : exec (.ptpPdelayReqTx p txc) s = execPtpPdelayReqTx p txc s := rfl

theorem exec_announceReceiptTimeout (p : Port) (s : State) : exec (.announceReceiptTimeout p) s = execAnnounceReceiptTimeout p s := rfl

theorem exec_syncReceiptTimeout (p : Port) (s : State) : exec (.syncReceiptTimeout p) s = execSyncReceiptTimeout p s := rfl

theorem exec_delayRespTimeout (p : Port) (s : State) : exec (.delayRespTimeout p) s = execDelayRespTimeout p s := rfl

theorem exec_offsetPairTimeout (p : Port) (s : State) : exec (.offsetPairTimeout p) s = execOffsetPairTimeout p s := rfl

theorem exec_announceBlockRewrite (p : Port) (s : State) : exec (.announceBlockRewrite p) s = execAnnounceBlockRewrite p s := rfl

theorem exec_stepConfirmExpiry (s : State) : exec .stepConfirmExpiry s = execStepConfirmExpiry s := rfl

theorem exec_withdrawalEnd (k : Fin 3) (s : State) : exec (.withdrawalEnd k) s = execWithdrawalEnd k s := rfl

theorem exec_ppsSecondBoundary (m0 : Int) (m1 : Int) (s : State) : exec (.ppsSecondBoundary m0 m1) s = execPpsSecondBoundary m0 m1 s := rfl

theorem exec_ppsWidthEnd (n : Fin 2) (s : State) : exec (.ppsWidthEnd n) s = execPpsWidthEnd n s := rfl

theorem exec_todTxStart (s : State) : exec .todTxStart s = execTodTxStart s := rfl

theorem exec_rebandCheck (ix : Fin 2) (s : State) : exec (.rebandCheck ix) s = execRebandCheck ix s := rfl

theorem exec_synthLockLoss (ix : Fin 7) (s : State) : exec (.synthLockLoss ix) s = execSynthLockLoss ix s := rfl

theorem exec_sourceSettled (ix : Fin 7) (s : State) : exec (.sourceSettled ix) s = execSourceSettled ix s := rfl

theorem exec_tdeVisitSlot (e : Fin 8) (c : Fin 82) (found : List (Int × Int × Bool)) (s : State) : exec (.tdeVisitSlot e c found) s = execTdeVisitSlot e c found s := rfl

theorem exec_tdeEdge (c : Fin 82) (stamp : Int) (coarse : Int) (tx : Bool) (s : State) : exec (.tdeEdge c stamp coarse tx) s = execTdeEdge c stamp coarse tx s := rfl

theorem exec_tdeClaimGrant (e : Fin 8) (s : State) : exec (.tdeClaimGrant e) s = execTdeClaimGrant e s := rfl

theorem exec_measurementWindowClose (e : Fin 8) (s : State) : exec (.measurementWindowClose e) s = execMeasurementWindowClose e s := rfl

theorem exec_statsStartWaitExpiry (e : Fin 8) (s : State) : exec (.statsStartWaitExpiry e) s = execStatsStartWaitExpiry e s := rfl

theorem exec_calStep (ix : Fin 356) (ok : Bool) (ws : List (Nat × Nat)) (s : State) : exec (.calStep ix ok ws) s = execCalStep ix ok ws s := rfl

theorem exec_calNoGapExpiry (ix : Fin 356) (s : State) : exec (.calNoGapExpiry ix) s = execCalNoGapExpiry ix s := rfl

theorem exec_delayPublication (s : State) : exec .delayPublication s = execDelayPublication s := rfl

theorem exec_calApply (ix : Fin 356) (s : State) : exec (.calApply ix) s = execCalApply ix s := rfl

theorem exec_calRestart (ix : Fin 356) (s : State) : exec (.calRestart ix) s = execCalRestart ix s := rfl

theorem exec_statPeriod (s : State) : exec .statPeriod s = execStatPeriod s := rfl

theorem exec_statSnap (s : State) : exec .statSnap s = execStatSnap s := rfl

theorem exec_tsuSnap (s : State) : exec .tsuSnap s = execTsuSnap s := rfl

theorem exec_irqCauseWrite (w : Fin 4) (v : BitVec 32) (s : State) : exec (.irqCauseWrite w v) s = execIrqCauseWrite w v s := rfl

theorem exec_irqHoldoffExpiry (v : Fin 64) (s : State) : exec (.irqHoldoffExpiry v) s = execIrqHoldoffExpiry v s := rfl

theorem exec_irqEvqCiWrite (ci : BitVec 16) (s : State) : exec (.irqEvqCiWrite ci) s = execIrqEvqCiWrite ci s := rfl

theorem exec_irqEvqArm (s : State) : exec .irqEvqArm s = execIrqEvqArm s := rfl

theorem exec_irqEvqLostRead (s : State) : exec .irqEvqLostRead s = execIrqEvqLostRead s := rfl

theorem exec_pacDropsLoRead (sl : Slice) (s : State) : exec (.pacDropsLoRead sl) s = execPacDropsLoRead sl s := rfl

theorem exec_trapHostIdxWrite (c : TC) (idx : BitVec 16) (ds : List Bytes) (s : State) : exec (.trapHostIdxWrite c idx ds) s = execTrapHostIdxWrite c idx ds s := rfl

theorem exec_injectHostIdxWrite (c : TC) (idx : BitVec 16) (ds : List (Bytes × Bytes)) (s : State) : exec (.injectHostIdxWrite c idx ds) s = execInjectHostIdxWrite c idx ds s := rfl

theorem exec_cpuRingEnableWrite (trap : Bool) (c : TC) (en : Bool) (s : State) : exec (.cpuRingEnableWrite trap c en) s = execCpuRingEnableWrite trap c en s := rfl

theorem exec_registerWrite (bar2 : Bool) (off : BitVec 24) (v : BitVec 32) (s : State) : exec (.registerWrite bar2 off v) s = execRegisterWrite bar2 off v s := rfl

theorem exec_holdoverSpecExpiry (s : State) : exec .holdoverSpecExpiry s = execHoldoverSpecExpiry s := rfl

theorem exec_bridgedChangeBack (n : Fin 8) (s : State) : exec (.bridgedChangeBack n) s = execBridgedChangeBack n s := rfl

theorem exec_stopBathFrameDrained (h : Nat) (s : State) : exec (.stopBathFrameDrained h) s = execStopBathFrameDrained h s := rfl

theorem exec_laneRetryBackoffExpiry (p : Port) (l : Fin 4) (s : State) : exec (.laneRetryBackoffExpiry p l) s = execLaneRetryBackoffExpiry p l s := rfl

theorem exec_contactSheetSaveDone (h : Nat) (s : State) : exec (.contactSheetSaveDone h) s = execContactSheetSaveDone h s := rfl

end Sys2Proof.Machine
end

