-- ==== Sys2Proof/Laws/Tab.lean ====
section
/-! SUPPORT. Laws of sparse tables: a read after a write, and the canonical form kept by every write. -/

namespace Sys2Proof

variable {α : Type}

/-- A read is the listed entry, or the default. -/
theorem tab_get_eq_find (d : α) (t : Tab α) (k : Nat) : t.get d k = (t.find? k).getD d := by
  induction t with
  | nil => rfl
  | cons e t ih => obtain ⟨j, v⟩ := e; simp only [Tab.get, Tab.find?]; split <;> simp_all

@[simp] theorem tab_find_set_same (t : Tab α) (k : Nat) (v : α) : (t.set k v).find? k = some v := by
  induction t with
  | nil => simp [Tab.set, Tab.find?]
  | cons e t ih =>
    obtain ⟨j, w⟩ := e
    simp only [Tab.set]
    split
    · simp [Tab.find?]
    · split
      · simp [Tab.find?]
      · simp_all [Tab.find?]

@[simp] theorem tab_find_set_other (t : Tab α) {j k : Nat} (v : α) (h : j ≠ k) : (t.set k v).find? j = t.find? j := by
  induction t with
  | nil => simp [Tab.set, Tab.find?, h]
  | cons e t ih =>
    obtain ⟨i, w⟩ := e
    simp only [Tab.set]
    split
    · simp [Tab.find?, h]
    · split
      · subst_vars; simp [Tab.find?, h]
      · simp [Tab.find?, ih]

@[simp] theorem tab_get_set_same (d : α) (t : Tab α) (k : Nat) (v : α) : (t.set k v).get d k = v := by
  simp [tab_get_eq_find]

@[simp] theorem tab_get_set_other (d : α) (t : Tab α) {j k : Nat} (v : α) (h : j ≠ k) :
    (t.set k v).get d j = t.get d j := by
  simp [tab_get_eq_find, h]

@[simp] theorem tab_get_modify_same (d : α) (t : Tab α) (k : Nat) (f : α → α) :
    (t.modify d k f).get d k = f (t.get d k) := by
  simp [Tab.modify]

@[simp] theorem tab_get_modify_other (d : α) (t : Tab α) {j k : Nat} (f : α → α) (h : j ≠ k) :
    (t.modify d k f).get d j = t.get d j := by
  simp [Tab.modify, h]

/-- A second write to the same key replaces the first. -/
@[simp] theorem tab_set_set (t : Tab α) (k : Nat) (v w : α) : (t.set k v).set k w = t.set k w := by
  induction t with
  | nil => simp [Tab.set]
  | cons e t ih =>
    obtain ⟨j, u⟩ := e
    simp only [Tab.set]
    split
    · simp [Tab.set]
    · split
      · simp [Tab.set]
      · next h1 h2 => simp [Tab.set, h1, h2, ih]

@[simp] theorem tab_modify_modify (d : α) (t : Tab α) (k : Nat) (f g : α → α) :
    (t.modify d k f).modify d k g = t.modify d k (fun x => g (f x)) := by
  simp [Tab.modify]

/-- A read of a modified table, at any key. -/
theorem tab_get_modify (d : α) (t : Tab α) (j k : Nat) (f : α → α) :
    (t.modify d k f).get d j = if j = k then f (t.get d k) else t.get d j := by
  split
  · subst_vars; simp
  · next h => simp [h]

theorem tab_find_erase_other (t : Tab α) {j k : Nat} (h : j ≠ k) : (t.erase k).find? j = t.find? j := by
  induction t with
  | nil => rfl
  | cons e t ih =>
    obtain ⟨i, w⟩ := e
    simp only [Tab.erase]
    split
    · subst_vars; simp [Tab.find?, h]
    · simp [Tab.find?, ih]

/-- A table that rises from a bound lists no smaller key. -/
theorem tab_find_below {lo : Nat} {t : Tab α} (h : t.risingFrom lo) {k : Nat} (hk : k < lo) : t.find? k = none := by
  induction t generalizing lo with
  | nil => rfl
  | cons e t ih =>
    obtain ⟨j, v⟩ := e
    simp only [Tab.risingFrom, Bool.and_eq_true, decide_eq_true_eq] at h
    simp only [Tab.find?]
    rw [if_neg (by omega)]
    exact ih h.2 (by omega)

theorem tab_find_erase_same {t : Tab α} (h : t.wf) (k : Nat) : (t.erase k).find? k = none := by
  have gen : ∀ lo, t.risingFrom lo → (t.erase k).find? k = none := by
    clear h
    induction t with
    | nil => intro _ _; rfl
    | cons e t ih =>
      obtain ⟨j, v⟩ := e
      intro lo h
      simp only [Tab.risingFrom, Bool.and_eq_true, decide_eq_true_eq] at h
      simp only [Tab.erase]
      split
      · subst_vars; exact tab_find_below h.2 (by omega)
      · next hk => simp only [Tab.find?, if_neg hk]; exact ih _ h.2
  exact gen 0 h

theorem tab_rising_set {lo : Nat} {t : Tab α} (h : t.risingFrom lo) {k : Nat} (hk : lo ≤ k) (v : α) :
    (t.set k v).risingFrom lo := by
  induction t generalizing lo with
  | nil => simpa [Tab.set, Tab.risingFrom] using hk
  | cons e t ih =>
    obtain ⟨j, w⟩ := e
    simp only [Tab.risingFrom, Bool.and_eq_true, decide_eq_true_eq] at h
    simp only [Tab.set]
    split
    · next hj => simp only [Tab.risingFrom, Bool.and_eq_true, decide_eq_true_eq]; exact ⟨hk, by omega, h.2⟩
    · split
      · subst_vars; simpa [Tab.risingFrom] using h
      · simp only [Tab.risingFrom, Bool.and_eq_true, decide_eq_true_eq]; exact ⟨h.1, ih h.2 (by omega)⟩

theorem tab_rising_mono {lo hi : Nat} (hl : lo ≤ hi) {t : Tab α} (h : t.risingFrom hi) : t.risingFrom lo := by
  cases t with
  | nil => rfl
  | cons e t =>
    simp only [Tab.risingFrom, Bool.and_eq_true, decide_eq_true_eq] at h ⊢
    exact ⟨by omega, h.2⟩

theorem tab_rising_erase {lo : Nat} {t : Tab α} (h : t.risingFrom lo) (k : Nat) : (t.erase k).risingFrom lo := by
  induction t generalizing lo with
  | nil => rfl
  | cons e t ih =>
    obtain ⟨j, w⟩ := e
    simp only [Tab.risingFrom, Bool.and_eq_true, decide_eq_true_eq] at h
    simp only [Tab.erase]
    split
    · exact tab_rising_mono (by omega) h.2
    · simp only [Tab.risingFrom, Bool.and_eq_true, decide_eq_true_eq]; exact ⟨h.1, ih h.2⟩

/-- Every write keeps the canonical form. -/
theorem tab_wf_set {t : Tab α} (h : t.wf) (k : Nat) (v : α) : (t.set k v).wf :=
  tab_rising_set h (Nat.zero_le k) v

theorem tab_wf_erase {t : Tab α} (h : t.wf) (k : Nat) : (t.erase k).wf := tab_rising_erase h k

theorem tab_wf_modify (d : α) {t : Tab α} (h : t.wf) (k : Nat) (f : α → α) : (t.modify d k f).wf :=
  tab_wf_set h k _

end Sys2Proof
end

