-- ==== Sys2Proof/Laws/State.lean ====
section
/-! SUPPORT. What each named update of the state does to each field: one lemma per field and update, so that no proof unfolds a record update; and a read after a write for each record of a table. -/

namespace Sys2Proof.Machine

variable (s : State)

/-! ### State.send -/

@[simp] theorem send_clk (o : Out) : (s.send o).clk = s.clk := rfl
@[simp] theorem send_sys (o : Out) : (s.send o).sys = s.sys := rfl
@[simp] theorem send_pwr (o : Out) : (s.send o).pwr = s.pwr := rfl
@[simp] theorem send_dbg (o : Out) : (s.send o).dbg = s.dbg := rfl
@[simp] theorem send_nv (o : Out) : (s.send o).nv = s.nv := rfl
@[simp] theorem send_neg (o : Out) : (s.send o).neg = s.neg := rfl
@[simp] theorem send_irq (o : Out) : (s.send o).irq = s.irq := rfl
@[simp] theorem send_mbx (o : Out) : (s.send o).mbx = s.mbx := rfl
@[simp] theorem send_gcp (o : Out) : (s.send o).gcp = s.gcp := rfl
@[simp] theorem send_ops (o : Out) : (s.send o).ops = s.ops := rfl
@[simp] theorem send_finished (o : Out) : (s.send o).finished = s.finished := rfl
@[simp] theorem send_nextHandle (o : Out) : (s.send o).nextHandle = s.nextHandle := rfl
@[simp] theorem send_stat (o : Out) : (s.send o).stat = s.stat := rfl
@[simp] theorem send_trap (o : Out) : (s.send o).trap = s.trap := rfl
@[simp] theorem send_inject (o : Out) : (s.send o).inject = s.inject := rfl
@[simp] theorem send_portCnt (o : Out) : (s.send o).portCnt = s.portCnt := rfl
@[simp] theorem send_classCnt (o : Out) : (s.send o).classCnt = s.classCnt := rfl
@[simp] theorem send_ports (o : Out) : (s.send o).ports = s.ports := rfl
@[simp] theorem send_lanes (o : Out) : (s.send o).lanes = s.lanes := rfl
@[simp] theorem send_maps (o : Out) : (s.send o).maps = s.maps := rfl
@[simp] theorem send_flows (o : Out) : (s.send o).flows = s.flows := rfl
@[simp] theorem send_egress (o : Out) : (s.send o).egress = s.egress := rfl
@[simp] theorem send_dlks (o : Out) : (s.send o).dlks = s.dlks := rfl
@[simp] theorem send_core (o : Out) : (s.send o).core = s.core := rfl
@[simp] theorem send_tables (o : Out) : (s.send o).tables = s.tables := rfl
@[simp] theorem send_tim (o : Out) : (s.send o).tim = s.tim := rfl
@[simp] theorem send_free (o : Out) : (s.send o).free = s.free := rfl
@[simp] theorem send_out (o : Out) : (s.send o).out = o :: s.out := rfl
@[simp] theorem send_pending (o : Out) : (s.send o).pending = s.pending := rfl

/-! ### State.draw -/

@[simp] theorem draw_clk : (s.draw).clk = s.clk := rfl
@[simp] theorem draw_sys : (s.draw).sys = s.sys := rfl
@[simp] theorem draw_pwr : (s.draw).pwr = s.pwr := rfl
@[simp] theorem draw_dbg : (s.draw).dbg = s.dbg := rfl
@[simp] theorem draw_nv : (s.draw).nv = s.nv := rfl
@[simp] theorem draw_neg : (s.draw).neg = s.neg := rfl
@[simp] theorem draw_irq : (s.draw).irq = s.irq := rfl
@[simp] theorem draw_mbx : (s.draw).mbx = s.mbx := rfl
@[simp] theorem draw_gcp : (s.draw).gcp = s.gcp := rfl
@[simp] theorem draw_ops : (s.draw).ops = s.ops := rfl
@[simp] theorem draw_finished : (s.draw).finished = s.finished := rfl
@[simp] theorem draw_nextHandle : (s.draw).nextHandle = s.nextHandle := rfl
@[simp] theorem draw_stat : (s.draw).stat = s.stat := rfl
@[simp] theorem draw_trap : (s.draw).trap = s.trap := rfl
@[simp] theorem draw_inject : (s.draw).inject = s.inject := rfl
@[simp] theorem draw_portCnt : (s.draw).portCnt = s.portCnt := rfl
@[simp] theorem draw_classCnt : (s.draw).classCnt = s.classCnt := rfl
@[simp] theorem draw_ports : (s.draw).ports = s.ports := rfl
@[simp] theorem draw_lanes : (s.draw).lanes = s.lanes := rfl
@[simp] theorem draw_maps : (s.draw).maps = s.maps := rfl
@[simp] theorem draw_flows : (s.draw).flows = s.flows := rfl
@[simp] theorem draw_egress : (s.draw).egress = s.egress := rfl
@[simp] theorem draw_dlks : (s.draw).dlks = s.dlks := rfl
@[simp] theorem draw_core : (s.draw).core = s.core := rfl
@[simp] theorem draw_tables : (s.draw).tables = s.tables := rfl
@[simp] theorem draw_tim : (s.draw).tim = s.tim := rfl
@[simp] theorem draw_free : (s.draw).free = s.free + 1 := rfl
@[simp] theorem draw_out : (s.draw).out = s.out := rfl
@[simp] theorem draw_pending : (s.draw).pending = s.pending := rfl

/-! ### State.push -/

@[simp] theorem push_clk (c : Instr) : (s.push c).clk = s.clk := rfl
@[simp] theorem push_sys (c : Instr) : (s.push c).sys = s.sys := rfl
@[simp] theorem push_pwr (c : Instr) : (s.push c).pwr = s.pwr := rfl
@[simp] theorem push_dbg (c : Instr) : (s.push c).dbg = s.dbg := rfl
@[simp] theorem push_nv (c : Instr) : (s.push c).nv = s.nv := rfl
@[simp] theorem push_neg (c : Instr) : (s.push c).neg = s.neg := rfl
@[simp] theorem push_irq (c : Instr) : (s.push c).irq = s.irq := rfl
@[simp] theorem push_mbx (c : Instr) : (s.push c).mbx = s.mbx := rfl
@[simp] theorem push_gcp (c : Instr) : (s.push c).gcp = s.gcp := rfl
@[simp] theorem push_ops (c : Instr) : (s.push c).ops = s.ops := rfl
@[simp] theorem push_finished (c : Instr) : (s.push c).finished = s.finished := rfl
@[simp] theorem push_nextHandle (c : Instr) : (s.push c).nextHandle = s.nextHandle := rfl
@[simp] theorem push_stat (c : Instr) : (s.push c).stat = s.stat := rfl
@[simp] theorem push_trap (c : Instr) : (s.push c).trap = s.trap := rfl
@[simp] theorem push_inject (c : Instr) : (s.push c).inject = s.inject := rfl
@[simp] theorem push_portCnt (c : Instr) : (s.push c).portCnt = s.portCnt := rfl
@[simp] theorem push_classCnt (c : Instr) : (s.push c).classCnt = s.classCnt := rfl
@[simp] theorem push_ports (c : Instr) : (s.push c).ports = s.ports := rfl
@[simp] theorem push_lanes (c : Instr) : (s.push c).lanes = s.lanes := rfl
@[simp] theorem push_maps (c : Instr) : (s.push c).maps = s.maps := rfl
@[simp] theorem push_flows (c : Instr) : (s.push c).flows = s.flows := rfl
@[simp] theorem push_egress (c : Instr) : (s.push c).egress = s.egress := rfl
@[simp] theorem push_dlks (c : Instr) : (s.push c).dlks = s.dlks := rfl
@[simp] theorem push_core (c : Instr) : (s.push c).core = s.core := rfl
@[simp] theorem push_tables (c : Instr) : (s.push c).tables = s.tables := rfl
@[simp] theorem push_tim (c : Instr) : (s.push c).tim = s.tim := rfl
@[simp] theorem push_free (c : Instr) : (s.push c).free = s.free := rfl
@[simp] theorem push_out (c : Instr) : (s.push c).out = s.out := rfl
@[simp] theorem push_pending (c : Instr) : (s.push c).pending = c :: s.pending := rfl

/-! ### modSys -/

@[simp] theorem modSys_clk (f : Sys → Sys) : (modSys f s).clk = s.clk := rfl
@[simp] theorem modSys_sys (f : Sys → Sys) : (modSys f s).sys = f s.sys := rfl
@[simp] theorem modSys_pwr (f : Sys → Sys) : (modSys f s).pwr = s.pwr := rfl
@[simp] theorem modSys_dbg (f : Sys → Sys) : (modSys f s).dbg = s.dbg := rfl
@[simp] theorem modSys_nv (f : Sys → Sys) : (modSys f s).nv = s.nv := rfl
@[simp] theorem modSys_neg (f : Sys → Sys) : (modSys f s).neg = s.neg := rfl
@[simp] theorem modSys_irq (f : Sys → Sys) : (modSys f s).irq = s.irq := rfl
@[simp] theorem modSys_mbx (f : Sys → Sys) : (modSys f s).mbx = s.mbx := rfl
@[simp] theorem modSys_gcp (f : Sys → Sys) : (modSys f s).gcp = s.gcp := rfl
@[simp] theorem modSys_ops (f : Sys → Sys) : (modSys f s).ops = s.ops := rfl
@[simp] theorem modSys_finished (f : Sys → Sys) : (modSys f s).finished = s.finished := rfl
@[simp] theorem modSys_nextHandle (f : Sys → Sys) : (modSys f s).nextHandle = s.nextHandle := rfl
@[simp] theorem modSys_stat (f : Sys → Sys) : (modSys f s).stat = s.stat := rfl
@[simp] theorem modSys_trap (f : Sys → Sys) : (modSys f s).trap = s.trap := rfl
@[simp] theorem modSys_inject (f : Sys → Sys) : (modSys f s).inject = s.inject := rfl
@[simp] theorem modSys_portCnt (f : Sys → Sys) : (modSys f s).portCnt = s.portCnt := rfl
@[simp] theorem modSys_classCnt (f : Sys → Sys) : (modSys f s).classCnt = s.classCnt := rfl
@[simp] theorem modSys_ports (f : Sys → Sys) : (modSys f s).ports = s.ports := rfl
@[simp] theorem modSys_lanes (f : Sys → Sys) : (modSys f s).lanes = s.lanes := rfl
@[simp] theorem modSys_maps (f : Sys → Sys) : (modSys f s).maps = s.maps := rfl
@[simp] theorem modSys_flows (f : Sys → Sys) : (modSys f s).flows = s.flows := rfl
@[simp] theorem modSys_egress (f : Sys → Sys) : (modSys f s).egress = s.egress := rfl
@[simp] theorem modSys_dlks (f : Sys → Sys) : (modSys f s).dlks = s.dlks := rfl
@[simp] theorem modSys_core (f : Sys → Sys) : (modSys f s).core = s.core := rfl
@[simp] theorem modSys_tables (f : Sys → Sys) : (modSys f s).tables = s.tables := rfl
@[simp] theorem modSys_tim (f : Sys → Sys) : (modSys f s).tim = s.tim := rfl
@[simp] theorem modSys_free (f : Sys → Sys) : (modSys f s).free = s.free := rfl
@[simp] theorem modSys_out (f : Sys → Sys) : (modSys f s).out = s.out := rfl
@[simp] theorem modSys_pending (f : Sys → Sys) : (modSys f s).pending = s.pending := rfl

/-! ### modPwr -/

@[simp] theorem modPwr_clk (f : Power → Power) : (modPwr f s).clk = s.clk := rfl
@[simp] theorem modPwr_sys (f : Power → Power) : (modPwr f s).sys = s.sys := rfl
@[simp] theorem modPwr_pwr (f : Power → Power) : (modPwr f s).pwr = f s.pwr := rfl
@[simp] theorem modPwr_dbg (f : Power → Power) : (modPwr f s).dbg = s.dbg := rfl
@[simp] theorem modPwr_nv (f : Power → Power) : (modPwr f s).nv = s.nv := rfl
@[simp] theorem modPwr_neg (f : Power → Power) : (modPwr f s).neg = s.neg := rfl
@[simp] theorem modPwr_irq (f : Power → Power) : (modPwr f s).irq = s.irq := rfl
@[simp] theorem modPwr_mbx (f : Power → Power) : (modPwr f s).mbx = s.mbx := rfl
@[simp] theorem modPwr_gcp (f : Power → Power) : (modPwr f s).gcp = s.gcp := rfl
@[simp] theorem modPwr_ops (f : Power → Power) : (modPwr f s).ops = s.ops := rfl
@[simp] theorem modPwr_finished (f : Power → Power) : (modPwr f s).finished = s.finished := rfl
@[simp] theorem modPwr_nextHandle (f : Power → Power) : (modPwr f s).nextHandle = s.nextHandle := rfl
@[simp] theorem modPwr_stat (f : Power → Power) : (modPwr f s).stat = s.stat := rfl
@[simp] theorem modPwr_trap (f : Power → Power) : (modPwr f s).trap = s.trap := rfl
@[simp] theorem modPwr_inject (f : Power → Power) : (modPwr f s).inject = s.inject := rfl
@[simp] theorem modPwr_portCnt (f : Power → Power) : (modPwr f s).portCnt = s.portCnt := rfl
@[simp] theorem modPwr_classCnt (f : Power → Power) : (modPwr f s).classCnt = s.classCnt := rfl
@[simp] theorem modPwr_ports (f : Power → Power) : (modPwr f s).ports = s.ports := rfl
@[simp] theorem modPwr_lanes (f : Power → Power) : (modPwr f s).lanes = s.lanes := rfl
@[simp] theorem modPwr_maps (f : Power → Power) : (modPwr f s).maps = s.maps := rfl
@[simp] theorem modPwr_flows (f : Power → Power) : (modPwr f s).flows = s.flows := rfl
@[simp] theorem modPwr_egress (f : Power → Power) : (modPwr f s).egress = s.egress := rfl
@[simp] theorem modPwr_dlks (f : Power → Power) : (modPwr f s).dlks = s.dlks := rfl
@[simp] theorem modPwr_core (f : Power → Power) : (modPwr f s).core = s.core := rfl
@[simp] theorem modPwr_tables (f : Power → Power) : (modPwr f s).tables = s.tables := rfl
@[simp] theorem modPwr_tim (f : Power → Power) : (modPwr f s).tim = s.tim := rfl
@[simp] theorem modPwr_free (f : Power → Power) : (modPwr f s).free = s.free := rfl
@[simp] theorem modPwr_out (f : Power → Power) : (modPwr f s).out = s.out := rfl
@[simp] theorem modPwr_pending (f : Power → Power) : (modPwr f s).pending = s.pending := rfl

/-! ### modCore -/

@[simp] theorem modCore_clk (f : Core → Core) : (modCore f s).clk = s.clk := rfl
@[simp] theorem modCore_sys (f : Core → Core) : (modCore f s).sys = s.sys := rfl
@[simp] theorem modCore_pwr (f : Core → Core) : (modCore f s).pwr = s.pwr := rfl
@[simp] theorem modCore_dbg (f : Core → Core) : (modCore f s).dbg = s.dbg := rfl
@[simp] theorem modCore_nv (f : Core → Core) : (modCore f s).nv = s.nv := rfl
@[simp] theorem modCore_neg (f : Core → Core) : (modCore f s).neg = s.neg := rfl
@[simp] theorem modCore_irq (f : Core → Core) : (modCore f s).irq = s.irq := rfl
@[simp] theorem modCore_mbx (f : Core → Core) : (modCore f s).mbx = s.mbx := rfl
@[simp] theorem modCore_gcp (f : Core → Core) : (modCore f s).gcp = s.gcp := rfl
@[simp] theorem modCore_ops (f : Core → Core) : (modCore f s).ops = s.ops := rfl
@[simp] theorem modCore_finished (f : Core → Core) : (modCore f s).finished = s.finished := rfl
@[simp] theorem modCore_nextHandle (f : Core → Core) : (modCore f s).nextHandle = s.nextHandle := rfl
@[simp] theorem modCore_stat (f : Core → Core) : (modCore f s).stat = s.stat := rfl
@[simp] theorem modCore_trap (f : Core → Core) : (modCore f s).trap = s.trap := rfl
@[simp] theorem modCore_inject (f : Core → Core) : (modCore f s).inject = s.inject := rfl
@[simp] theorem modCore_portCnt (f : Core → Core) : (modCore f s).portCnt = s.portCnt := rfl
@[simp] theorem modCore_classCnt (f : Core → Core) : (modCore f s).classCnt = s.classCnt := rfl
@[simp] theorem modCore_ports (f : Core → Core) : (modCore f s).ports = s.ports := rfl
@[simp] theorem modCore_lanes (f : Core → Core) : (modCore f s).lanes = s.lanes := rfl
@[simp] theorem modCore_maps (f : Core → Core) : (modCore f s).maps = s.maps := rfl
@[simp] theorem modCore_flows (f : Core → Core) : (modCore f s).flows = s.flows := rfl
@[simp] theorem modCore_egress (f : Core → Core) : (modCore f s).egress = s.egress := rfl
@[simp] theorem modCore_dlks (f : Core → Core) : (modCore f s).dlks = s.dlks := rfl
@[simp] theorem modCore_core (f : Core → Core) : (modCore f s).core = f s.core := rfl
@[simp] theorem modCore_tables (f : Core → Core) : (modCore f s).tables = s.tables := rfl
@[simp] theorem modCore_tim (f : Core → Core) : (modCore f s).tim = s.tim := rfl
@[simp] theorem modCore_free (f : Core → Core) : (modCore f s).free = s.free := rfl
@[simp] theorem modCore_out (f : Core → Core) : (modCore f s).out = s.out := rfl
@[simp] theorem modCore_pending (f : Core → Core) : (modCore f s).pending = s.pending := rfl

/-! ### modTim -/

@[simp] theorem modTim_clk (f : Timing → Timing) : (modTim f s).clk = s.clk := rfl
@[simp] theorem modTim_sys (f : Timing → Timing) : (modTim f s).sys = s.sys := rfl
@[simp] theorem modTim_pwr (f : Timing → Timing) : (modTim f s).pwr = s.pwr := rfl
@[simp] theorem modTim_dbg (f : Timing → Timing) : (modTim f s).dbg = s.dbg := rfl
@[simp] theorem modTim_nv (f : Timing → Timing) : (modTim f s).nv = s.nv := rfl
@[simp] theorem modTim_neg (f : Timing → Timing) : (modTim f s).neg = s.neg := rfl
@[simp] theorem modTim_irq (f : Timing → Timing) : (modTim f s).irq = s.irq := rfl
@[simp] theorem modTim_mbx (f : Timing → Timing) : (modTim f s).mbx = s.mbx := rfl
@[simp] theorem modTim_gcp (f : Timing → Timing) : (modTim f s).gcp = s.gcp := rfl
@[simp] theorem modTim_ops (f : Timing → Timing) : (modTim f s).ops = s.ops := rfl
@[simp] theorem modTim_finished (f : Timing → Timing) : (modTim f s).finished = s.finished := rfl
@[simp] theorem modTim_nextHandle (f : Timing → Timing) : (modTim f s).nextHandle = s.nextHandle := rfl
@[simp] theorem modTim_stat (f : Timing → Timing) : (modTim f s).stat = s.stat := rfl
@[simp] theorem modTim_trap (f : Timing → Timing) : (modTim f s).trap = s.trap := rfl
@[simp] theorem modTim_inject (f : Timing → Timing) : (modTim f s).inject = s.inject := rfl
@[simp] theorem modTim_portCnt (f : Timing → Timing) : (modTim f s).portCnt = s.portCnt := rfl
@[simp] theorem modTim_classCnt (f : Timing → Timing) : (modTim f s).classCnt = s.classCnt := rfl
@[simp] theorem modTim_ports (f : Timing → Timing) : (modTim f s).ports = s.ports := rfl
@[simp] theorem modTim_lanes (f : Timing → Timing) : (modTim f s).lanes = s.lanes := rfl
@[simp] theorem modTim_maps (f : Timing → Timing) : (modTim f s).maps = s.maps := rfl
@[simp] theorem modTim_flows (f : Timing → Timing) : (modTim f s).flows = s.flows := rfl
@[simp] theorem modTim_egress (f : Timing → Timing) : (modTim f s).egress = s.egress := rfl
@[simp] theorem modTim_dlks (f : Timing → Timing) : (modTim f s).dlks = s.dlks := rfl
@[simp] theorem modTim_core (f : Timing → Timing) : (modTim f s).core = s.core := rfl
@[simp] theorem modTim_tables (f : Timing → Timing) : (modTim f s).tables = s.tables := rfl
@[simp] theorem modTim_tim (f : Timing → Timing) : (modTim f s).tim = f s.tim := rfl
@[simp] theorem modTim_free (f : Timing → Timing) : (modTim f s).free = s.free := rfl
@[simp] theorem modTim_out (f : Timing → Timing) : (modTim f s).out = s.out := rfl
@[simp] theorem modTim_pending (f : Timing → Timing) : (modTim f s).pending = s.pending := rfl

/-! ### modRef -/

@[simp] theorem modRef_clk (r : Nat) (f : Ref → Ref) : (modRef r f s).clk = s.clk := rfl
@[simp] theorem modRef_sys (r : Nat) (f : Ref → Ref) : (modRef r f s).sys = s.sys := rfl
@[simp] theorem modRef_pwr (r : Nat) (f : Ref → Ref) : (modRef r f s).pwr = s.pwr := rfl
@[simp] theorem modRef_dbg (r : Nat) (f : Ref → Ref) : (modRef r f s).dbg = s.dbg := rfl
@[simp] theorem modRef_nv (r : Nat) (f : Ref → Ref) : (modRef r f s).nv = s.nv := rfl
@[simp] theorem modRef_neg (r : Nat) (f : Ref → Ref) : (modRef r f s).neg = s.neg := rfl
@[simp] theorem modRef_irq (r : Nat) (f : Ref → Ref) : (modRef r f s).irq = s.irq := rfl
@[simp] theorem modRef_mbx (r : Nat) (f : Ref → Ref) : (modRef r f s).mbx = s.mbx := rfl
@[simp] theorem modRef_gcp (r : Nat) (f : Ref → Ref) : (modRef r f s).gcp = s.gcp := rfl
@[simp] theorem modRef_ops (r : Nat) (f : Ref → Ref) : (modRef r f s).ops = s.ops := rfl
@[simp] theorem modRef_finished (r : Nat) (f : Ref → Ref) : (modRef r f s).finished = s.finished := rfl
@[simp] theorem modRef_nextHandle (r : Nat) (f : Ref → Ref) : (modRef r f s).nextHandle = s.nextHandle := rfl
@[simp] theorem modRef_stat (r : Nat) (f : Ref → Ref) : (modRef r f s).stat = s.stat := rfl
@[simp] theorem modRef_trap (r : Nat) (f : Ref → Ref) : (modRef r f s).trap = s.trap := rfl
@[simp] theorem modRef_inject (r : Nat) (f : Ref → Ref) : (modRef r f s).inject = s.inject := rfl
@[simp] theorem modRef_portCnt (r : Nat) (f : Ref → Ref) : (modRef r f s).portCnt = s.portCnt := rfl
@[simp] theorem modRef_classCnt (r : Nat) (f : Ref → Ref) : (modRef r f s).classCnt = s.classCnt := rfl
@[simp] theorem modRef_ports (r : Nat) (f : Ref → Ref) : (modRef r f s).ports = s.ports := rfl
@[simp] theorem modRef_lanes (r : Nat) (f : Ref → Ref) : (modRef r f s).lanes = s.lanes := rfl
@[simp] theorem modRef_maps (r : Nat) (f : Ref → Ref) : (modRef r f s).maps = s.maps := rfl
@[simp] theorem modRef_flows (r : Nat) (f : Ref → Ref) : (modRef r f s).flows = s.flows := rfl
@[simp] theorem modRef_egress (r : Nat) (f : Ref → Ref) : (modRef r f s).egress = s.egress := rfl
@[simp] theorem modRef_dlks (r : Nat) (f : Ref → Ref) : (modRef r f s).dlks = s.dlks := rfl
@[simp] theorem modRef_core (r : Nat) (f : Ref → Ref) : (modRef r f s).core = s.core := rfl
@[simp] theorem modRef_tables (r : Nat) (f : Ref → Ref) : (modRef r f s).tables = s.tables := rfl
@[simp] theorem modRef_tim (r : Nat) (f : Ref → Ref) : (modRef r f s).tim = { s.tim with refs := s.tim.refs.modify (Ref.reset r) r f } := rfl
@[simp] theorem modRef_free (r : Nat) (f : Ref → Ref) : (modRef r f s).free = s.free := rfl
@[simp] theorem modRef_out (r : Nat) (f : Ref → Ref) : (modRef r f s).out = s.out := rfl
@[simp] theorem modRef_pending (r : Nat) (f : Ref → Ref) : (modRef r f s).pending = s.pending := rfl

/-! ### modDpll -/

@[simp] theorem modDpll_clk (d : Nat) (f : Dpll → Dpll) : (modDpll d f s).clk = s.clk := rfl
@[simp] theorem modDpll_sys (d : Nat) (f : Dpll → Dpll) : (modDpll d f s).sys = s.sys := rfl
@[simp] theorem modDpll_pwr (d : Nat) (f : Dpll → Dpll) : (modDpll d f s).pwr = s.pwr := rfl
@[simp] theorem modDpll_dbg (d : Nat) (f : Dpll → Dpll) : (modDpll d f s).dbg = s.dbg := rfl
@[simp] theorem modDpll_nv (d : Nat) (f : Dpll → Dpll) : (modDpll d f s).nv = s.nv := rfl
@[simp] theorem modDpll_neg (d : Nat) (f : Dpll → Dpll) : (modDpll d f s).neg = s.neg := rfl
@[simp] theorem modDpll_irq (d : Nat) (f : Dpll → Dpll) : (modDpll d f s).irq = s.irq := rfl
@[simp] theorem modDpll_mbx (d : Nat) (f : Dpll → Dpll) : (modDpll d f s).mbx = s.mbx := rfl
@[simp] theorem modDpll_gcp (d : Nat) (f : Dpll → Dpll) : (modDpll d f s).gcp = s.gcp := rfl
@[simp] theorem modDpll_ops (d : Nat) (f : Dpll → Dpll) : (modDpll d f s).ops = s.ops := rfl
@[simp] theorem modDpll_finished (d : Nat) (f : Dpll → Dpll) : (modDpll d f s).finished = s.finished := rfl
@[simp] theorem modDpll_nextHandle (d : Nat) (f : Dpll → Dpll) : (modDpll d f s).nextHandle = s.nextHandle := rfl
@[simp] theorem modDpll_stat (d : Nat) (f : Dpll → Dpll) : (modDpll d f s).stat = s.stat := rfl
@[simp] theorem modDpll_trap (d : Nat) (f : Dpll → Dpll) : (modDpll d f s).trap = s.trap := rfl
@[simp] theorem modDpll_inject (d : Nat) (f : Dpll → Dpll) : (modDpll d f s).inject = s.inject := rfl
@[simp] theorem modDpll_portCnt (d : Nat) (f : Dpll → Dpll) : (modDpll d f s).portCnt = s.portCnt := rfl
@[simp] theorem modDpll_classCnt (d : Nat) (f : Dpll → Dpll) : (modDpll d f s).classCnt = s.classCnt := rfl
@[simp] theorem modDpll_ports (d : Nat) (f : Dpll → Dpll) : (modDpll d f s).ports = s.ports := rfl
@[simp] theorem modDpll_lanes (d : Nat) (f : Dpll → Dpll) : (modDpll d f s).lanes = s.lanes := rfl
@[simp] theorem modDpll_maps (d : Nat) (f : Dpll → Dpll) : (modDpll d f s).maps = s.maps := rfl
@[simp] theorem modDpll_flows (d : Nat) (f : Dpll → Dpll) : (modDpll d f s).flows = s.flows := rfl
@[simp] theorem modDpll_egress (d : Nat) (f : Dpll → Dpll) : (modDpll d f s).egress = s.egress := rfl
@[simp] theorem modDpll_dlks (d : Nat) (f : Dpll → Dpll) : (modDpll d f s).dlks = s.dlks := rfl
@[simp] theorem modDpll_core (d : Nat) (f : Dpll → Dpll) : (modDpll d f s).core = s.core := rfl
@[simp] theorem modDpll_tables (d : Nat) (f : Dpll → Dpll) : (modDpll d f s).tables = s.tables := rfl
@[simp] theorem modDpll_tim (d : Nat) (f : Dpll → Dpll) : (modDpll d f s).tim = { s.tim with dplls := s.tim.dplls.modify (Dpll.reset d) d f } := rfl
@[simp] theorem modDpll_free (d : Nat) (f : Dpll → Dpll) : (modDpll d f s).free = s.free := rfl
@[simp] theorem modDpll_out (d : Nat) (f : Dpll → Dpll) : (modDpll d f s).out = s.out := rfl
@[simp] theorem modDpll_pending (d : Nat) (f : Dpll → Dpll) : (modDpll d f s).pending = s.pending := rfl

/-! ### modPort -/

@[simp] theorem modPort_clk (p : Nat) (f : PortRec → PortRec) : (modPort p f s).clk = s.clk := rfl
@[simp] theorem modPort_sys (p : Nat) (f : PortRec → PortRec) : (modPort p f s).sys = s.sys := rfl
@[simp] theorem modPort_pwr (p : Nat) (f : PortRec → PortRec) : (modPort p f s).pwr = s.pwr := rfl
@[simp] theorem modPort_dbg (p : Nat) (f : PortRec → PortRec) : (modPort p f s).dbg = s.dbg := rfl
@[simp] theorem modPort_nv (p : Nat) (f : PortRec → PortRec) : (modPort p f s).nv = s.nv := rfl
@[simp] theorem modPort_neg (p : Nat) (f : PortRec → PortRec) : (modPort p f s).neg = s.neg := rfl
@[simp] theorem modPort_irq (p : Nat) (f : PortRec → PortRec) : (modPort p f s).irq = s.irq := rfl
@[simp] theorem modPort_mbx (p : Nat) (f : PortRec → PortRec) : (modPort p f s).mbx = s.mbx := rfl
@[simp] theorem modPort_gcp (p : Nat) (f : PortRec → PortRec) : (modPort p f s).gcp = s.gcp := rfl
@[simp] theorem modPort_ops (p : Nat) (f : PortRec → PortRec) : (modPort p f s).ops = s.ops := rfl
@[simp] theorem modPort_finished (p : Nat) (f : PortRec → PortRec) : (modPort p f s).finished = s.finished := rfl
@[simp] theorem modPort_nextHandle (p : Nat) (f : PortRec → PortRec) : (modPort p f s).nextHandle = s.nextHandle := rfl
@[simp] theorem modPort_stat (p : Nat) (f : PortRec → PortRec) : (modPort p f s).stat = s.stat := rfl
@[simp] theorem modPort_trap (p : Nat) (f : PortRec → PortRec) : (modPort p f s).trap = s.trap := rfl
@[simp] theorem modPort_inject (p : Nat) (f : PortRec → PortRec) : (modPort p f s).inject = s.inject := rfl
@[simp] theorem modPort_portCnt (p : Nat) (f : PortRec → PortRec) : (modPort p f s).portCnt = s.portCnt := rfl
@[simp] theorem modPort_classCnt (p : Nat) (f : PortRec → PortRec) : (modPort p f s).classCnt = s.classCnt := rfl
@[simp] theorem modPort_ports (p : Nat) (f : PortRec → PortRec) : (modPort p f s).ports = s.ports.modify PortRec.reset p f := rfl
@[simp] theorem modPort_lanes (p : Nat) (f : PortRec → PortRec) : (modPort p f s).lanes = s.lanes := rfl
@[simp] theorem modPort_maps (p : Nat) (f : PortRec → PortRec) : (modPort p f s).maps = s.maps := rfl
@[simp] theorem modPort_flows (p : Nat) (f : PortRec → PortRec) : (modPort p f s).flows = s.flows := rfl
@[simp] theorem modPort_egress (p : Nat) (f : PortRec → PortRec) : (modPort p f s).egress = s.egress := rfl
@[simp] theorem modPort_dlks (p : Nat) (f : PortRec → PortRec) : (modPort p f s).dlks = s.dlks := rfl
@[simp] theorem modPort_core (p : Nat) (f : PortRec → PortRec) : (modPort p f s).core = s.core := rfl
@[simp] theorem modPort_tables (p : Nat) (f : PortRec → PortRec) : (modPort p f s).tables = s.tables := rfl
@[simp] theorem modPort_tim (p : Nat) (f : PortRec → PortRec) : (modPort p f s).tim = s.tim := rfl
@[simp] theorem modPort_free (p : Nat) (f : PortRec → PortRec) : (modPort p f s).free = s.free := rfl
@[simp] theorem modPort_out (p : Nat) (f : PortRec → PortRec) : (modPort p f s).out = s.out := rfl
@[simp] theorem modPort_pending (p : Nat) (f : PortRec → PortRec) : (modPort p f s).pending = s.pending := rfl

/-! ### modLane -/

@[simp] theorem modLane_clk (l : Nat) (f : LaneRec → LaneRec) : (modLane l f s).clk = s.clk := rfl
@[simp] theorem modLane_sys (l : Nat) (f : LaneRec → LaneRec) : (modLane l f s).sys = s.sys := rfl
@[simp] theorem modLane_pwr (l : Nat) (f : LaneRec → LaneRec) : (modLane l f s).pwr = s.pwr := rfl
@[simp] theorem modLane_dbg (l : Nat) (f : LaneRec → LaneRec) : (modLane l f s).dbg = s.dbg := rfl
@[simp] theorem modLane_nv (l : Nat) (f : LaneRec → LaneRec) : (modLane l f s).nv = s.nv := rfl
@[simp] theorem modLane_neg (l : Nat) (f : LaneRec → LaneRec) : (modLane l f s).neg = s.neg := rfl
@[simp] theorem modLane_irq (l : Nat) (f : LaneRec → LaneRec) : (modLane l f s).irq = s.irq := rfl
@[simp] theorem modLane_mbx (l : Nat) (f : LaneRec → LaneRec) : (modLane l f s).mbx = s.mbx := rfl
@[simp] theorem modLane_gcp (l : Nat) (f : LaneRec → LaneRec) : (modLane l f s).gcp = s.gcp := rfl
@[simp] theorem modLane_ops (l : Nat) (f : LaneRec → LaneRec) : (modLane l f s).ops = s.ops := rfl
@[simp] theorem modLane_finished (l : Nat) (f : LaneRec → LaneRec) : (modLane l f s).finished = s.finished := rfl
@[simp] theorem modLane_nextHandle (l : Nat) (f : LaneRec → LaneRec) : (modLane l f s).nextHandle = s.nextHandle := rfl
@[simp] theorem modLane_stat (l : Nat) (f : LaneRec → LaneRec) : (modLane l f s).stat = s.stat := rfl
@[simp] theorem modLane_trap (l : Nat) (f : LaneRec → LaneRec) : (modLane l f s).trap = s.trap := rfl
@[simp] theorem modLane_inject (l : Nat) (f : LaneRec → LaneRec) : (modLane l f s).inject = s.inject := rfl
@[simp] theorem modLane_portCnt (l : Nat) (f : LaneRec → LaneRec) : (modLane l f s).portCnt = s.portCnt := rfl
@[simp] theorem modLane_classCnt (l : Nat) (f : LaneRec → LaneRec) : (modLane l f s).classCnt = s.classCnt := rfl
@[simp] theorem modLane_ports (l : Nat) (f : LaneRec → LaneRec) : (modLane l f s).ports = s.ports := rfl
@[simp] theorem modLane_lanes (l : Nat) (f : LaneRec → LaneRec) : (modLane l f s).lanes = s.lanes.modify LaneRec.reset l f := rfl
@[simp] theorem modLane_maps (l : Nat) (f : LaneRec → LaneRec) : (modLane l f s).maps = s.maps := rfl
@[simp] theorem modLane_flows (l : Nat) (f : LaneRec → LaneRec) : (modLane l f s).flows = s.flows := rfl
@[simp] theorem modLane_egress (l : Nat) (f : LaneRec → LaneRec) : (modLane l f s).egress = s.egress := rfl
@[simp] theorem modLane_dlks (l : Nat) (f : LaneRec → LaneRec) : (modLane l f s).dlks = s.dlks := rfl
@[simp] theorem modLane_core (l : Nat) (f : LaneRec → LaneRec) : (modLane l f s).core = s.core := rfl
@[simp] theorem modLane_tables (l : Nat) (f : LaneRec → LaneRec) : (modLane l f s).tables = s.tables := rfl
@[simp] theorem modLane_tim (l : Nat) (f : LaneRec → LaneRec) : (modLane l f s).tim = s.tim := rfl
@[simp] theorem modLane_free (l : Nat) (f : LaneRec → LaneRec) : (modLane l f s).free = s.free := rfl
@[simp] theorem modLane_out (l : Nat) (f : LaneRec → LaneRec) : (modLane l f s).out = s.out := rfl
@[simp] theorem modLane_pending (l : Nat) (f : LaneRec → LaneRec) : (modLane l f s).pending = s.pending := rfl

/-! ### modFlow -/

@[simp] theorem modFlow_clk (p : Nat) (f : Flow → Flow) : (modFlow p f s).clk = s.clk := rfl
@[simp] theorem modFlow_sys (p : Nat) (f : Flow → Flow) : (modFlow p f s).sys = s.sys := rfl
@[simp] theorem modFlow_pwr (p : Nat) (f : Flow → Flow) : (modFlow p f s).pwr = s.pwr := rfl
@[simp] theorem modFlow_dbg (p : Nat) (f : Flow → Flow) : (modFlow p f s).dbg = s.dbg := rfl
@[simp] theorem modFlow_nv (p : Nat) (f : Flow → Flow) : (modFlow p f s).nv = s.nv := rfl
@[simp] theorem modFlow_neg (p : Nat) (f : Flow → Flow) : (modFlow p f s).neg = s.neg := rfl
@[simp] theorem modFlow_irq (p : Nat) (f : Flow → Flow) : (modFlow p f s).irq = s.irq := rfl
@[simp] theorem modFlow_mbx (p : Nat) (f : Flow → Flow) : (modFlow p f s).mbx = s.mbx := rfl
@[simp] theorem modFlow_gcp (p : Nat) (f : Flow → Flow) : (modFlow p f s).gcp = s.gcp := rfl
@[simp] theorem modFlow_ops (p : Nat) (f : Flow → Flow) : (modFlow p f s).ops = s.ops := rfl
@[simp] theorem modFlow_finished (p : Nat) (f : Flow → Flow) : (modFlow p f s).finished = s.finished := rfl
@[simp] theorem modFlow_nextHandle (p : Nat) (f : Flow → Flow) : (modFlow p f s).nextHandle = s.nextHandle := rfl
@[simp] theorem modFlow_stat (p : Nat) (f : Flow → Flow) : (modFlow p f s).stat = s.stat := rfl
@[simp] theorem modFlow_trap (p : Nat) (f : Flow → Flow) : (modFlow p f s).trap = s.trap := rfl
@[simp] theorem modFlow_inject (p : Nat) (f : Flow → Flow) : (modFlow p f s).inject = s.inject := rfl
@[simp] theorem modFlow_portCnt (p : Nat) (f : Flow → Flow) : (modFlow p f s).portCnt = s.portCnt := rfl
@[simp] theorem modFlow_classCnt (p : Nat) (f : Flow → Flow) : (modFlow p f s).classCnt = s.classCnt := rfl
@[simp] theorem modFlow_ports (p : Nat) (f : Flow → Flow) : (modFlow p f s).ports = s.ports := rfl
@[simp] theorem modFlow_lanes (p : Nat) (f : Flow → Flow) : (modFlow p f s).lanes = s.lanes := rfl
@[simp] theorem modFlow_maps (p : Nat) (f : Flow → Flow) : (modFlow p f s).maps = s.maps := rfl
@[simp] theorem modFlow_flows (p : Nat) (f : Flow → Flow) : (modFlow p f s).flows = s.flows.modify Flow.reset p f := rfl
@[simp] theorem modFlow_egress (p : Nat) (f : Flow → Flow) : (modFlow p f s).egress = s.egress := rfl
@[simp] theorem modFlow_dlks (p : Nat) (f : Flow → Flow) : (modFlow p f s).dlks = s.dlks := rfl
@[simp] theorem modFlow_core (p : Nat) (f : Flow → Flow) : (modFlow p f s).core = s.core := rfl
@[simp] theorem modFlow_tables (p : Nat) (f : Flow → Flow) : (modFlow p f s).tables = s.tables := rfl
@[simp] theorem modFlow_tim (p : Nat) (f : Flow → Flow) : (modFlow p f s).tim = s.tim := rfl
@[simp] theorem modFlow_free (p : Nat) (f : Flow → Flow) : (modFlow p f s).free = s.free := rfl
@[simp] theorem modFlow_out (p : Nat) (f : Flow → Flow) : (modFlow p f s).out = s.out := rfl
@[simp] theorem modFlow_pending (p : Nat) (f : Flow → Flow) : (modFlow p f s).pending = s.pending := rfl

/-! ### modEg -/

@[simp] theorem modEg_clk (p : Nat) (f : Egress → Egress) : (modEg p f s).clk = s.clk := rfl
@[simp] theorem modEg_sys (p : Nat) (f : Egress → Egress) : (modEg p f s).sys = s.sys := rfl
@[simp] theorem modEg_pwr (p : Nat) (f : Egress → Egress) : (modEg p f s).pwr = s.pwr := rfl
@[simp] theorem modEg_dbg (p : Nat) (f : Egress → Egress) : (modEg p f s).dbg = s.dbg := rfl
@[simp] theorem modEg_nv (p : Nat) (f : Egress → Egress) : (modEg p f s).nv = s.nv := rfl
@[simp] theorem modEg_neg (p : Nat) (f : Egress → Egress) : (modEg p f s).neg = s.neg := rfl
@[simp] theorem modEg_irq (p : Nat) (f : Egress → Egress) : (modEg p f s).irq = s.irq := rfl
@[simp] theorem modEg_mbx (p : Nat) (f : Egress → Egress) : (modEg p f s).mbx = s.mbx := rfl
@[simp] theorem modEg_gcp (p : Nat) (f : Egress → Egress) : (modEg p f s).gcp = s.gcp := rfl
@[simp] theorem modEg_ops (p : Nat) (f : Egress → Egress) : (modEg p f s).ops = s.ops := rfl
@[simp] theorem modEg_finished (p : Nat) (f : Egress → Egress) : (modEg p f s).finished = s.finished := rfl
@[simp] theorem modEg_nextHandle (p : Nat) (f : Egress → Egress) : (modEg p f s).nextHandle = s.nextHandle := rfl
@[simp] theorem modEg_stat (p : Nat) (f : Egress → Egress) : (modEg p f s).stat = s.stat := rfl
@[simp] theorem modEg_trap (p : Nat) (f : Egress → Egress) : (modEg p f s).trap = s.trap := rfl
@[simp] theorem modEg_inject (p : Nat) (f : Egress → Egress) : (modEg p f s).inject = s.inject := rfl
@[simp] theorem modEg_portCnt (p : Nat) (f : Egress → Egress) : (modEg p f s).portCnt = s.portCnt := rfl
@[simp] theorem modEg_classCnt (p : Nat) (f : Egress → Egress) : (modEg p f s).classCnt = s.classCnt := rfl
@[simp] theorem modEg_ports (p : Nat) (f : Egress → Egress) : (modEg p f s).ports = s.ports := rfl
@[simp] theorem modEg_lanes (p : Nat) (f : Egress → Egress) : (modEg p f s).lanes = s.lanes := rfl
@[simp] theorem modEg_maps (p : Nat) (f : Egress → Egress) : (modEg p f s).maps = s.maps := rfl
@[simp] theorem modEg_flows (p : Nat) (f : Egress → Egress) : (modEg p f s).flows = s.flows := rfl
@[simp] theorem modEg_egress (p : Nat) (f : Egress → Egress) : (modEg p f s).egress = s.egress.modify Egress.reset p f := rfl
@[simp] theorem modEg_dlks (p : Nat) (f : Egress → Egress) : (modEg p f s).dlks = s.dlks := rfl
@[simp] theorem modEg_core (p : Nat) (f : Egress → Egress) : (modEg p f s).core = s.core := rfl
@[simp] theorem modEg_tables (p : Nat) (f : Egress → Egress) : (modEg p f s).tables = s.tables := rfl
@[simp] theorem modEg_tim (p : Nat) (f : Egress → Egress) : (modEg p f s).tim = s.tim := rfl
@[simp] theorem modEg_free (p : Nat) (f : Egress → Egress) : (modEg p f s).free = s.free := rfl
@[simp] theorem modEg_out (p : Nat) (f : Egress → Egress) : (modEg p f s).out = s.out := rfl
@[simp] theorem modEg_pending (p : Nat) (f : Egress → Egress) : (modEg p f s).pending = s.pending := rfl

/-! ### modDlk -/

@[simp] theorem modDlk_clk (p : Nat) (f : Dlk → Dlk) : (modDlk p f s).clk = s.clk := rfl
@[simp] theorem modDlk_sys (p : Nat) (f : Dlk → Dlk) : (modDlk p f s).sys = s.sys := rfl
@[simp] theorem modDlk_pwr (p : Nat) (f : Dlk → Dlk) : (modDlk p f s).pwr = s.pwr := rfl
@[simp] theorem modDlk_dbg (p : Nat) (f : Dlk → Dlk) : (modDlk p f s).dbg = s.dbg := rfl
@[simp] theorem modDlk_nv (p : Nat) (f : Dlk → Dlk) : (modDlk p f s).nv = s.nv := rfl
@[simp] theorem modDlk_neg (p : Nat) (f : Dlk → Dlk) : (modDlk p f s).neg = s.neg := rfl
@[simp] theorem modDlk_irq (p : Nat) (f : Dlk → Dlk) : (modDlk p f s).irq = s.irq := rfl
@[simp] theorem modDlk_mbx (p : Nat) (f : Dlk → Dlk) : (modDlk p f s).mbx = s.mbx := rfl
@[simp] theorem modDlk_gcp (p : Nat) (f : Dlk → Dlk) : (modDlk p f s).gcp = s.gcp := rfl
@[simp] theorem modDlk_ops (p : Nat) (f : Dlk → Dlk) : (modDlk p f s).ops = s.ops := rfl
@[simp] theorem modDlk_finished (p : Nat) (f : Dlk → Dlk) : (modDlk p f s).finished = s.finished := rfl
@[simp] theorem modDlk_nextHandle (p : Nat) (f : Dlk → Dlk) : (modDlk p f s).nextHandle = s.nextHandle := rfl
@[simp] theorem modDlk_stat (p : Nat) (f : Dlk → Dlk) : (modDlk p f s).stat = s.stat := rfl
@[simp] theorem modDlk_trap (p : Nat) (f : Dlk → Dlk) : (modDlk p f s).trap = s.trap := rfl
@[simp] theorem modDlk_inject (p : Nat) (f : Dlk → Dlk) : (modDlk p f s).inject = s.inject := rfl
@[simp] theorem modDlk_portCnt (p : Nat) (f : Dlk → Dlk) : (modDlk p f s).portCnt = s.portCnt := rfl
@[simp] theorem modDlk_classCnt (p : Nat) (f : Dlk → Dlk) : (modDlk p f s).classCnt = s.classCnt := rfl
@[simp] theorem modDlk_ports (p : Nat) (f : Dlk → Dlk) : (modDlk p f s).ports = s.ports := rfl
@[simp] theorem modDlk_lanes (p : Nat) (f : Dlk → Dlk) : (modDlk p f s).lanes = s.lanes := rfl
@[simp] theorem modDlk_maps (p : Nat) (f : Dlk → Dlk) : (modDlk p f s).maps = s.maps := rfl
@[simp] theorem modDlk_flows (p : Nat) (f : Dlk → Dlk) : (modDlk p f s).flows = s.flows := rfl
@[simp] theorem modDlk_egress (p : Nat) (f : Dlk → Dlk) : (modDlk p f s).egress = s.egress := rfl
@[simp] theorem modDlk_dlks (p : Nat) (f : Dlk → Dlk) : (modDlk p f s).dlks = s.dlks.modify Dlk.reset p f := rfl
@[simp] theorem modDlk_core (p : Nat) (f : Dlk → Dlk) : (modDlk p f s).core = s.core := rfl
@[simp] theorem modDlk_tables (p : Nat) (f : Dlk → Dlk) : (modDlk p f s).tables = s.tables := rfl
@[simp] theorem modDlk_tim (p : Nat) (f : Dlk → Dlk) : (modDlk p f s).tim = s.tim := rfl
@[simp] theorem modDlk_free (p : Nat) (f : Dlk → Dlk) : (modDlk p f s).free = s.free := rfl
@[simp] theorem modDlk_out (p : Nat) (f : Dlk → Dlk) : (modDlk p f s).out = s.out := rfl
@[simp] theorem modDlk_pending (p : Nat) (f : Dlk → Dlk) : (modDlk p f s).pending = s.pending := rfl

/-! ### modPool -/

@[simp] theorem modPool_clk (p : Nat) (f : Pool → Pool) : (modPool p f s).clk = s.clk := rfl
@[simp] theorem modPool_sys (p : Nat) (f : Pool → Pool) : (modPool p f s).sys = s.sys := rfl
@[simp] theorem modPool_pwr (p : Nat) (f : Pool → Pool) : (modPool p f s).pwr = s.pwr := rfl
@[simp] theorem modPool_dbg (p : Nat) (f : Pool → Pool) : (modPool p f s).dbg = s.dbg := rfl
@[simp] theorem modPool_nv (p : Nat) (f : Pool → Pool) : (modPool p f s).nv = s.nv := rfl
@[simp] theorem modPool_neg (p : Nat) (f : Pool → Pool) : (modPool p f s).neg = s.neg := rfl
@[simp] theorem modPool_irq (p : Nat) (f : Pool → Pool) : (modPool p f s).irq = s.irq := rfl
@[simp] theorem modPool_mbx (p : Nat) (f : Pool → Pool) : (modPool p f s).mbx = s.mbx := rfl
@[simp] theorem modPool_gcp (p : Nat) (f : Pool → Pool) : (modPool p f s).gcp = s.gcp := rfl
@[simp] theorem modPool_ops (p : Nat) (f : Pool → Pool) : (modPool p f s).ops = s.ops := rfl
@[simp] theorem modPool_finished (p : Nat) (f : Pool → Pool) : (modPool p f s).finished = s.finished := rfl
@[simp] theorem modPool_nextHandle (p : Nat) (f : Pool → Pool) : (modPool p f s).nextHandle = s.nextHandle := rfl
@[simp] theorem modPool_stat (p : Nat) (f : Pool → Pool) : (modPool p f s).stat = s.stat := rfl
@[simp] theorem modPool_trap (p : Nat) (f : Pool → Pool) : (modPool p f s).trap = s.trap := rfl
@[simp] theorem modPool_inject (p : Nat) (f : Pool → Pool) : (modPool p f s).inject = s.inject := rfl
@[simp] theorem modPool_portCnt (p : Nat) (f : Pool → Pool) : (modPool p f s).portCnt = s.portCnt := rfl
@[simp] theorem modPool_classCnt (p : Nat) (f : Pool → Pool) : (modPool p f s).classCnt = s.classCnt := rfl
@[simp] theorem modPool_ports (p : Nat) (f : Pool → Pool) : (modPool p f s).ports = s.ports := rfl
@[simp] theorem modPool_lanes (p : Nat) (f : Pool → Pool) : (modPool p f s).lanes = s.lanes := rfl
@[simp] theorem modPool_maps (p : Nat) (f : Pool → Pool) : (modPool p f s).maps = s.maps := rfl
@[simp] theorem modPool_flows (p : Nat) (f : Pool → Pool) : (modPool p f s).flows = s.flows := rfl
@[simp] theorem modPool_egress (p : Nat) (f : Pool → Pool) : (modPool p f s).egress = s.egress := rfl
@[simp] theorem modPool_dlks (p : Nat) (f : Pool → Pool) : (modPool p f s).dlks = s.dlks := rfl
@[simp] theorem modPool_core (p : Nat) (f : Pool → Pool) : (modPool p f s).core = { s.core with pools := s.core.pools.modify (Pool.reset p) p f } := rfl
@[simp] theorem modPool_tables (p : Nat) (f : Pool → Pool) : (modPool p f s).tables = s.tables := rfl
@[simp] theorem modPool_tim (p : Nat) (f : Pool → Pool) : (modPool p f s).tim = s.tim := rfl
@[simp] theorem modPool_free (p : Nat) (f : Pool → Pool) : (modPool p f s).free = s.free := rfl
@[simp] theorem modPool_out (p : Nat) (f : Pool → Pool) : (modPool p f s).out = s.out := rfl
@[simp] theorem modPool_pending (p : Nat) (f : Pool → Pool) : (modPool p f s).pending = s.pending := rfl

/-! ### modSlice -/

@[simp] theorem modSlice_clk (i : Nat) (f : SliceRec → SliceRec) : (modSlice i f s).clk = s.clk := rfl
@[simp] theorem modSlice_sys (i : Nat) (f : SliceRec → SliceRec) : (modSlice i f s).sys = s.sys := rfl
@[simp] theorem modSlice_pwr (i : Nat) (f : SliceRec → SliceRec) : (modSlice i f s).pwr = s.pwr := rfl
@[simp] theorem modSlice_dbg (i : Nat) (f : SliceRec → SliceRec) : (modSlice i f s).dbg = s.dbg := rfl
@[simp] theorem modSlice_nv (i : Nat) (f : SliceRec → SliceRec) : (modSlice i f s).nv = s.nv := rfl
@[simp] theorem modSlice_neg (i : Nat) (f : SliceRec → SliceRec) : (modSlice i f s).neg = s.neg := rfl
@[simp] theorem modSlice_irq (i : Nat) (f : SliceRec → SliceRec) : (modSlice i f s).irq = s.irq := rfl
@[simp] theorem modSlice_mbx (i : Nat) (f : SliceRec → SliceRec) : (modSlice i f s).mbx = s.mbx := rfl
@[simp] theorem modSlice_gcp (i : Nat) (f : SliceRec → SliceRec) : (modSlice i f s).gcp = s.gcp := rfl
@[simp] theorem modSlice_ops (i : Nat) (f : SliceRec → SliceRec) : (modSlice i f s).ops = s.ops := rfl
@[simp] theorem modSlice_finished (i : Nat) (f : SliceRec → SliceRec) : (modSlice i f s).finished = s.finished := rfl
@[simp] theorem modSlice_nextHandle (i : Nat) (f : SliceRec → SliceRec) : (modSlice i f s).nextHandle = s.nextHandle := rfl
@[simp] theorem modSlice_stat (i : Nat) (f : SliceRec → SliceRec) : (modSlice i f s).stat = s.stat := rfl
@[simp] theorem modSlice_trap (i : Nat) (f : SliceRec → SliceRec) : (modSlice i f s).trap = s.trap := rfl
@[simp] theorem modSlice_inject (i : Nat) (f : SliceRec → SliceRec) : (modSlice i f s).inject = s.inject := rfl
@[simp] theorem modSlice_portCnt (i : Nat) (f : SliceRec → SliceRec) : (modSlice i f s).portCnt = s.portCnt := rfl
@[simp] theorem modSlice_classCnt (i : Nat) (f : SliceRec → SliceRec) : (modSlice i f s).classCnt = s.classCnt := rfl
@[simp] theorem modSlice_ports (i : Nat) (f : SliceRec → SliceRec) : (modSlice i f s).ports = s.ports := rfl
@[simp] theorem modSlice_lanes (i : Nat) (f : SliceRec → SliceRec) : (modSlice i f s).lanes = s.lanes := rfl
@[simp] theorem modSlice_maps (i : Nat) (f : SliceRec → SliceRec) : (modSlice i f s).maps = s.maps := rfl
@[simp] theorem modSlice_flows (i : Nat) (f : SliceRec → SliceRec) : (modSlice i f s).flows = s.flows := rfl
@[simp] theorem modSlice_egress (i : Nat) (f : SliceRec → SliceRec) : (modSlice i f s).egress = s.egress := rfl
@[simp] theorem modSlice_dlks (i : Nat) (f : SliceRec → SliceRec) : (modSlice i f s).dlks = s.dlks := rfl
@[simp] theorem modSlice_core (i : Nat) (f : SliceRec → SliceRec) : (modSlice i f s).core = { s.core with slices := s.core.slices.modify (SliceRec.reset i) i f } := rfl
@[simp] theorem modSlice_tables (i : Nat) (f : SliceRec → SliceRec) : (modSlice i f s).tables = s.tables := rfl
@[simp] theorem modSlice_tim (i : Nat) (f : SliceRec → SliceRec) : (modSlice i f s).tim = s.tim := rfl
@[simp] theorem modSlice_free (i : Nat) (f : SliceRec → SliceRec) : (modSlice i f s).free = s.free := rfl
@[simp] theorem modSlice_out (i : Nat) (f : SliceRec → SliceRec) : (modSlice i f s).out = s.out := rfl
@[simp] theorem modSlice_pending (i : Nat) (f : SliceRec → SliceRec) : (modSlice i f s).pending = s.pending := rfl

/-! ### modTab -/

@[simp] theorem modTab_clk (i : Nat) (f : SliceTab → SliceTab) : (modTab i f s).clk = s.clk := rfl
@[simp] theorem modTab_sys (i : Nat) (f : SliceTab → SliceTab) : (modTab i f s).sys = s.sys := rfl
@[simp] theorem modTab_pwr (i : Nat) (f : SliceTab → SliceTab) : (modTab i f s).pwr = s.pwr := rfl
@[simp] theorem modTab_dbg (i : Nat) (f : SliceTab → SliceTab) : (modTab i f s).dbg = s.dbg := rfl
@[simp] theorem modTab_nv (i : Nat) (f : SliceTab → SliceTab) : (modTab i f s).nv = s.nv := rfl
@[simp] theorem modTab_neg (i : Nat) (f : SliceTab → SliceTab) : (modTab i f s).neg = s.neg := rfl
@[simp] theorem modTab_irq (i : Nat) (f : SliceTab → SliceTab) : (modTab i f s).irq = s.irq := rfl
@[simp] theorem modTab_mbx (i : Nat) (f : SliceTab → SliceTab) : (modTab i f s).mbx = s.mbx := rfl
@[simp] theorem modTab_gcp (i : Nat) (f : SliceTab → SliceTab) : (modTab i f s).gcp = s.gcp := rfl
@[simp] theorem modTab_ops (i : Nat) (f : SliceTab → SliceTab) : (modTab i f s).ops = s.ops := rfl
@[simp] theorem modTab_finished (i : Nat) (f : SliceTab → SliceTab) : (modTab i f s).finished = s.finished := rfl
@[simp] theorem modTab_nextHandle (i : Nat) (f : SliceTab → SliceTab) : (modTab i f s).nextHandle = s.nextHandle := rfl
@[simp] theorem modTab_stat (i : Nat) (f : SliceTab → SliceTab) : (modTab i f s).stat = s.stat := rfl
@[simp] theorem modTab_trap (i : Nat) (f : SliceTab → SliceTab) : (modTab i f s).trap = s.trap := rfl
@[simp] theorem modTab_inject (i : Nat) (f : SliceTab → SliceTab) : (modTab i f s).inject = s.inject := rfl
@[simp] theorem modTab_portCnt (i : Nat) (f : SliceTab → SliceTab) : (modTab i f s).portCnt = s.portCnt := rfl
@[simp] theorem modTab_classCnt (i : Nat) (f : SliceTab → SliceTab) : (modTab i f s).classCnt = s.classCnt := rfl
@[simp] theorem modTab_ports (i : Nat) (f : SliceTab → SliceTab) : (modTab i f s).ports = s.ports := rfl
@[simp] theorem modTab_lanes (i : Nat) (f : SliceTab → SliceTab) : (modTab i f s).lanes = s.lanes := rfl
@[simp] theorem modTab_maps (i : Nat) (f : SliceTab → SliceTab) : (modTab i f s).maps = s.maps := rfl
@[simp] theorem modTab_flows (i : Nat) (f : SliceTab → SliceTab) : (modTab i f s).flows = s.flows := rfl
@[simp] theorem modTab_egress (i : Nat) (f : SliceTab → SliceTab) : (modTab i f s).egress = s.egress := rfl
@[simp] theorem modTab_dlks (i : Nat) (f : SliceTab → SliceTab) : (modTab i f s).dlks = s.dlks := rfl
@[simp] theorem modTab_core (i : Nat) (f : SliceTab → SliceTab) : (modTab i f s).core = s.core := rfl
@[simp] theorem modTab_tables (i : Nat) (f : SliceTab → SliceTab) : (modTab i f s).tables = { s.tables with slices := s.tables.slices.modify SliceTab.reset i f } := rfl
@[simp] theorem modTab_tim (i : Nat) (f : SliceTab → SliceTab) : (modTab i f s).tim = s.tim := rfl
@[simp] theorem modTab_free (i : Nat) (f : SliceTab → SliceTab) : (modTab i f s).free = s.free := rfl
@[simp] theorem modTab_out (i : Nat) (f : SliceTab → SliceTab) : (modTab i f s).out = s.out := rfl
@[simp] theorem modTab_pending (i : Nat) (f : SliceTab → SliceTab) : (modTab i f s).pending = s.pending := rfl

/-! ### modWin -/

@[simp] theorem modWin_clk (w : Nat) (f : Window → Window) : (modWin w f s).clk = s.clk := rfl
@[simp] theorem modWin_sys (w : Nat) (f : Window → Window) : (modWin w f s).sys = s.sys := rfl
@[simp] theorem modWin_pwr (w : Nat) (f : Window → Window) : (modWin w f s).pwr = s.pwr := rfl
@[simp] theorem modWin_dbg (w : Nat) (f : Window → Window) : (modWin w f s).dbg = s.dbg := rfl
@[simp] theorem modWin_nv (w : Nat) (f : Window → Window) : (modWin w f s).nv = s.nv := rfl
@[simp] theorem modWin_neg (w : Nat) (f : Window → Window) : (modWin w f s).neg = s.neg := rfl
@[simp] theorem modWin_irq (w : Nat) (f : Window → Window) : (modWin w f s).irq = s.irq := rfl
@[simp] theorem modWin_mbx (w : Nat) (f : Window → Window) : (modWin w f s).mbx = s.mbx := rfl
@[simp] theorem modWin_gcp (w : Nat) (f : Window → Window) : (modWin w f s).gcp = s.gcp := rfl
@[simp] theorem modWin_ops (w : Nat) (f : Window → Window) : (modWin w f s).ops = s.ops := rfl
@[simp] theorem modWin_finished (w : Nat) (f : Window → Window) : (modWin w f s).finished = s.finished := rfl
@[simp] theorem modWin_nextHandle (w : Nat) (f : Window → Window) : (modWin w f s).nextHandle = s.nextHandle := rfl
@[simp] theorem modWin_stat (w : Nat) (f : Window → Window) : (modWin w f s).stat = s.stat := rfl
@[simp] theorem modWin_trap (w : Nat) (f : Window → Window) : (modWin w f s).trap = s.trap := rfl
@[simp] theorem modWin_inject (w : Nat) (f : Window → Window) : (modWin w f s).inject = s.inject := rfl
@[simp] theorem modWin_portCnt (w : Nat) (f : Window → Window) : (modWin w f s).portCnt = s.portCnt := rfl
@[simp] theorem modWin_classCnt (w : Nat) (f : Window → Window) : (modWin w f s).classCnt = s.classCnt := rfl
@[simp] theorem modWin_ports (w : Nat) (f : Window → Window) : (modWin w f s).ports = s.ports := rfl
@[simp] theorem modWin_lanes (w : Nat) (f : Window → Window) : (modWin w f s).lanes = s.lanes := rfl
@[simp] theorem modWin_maps (w : Nat) (f : Window → Window) : (modWin w f s).maps = s.maps := rfl
@[simp] theorem modWin_flows (w : Nat) (f : Window → Window) : (modWin w f s).flows = s.flows := rfl
@[simp] theorem modWin_egress (w : Nat) (f : Window → Window) : (modWin w f s).egress = s.egress := rfl
@[simp] theorem modWin_dlks (w : Nat) (f : Window → Window) : (modWin w f s).dlks = s.dlks := rfl
@[simp] theorem modWin_core (w : Nat) (f : Window → Window) : (modWin w f s).core = s.core := rfl
@[simp] theorem modWin_tables (w : Nat) (f : Window → Window) : (modWin w f s).tables = { s.tables with windows := s.tables.windows.modify Window.reset w f } := rfl
@[simp] theorem modWin_tim (w : Nat) (f : Window → Window) : (modWin w f s).tim = s.tim := rfl
@[simp] theorem modWin_free (w : Nat) (f : Window → Window) : (modWin w f s).free = s.free := rfl
@[simp] theorem modWin_out (w : Nat) (f : Window → Window) : (modWin w f s).out = s.out := rfl
@[simp] theorem modWin_pending (w : Nat) (f : Window → Window) : (modWin w f s).pending = s.pending := rfl

/-! ### modTrap -/

@[simp] theorem modTrap_clk (c : Nat) (f : CpuRing → CpuRing) : (modTrap c f s).clk = s.clk := rfl
@[simp] theorem modTrap_sys (c : Nat) (f : CpuRing → CpuRing) : (modTrap c f s).sys = s.sys := rfl
@[simp] theorem modTrap_pwr (c : Nat) (f : CpuRing → CpuRing) : (modTrap c f s).pwr = s.pwr := rfl
@[simp] theorem modTrap_dbg (c : Nat) (f : CpuRing → CpuRing) : (modTrap c f s).dbg = s.dbg := rfl
@[simp] theorem modTrap_nv (c : Nat) (f : CpuRing → CpuRing) : (modTrap c f s).nv = s.nv := rfl
@[simp] theorem modTrap_neg (c : Nat) (f : CpuRing → CpuRing) : (modTrap c f s).neg = s.neg := rfl
@[simp] theorem modTrap_irq (c : Nat) (f : CpuRing → CpuRing) : (modTrap c f s).irq = s.irq := rfl
@[simp] theorem modTrap_mbx (c : Nat) (f : CpuRing → CpuRing) : (modTrap c f s).mbx = s.mbx := rfl
@[simp] theorem modTrap_gcp (c : Nat) (f : CpuRing → CpuRing) : (modTrap c f s).gcp = s.gcp := rfl
@[simp] theorem modTrap_ops (c : Nat) (f : CpuRing → CpuRing) : (modTrap c f s).ops = s.ops := rfl
@[simp] theorem modTrap_finished (c : Nat) (f : CpuRing → CpuRing) : (modTrap c f s).finished = s.finished := rfl
@[simp] theorem modTrap_nextHandle (c : Nat) (f : CpuRing → CpuRing) : (modTrap c f s).nextHandle = s.nextHandle := rfl
@[simp] theorem modTrap_stat (c : Nat) (f : CpuRing → CpuRing) : (modTrap c f s).stat = s.stat := rfl
@[simp] theorem modTrap_trap (c : Nat) (f : CpuRing → CpuRing) : (modTrap c f s).trap = s.trap.modify CpuRing.reset c f := rfl
@[simp] theorem modTrap_inject (c : Nat) (f : CpuRing → CpuRing) : (modTrap c f s).inject = s.inject := rfl
@[simp] theorem modTrap_portCnt (c : Nat) (f : CpuRing → CpuRing) : (modTrap c f s).portCnt = s.portCnt := rfl
@[simp] theorem modTrap_classCnt (c : Nat) (f : CpuRing → CpuRing) : (modTrap c f s).classCnt = s.classCnt := rfl
@[simp] theorem modTrap_ports (c : Nat) (f : CpuRing → CpuRing) : (modTrap c f s).ports = s.ports := rfl
@[simp] theorem modTrap_lanes (c : Nat) (f : CpuRing → CpuRing) : (modTrap c f s).lanes = s.lanes := rfl
@[simp] theorem modTrap_maps (c : Nat) (f : CpuRing → CpuRing) : (modTrap c f s).maps = s.maps := rfl
@[simp] theorem modTrap_flows (c : Nat) (f : CpuRing → CpuRing) : (modTrap c f s).flows = s.flows := rfl
@[simp] theorem modTrap_egress (c : Nat) (f : CpuRing → CpuRing) : (modTrap c f s).egress = s.egress := rfl
@[simp] theorem modTrap_dlks (c : Nat) (f : CpuRing → CpuRing) : (modTrap c f s).dlks = s.dlks := rfl
@[simp] theorem modTrap_core (c : Nat) (f : CpuRing → CpuRing) : (modTrap c f s).core = s.core := rfl
@[simp] theorem modTrap_tables (c : Nat) (f : CpuRing → CpuRing) : (modTrap c f s).tables = s.tables := rfl
@[simp] theorem modTrap_tim (c : Nat) (f : CpuRing → CpuRing) : (modTrap c f s).tim = s.tim := rfl
@[simp] theorem modTrap_free (c : Nat) (f : CpuRing → CpuRing) : (modTrap c f s).free = s.free := rfl
@[simp] theorem modTrap_out (c : Nat) (f : CpuRing → CpuRing) : (modTrap c f s).out = s.out := rfl
@[simp] theorem modTrap_pending (c : Nat) (f : CpuRing → CpuRing) : (modTrap c f s).pending = s.pending := rfl

/-! ### modInj -/

@[simp] theorem modInj_clk (c : Nat) (f : CpuRing → CpuRing) : (modInj c f s).clk = s.clk := rfl
@[simp] theorem modInj_sys (c : Nat) (f : CpuRing → CpuRing) : (modInj c f s).sys = s.sys := rfl
@[simp] theorem modInj_pwr (c : Nat) (f : CpuRing → CpuRing) : (modInj c f s).pwr = s.pwr := rfl
@[simp] theorem modInj_dbg (c : Nat) (f : CpuRing → CpuRing) : (modInj c f s).dbg = s.dbg := rfl
@[simp] theorem modInj_nv (c : Nat) (f : CpuRing → CpuRing) : (modInj c f s).nv = s.nv := rfl
@[simp] theorem modInj_neg (c : Nat) (f : CpuRing → CpuRing) : (modInj c f s).neg = s.neg := rfl
@[simp] theorem modInj_irq (c : Nat) (f : CpuRing → CpuRing) : (modInj c f s).irq = s.irq := rfl
@[simp] theorem modInj_mbx (c : Nat) (f : CpuRing → CpuRing) : (modInj c f s).mbx = s.mbx := rfl
@[simp] theorem modInj_gcp (c : Nat) (f : CpuRing → CpuRing) : (modInj c f s).gcp = s.gcp := rfl
@[simp] theorem modInj_ops (c : Nat) (f : CpuRing → CpuRing) : (modInj c f s).ops = s.ops := rfl
@[simp] theorem modInj_finished (c : Nat) (f : CpuRing → CpuRing) : (modInj c f s).finished = s.finished := rfl
@[simp] theorem modInj_nextHandle (c : Nat) (f : CpuRing → CpuRing) : (modInj c f s).nextHandle = s.nextHandle := rfl
@[simp] theorem modInj_stat (c : Nat) (f : CpuRing → CpuRing) : (modInj c f s).stat = s.stat := rfl
@[simp] theorem modInj_trap (c : Nat) (f : CpuRing → CpuRing) : (modInj c f s).trap = s.trap := rfl
@[simp] theorem modInj_inject (c : Nat) (f : CpuRing → CpuRing) : (modInj c f s).inject = s.inject.modify CpuRing.reset c f := rfl
@[simp] theorem modInj_portCnt (c : Nat) (f : CpuRing → CpuRing) : (modInj c f s).portCnt = s.portCnt := rfl
@[simp] theorem modInj_classCnt (c : Nat) (f : CpuRing → CpuRing) : (modInj c f s).classCnt = s.classCnt := rfl
@[simp] theorem modInj_ports (c : Nat) (f : CpuRing → CpuRing) : (modInj c f s).ports = s.ports := rfl
@[simp] theorem modInj_lanes (c : Nat) (f : CpuRing → CpuRing) : (modInj c f s).lanes = s.lanes := rfl
@[simp] theorem modInj_maps (c : Nat) (f : CpuRing → CpuRing) : (modInj c f s).maps = s.maps := rfl
@[simp] theorem modInj_flows (c : Nat) (f : CpuRing → CpuRing) : (modInj c f s).flows = s.flows := rfl
@[simp] theorem modInj_egress (c : Nat) (f : CpuRing → CpuRing) : (modInj c f s).egress = s.egress := rfl
@[simp] theorem modInj_dlks (c : Nat) (f : CpuRing → CpuRing) : (modInj c f s).dlks = s.dlks := rfl
@[simp] theorem modInj_core (c : Nat) (f : CpuRing → CpuRing) : (modInj c f s).core = s.core := rfl
@[simp] theorem modInj_tables (c : Nat) (f : CpuRing → CpuRing) : (modInj c f s).tables = s.tables := rfl
@[simp] theorem modInj_tim (c : Nat) (f : CpuRing → CpuRing) : (modInj c f s).tim = s.tim := rfl
@[simp] theorem modInj_free (c : Nat) (f : CpuRing → CpuRing) : (modInj c f s).free = s.free := rfl
@[simp] theorem modInj_out (c : Nat) (f : CpuRing → CpuRing) : (modInj c f s).out = s.out := rfl
@[simp] theorem modInj_pending (c : Nat) (f : CpuRing → CpuRing) : (modInj c f s).pending = s.pending := rfl

/-! ### setOp -/

@[simp] theorem setOp_clk (o : Op) : (setOp o s).clk = s.clk := rfl
@[simp] theorem setOp_sys (o : Op) : (setOp o s).sys = s.sys := rfl
@[simp] theorem setOp_pwr (o : Op) : (setOp o s).pwr = s.pwr := rfl
@[simp] theorem setOp_dbg (o : Op) : (setOp o s).dbg = s.dbg := rfl
@[simp] theorem setOp_nv (o : Op) : (setOp o s).nv = s.nv := rfl
@[simp] theorem setOp_neg (o : Op) : (setOp o s).neg = s.neg := rfl
@[simp] theorem setOp_irq (o : Op) : (setOp o s).irq = s.irq := rfl
@[simp] theorem setOp_mbx (o : Op) : (setOp o s).mbx = s.mbx := rfl
@[simp] theorem setOp_gcp (o : Op) : (setOp o s).gcp = s.gcp := rfl
@[simp] theorem setOp_ops (o : Op) : (setOp o s).ops = s.ops.map (fun p => if p.handle == o.handle then o else p) := rfl
@[simp] theorem setOp_finished (o : Op) : (setOp o s).finished = s.finished := rfl
@[simp] theorem setOp_nextHandle (o : Op) : (setOp o s).nextHandle = s.nextHandle := rfl
@[simp] theorem setOp_stat (o : Op) : (setOp o s).stat = s.stat := rfl
@[simp] theorem setOp_trap (o : Op) : (setOp o s).trap = s.trap := rfl
@[simp] theorem setOp_inject (o : Op) : (setOp o s).inject = s.inject := rfl
@[simp] theorem setOp_portCnt (o : Op) : (setOp o s).portCnt = s.portCnt := rfl
@[simp] theorem setOp_classCnt (o : Op) : (setOp o s).classCnt = s.classCnt := rfl
@[simp] theorem setOp_ports (o : Op) : (setOp o s).ports = s.ports := rfl
@[simp] theorem setOp_lanes (o : Op) : (setOp o s).lanes = s.lanes := rfl
@[simp] theorem setOp_maps (o : Op) : (setOp o s).maps = s.maps := rfl
@[simp] theorem setOp_flows (o : Op) : (setOp o s).flows = s.flows := rfl
@[simp] theorem setOp_egress (o : Op) : (setOp o s).egress = s.egress := rfl
@[simp] theorem setOp_dlks (o : Op) : (setOp o s).dlks = s.dlks := rfl
@[simp] theorem setOp_core (o : Op) : (setOp o s).core = s.core := rfl
@[simp] theorem setOp_tables (o : Op) : (setOp o s).tables = s.tables := rfl
@[simp] theorem setOp_tim (o : Op) : (setOp o s).tim = s.tim := rfl
@[simp] theorem setOp_free (o : Op) : (setOp o s).free = s.free := rfl
@[simp] theorem setOp_out (o : Op) : (setOp o s).out = s.out := rfl
@[simp] theorem setOp_pending (o : Op) : (setOp o s).pending = s.pending := rfl

/-! ### cntPort -/

@[simp] theorem cntPort_clk (p idx n : Nat) : (cntPort p idx n s).clk = s.clk := rfl
@[simp] theorem cntPort_sys (p idx n : Nat) : (cntPort p idx n s).sys = s.sys := rfl
@[simp] theorem cntPort_pwr (p idx n : Nat) : (cntPort p idx n s).pwr = s.pwr := rfl
@[simp] theorem cntPort_dbg (p idx n : Nat) : (cntPort p idx n s).dbg = s.dbg := rfl
@[simp] theorem cntPort_nv (p idx n : Nat) : (cntPort p idx n s).nv = s.nv := rfl
@[simp] theorem cntPort_neg (p idx n : Nat) : (cntPort p idx n s).neg = s.neg := rfl
@[simp] theorem cntPort_irq (p idx n : Nat) : (cntPort p idx n s).irq = s.irq := rfl
@[simp] theorem cntPort_mbx (p idx n : Nat) : (cntPort p idx n s).mbx = s.mbx := rfl
@[simp] theorem cntPort_gcp (p idx n : Nat) : (cntPort p idx n s).gcp = s.gcp := rfl
@[simp] theorem cntPort_ops (p idx n : Nat) : (cntPort p idx n s).ops = s.ops := rfl
@[simp] theorem cntPort_finished (p idx n : Nat) : (cntPort p idx n s).finished = s.finished := rfl
@[simp] theorem cntPort_nextHandle (p idx n : Nat) : (cntPort p idx n s).nextHandle = s.nextHandle := rfl
@[simp] theorem cntPort_stat (p idx n : Nat) : (cntPort p idx n s).stat = s.stat := rfl
@[simp] theorem cntPort_trap (p idx n : Nat) : (cntPort p idx n s).trap = s.trap := rfl
@[simp] theorem cntPort_inject (p idx n : Nat) : (cntPort p idx n s).inject = s.inject := rfl
@[simp] theorem cntPort_portCnt (p idx n : Nat) : (cntPort p idx n s).portCnt = s.portCnt.modify 0 (p * 32 + idx) (fun v => wrapAdd 64 v n) := rfl
@[simp] theorem cntPort_classCnt (p idx n : Nat) : (cntPort p idx n s).classCnt = s.classCnt := rfl
@[simp] theorem cntPort_ports (p idx n : Nat) : (cntPort p idx n s).ports = s.ports := rfl
@[simp] theorem cntPort_lanes (p idx n : Nat) : (cntPort p idx n s).lanes = s.lanes := rfl
@[simp] theorem cntPort_maps (p idx n : Nat) : (cntPort p idx n s).maps = s.maps := rfl
@[simp] theorem cntPort_flows (p idx n : Nat) : (cntPort p idx n s).flows = s.flows := rfl
@[simp] theorem cntPort_egress (p idx n : Nat) : (cntPort p idx n s).egress = s.egress := rfl
@[simp] theorem cntPort_dlks (p idx n : Nat) : (cntPort p idx n s).dlks = s.dlks := rfl
@[simp] theorem cntPort_core (p idx n : Nat) : (cntPort p idx n s).core = s.core := rfl
@[simp] theorem cntPort_tables (p idx n : Nat) : (cntPort p idx n s).tables = s.tables := rfl
@[simp] theorem cntPort_tim (p idx n : Nat) : (cntPort p idx n s).tim = s.tim := rfl
@[simp] theorem cntPort_free (p idx n : Nat) : (cntPort p idx n s).free = s.free := rfl
@[simp] theorem cntPort_out (p idx n : Nat) : (cntPort p idx n s).out = s.out := rfl
@[simp] theorem cntPort_pending (p idx n : Nat) : (cntPort p idx n s).pending = s.pending := rfl

/-! ### cntClass -/

@[simp] theorem cntClass_clk (p tc idx n : Nat) : (cntClass p tc idx n s).clk = s.clk := rfl
@[simp] theorem cntClass_sys (p tc idx n : Nat) : (cntClass p tc idx n s).sys = s.sys := rfl
@[simp] theorem cntClass_pwr (p tc idx n : Nat) : (cntClass p tc idx n s).pwr = s.pwr := rfl
@[simp] theorem cntClass_dbg (p tc idx n : Nat) : (cntClass p tc idx n s).dbg = s.dbg := rfl
@[simp] theorem cntClass_nv (p tc idx n : Nat) : (cntClass p tc idx n s).nv = s.nv := rfl
@[simp] theorem cntClass_neg (p tc idx n : Nat) : (cntClass p tc idx n s).neg = s.neg := rfl
@[simp] theorem cntClass_irq (p tc idx n : Nat) : (cntClass p tc idx n s).irq = s.irq := rfl
@[simp] theorem cntClass_mbx (p tc idx n : Nat) : (cntClass p tc idx n s).mbx = s.mbx := rfl
@[simp] theorem cntClass_gcp (p tc idx n : Nat) : (cntClass p tc idx n s).gcp = s.gcp := rfl
@[simp] theorem cntClass_ops (p tc idx n : Nat) : (cntClass p tc idx n s).ops = s.ops := rfl
@[simp] theorem cntClass_finished (p tc idx n : Nat) : (cntClass p tc idx n s).finished = s.finished := rfl
@[simp] theorem cntClass_nextHandle (p tc idx n : Nat) : (cntClass p tc idx n s).nextHandle = s.nextHandle := rfl
@[simp] theorem cntClass_stat (p tc idx n : Nat) : (cntClass p tc idx n s).stat = s.stat := rfl
@[simp] theorem cntClass_trap (p tc idx n : Nat) : (cntClass p tc idx n s).trap = s.trap := rfl
@[simp] theorem cntClass_inject (p tc idx n : Nat) : (cntClass p tc idx n s).inject = s.inject := rfl
@[simp] theorem cntClass_portCnt (p tc idx n : Nat) : (cntClass p tc idx n s).portCnt = s.portCnt := rfl
@[simp] theorem cntClass_classCnt (p tc idx n : Nat) : (cntClass p tc idx n s).classCnt = s.classCnt.modify 0 ((p * 8 + tc) * 16 + idx) (fun v => wrapAdd 64 v n) := rfl
@[simp] theorem cntClass_ports (p tc idx n : Nat) : (cntClass p tc idx n s).ports = s.ports := rfl
@[simp] theorem cntClass_lanes (p tc idx n : Nat) : (cntClass p tc idx n s).lanes = s.lanes := rfl
@[simp] theorem cntClass_maps (p tc idx n : Nat) : (cntClass p tc idx n s).maps = s.maps := rfl
@[simp] theorem cntClass_flows (p tc idx n : Nat) : (cntClass p tc idx n s).flows = s.flows := rfl
@[simp] theorem cntClass_egress (p tc idx n : Nat) : (cntClass p tc idx n s).egress = s.egress := rfl
@[simp] theorem cntClass_dlks (p tc idx n : Nat) : (cntClass p tc idx n s).dlks = s.dlks := rfl
@[simp] theorem cntClass_core (p tc idx n : Nat) : (cntClass p tc idx n s).core = s.core := rfl
@[simp] theorem cntClass_tables (p tc idx n : Nat) : (cntClass p tc idx n s).tables = s.tables := rfl
@[simp] theorem cntClass_tim (p tc idx n : Nat) : (cntClass p tc idx n s).tim = s.tim := rfl
@[simp] theorem cntClass_free (p tc idx n : Nat) : (cntClass p tc idx n s).free = s.free := rfl
@[simp] theorem cntClass_out (p tc idx n : Nat) : (cntClass p tc idx n s).out = s.out := rfl
@[simp] theorem cntClass_pending (p tc idx n : Nat) : (cntClass p tc idx n s).pending = s.pending := rfl

/-! ### A read after a write -/

@[simp] theorem port_modPort_same (p : Nat) (f : PortRec → PortRec) : (modPort p f s).port p = f (s.port p) :=
  tab_get_modify_same _ _ _ _

theorem port_modPort_other {p j : Nat} (h : j ≠ p) (f : PortRec → PortRec) : (modPort p f s).port j = s.port j := by
  simp [State.port, h]

@[simp] theorem lane_modLane_same (l : Nat) (f : LaneRec → LaneRec) : (modLane l f s).lane l = f (s.lane l) :=
  tab_get_modify_same _ _ _ _

theorem lane_modLane_other {l j : Nat} (h : j ≠ l) (f : LaneRec → LaneRec) : (modLane l f s).lane j = s.lane j := by
  simp [State.lane, h]

@[simp] theorem flow_modFlow_same (p : Nat) (f : Flow → Flow) : (modFlow p f s).flow p = f (s.flow p) :=
  tab_get_modify_same _ _ _ _

theorem flow_modFlow_other {p j : Nat} (h : j ≠ p) (f : Flow → Flow) : (modFlow p f s).flow j = s.flow j := by
  simp [State.flow, h]

@[simp] theorem eg_modEg_same (p : Nat) (f : Egress → Egress) : (modEg p f s).eg p = f (s.eg p) :=
  tab_get_modify_same _ _ _ _

theorem eg_modEg_other {p j : Nat} (h : j ≠ p) (f : Egress → Egress) : (modEg p f s).eg j = s.eg j := by
  simp [State.eg, h]

@[simp] theorem dlk_modDlk_same (p : Nat) (f : Dlk → Dlk) : (modDlk p f s).dlk p = f (s.dlk p) :=
  tab_get_modify_same _ _ _ _

theorem dlk_modDlk_other {p j : Nat} (h : j ≠ p) (f : Dlk → Dlk) : (modDlk p f s).dlk j = s.dlk j := by
  simp [State.dlk, h]

@[simp] theorem pool_modPool_same (p : Nat) (f : Pool → Pool) : (modPool p f s).pool p = f (s.pool p) :=
  tab_get_modify_same _ _ _ _

theorem pool_modPool_other {p j : Nat} (h : j ≠ p) (f : Pool → Pool) : (modPool p f s).pool j = s.pool j := by
  simp [State.pool, Tab.modify, h]

@[simp] theorem slice_modSlice_same (i : Nat) (f : SliceRec → SliceRec) : (modSlice i f s).slice i = f (s.slice i) :=
  tab_get_modify_same _ _ _ _

theorem slice_modSlice_other {i j : Nat} (h : j ≠ i) (f : SliceRec → SliceRec) : (modSlice i f s).slice j = s.slice j := by
  simp [State.slice, Tab.modify, h]

@[simp] theorem tab_modTab_same (i : Nat) (f : SliceTab → SliceTab) : (modTab i f s).tab i = f (s.tab i) :=
  tab_get_modify_same _ _ _ _

theorem tab_modTab_other {i j : Nat} (h : j ≠ i) (f : SliceTab → SliceTab) : (modTab i f s).tab j = s.tab j := by
  simp [State.tab, h]

@[simp] theorem win_modWin_same (w : Nat) (f : Window → Window) : (modWin w f s).win w = f (s.win w) :=
  tab_get_modify_same _ _ _ _

theorem win_modWin_other {w j : Nat} (h : j ≠ w) (f : Window → Window) : (modWin w f s).win j = s.win j := by
  simp [State.win, h]

@[simp] theorem ref_modRef_same (r : Nat) (f : Ref → Ref) : (modRef r f s).ref r = f (s.ref r) :=
  tab_get_modify_same _ _ _ _

theorem ref_modRef_other {r j : Nat} (h : j ≠ r) (f : Ref → Ref) : (modRef r f s).ref j = s.ref j := by
  simp [State.ref, Tab.modify, h]

@[simp] theorem dpll_modDpll_same (d : Nat) (f : Dpll → Dpll) : (modDpll d f s).dpll d = f (s.dpll d) :=
  tab_get_modify_same _ _ _ _

theorem dpll_modDpll_other {d j : Nat} (h : j ≠ d) (f : Dpll → Dpll) : (modDpll d f s).dpll j = s.dpll j := by
  simp [State.dpll, Tab.modify, h]

/-! ### A change after a change -/

theorem modPort_modPort (p : Nat) (f g : PortRec → PortRec) : modPort p g (modPort p f s) = modPort p (fun x => g (f x)) s := by
  simp [modPort]

theorem modLane_modLane (l : Nat) (f g : LaneRec → LaneRec) : modLane l g (modLane l f s) = modLane l (fun x => g (f x)) s := by
  simp [modLane]

theorem modFlow_modFlow (p : Nat) (f g : Flow → Flow) : modFlow p g (modFlow p f s) = modFlow p (fun x => g (f x)) s := by
  simp [modFlow]

theorem modEg_modEg (p : Nat) (f g : Egress → Egress) : modEg p g (modEg p f s) = modEg p (fun x => g (f x)) s := by
  simp [modEg]

theorem modDlk_modDlk (p : Nat) (f g : Dlk → Dlk) : modDlk p g (modDlk p f s) = modDlk p (fun x => g (f x)) s := by
  simp [modDlk]

theorem modPool_modPool (p : Nat) (f g : Pool → Pool) : modPool p g (modPool p f s) = modPool p (fun x => g (f x)) s := by
  simp [modPool]

theorem modSlice_modSlice (i : Nat) (f g : SliceRec → SliceRec) : modSlice i g (modSlice i f s) = modSlice i (fun x => g (f x)) s := by
  simp [modSlice]

theorem modTab_modTab (i : Nat) (f g : SliceTab → SliceTab) : modTab i g (modTab i f s) = modTab i (fun x => g (f x)) s := by
  simp [modTab]

theorem modWin_modWin (w : Nat) (f g : Window → Window) : modWin w g (modWin w f s) = modWin w (fun x => g (f x)) s := by
  simp [modWin]

theorem modRef_modRef (r : Nat) (f g : Ref → Ref) : modRef r g (modRef r f s) = modRef r (fun x => g (f x)) s := by
  simp [modRef, modTim]

theorem modDpll_modDpll (d : Nat) (f g : Dpll → Dpll) : modDpll d g (modDpll d f s) = modDpll d (fun x => g (f x)) s := by
  simp [modDpll, modTim]

end Sys2Proof.Machine
end

