-- ==== Sys2Proof/Laws/Kept.lean ====
section
/-! SUPPORT. The queue and the owner's part of a state (`State.kept`) through record updates, choices and folds. -/

namespace Sys2Proof.Machine

@[simp ↓] theorem kept_mk (a b c d nv e f g h i j k l m n o p q r t u v w x y z aa bb pending) :
    State.kept (State.mk a b c d nv e f g h i j k l m n o p q r t u v w x y z aa bb pending) =
      (pending, nv.lifecycle, nv.keys, nv.ownerPolicy, nv.ownerHash, nv.minVersion, nv.rk) := (rfl)

@[simp] theorem kept_fold (s : State) :
    (s.pending, s.nv.lifecycle, s.nv.keys, s.nv.ownerPolicy, s.nv.ownerHash, s.nv.minVersion, s.nv.rk) = s.kept := (rfl)

@[simp ↓] theorem kept_ite (c : Prop) [Decidable c] (a b : State) :
    (if c then a else b).kept = if c then a.kept else b.kept := apply_ite _ _ _ _

@[simp] theorem kept_foldl {α : Type} (f : State → α → State) (h : ∀ s a, (f s a).kept = s.kept) (l : List α) (s : State) :
    (l.foldl f s).kept = s.kept := by
  induction l generalizing s with
  | nil => rfl
  | cons x xs ih => rw [List.foldl_cons, ih, h]

theorem kept_foldl_snd {α β : Type} (f : β × State → α → β × State) (h : ∀ x a, (f x a).2.kept = x.2.kept)
    (l : List α) (x : β × State) : (l.foldl f x).2.kept = x.2.kept := by
  induction l generalizing x with
  | nil => rfl
  | cons a as ih => rw [List.foldl_cons, ih, h]

end Sys2Proof.Machine
end

