-- ==== Sys2Proof/Laws/KeptOps.lean ====
section
/-! SUPPORT. Frames over the queue and the owner's part (`State.kept`): raising causes, writing the Negative, operations and answers. -/

namespace Sys2Proof.Machine

set_option linter.unusedTactic false
set_option linter.unreachableTactic false
set_option linter.unnecessarySeqFocus false
set_option linter.unusedSimpArgs false

/-! ### Ops -/

@[simp ↓] theorem State.send_kept (s : State) (x1 : Out) : (State.send s x1).kept = s.kept := by
  simp [State.send]

@[simp ↓] theorem State.draw_kept (s : State) : (State.draw s).kept = s.kept := by
  simp [State.draw]

@[simp ↓] theorem passTicks_kept (x0 : ℕ) (s : State) : (passTicks x0 s).kept = s.kept := by
  simp only [passTicks]
  repeat' (first
    | (simp; done)
    | split
    | (refine (kept_foldl _ (fun _ _ => ?_) _ _).trans ?_)
    | simp)

@[simp ↓] theorem advanceTo_kept (x0 : ℕ) (s : State) : (advanceTo x0 s).kept = s.kept := by
  simp [advanceTo]

@[simp ↓] theorem message_kept (x0 : ℕ) (s : State) : (message x0 s).kept = s.kept := by
  simp [message]

@[simp ↓] theorem setCause_kept (x0 : ℕ) (s : State) : (setCause x0 s).kept = s.kept := by
  simp [setCause]

@[simp ↓] theorem evqWrite_kept (x0 : Bytes) (s : State) : (evqWrite x0 s).kept = s.kept := by
  simp [evqWrite]

@[simp ↓] theorem evqPut_kept (x0 : Bytes) (s : State) : (evqPut x0 s).kept = s.kept := by
  simp [evqPut]

@[simp ↓] theorem evQueue_kept (x0 : ℕ) (x1 : Bool) (x2 : ℕ) (x3 : Bytes) (s : State) : (evQueue x0 x1 x2 x3 s).kept = s.kept := by
  simp [evQueue]

@[simp ↓] theorem raise_kept (x0 : ℕ) (x1 : ℕ) (x2 : Bytes) (s : State) : (raise x0 x1 x2 s).kept = s.kept := by
  simp [raise]

@[simp ↓] theorem raiseClear_kept (x0 : ℕ) (x1 : ℕ) (x2 : Bytes) (s : State) : (raiseClear x0 x1 x2 s).kept = s.kept := by
  simp [raiseClear]

@[simp ↓] theorem evqDrainLoop_kept (x0 : ℕ) (s : State) : (evqDrainLoop x0 s).kept = s.kept := by
  induction x0 generalizing s <;> simp only [evqDrainLoop] <;>
  (repeat' (first
    | (simp [*]; done)
    | split
    | (refine (kept_foldl _ (fun _ _ => ?_) _ _).trans ?_)
    | simp [*]))

@[simp ↓] theorem evqDrain_kept (s : State) : (evqDrain s).kept = s.kept := by
  simp [evqDrain]

@[simp ↓] theorem negStore_kept (x0 : NegRec) (x1 : Bool) (s : State) : (negStore x0 x1 s).kept = s.kept := by
  simp [negStore]

@[simp ↓] theorem negPut_kept (x0 : NegRec) (s : State) : (negPut x0 s).kept = s.kept := by
  simp [negPut]

@[simp ↓] theorem negWrite_kept (x0 : ℕ) (x1 : Bytes) (s : State) : (negWrite x0 x1 s).kept = s.kept := by
  simp only [negWrite]
  repeat' (first
    | (simp; done)
    | split
    | (refine (kept_foldl _ (fun _ _ => ?_) _ _).trans ?_)
    | simp)

@[simp ↓] theorem negInternal_kept (x0 : InternalFault) (x1 : ℕ) (s : State) : (negInternal x0 x1 s).2.kept = s.kept := by
  simp [negInternal]

@[simp ↓] theorem negFlush_kept (s : State) : (negFlush s).kept = s.kept := by
  simp only [negFlush]
  repeat' (first
    | (simp; done)
    | split
    | (refine (kept_foldl _ (fun _ _ => ?_) _ _).trans ?_)
    | simp)

@[simp ↓] theorem mbxPost_kept (x0 : Bytes) (s : State) : (mbxPost x0 s).kept = s.kept := by
  simp [mbxPost]

@[simp ↓] theorem mbxDrain_kept (x0 : ℕ) (s : State) : (mbxDrain x0 s).kept = s.kept := by
  induction x0 generalizing s <;> simp only [mbxDrain] <;>
  (repeat' (first
    | (simp [*]; done)
    | split
    | (refine (kept_foldl _ (fun _ _ => ?_) _ _).trans ?_)
    | simp [*]))

@[simp ↓] theorem mbxNotice_kept (x0 : Bytes) (s : State) : (mbxNotice x0 s).kept = s.kept := by
  simp [mbxNotice]

@[simp ↓] theorem mbxReply_kept (x0 : Bytes) (s : State) : (mbxReply x0 s).kept = s.kept := by
  simp [mbxReply]

@[simp ↓] theorem fwSend_kept (x0 : ℕ) (x1 : ℕ) (x2 : Bytes) (x3 : Option Out) (s : State) : (fwSend x0 x1 x2 x3 s).kept = s.kept := by
  simp [fwSend]

@[simp ↓] theorem inbandSend_kept (x0 : ℕ) (x1 : Mac) (x2 : Option (BitVec 12)) (x3 : Bytes) (s : State) : (inbandSend x0 x1 x2 x3 s).kept = s.kept := by
  simp [inbandSend]

@[simp ↓] theorem deliver_kept (x0 : Origin) (x1 : Bytes) (s : State) : (deliver x0 x1 s).kept = s.kept := by
  unfold deliver
  repeat' (first
    | (simp; done)
    | split
    | (refine (kept_foldl _ (fun _ _ => ?_) _ _).trans ?_)
    | simp)

@[simp ↓] theorem notify_kept (x0 : Origin) (x1 : Bytes) (s : State) : (notify x0 x1 s).kept = s.kept := by
  unfold notify
  repeat' (first
    | (simp; done)
    | split
    | (refine (kept_foldl _ (fun _ _ => ?_) _ _).trans ?_)
    | simp)

@[simp ↓] theorem setOp_kept (x0 : Op) (s : State) : (setOp x0 s).kept = s.kept := by
  simp [setOp]

@[simp ↓] theorem opFinish_kept (x0 : ℕ) (x1 : OpState) (x2 : ℕ) (s : State) : (opFinish x0 x1 x2 s).kept = s.kept := by
  simp only [opFinish]
  repeat' (first
    | (simp; done)
    | split
    | (refine (kept_foldl _ (fun _ _ => ?_) _ _).trans ?_)
    | simp)

@[simp ↓] theorem opStart_kept (x0 : ℕ) (x1 : Transport) (x2 : Option Origin) (x3 : Option Bytes) (x4 : Bool) (x5 : Work) (s : State) : (opStart x0 x1 x2 x3 x4 x5 s).2.kept = s.kept := by
  simp [opStart]

@[simp ↓] theorem suspendPoint_kept (x0 : ℕ) (s : State) : (suspendPoint x0 s).kept = s.kept := by
  unfold suspendPoint
  repeat' (first
    | (simp; done)
    | split
    | (refine (kept_foldl _ (fun _ _ => ?_) _ _).trans ?_)
    | simp)

@[simp ↓] theorem opComplete_kept (x0 : ℕ) (s : State) : (opComplete x0 s).kept = s.kept := by
  unfold opComplete
  repeat' (first
    | (simp; done)
    | split
    | (refine (kept_foldl _ (fun _ _ => ?_) _ _).trans ?_)
    | simp)

@[simp ↓] theorem opFail_kept (x0 : ℕ) (x1 : ℕ) (s : State) : (opFail x0 x1 s).kept = s.kept := by
  unfold opFail
  repeat' (first
    | (simp; done)
    | split
    | (refine (kept_foldl _ (fun _ _ => ?_) _ _).trans ?_)
    | simp)

@[simp ↓] theorem cntPort_kept (x0 : ℕ) (x1 : ℕ) (x2 : ℕ) (s : State) : (cntPort x0 x1 x2 s).kept = s.kept := by
  simp [cntPort]

@[simp ↓] theorem cntClass_kept (x0 : ℕ) (x1 : ℕ) (x2 : ℕ) (x3 : ℕ) (s : State) : (cntClass x0 x1 x2 x3 s).kept = s.kept := by
  simp [cntClass]

@[simp ↓] theorem dbgClose_kept (x0 : ℕ) (s : State) : (dbgClose x0 s).kept = s.kept := by
  unfold dbgClose
  repeat' (first
    | (simp; done)
    | split
    | (refine (kept_foldl _ (fun _ _ => ?_) _ _).trans ?_)
    | simp)

@[simp ↓] theorem dbgCloseHost_kept (x0 : ℕ) (s : State) : (dbgCloseHost x0 s).kept = s.kept := by
  unfold dbgCloseHost
  repeat' (first
    | (simp; done)
    | split
    | (refine (kept_foldl _ (fun _ _ => ?_) _ _).trans ?_)
    | simp)

@[simp ↓] theorem setMode_kept (x0 : Mode) (x1 : ℕ) (x2 : ℕ) (x3 : ℕ) (x4 : ℕ) (s : State) : (setMode x0 x1 x2 x3 x4 s).kept = s.kept := by
  simp [setMode]

/-! ### Acc -/

@[simp ↓] theorem modPort_kept (x0 : ℕ) (x1 : PortRec → PortRec) (s : State) : (modPort x0 x1 s).kept = s.kept := by
  simp [modPort]

@[simp ↓] theorem modLane_kept (x0 : ℕ) (x1 : LaneRec → LaneRec) (s : State) : (modLane x0 x1 s).kept = s.kept := by
  simp [modLane]

@[simp ↓] theorem modFlow_kept (x0 : ℕ) (x1 : Flow → Flow) (s : State) : (modFlow x0 x1 s).kept = s.kept := by
  simp [modFlow]

@[simp ↓] theorem modFc_kept (x0 : ℕ) (x1 : ℕ) (x2 : FlowClass → FlowClass) (s : State) : (modFc x0 x1 x2 s).kept = s.kept := by
  simp [modFc]

@[simp ↓] theorem modEg_kept (x0 : ℕ) (x1 : Egress → Egress) (s : State) : (modEg x0 x1 s).kept = s.kept := by
  simp [modEg]

@[simp ↓] theorem modDlk_kept (x0 : ℕ) (x1 : Dlk → Dlk) (s : State) : (modDlk x0 x1 s).kept = s.kept := by
  simp [modDlk]

@[simp ↓] theorem modPool_kept (x0 : ℕ) (x1 : Pool → Pool) (s : State) : (modPool x0 x1 s).kept = s.kept := by
  simp [modPool]

@[simp ↓] theorem modSlice_kept (x0 : ℕ) (x1 : SliceRec → SliceRec) (s : State) : (modSlice x0 x1 s).kept = s.kept := by
  simp [modSlice]

@[simp ↓] theorem modTab_kept (x0 : ℕ) (x1 : SliceTab → SliceTab) (s : State) : (modTab x0 x1 s).kept = s.kept := by
  simp [modTab]

@[simp ↓] theorem modWin_kept (x0 : ℕ) (x1 : Window → Window) (s : State) : (modWin x0 x1 s).kept = s.kept := by
  simp [modWin]

@[simp ↓] theorem modCore_kept (x0 : Core → Core) (s : State) : (modCore x0 s).kept = s.kept := by
  simp [modCore]

@[simp ↓] theorem modSys_kept (x0 : Sys → Sys) (s : State) : (modSys x0 s).kept = s.kept := by
  simp [modSys]

@[simp ↓] theorem modPwr_kept (x0 : Power → Power) (s : State) : (modPwr x0 s).kept = s.kept := by
  simp [modPwr]

/-! ### Gcp -/

@[simp ↓] theorem startOp_kept (x0 : ℕ) (x1 : Bool) (x2 : Work) (x3 : Cmd) (s : State) : (startOp x0 x1 x2 x3 s).2.kept = s.kept := by
  simp [startOp]

@[simp ↓] theorem authRecord_kept (x0 : Cmd) (s : State) : (authRecord x0 s).kept = s.kept := by
  simp [authRecord]

@[simp ↓] theorem modChan_kept (x0 : Transport) (x1 : Chan → Chan) (s : State) : (modChan x0 x1 s).kept = s.kept := by
  simp [modChan]

@[simp ↓] theorem refuse_kept (x0 : Cmd) (x1 : Option Bytes) (x2 : ℕ) (x3 : Bytes) (s : State) : (refuse x0 x1 x2 x3 s).kept = s.kept := by
  simp [refuse]

@[simp ↓] theorem keepReply_kept (x0 : Cmd) (x1 : Option Bytes) (x2 : Bytes) (s : State) : (keepReply x0 x1 x2 s).kept = s.kept := by
  simp [keepReply]

@[simp ↓] theorem conclude_kept (x0 : Cmd) (x1 : Option Bytes) (x2 : ℕ) (x3 : ℕ) (x4 : Bytes) (s : State) : (conclude x0 x1 x2 x3 x4 s).kept = s.kept := by
  simp [conclude]

@[simp ↓] theorem persist_kept (x0 : Cmd) (s : State) : (persist x0 s).kept = s.kept := by
  simp [persist]

@[simp ↓] theorem answer_kept (x0 : Cmd) (x1 : Option Bytes) (x2 : Answer) (s : State) : (answer x0 x1 x2 s).kept = s.kept := by
  unfold answer
  repeat' (first
    | (simp; done)
    | split
    | (refine (kept_foldl _ (fun _ _ => ?_) _ _).trans ?_)
    | simp)

@[simp ↓] theorem failCommand_kept (x0 : InternalFault) (x1 : Cmd) (s : State) : (failCommand x0 x1 s).kept = s.kept := by
  simp [failCommand]

@[simp ↓] theorem dueReply_kept (x0 : Transport) (x1 : ℕ) (x2 : Bytes) (s : State) : (dueReply x0 x1 x2 s).kept = s.kept := by
  unfold dueReply
  repeat' (first
    | (simp; done)
    | split
    | (refine (kept_foldl _ (fun _ _ => ?_) _ _).trans ?_)
    | simp)

end Sys2Proof.Machine
end

