-- ==== Sys2Proof/Laws/KeptTime.lean ====
section
/-! SUPPORT. Frames over the queue and the owner's part (`State.kept`): references, DPLLs, clocks and calibration blocks. -/

namespace Sys2Proof.Machine

set_option linter.unusedTactic false
set_option linter.unreachableTactic false
set_option linter.unnecessarySeqFocus false
set_option linter.unusedSimpArgs false

/-! ### Timing -/

@[simp ↓] theorem modTim_kept (x0 : Timing → Timing) (s : State) : (modTim x0 s).kept = s.kept := by
  simp [modTim]

@[simp ↓] theorem modRef_kept (x0 : ℕ) (x1 : Ref → Ref) (s : State) : (modRef x0 x1 s).kept = s.kept := by
  simp [modRef]

@[simp ↓] theorem modDpll_kept (x0 : ℕ) (x1 : Dpll → Dpll) (s : State) : (modDpll x0 x1 s).kept = s.kept := by
  simp [modDpll]

@[simp ↓] theorem modEsmc_kept (x0 : ℕ) (x1 : Esmc → Esmc) (s : State) : (modEsmc x0 x1 s).kept = s.kept := by
  simp [modEsmc]

@[simp ↓] theorem modPtp_kept (x0 : ℕ) (x1 : PtpPort → PtpPort) (s : State) : (modPtp x0 x1 s).kept = s.kept := by
  simp [modPtp]

@[simp ↓] theorem modTime_kept (x0 : TimeBlk → TimeBlk) (s : State) : (modTime x0 s).kept = s.kept := by
  simp [modTime]

@[simp ↓] theorem modXo_kept (x0 : Xo → Xo) (s : State) : (modXo x0 s).kept = s.kept := by
  simp [modXo]

@[simp ↓] theorem modTod_kept (x0 : TodBlk → TodBlk) (s : State) : (modTod x0 s).kept = s.kept := by
  simp [modTod]

@[simp ↓] theorem setWarm_kept (x0 : Bool) (s : State) : (setWarm x0 s).kept = s.kept := by
  simp [setWarm]

@[simp ↓] theorem dpllEvent_kept (x0 : ℕ) (x1 : ℕ) (s : State) : (dpllEvent x0 x1 s).kept = s.kept := by
  simp [dpllEvent]

@[simp ↓] theorem dpllLoss_kept (x0 : ℕ) (x1 : ℕ) (s : State) : (dpllLoss x0 x1 s).kept = s.kept := by
  simp [dpllLoss]

@[simp ↓] theorem loseRef_kept (x0 : ℕ) (x1 : ℕ) (s : State) : (loseRef x0 x1 s).kept = s.kept := by
  simp [loseRef]

@[simp ↓] theorem disqualify_kept (x0 : ℕ) (x1 : ℕ) (s : State) : (disqualify x0 x1 s).kept = s.kept := by
  simp [disqualify]

@[simp ↓] theorem refFail_kept (x0 : ℕ) (x1 : ℕ) (s : State) : (refFail x0 x1 s).kept = s.kept := by
  simp only [refFail]
  repeat' (first
    | (simp; done)
    | split
    | (refine (kept_foldl _ (fun _ _ => ?_) _ _).trans ?_)
    | simp)

@[simp ↓] theorem enterHoldover_kept (x0 : ℕ) (x1 : Bool) (s : State) : (enterHoldover x0 x1 s).kept = s.kept := by
  simp [enterHoldover]

@[simp ↓] theorem firstTod_kept (x0 : ℤ) (s : State) : (firstTod x0 s).kept = s.kept := by
  simp [firstTod]

@[simp ↓] theorem driftRelease_kept (x0 : ℕ) (s : State) : (driftRelease x0 s).kept = s.kept := by
  simp [driftRelease]

@[simp ↓] theorem takeRef_kept (x0 : ℕ) (x1 : ℕ) (x2 : ℤ) (s : State) : (takeRef x0 x1 x2 s).kept = s.kept := by
  simp only [takeRef]
  repeat' (first
    | (simp; done)
    | split
    | (refine (kept_foldl _ (fun _ _ => ?_) _ _).trans ?_)
    | simp)

@[simp ↓] theorem dpllTick_kept (x0 : ℤ) (s : State) (x2 : ℕ) : (dpllTick x0 s x2).kept = s.kept := by
  simp only [dpllTick]
  repeat' (first
    | (simp; done)
    | split
    | (refine (kept_foldl _ (fun _ _ => ?_) _ _).trans ?_)
    | simp)

@[simp ↓] theorem loopTick_kept (x0 : ℕ) (x1 : ℤ) (x2 : ℤ) (s : State) : (loopTick x0 x1 x2 s).kept = s.kept := by
  simp [loopTick]

@[simp ↓] theorem esmcSend_kept (x0 : ℕ) (s : State) : (esmcSend x0 s).kept = s.kept := by
  simp [esmcSend]

@[simp ↓] theorem esmcChanges_kept (s : State) : (esmcChanges s).kept = s.kept := by
  unfold esmcChanges
  repeat' (first
    | (simp; done)
    | split
    | (refine (kept_foldl _ (fun _ _ => ?_) _ _).trans ?_)
    | simp)

@[simp ↓] theorem enterLocked_kept (x0 : ℕ) (s : State) : (enterLocked x0 s).kept = s.kept := by
  simp [enterLocked]

@[simp ↓] theorem startSlew_kept (x0 : ℤ) (s : State) : (startSlew x0 s).kept = s.kept := by
  simp [startSlew]

/-! ### Clocks -/

@[simp ↓] theorem modSyn_kept (x0 : ℕ) (x1 : Syn → Syn) (s : State) : (modSyn x0 x1 s).kept = s.kept := by
  simp [modSyn]

@[simp ↓] theorem modCko_kept (x0 : ℕ) (x1 : CkOut → CkOut) (s : State) : (modCko x0 x1 s).kept = s.kept := by
  simp [modCko]

@[simp ↓] theorem modPps_kept (x0 : ℕ) (x1 : PpsOut → PpsOut) (s : State) : (modPps x0 x1 s).kept = s.kept := by
  simp [modPps]

@[simp ↓] theorem takeBand_kept (x0 : ℕ) (x1 : ℕ) (s : State) : (takeBand x0 x1 s).kept = s.kept := by
  simp [takeBand]

@[simp ↓] theorem selectBand_kept (x0 : ℕ) (s : State) : (selectBand x0 s).kept = s.kept := by
  simp only [selectBand]
  repeat' (first
    | (simp; done)
    | split
    | (refine (kept_foldl _ (fun _ _ => ?_) _ _).trans ?_)
    | simp)

@[simp ↓] theorem relockStart_kept (x0 : ℕ) (s : State) : (relockStart x0 s).kept = s.kept := by
  simp only [relockStart]
  repeat' (first
    | (simp; done)
    | split
    | (refine (kept_foldl _ (fun _ _ => ?_) _ _).trans ?_)
    | simp)

@[simp ↓] theorem relockFed_kept (x0 : ℕ) (s : State) : (relockFed x0 s).kept = s.kept := by
  unfold relockFed
  repeat' (first
    | (simp; done)
    | split
    | (refine (kept_foldl _ (fun _ _ => ?_) _ _).trans ?_)
    | simp)

@[simp ↓] theorem synRelock_kept (x0 : ℕ) (s : State) : (synRelock x0 s).kept = s.kept := by
  simp [synRelock]

@[simp ↓] theorem squelchAll_kept (s : State) : (squelchAll s).kept = s.kept := by
  simp [squelchAll]

/-! ### Cal -/

@[simp ↓] theorem modCal_kept (x0 : ℕ) (x1 : CalBlk → CalBlk) (s : State) : (modCal x0 x1 s).kept = s.kept := by
  simp [modCal]

@[simp ↓] theorem calTouch_kept (x0 : ℕ) (s : State) : (calTouch x0 s).kept = s.kept := by
  simp [calTouch]

@[simp ↓] theorem calSet_kept (x0 : ℕ) (x1 : List (ℕ × ℕ)) (s : State) : (calSet x0 x1 s).kept = s.kept := by
  simp [calSet]

@[simp ↓] theorem calReload_kept (x0 : ℕ) (s : State) : (calReload x0 s).kept = s.kept := by
  simp [calReload]

@[simp ↓] theorem calApply_kept (x0 : ℕ) (x1 : List (ℕ × ℕ)) (s : State) : (calApply x0 x1 s).kept = s.kept := by
  simp [calApply]

@[simp ↓] theorem contactBegin_kept (s : State) : (contactBegin s).2.2.kept = s.kept := by
  simp [contactBegin]

@[simp ↓] theorem contactCommit_kept (x0 : ℕ) (x1 : Bytes) (s : State) : (contactCommit x0 x1 s).kept = s.kept := by
  simp [contactCommit]

@[simp ↓] theorem calAccept_kept (x0 : ℕ) (x1 : List (ℕ × ℕ)) (s : State) : (calAccept x0 x1 s).kept = s.kept := by
  simp [calAccept]

@[simp ↓] theorem calDiscard_kept (x0 : ℕ) (x1 : ℕ) (s : State) : (calDiscard x0 x1 s).kept = s.kept := by
  simp [calDiscard]

end Sys2Proof.Machine
end

