-- ==== Sys2Proof/Laws/KeptTables.lean ====
section
/-! SUPPORT. Frames over the queue and the owner's part (`State.kept`): buffers, reservations, the best master, queues and lookups. -/

namespace Sys2Proof.Machine

set_option linter.unusedTactic false
set_option linter.unreachableTactic false
set_option linter.unnecessarySeqFocus false
set_option linter.unusedSimpArgs false

/-! ### Buffers -/

@[simp ↓] theorem setLedger_kept (x0 : ℕ) (x1 : ℕ) (s : State) : (setLedger x0 x1 s).kept = s.kept := by
  simp [setLedger]

@[simp ↓] theorem poolWatch_kept (x0 : ℕ) (s : State) : (poolWatch x0 s).kept = s.kept := by
  simp [poolWatch]

@[simp ↓] theorem refillStart_kept (x0 : ℕ) (s : State) : (refillStart x0 s).kept = s.kept := by
  simp [refillStart]

@[simp ↓] theorem ledgerParity_kept (x0 : ℕ) (x1 : ℕ) (s : State) : (ledgerParity x0 x1 s).kept = s.kept := by
  simp [ledgerParity]

@[simp ↓] theorem ledgerReject_kept (x0 : ℕ) (x1 : ℕ) (x2 : ℕ) (x3 : ℕ) (s : State) : (ledgerReject x0 x1 x2 x3 s).kept = s.kept := by
  simp [ledgerReject]

@[simp ↓] theorem grantLoop_kept (x0 : ℕ) (x1 : ℕ) (x2 : ℕ) (s : State) : (grantLoop x0 x1 x2 s).2.kept = s.kept := by
  induction x2 generalizing x0 x1 s <;> simp only [grantLoop] <;>
  (repeat' (first
    | (simp [*]; done)
    | split
    | (refine (kept_foldl _ (fun _ _ => ?_) _ _).trans ?_)
    | simp [*]))

@[simp ↓] theorem served_kept (x0 : ℕ) (x1 : ℕ) (s : State) : (served x0 x1 s).kept = s.kept := by
  simp [served]

@[simp ↓] theorem poolGrant_kept (x0 : ℕ) (x1 : ℕ) (s : State) : (poolGrant x0 x1 s).2.kept = s.kept := by
  simp [poolGrant]

@[simp ↓] theorem tryPools_kept (x0 : ℕ) (x1 : List ℕ) (s : State) : (tryPools x0 x1 s).2.kept = s.kept := by
  induction x1 generalizing s with
  | nil => rfl
  | cons p ps ih =>
    have h := poolGrant_kept p x0 s
    unfold tryPools
    split <;> rename_i h2 <;> rw [h2] at h
    · exact h
    · rw [ih]; simpa using h

@[simp ↓] theorem poolDrop_kept (x0 : ℕ) (s : State) : (poolDrop x0 s).kept = s.kept := by
  unfold poolDrop
  repeat' (first
    | (simp; done)
    | split
    | (refine (kept_foldl _ (fun _ _ => ?_) _ _).trans ?_)
    | simp)

@[simp ↓] theorem allocate_kept (x0 x1 : ℕ) (x2 : List Bool) (s : State) : (allocate x0 x1 x2 s).2.kept = s.kept := by
  have h := tryPools_kept x0 (x2.flatMap (fun d => poolsFor d x1)) s
  simp only [allocate]
  split <;> rename_i h2 <;> rw [h2] at h
  · exact h
  · simpa using h

@[simp ↓] theorem spillStart_kept (x0 : ℕ) (s : State) : (spillStart x0 s).kept = s.kept := by
  simp [spillStart]

@[simp ↓] theorem freeHandle_kept (x0 : ℕ) (x1 : ℕ) (x2 : ℕ) (s : State) : (freeHandle x0 x1 x2 s).kept = s.kept := by
  simp only [freeHandle]
  repeat' (first
    | (simp; done)
    | split
    | (refine (kept_foldl _ (fun _ _ => ?_) _ _).trans ?_)
    | simp)

@[simp ↓] theorem ledgerMove_kept (x0 : ℕ) (x1 : ℕ) (x2 : ℕ) (x3 : ℕ) (x4 : ℕ) (s : State) : (ledgerMove x0 x1 x2 x3 x4 s).2.kept = s.kept := by
  unfold ledgerMove
  repeat' (first
    | (simp; done)
    | split
    | (refine (kept_foldl _ (fun _ _ => ?_) _ _).trans ?_)
    | simp)

/-! ### Flow -/

@[simp ↓] theorem addReturned_kept (x0 : ℕ) (x1 : ℕ) (x2 : ℕ) (s : State) : (addReturned x0 x1 x2 s).kept = s.kept := by
  simp [addReturned]

@[simp ↓] theorem returnDirect_kept (x0 : ℕ) (x1 : ℕ) (x2 : ℕ) (s : State) : (returnDirect x0 x1 x2 s).kept = s.kept := by
  simp [returnDirect]

@[simp ↓] theorem creditReturn_kept (x0 : ℕ) (x1 : ℕ) (x2 : ℕ) (s : State) : (creditReturn x0 x1 x2 s).kept = s.kept := by
  simp [creditReturn]

@[simp ↓] theorem grantShift_kept (x0 : ℕ) (x1 : ℕ) (x2 : ℕ) (x3 : ℕ) (s : State) : (grantShift x0 x1 x2 x3 s).kept = s.kept := by
  simp [grantShift]

@[simp ↓] theorem sendPause_kept (x0 : ℕ) (x1 : ℕ) (x2 : ℕ) (s : State) : (sendPause x0 x1 x2 s).kept = s.kept := by
  simp [sendPause]

@[simp ↓] theorem assertXoff_kept (x0 : ℕ) (x1 : ℕ) (s : State) : (assertXoff x0 x1 s).kept = s.kept := by
  simp [assertXoff]

@[simp ↓] theorem endXoff_kept (x0 : ℕ) (x1 : ℕ) (s : State) : (endXoff x0 x1 s).kept = s.kept := by
  simp [endXoff]

@[simp ↓] theorem xonCheck_kept (x0 : ℕ) (x1 : ℕ) (s : State) : (xonCheck x0 x1 s).kept = s.kept := by
  simp [xonCheck]

@[simp ↓] theorem xonAll_kept (s : State) : (xonAll s).kept = s.kept := by
  simp [xonAll]

@[simp ↓] theorem releaseCheck_kept (x0 : ℕ) (x1 : ℕ) (s : State) : (releaseCheck x0 x1 s).kept = s.kept := by
  simp only [releaseCheck]
  repeat' (first
    | (simp; done)
    | split
    | (refine (kept_foldl _ (fun _ _ => ?_) _ _).trans ?_)
    | simp)

@[simp ↓] theorem afterFree_kept (x0 : ℕ) (x1 : ℕ) (s : State) : (afterFree x0 x1 s).kept = s.kept := by
  simp [afterFree]

@[simp ↓] theorem headroomShort_kept (x0 : ℕ) (x1 : ℕ) (s : State) : (headroomShort x0 x1 s).kept = s.kept := by
  simp [headroomShort]

@[simp ↓] theorem recomputeClass_kept (x0 : ℕ) (x1 : ℕ) (x2 : ℕ) (s : State) : (recomputeClass x0 x1 x2 s).kept = s.kept := by
  simp [recomputeClass]

@[simp ↓] theorem headroomRecompute_kept (x0 : ℕ) (s : State) : (headroomRecompute x0 s).kept = s.kept := by
  unfold headroomRecompute
  repeat' (first
    | (simp; done)
    | split
    | (refine (kept_foldl _ (fun _ _ => ?_) _ _).trans ?_)
    | simp)

/-! ### TimeDist -/

@[simp ↓] theorem armReceipt_kept (x0 : ℕ) (s : State) : (armReceipt x0 s).kept = s.kept := by
  simp [armReceipt]

@[simp ↓] theorem bmca_kept (s : State) : (bmca s).kept = s.kept := by
  unfold bmca
  extract_lets best parent s1 s2
  have h : s1.kept = s.kept := by
    refine kept_foldl _ (fun s a => ?_) _ _
    dsimp only
    split <;> simp
  have h2 : s2.kept = s1.kept := by simp only [s2]; split <;> simp
  split
  · exact h
  · simp [h2, h]

@[simp ↓] theorem presence_kept (s : State) : (presence s).kept = s.kept := by
  simp [presence]

@[simp ↓] theorem noteOffset_kept (x0 : ℕ) (x1 : ℤ) (s : State) : (noteOffset x0 x1 s).kept = s.kept := by
  simp [noteOffset]

@[simp ↓] theorem takeSample_kept (x0 : ℕ) (x1 : ℤ) (s : State) : (takeSample x0 x1 s).kept = s.kept := by
  simp only [takeSample]
  repeat' (first
    | (simp; done)
    | split
    | (refine (kept_foldl _ (fun _ _ => ?_) _ _).trans ?_)
    | simp)

/-! ### Queues -/

@[simp ↓] theorem setFrame_kept (x0 : Frame) (s : State) : (setFrame x0 s).kept = s.kept := by
  simp [setFrame]

@[simp ↓] theorem enqueue_kept (x0 : ℕ) (x1 : ℕ) (s : State) : (enqueue x0 x1 s).kept = s.kept := by
  simp [enqueue]

@[simp ↓] theorem unqueue_kept (x0 : ℕ) (x1 : ℕ) (s : State) : (unqueue x0 x1 s).kept = s.kept := by
  simp [unqueue]

@[simp ↓] theorem modStore_kept (x0 : ℕ) (x1 : ℕ) (x2 : List StoreEntry → List StoreEntry) (s : State) : (modStore x0 x1 x2 s).kept = s.kept := by
  simp [modStore]

@[simp ↓] theorem freeBuffer_kept (x0 : Frame) (s : State) : (freeBuffer x0 s).2.kept = s.kept := by
  unfold freeBuffer
  repeat' (first
    | (simp; done)
    | split
    | (refine (kept_foldl _ (fun _ _ => ?_) _ _).trans ?_)
    | simp)

@[simp ↓] theorem releaseFrame_kept (x0 : ℕ) (s : State) : (releaseFrame x0 s).kept = s.kept := by
  unfold releaseFrame
  repeat' (first
    | (simp; done)
    | split
    | (refine (kept_foldl _ (fun _ _ => ?_) _ _).trans ?_)
    | simp)

@[simp ↓] theorem dropFrame_kept (x0 : ℕ) (s : State) : (dropFrame x0 s).kept = s.kept := by
  unfold dropFrame
  repeat' (first
    | (simp; done)
    | split
    | (refine (kept_foldl _ (fun _ _ => ?_) _ _).trans ?_)
    | simp)

@[simp ↓] theorem giveUp_kept (x0 : ℕ) (s : State) : (giveUp x0 s).kept = s.kept := by
  unfold giveUp
  repeat' (first
    | (simp; done)
    | split
    | (refine (kept_foldl _ (fun _ _ => ?_) _ _).trans ?_)
    | simp)

@[simp ↓] theorem fenceCheck_kept (s : State) : (fenceCheck s).kept = s.kept := by
  unfold fenceCheck
  repeat' (first
    | (simp; done)
    | split
    | (refine (kept_foldl _ (fun _ _ => ?_) _ _).trans ?_)
    | simp)

@[simp ↓] theorem debit_kept (x0 : ℕ) (x1 : ℕ) (x2 : ℕ) (s : State) : (debit x0 x1 x2 s).kept = s.kept := by
  simp [debit]

@[simp ↓] theorem expressAbort_kept (x0 : ℕ) (x1 : ℕ) (x2 : ℕ) (s : State) : (expressAbort x0 x1 x2 s).kept = s.kept := by
  simp [expressAbort]

@[simp ↓] theorem badExpress_kept (x0 : ℕ) (x1 : ℕ) (x2 : ℕ) (x3 : ℕ) (s : State) : (badExpress x0 x1 x2 x3 s).kept = s.kept := by
  unfold badExpress
  repeat' (first
    | (simp; done)
    | split
    | (refine (kept_foldl _ (fun _ _ => ?_) _ _).trans ?_)
    | simp)

@[simp ↓] theorem badExpressAll_kept (x0 : ℕ) (x1 : ℕ) (s : State) : (badExpressAll x0 x1 s).kept = s.kept := by
  unfold badExpressAll
  repeat' (first
    | (simp; done)
    | split
    | (refine (kept_foldl _ (fun _ _ => ?_) _ _).trans ?_)
    | simp)

@[simp ↓] theorem discardWhere_kept (x0 : Frame → Bool) (x1 : Frame → State → State) (x2 : ℕ) (s : State) (h1 : ∀ a s, (x1 a s).kept = s.kept) : (discardWhere x0 x1 x2 s).kept = s.kept := by
  unfold discardWhere
  repeat' (first
    | (simp [h1]; done)
    | split
    | (refine (kept_foldl _ (fun _ _ => ?_) _ _).trans ?_)
    | simp [h1])

@[simp ↓] theorem cntBath_kept (x0 : Frame) (s : State) : (cntBath x0 s).kept = s.kept := by
  simp [cntBath]

@[simp ↓] theorem discardAll_kept (s : State) : (discardAll s).kept = s.kept := by
  unfold discardAll
  repeat' (first
    | (simp; done)
    | split
    | (refine (kept_foldl _ (fun _ _ => ?_) _ _).trans ?_)
    | simp)

@[simp ↓] theorem discardArriving_kept (x0 : Frame → State → State) (s : State) (h0 : ∀ a s, (x0 a s).kept = s.kept) : (discardArriving x0 s).kept = s.kept := by
  simp [discardArriving, h0]

@[simp ↓] theorem discardFor_kept (x0 : ℕ) (s : State) : (discardFor x0 s).kept = s.kept := by
  unfold discardFor
  repeat' (first
    | (simp; done)
    | split
    | (refine (kept_foldl _ (fun _ _ => ?_) _ _).trans ?_)
    | simp)

@[simp ↓] theorem discardReceiving_kept (x0 : ℕ) (s : State) : (discardReceiving x0 s).kept = s.kept := by
  simp [discardReceiving]

@[simp ↓] theorem bathCheck_kept (s : State) : (bathCheck s).kept = s.kept := by
  unfold bathCheck
  repeat' (first
    | (simp; done)
    | split
    | (refine (kept_foldl _ (fun _ _ => ?_) _ _).trans ?_)
    | simp)

@[simp ↓] theorem shortsCheck_kept (s : State) : (shortsCheck s).kept = s.kept := by
  unfold shortsCheck
  repeat' (first
    | (simp; done)
    | split
    | (refine (kept_foldl _ (fun _ _ => ?_) _ _).trans ?_)
    | simp)

@[simp ↓] theorem settle_kept (s : State) : (settle s).kept = s.kept := by
  simp [settle]

/-! ### Lookup -/

@[simp ↓] theorem eccEvent_kept (x0 : ℕ) (x1 : ℕ) (x2 : ℕ) (s : State) : (eccEvent x0 x1 x2 s).kept = s.kept := by
  simp only [eccEvent]
  repeat' (first
    | (simp; done)
    | split
    | (refine (kept_foldl _ (fun _ _ => ?_) _ _).trans ?_)
    | simp)

@[simp ↓] theorem tcamParity_kept (x0 : ℕ) (x1 : ℕ) (s : State) : (tcamParity x0 x1 s).kept = s.kept := by
  simp only [tcamParity]
  repeat' (first
    | (simp; done)
    | split
    | (refine (kept_foldl _ (fun _ _ => ?_) _ _).trans ?_)
    | simp)

@[simp ↓] theorem noteFault_kept (x0 : ℕ) (s : State) (x2 : ℕ × ℕ) : (noteFault x0 s x2).kept = s.kept := by
  simp [noteFault]

@[simp ↓] theorem xLookup_kept (x0 : ℕ) (x1 : ℕ) (x2 : Bytes) (s : State) : (xLookup x0 x1 x2 s).2.kept = s.kept := by
  unfold xLookup
  repeat' (first
    | (simp; done)
    | split
    | (refine (kept_foldl _ (fun _ _ => ?_) _ _).trans ?_)
    | simp)

@[simp ↓] theorem lpmLookup_kept (x0 : ℕ) (x1 : Bool) (x2 : ℕ) (s : State) : (lpmLookup x0 x1 x2 s).2.2.kept = s.kept := by
  simp only [lpmLookup]
  split <;> dsimp only <;> split <;> simp [kept_foldl]

@[simp ↓] theorem clsLookup_kept (x0 : ℕ) (x1 : ℕ) (s : State) : (clsLookup x0 x1 s).2.kept = s.kept := by
  simp only [clsLookup]
  repeat' (first
    | (simp; done)
    | split
    | (refine (kept_foldl _ (fun _ _ => ?_) _ _).trans ?_)
    | simp)

@[simp ↓] theorem nextHop_kept (x0 : ℕ) (x1 : ℕ) (s : State) : (nextHop x0 x1 s).2.kept = s.kept := by
  unfold nextHop
  repeat' (first
    | (simp; done)
    | split
    | (refine (kept_foldl _ (fun _ _ => ?_) _ _).trans ?_)
    | simp)

@[simp ↓] theorem ecmp_kept (x0 : ℕ) (x1 : ℕ) (x2 : ℕ) (x3 : Bytes) (s : State) : (ecmp x0 x1 x2 x3 s).2.kept = s.kept := by
  simp only [ecmp]
  repeat' (first
    | (simp; done)
    | split
    | (refine (kept_foldl _ (fun _ _ => ?_) _ _).trans ?_)
    | simp)

@[simp ↓] theorem routeMissed_kept (x0 : ℕ) (s : State) : (routeMissed x0 s).kept = s.kept := by
  simp [routeMissed]

@[simp ↓] theorem route_kept (x0 x1 : ℕ) (x2 : Bytes) (s : State) : (route x0 x1 x2 s).2.2.kept = s.kept := by
  unfold route
  split
  · rfl
  split
  · rfl
  extract_lets v6 h addr r found
  have hf : found.2.2.kept = s.kept := by
    simp only [found]
    split
    · simp [h]
    · simp [r, h]
  clear_value found
  obtain ⟨o, cost, st⟩ := found
  cases o <;> dsimp only at hf ⊢
  · simpa using hf
  · split <;> simpa using hf

@[simp ↓] theorem bridge_kept (x0 : ℕ) (x1 : ℕ) (x2 : ℕ) (x3 : Bytes) (s : State) : (bridge x0 x1 x2 x3 s).2.2.kept = s.kept := by
  simp only [bridge]
  repeat' (first
    | (simp; done)
    | split
    | (refine (kept_foldl _ (fun _ _ => ?_) _ _).trans ?_)
    | simp)

@[simp ↓] theorem lookup_kept (x0 : ℕ) (x1 : ℕ) (x2 : ℕ) (x3 : Bytes) (s : State) : (lookup x0 x1 x2 x3 s).2.2.kept = s.kept := by
  simp only [lookup]
  repeat' (first
    | (simp; done)
    | split
    | (refine (kept_foldl _ (fun _ _ => ?_) _ _).trans ?_)
    | simp)

@[simp ↓] theorem noteExcess_kept (x0 : ℕ) (x1 : Result) (s : State) : (noteExcess x0 x1 s).kept = s.kept := by
  unfold noteExcess
  repeat' (first
    | (simp; done)
    | split
    | (refine (kept_foldl _ (fun _ _ => ?_) _ _).trans ?_)
    | simp)

@[simp ↓] theorem fillLearn_kept (x0 : ℕ) (s : State) : (fillLearn x0 s).kept = s.kept := by
  simp [fillLearn]

@[simp ↓] theorem learnNew_kept (x0 : ℕ) (x1 : ℕ) (x2 : Bytes) (s : State) : (learnNew x0 x1 x2 s).kept = s.kept := by
  simp [learnNew]

@[simp ↓] theorem learn_kept (x0 : ℕ) (x1 : ℕ) (x2 : Bytes) (s : State) : (learn x0 x1 x2 s).kept = s.kept := by
  simp only [learn]
  repeat' (first
    | (simp; done)
    | split
    | (refine (kept_foldl _ (fun _ _ => ?_) _ _).trans ?_)
    | simp)

end Sys2Proof.Machine
end

