-- ==== Sys2Proof/Laws/KeptFrames.lean ====
section
/-! SUPPORT. Frames over the queue and the owner's part (`State.kept`): table windows, frames, the crossbar, port state and measurement. -/

namespace Sys2Proof.Machine

set_option linter.unusedTactic false
set_option linter.unreachableTactic false
set_option linter.unnecessarySeqFocus false
set_option linter.unusedSimpArgs false

/-! ### Window -/

@[simp ↓] theorem onSlices_kept (x0 : List ℕ) (x1 : SliceTab → SliceTab) (s : State) : (onSlices x0 x1 s).kept = s.kept := by
  simp [onSlices]

@[simp ↓] theorem tawExact_kept (x0 : ℕ) (x1 : ℕ) (x2 : ℕ) (x3 : ℕ) (x4 : List ℕ) (x5 : ℕ) (s : State) : (tawExact x0 x1 x2 x3 x4 x5 s).2.kept = s.kept := by
  unfold tawExact
  repeat' (first
    | (simp; done)
    | split
    | (refine (kept_foldl _ (fun _ _ => ?_) _ _).trans ?_)
    | simp)

@[simp ↓] theorem tawLpm_kept (x0 : ℕ) (x1 : ℕ) (x2 : ℕ) (x3 : List ℕ) (x4 : ℕ) (s : State) : (tawLpm x0 x1 x2 x3 x4 s).2.kept = s.kept := by
  unfold tawLpm
  repeat' (first
    | (simp; done)
    | split
    | (refine (kept_foldl _ (fun _ _ => ?_) _ _).trans ?_)
    | simp)

@[simp ↓] theorem tawIndexed_kept (x0 : ℕ) (x1 : ℕ) (x2 : ℕ) (x3 : ℕ) (x4 : ℕ) (x5 : List ℕ) (x6 : ℕ) (s : State) : (tawIndexed x0 x1 x2 x3 x4 x5 x6 s).2.kept = s.kept := by
  unfold tawIndexed
  repeat' (first
    | (simp; done)
    | split
    | (refine (kept_foldl _ (fun _ _ => ?_) _ _).trans ?_)
    | simp)

@[simp ↓] theorem tawExec_kept (x0 x1 x2 x3 x4 : ℕ) (x5 : List ℕ) (x6 : ℕ) (s : State) : (tawExec x0 x1 x2 x3 x4 x5 x6 s).2.kept = s.kept := by
  simp [tawExec, apply_ite Prod.snd]

@[simp ↓] theorem tawFinish_kept (x0 : ℕ) (x1 : TawOut) (s : State) : (tawFinish x0 x1 s).kept = s.kept := by
  simp [tawFinish]

@[simp ↓] theorem tawRun_kept (x0 : ℕ) (s : State) : (tawRun x0 s).kept = s.kept := by
  simp [tawRun]

@[simp ↓] theorem portGrant_kept (x0 : ℕ) (x1 : ℕ) (s : State) : (portGrant x0 x1 s).kept = s.kept := by
  simp [portGrant]

@[simp ↓] theorem portGrants_kept (x0 : ℕ) (s : State) : (portGrants x0 s).kept = s.kept := by
  simp [portGrants]

@[simp ↓] theorem tawCommand_kept (x0 : ℕ) (x1 : ℕ) (x2 : ℕ) (s : State) : (tawCommand x0 x1 x2 s).kept = s.kept := by
  simp [tawCommand]

@[simp ↓] theorem bulkRecord_kept (x0 : ℕ) (x1 : ℕ) (x2 : Bytes) (x3 : ℕ) (s : State) : (bulkRecord x0 x1 x2 x3 s).2.kept = s.kept := by
  unfold bulkRecord
  repeat' (first
    | (simp; done)
    | split
    | (refine (kept_foldl _ (fun _ _ => ?_) _ _).trans ?_)
    | simp)

/-! ### Frames -/

@[simp ↓] theorem admitHeadroom_kept (x0 : ℕ) (x1 : ℕ) (x2 : ℕ) (s : State) : (admitHeadroom x0 x1 x2 s).2.kept = s.kept := by
  simp only [admitHeadroom]
  repeat' (first
    | (simp; done)
    | split
    | (refine (kept_foldl _ (fun _ _ => ?_) _ _).trans ?_)
    | simp)

@[simp ↓] theorem admission_kept (x0 : ℕ) (x1 : ℕ) (x2 : ℕ) (x3 : Dest) (s : State) : (admission x0 x1 x2 x3 s).2.kept = s.kept := by
  simp only [admission]
  repeat' (first
    | (simp; done)
    | split
    | (refine (kept_foldl _ (fun _ _ => ?_) _ _).trans ?_)
    | simp)

@[simp ↓] theorem takeoverDrop_kept (x0 : ℕ) (x1 : ℕ) (s : State) : (takeoverDrop x0 x1 s).kept = s.kept := by
  simp [takeoverDrop]

@[simp ↓] theorem buffer_kept (x0 : Frame) (x1 : Dest) (s : State) : (buffer x0 x1 s).2.kept = s.kept := by
  have h := admission_kept x0.inPort x0.tc x0.size x1 s
  unfold buffer
  split <;> rename_i s1 h2 <;> rw [h2] at h
  · simpa using h
  · rename_i tiers head
    have h3 := allocate_kept x0.owner x0.size tiers s1
    split <;> rename_i h4 <;> rw [h4] at h3 <;> simp_all

@[simp ↓] theorem ownBuffer_kept (x0 : Frame) (s : State) : (ownBuffer x0 s).2.kept = s.kept := by
  unfold ownBuffer
  repeat' (first
    | (simp; done)
    | (rename_i h; have h2 := congrArg (fun z => State.kept z.2) h; simp at h2; simp [← h2]; done)
    | (rename_i h; have h2 := congrArg (fun z => State.kept z.2.2) h; simp at h2; simp [← h2]; done)
    | split
    | (refine (kept_foldl _ (fun _ _ => ?_) _ _).trans ?_)
    | simp)

@[simp ↓] theorem passBuffer_kept (x0 : ℕ) (x1 : ℕ) (s : State) : (passBuffer x0 x1 s).2.kept = s.kept := by
  unfold passBuffer
  repeat' (first
    | (simp; done)
    | (rename_i h; have h2 := congrArg (fun z => State.kept z.2) h; simp at h2; simp [← h2]; done)
    | (rename_i h; have h2 := congrArg (fun z => State.kept z.2.2) h; simp at h2; simp [← h2]; done)
    | split
    | (refine (kept_foldl _ (fun _ _ => ?_) _ _).trans ?_)
    | simp)

@[simp ↓] theorem heard_kept (x0 : ℕ) (x1 : ℕ) (x2 : State → State) (s : State) (h2 : ∀ s, (x2 s).kept = s.kept) : (heard x0 x1 x2 s).kept = s.kept := by
  simp [heard, h2]

@[simp ↓] theorem grantPoint_kept (x0 : ℕ) (x1 : ℕ) (x2 : Bytes) (x3 : Bool) (x4 : ℤ) (s : State) : (grantPoint x0 x1 x2 x3 x4 s).2.kept = s.kept := by
  simp only [grantPoint]
  repeat' (first
    | (simp; done)
    | split
    | (refine (kept_foldl _ (fun _ _ => ?_) _ _).trans ?_)
    | simp)

@[simp ↓] theorem unpause_kept (x0 : ℕ) (x1 : ℕ) (s : State) : (unpause x0 x1 s).kept = s.kept := by
  simp [unpause]

@[simp ↓] theorem pauseClass_kept (x0 : ℕ) (x1 : ℕ) (x2 : ℕ) (s : State) : (pauseClass x0 x1 x2 s).kept = s.kept := by
  simp [pauseClass]

@[simp ↓] theorem pfcRx_kept (x0 : ℕ) (x1 : ℕ) (x2 : List ℕ) (s : State) : (pfcRx x0 x1 x2 s).kept = s.kept := by
  unfold pfcRx
  repeat' (first
    | (simp; done)
    | split
    | (refine (kept_foldl _ (fun _ _ => ?_) _ _).trans ?_)
    | simp)

@[simp ↓] theorem pauseRx_kept (x0 : ℕ) (x1 : ℕ) (s : State) : (pauseRx x0 x1 s).kept = s.kept := by
  unfold pauseRx
  repeat' (first
    | (simp; done)
    | split
    | (refine (kept_foldl _ (fun _ _ => ?_) _ _).trans ?_)
    | simp)

@[simp ↓] theorem macControl_kept (x0 : ℕ) (x1 : Bytes) (s : State) : (macControl x0 x1 s).kept = s.kept := by
  simp only [macControl]
  repeat' (first
    | (simp; done)
    | split
    | (refine (kept_foldl _ (fun _ _ => ?_) _ _).trans ?_)
    | simp)

@[simp ↓] theorem dispose_kept (x0 : Frame) (x1 : Result) (s : State) : (dispose x0 x1 s).kept = s.kept := by
  unfold dispose
  repeat' (first
    | (simp; done)
    | split
    | (refine (kept_foldl _ (fun _ _ => ?_) _ _).trans ?_)
    | simp)

@[simp ↓] theorem eligible_kept (x0 : ℕ) (s : State) : (eligible x0 s).kept = s.kept := by
  unfold eligible
  repeat' (first
    | (simp; done)
    | split
    | (refine (kept_foldl _ (fun _ _ => ?_) _ _).trans ?_)
    | simp)

@[simp ↓] theorem endBad_kept (x0 : ℕ) (x1 : ℕ) (s : State) : (endBad x0 x1 s).kept = s.kept := by
  simp [endBad]

@[simp ↓] theorem ownEnd_kept (x0 : Frame) (x1 : Bytes) (s : State) : (ownEnd x0 x1 s).kept = s.kept := by
  simp [ownEnd]

@[simp ↓] theorem endFrame_kept (x0 : ℕ) (x1 : Bytes) (s : State) : (endFrame x0 x1 s).kept = s.kept := by
  simp only [endFrame]
  repeat' (first
    | (simp; done)
    | split
    | (refine (kept_foldl _ (fun _ _ => ?_) _ _).trans ?_)
    | simp)

@[simp ↓] theorem shed_kept (x0 : Frame) (s : State) : (shed x0 s).kept = s.kept := by
  simp [shed]

@[simp ↓] theorem sliceLookup_kept (x0 : ℕ) (x1 : ℕ) (x2 : List (ℕ × ℕ)) (x3 : ℕ) (s : State) : (sliceLookup x0 x1 x2 x3 s).kept = s.kept := by
  unfold sliceLookup
  repeat' (first
    | (simp; done)
    | split
    | (refine (kept_foldl _ (fun _ _ => ?_) _ _).trans ?_)
    | simp)

@[simp ↓] theorem ghost_kept (x0 : ℕ) (x1 : ℕ) (x2 : ℕ) (s : State) : (ghost x0 x1 x2 s).kept = s.kept := by
  simp [ghost]

@[simp ↓] theorem acceptResult_kept (x0 : Frame) (x1 : Result) (s : State) : (acceptResult x0 x1 s).kept = s.kept := by
  simp [acceptResult]

@[simp ↓] theorem resultArrival_kept (x0 : ℕ) (x1 : ℕ) (x2 : ℕ) (x3 : Bytes) (s : State) : (resultArrival x0 x1 x2 x3 s).kept = s.kept := by
  unfold resultArrival
  repeat' (first
    | (simp; done)
    | split
    | (refine (kept_foldl _ (fun _ _ => ?_) _ _).trans ?_)
    | simp)

/-! ### Crossbar -/

@[simp ↓] theorem dequeued_kept (x0 : ℕ) (x1 : ℕ) (s : State) : (dequeued x0 x1 s).kept = s.kept := by
  simp [dequeued]

@[simp ↓] theorem resolveHead_kept (x0 : Frame) (s : State) : (resolveHead x0 s).kept = s.kept := by
  unfold resolveHead
  repeat' (first
    | (simp; done)
    | split
    | (refine (kept_foldl _ (fun _ _ => ?_) _ _).trans ?_)
    | simp)

@[simp ↓] theorem resolveHeads_kept (s : State) : (resolveHeads s).kept = s.kept := by
  unfold resolveHeads
  repeat' (first
    | (simp; done)
    | split
    | (refine (kept_foldl _ (fun _ _ => ?_) _ _).trans ?_)
    | simp)

@[simp ↓] theorem iteration_kept (x0 : List Req) (x1 : Bool) (x2 : List Req) (s : State) : (iteration x0 x1 x2 s).2.kept = s.kept := by
  unfold iteration
  refine kept_foldl_snd _ (fun x i => ?_) _ _
  dsimp only
  split
  · rfl
  · split <;> simp

@[simp ↓] theorem land_kept (x0 : Frame) (x1 : ℕ) (x2 : ℕ) (x3 : List (ℕ × Bool)) (s : State) : (land x0 x1 x2 x3 s).kept = s.kept := by
  simp [land]

@[simp ↓] theorem takeOff_kept (x0 : Frame) (s : State) : (takeOff x0 s).2.kept = s.kept := by
  unfold takeOff
  repeat' (first
    | (simp; done)
    | split
    | (refine (kept_foldl _ (fun _ _ => ?_) _ _).trans ?_)
    | simp)

@[simp ↓] theorem leaveQueue_kept (x0 : Frame) (s : State) : (leaveQueue x0 s).kept = s.kept := by
  simp [leaveQueue]

@[simp ↓] theorem serveFrees_kept (x0 : ℕ) (s : State) : (serveFrees x0 s).kept = s.kept := by
  induction x0 generalizing s <;> simp only [serveFrees] <;>
  (repeat' (first
    | (simp [*]; done)
    | split
    | (refine (kept_foldl _ (fun _ _ => ?_) _ _).trans ?_)
    | simp [*]))

@[simp ↓] theorem moveUnicast_kept (x0 : ℕ) (x1 : ℕ) (x2 : ℕ) (x3 : ℕ) (s : State) : (moveUnicast x0 x1 x2 x3 s).kept = s.kept := by
  induction x2 generalizing x0 x1 x3 s <;> simp only [moveUnicast] <;>
  (repeat' (first
    | (simp [*]; done)
    | split
    | (refine (kept_foldl _ (fun _ _ => ?_) _ _).trans ?_)
    | simp [*]))

@[simp ↓] theorem moveMulticast_kept (x0 : ℕ) (x1 : ℕ) (x2 : List ℕ) (s : State) : (moveMulticast x0 x1 x2 s).kept = s.kept := by
  unfold moveMulticast
  repeat' (first
    | (simp; done)
    | split
    | (refine (kept_foldl _ (fun _ _ => ?_) _ _).trans ?_)
    | simp)

@[simp ↓] theorem advanceHeads_kept (s : State) : (advanceHeads s).kept = s.kept := by
  unfold advanceHeads
  repeat' (first
    | (simp; done)
    | split
    | (refine (kept_foldl _ (fun _ _ => ?_) _ _).trans ?_)
    | simp)

@[simp ↓] theorem crossbarRound_kept (s : State) : (crossbarRound s).kept = s.kept := by
  simp [crossbarRound]

/-! ### Egress -/

@[simp ↓] theorem fillShapers_kept (x0 : ℕ) (s : State) : (fillShapers x0 s).kept = s.kept := by
  simp [fillShapers]

@[simp ↓] theorem cntSent_kept (x0 : ℕ) (x1 : ℕ) (x2 : ℕ) (s : State) : (cntSent x0 x1 x2 s).kept = s.kept := by
  simp [cntSent]

@[simp ↓] theorem sendCopy_kept (x0 : ℕ) (x1 : ℕ) (x2 : Bytes) (x3 : StoreEntry) (s : State) : (sendCopy x0 x1 x2 x3 s).kept = s.kept := by
  simp [sendCopy]

@[simp ↓] theorem injectSent_kept (x0 : ℕ) (x1 : Bool) (x2 : ℤ) (s : State) : (injectSent x0 x1 x2 s).kept = s.kept := by
  simp [injectSent]

@[simp ↓] theorem injectEnd_kept (x0 : ℕ) (x1 : StoreEntry) (s : State) : (injectEnd x0 x1 s).kept = s.kept := by
  unfold injectEnd
  repeat' (first
    | (simp; done)
    | split
    | (refine (kept_foldl _ (fun _ _ => ?_) _ _).trans ?_)
    | simp)

@[simp ↓] theorem transmit_kept (x0 : ℕ) (x1 : ℕ) (x2 : StoreEntry) (s : State) : (transmit x0 x1 x2 s).kept = s.kept := by
  unfold transmit
  repeat' (first
    | (simp; done)
    | split
    | (refine (kept_foldl _ (fun _ _ => ?_) _ _).trans ?_)
    | simp)

@[simp ↓] theorem serve_kept (x0 : ℕ) (x1 : ℕ) (x2 : StoreEntry) (s : State) : (serve x0 x1 x2 s).kept = s.kept := by
  simp [serve]

@[simp ↓] theorem fwBuffer_kept (x0 : ℕ) (s : State) : (fwBuffer x0 s).2.kept = s.kept := by
  unfold fwBuffer
  repeat' (first
    | (simp; done)
    | (rename_i h; have h2 := congrArg (fun z => State.kept z.2) h; simp at h2; simp [← h2]; done)
    | (rename_i h; have h2 := congrArg (fun z => State.kept z.2.2) h; simp at h2; simp [← h2]; done)
    | split
    | (refine (kept_foldl _ (fun _ _ => ?_) _ _).trans ?_)
    | simp)

@[simp ↓] theorem fwAdmit_kept (x0 : ℕ) (x1 : ℕ) (s : State) : (fwAdmit x0 x1 s).kept = s.kept := by
  induction x1 generalizing x0 s <;> simp only [fwAdmit] <;>
  (repeat' (first
    | (simp [*]; done)
    | split
    | (refine (kept_foldl _ (fun _ _ => ?_) _ _).trans ?_)
    | simp [*]))

@[simp ↓] theorem egressSelect_kept (x0 : ℕ) (s : State) : (egressSelect x0 s).kept = s.kept := by
  unfold egressSelect
  repeat' (first
    | (simp; done)
    | split
    | (refine (kept_foldl _ (fun _ _ => ?_) _ _).trans ?_)
    | simp)

/-! ### Ports -/

@[simp ↓] theorem linkEvent_kept (x0 : ℕ) (x1 : ℕ) (s : State) : (linkEvent x0 x1 s).kept = s.kept := by
  simp [linkEvent]

@[simp ↓] theorem downRule_kept (x0 : ℕ) (s : State) : (downRule x0 s).kept = s.kept := by
  simp [downRule]

@[simp ↓] theorem moveTo_kept (x0 : ℕ) (x1 : PortSt) (x2 : ℕ) (x3 : ℕ) (s : State) : (moveTo x0 x1 x2 x3 s).kept = s.kept := by
  simp [moveTo]

@[simp ↓] theorem leaveUp_kept (x0 : ℕ) (x1 : PortSt) (x2 : ℕ) (x3 : ℕ) (s : State) : (leaveUp x0 x1 x2 x3 s).kept = s.kept := by
  simp [leaveUp]

@[simp ↓] theorem enterUp_kept (x0 : ℕ) (x1 : PortSt) (s : State) : (enterUp x0 x1 s).kept = s.kept := by
  simp [enterUp]

@[simp ↓] theorem enterBackoff_kept (x0 : ℕ) (x1 : ℕ) (x2 : ℕ) (s : State) : (enterBackoff x0 x1 x2 s).kept = s.kept := by
  simp [enterBackoff]

@[simp ↓] theorem enterTrain_kept (x0 : ℕ) (s : State) : (enterTrain x0 s).kept = s.kept := by
  simp [enterTrain]

@[simp ↓] theorem ethLos_kept (x0 : ℕ) (x1 : ℕ) (s : State) : (ethLos x0 x1 s).kept = s.kept := by
  unfold ethLos
  repeat' (first
    | (simp; done)
    | split
    | (refine (kept_foldl _ (fun _ _ => ?_) _ _).trans ?_)
    | simp)

@[simp ↓] theorem ethLol_kept (x0 : ℕ) (x1 : ℕ) (s : State) : (ethLol x0 x1 s).kept = s.kept := by
  unfold ethLol
  repeat' (first
    | (simp; done)
    | split
    | (refine (kept_foldl _ (fun _ _ => ?_) _ _).trans ?_)
    | simp)

@[simp ↓] theorem ethLoss_kept (x0 : ℕ) (x1 : ℕ) (s : State) : (ethLoss x0 x1 s).kept = s.kept := by
  simp [ethLoss]

/-! ### Tde -/

@[simp ↓] theorem modTde_kept (x0 : TdeBlk → TdeBlk) (s : State) : (modTde x0 s).kept = s.kept := by
  simp [modTde]

@[simp ↓] theorem modEngine_kept (x0 : ℕ) (x1 : Engine → Engine) (s : State) : (modEngine x0 x1 s).kept = s.kept := by
  simp [modEngine]

@[simp ↓] theorem pinTo_kept (x0 : ℕ) (x1 : Bool) (s : State) : (pinTo x0 x1 s).kept = s.kept := by
  unfold pinTo
  repeat' (first
    | (simp; done)
    | split
    | (refine (kept_foldl _ (fun _ _ => ?_) _ _).trans ?_)
    | simp)

@[simp ↓] theorem unpin_kept (x0 : ℕ → Bool → Bool) (s : State) : (unpin x0 s).kept = s.kept := by
  unfold unpin
  repeat' (first
    | (simp; done)
    | split
    | (refine (kept_foldl _ (fun _ _ => ?_) _ _).trans ?_)
    | simp)

@[simp ↓] theorem autoPin_kept (s : State) : (autoPin s).kept = s.kept := by
  simp [autoPin]

@[simp ↓] theorem reelect_kept (s : State) : (reelect s).kept = s.kept := by
  simp [reelect]

@[simp ↓] theorem roomForClaim_kept (s : State) : ((roomForClaim s).getD s).kept = s.kept := by
  unfold roomForClaim
  split
  · rfl
  · dsimp only; split <;> simp

@[simp ↓] theorem meterEdge_kept (x0 : ℕ) (x1 : ℤ) (s : State) : (meterEdge x0 x1 s).kept = s.kept := by
  unfold meterEdge
  repeat' (first
    | (simp; done)
    | split
    | (refine (kept_foldl _ (fun _ _ => ?_) _ _).trans ?_)
    | simp)

@[simp ↓] theorem announceLowered_kept (x0 : DpllSt) (s : State) : (announceLowered x0 s).kept = s.kept := by
  unfold announceLowered
  repeat' (first
    | (simp; done)
    | split
    | (refine (kept_foldl _ (fun _ _ => ?_) _ _).trans ?_)
    | simp)

@[simp ↓] theorem startQueued_kept (x0 : ℕ) (x1 : ℕ) (s : State) : (startQueued x0 x1 s).kept = s.kept := by
  unfold startQueued
  repeat' (first
    | (simp; done)
    | split
    | (refine (kept_foldl _ (fun _ _ => ?_) _ _).trans ?_)
    | simp)

@[simp ↓] theorem freeEngine_kept (x0 : ℕ) (s : State) : (freeEngine x0 s).kept = s.kept := by
  simp [freeEngine]

@[simp ↓] theorem statsRelease_kept (x0 : ℕ) (x1 : ℕ) (s : State) : (statsRelease x0 x1 s).kept = s.kept := by
  unfold statsRelease
  repeat' (first
    | (simp; done)
    | split
    | (refine (kept_foldl _ (fun _ _ => ?_) _ _).trans ?_)
    | simp)

end Sys2Proof.Machine
end

