-- ==== Sys2Proof/Laws/KeptLinks.lean ====
section
/-! SUPPORT. Frames over the queue and the owner's part (`State.kept`): Dalom links, CPU rings, table rows and registers. -/

namespace Sys2Proof.Machine

set_option linter.unusedTactic false
set_option linter.unreachableTactic false
set_option linter.unnecessarySeqFocus false
set_option linter.unusedSimpArgs false

/-! ### Dalom -/

@[simp ↓] theorem modTrain_kept (x0 : ℕ) (x1 : ℕ) (x2 : DlkTrain → DlkTrain) (s : State) : (modTrain x0 x1 x2 s).kept = s.kept := by
  simp [modTrain]

@[simp ↓] theorem modLine_kept (x0 : ℕ) (x1 : ℕ) (x2 : DlkLine → DlkLine) (s : State) : (modLine x0 x1 x2 s).kept = s.kept := by
  simp [modLine]

@[simp ↓] theorem dlkEvent_kept (x0 : ℕ) (x1 : ℕ) (s : State) : (dlkEvent x0 x1 s).kept = s.kept := by
  simp [dlkEvent]

@[simp ↓] theorem newTxTime_kept (x0 : ℕ) (s : State) : (newTxTime x0 s).kept = s.kept := by
  simp [newTxTime]

@[simp ↓] theorem newRxTime_kept (x0 : ℕ) (x1 : ℕ) (s : State) : (newRxTime x0 x1 s).kept = s.kept := by
  simp [newRxTime]

@[simp ↓] theorem refreshOwn_kept (x0 : ℕ) (s : State) : (refreshOwn x0 s).kept = s.kept := by
  simp [refreshOwn]

@[simp ↓] theorem queueCap_kept (x0 : ℕ) (x1 : ℕ) (x2 : ℕ) (x3 : Bytes) (s : State) : (queueCap x0 x1 x2 x3 s).kept = s.kept := by
  simp [queueCap]

@[simp ↓] theorem emitTile_kept (x0 : ℕ) (x1 : ℕ) (x2 : ℕ) (x3 : ℕ) (x4 : ℕ) (x5 : Bytes) (s : State) : (emitTile x0 x1 x2 x3 x4 x5 s).kept = s.kept := by
  simp [emitTile]

@[simp ↓] theorem emitStriped_kept (x0 : ℕ) (x1 : ℕ) (x2 : ℕ) (x3 : Bytes) (s : State) : (emitStriped x0 x1 x2 x3 s).kept = s.kept := by
  simp [emitStriped]

@[simp ↓] theorem emitCredit_kept (x0 : ℕ) (x1 : ℕ) (x2 : ℕ) (s : State) : (emitCredit x0 x1 x2 s).kept = s.kept := by
  simp [emitCredit]

@[simp ↓] theorem emitTrain_kept (x0 : ℕ) (x1 : ℕ) (s : State) : (emitTrain x0 x1 s).kept = s.kept := by
  simp [emitTrain]

@[simp ↓] theorem segSent_kept (x0 : SegTx) (x1 : ℤ) (s : State) : (segSent x0 x1 s).kept = s.kept := by
  unfold segSent
  repeat' (first
    | (simp; done)
    | split
    | (refine (kept_foldl _ (fun _ _ => ?_) _ _).trans ?_)
    | simp)

@[simp ↓] theorem emitData_kept (x0 : ℕ) (x1 : ℕ) (x2 : ℤ) (s : State) : (emitData x0 x1 x2 s).kept = s.kept := by
  simp [emitData]

@[simp ↓] theorem markDeparts_kept (x0 : ℕ) (x1 : ℕ) (x2 : ℤ) (s : State) : (markDeparts x0 x1 x2 s).kept = s.kept := by
  simp [markDeparts]

@[simp ↓] theorem delayApplies_kept (x0 : ℕ) (s : State) : (delayApplies x0 s).kept = s.kept := by
  simp [delayApplies]

@[simp ↓] theorem stripedTile_kept (x0 : ℕ) (x1 : ℕ) (x2 : ℤ) (x3 : Bool) (s : State) : (stripedTile x0 x1 x2 x3 s).kept = s.kept := by
  unfold stripedTile
  repeat' (first
    | (simp; done)
    | split
    | (refine (kept_foldl _ (fun _ _ => ?_) _ _).trans ?_)
    | simp)

@[simp ↓] theorem laneSlot_kept (x0 : ℕ) (x1 : List ℤ) (x2 : Bool) (s : State) (x4 : ℕ) : (laneSlot x0 x1 x2 s x4).kept = s.kept := by
  simp [laneSlot]

@[simp ↓] theorem dlkSlot_kept (x0 : ℕ) (x1 : List ℤ) (s : State) : (dlkSlot x0 x1 s).kept = s.kept := by
  unfold dlkSlot
  repeat' (first
    | (simp; done)
    | split
    | (refine (kept_foldl _ (fun _ _ => ?_) _ _).trans ?_)
    | simp)

/-! ### Links -/

@[simp ↓] theorem ethTry_kept (x0 : ℕ) (s : State) : (ethTry x0 s).kept = s.kept := by
  simp [ethTry]

@[simp ↓] theorem ethWait_kept (x0 : ℕ) (x1 : ℕ) (x2 : ℕ) (s : State) : (ethWait x0 x1 x2 s).kept = s.kept := by
  simp [ethWait]

@[simp ↓] theorem abortAhead_kept (x0 : ℕ) (s : State) : (abortAhead x0 s).kept = s.kept := by
  simp [abortAhead]

@[simp ↓] theorem dlkTry_kept (x0 : ℕ) (s : State) : (dlkTry x0 s).kept = s.kept := by
  simp [dlkTry]

@[simp ↓] theorem segDrop_kept (x0 : ℕ) (x1 : ℕ) (s : State) : (segDrop x0 x1 s).kept = s.kept := by
  unfold segDrop
  repeat' (first
    | (simp; done)
    | split
    | (refine (kept_foldl _ (fun _ _ => ?_) _ _).trans ?_)
    | simp)

@[simp ↓] theorem abandonAll_kept (x0 : ℕ) (s : State) : (abandonAll x0 s).kept = s.kept := by
  simp [abandonAll]

@[simp ↓] theorem dlkLeave_kept (x0 : ℕ) (x1 : PortSt) (x2 : ℕ) (x3 : ℕ) (s : State) : (dlkLeave x0 x1 x2 x3 s).kept = s.kept := by
  simp [dlkLeave]

@[simp ↓] theorem dlkBackoff_kept (x0 : ℕ) (x1 : ℕ) (x2 : ℕ) (s : State) : (dlkBackoff x0 x1 x2 s).kept = s.kept := by
  simp [dlkBackoff]

@[simp ↓] theorem portStart_kept (x0 : ℕ) (s : State) : (portStart x0 s).kept = s.kept := by
  simp [portStart]

@[simp ↓] theorem prefLoss_kept (x0 : ℕ) (s : State) : (prefLoss x0 s).kept = s.kept := by
  simp [prefLoss]

@[simp ↓] theorem prefsDark_kept (s : State) : (prefsDark s).kept = s.kept := by
  simp [prefsDark]

@[simp ↓] theorem portStop_kept (x0 : ℕ) (x1 : ℕ) (s : State) : (portStop x0 x1 s).kept = s.kept := by
  simp [portStop]

@[simp ↓] theorem powerWait_kept (x0 : ℕ) (s : State) : (powerWait x0 s).kept = s.kept := by
  simp [powerWait]

@[simp ↓] theorem portEnable_kept (x0 : ℕ) (s : State) : (portEnable x0 s).kept = s.kept := by
  simp [portEnable]

@[simp ↓] theorem portDisable_kept (x0 : ℕ) (s : State) : (portDisable x0 s).kept = s.kept := by
  simp [portDisable]

@[simp ↓] theorem portSettle_kept (x0 : ℕ) (s : State) : (portSettle x0 s).kept = s.kept := by
  simp [portSettle]

@[simp ↓] theorem powerReturn_kept (s : State) : (powerReturn s).kept = s.kept := by
  simp [powerReturn]

@[simp ↓] theorem thermalStop_kept (s : State) : (thermalStop s).kept = s.kept := by
  simp [thermalStop]

@[simp ↓] theorem holdBack_kept (x0 : ℕ) (x1 : ℕ) (s : State) : (holdBack x0 x1 s).kept = s.kept := by
  simp [holdBack]

@[simp ↓] theorem exchangeEnter_kept (x0 : ℕ) (x1 : ℕ) (s : State) : (exchangeEnter x0 x1 s).kept = s.kept := by
  simp [exchangeEnter]

@[simp ↓] theorem recredit_kept (x0 : ℕ) (s : State) : (recredit x0 s).kept = s.kept := by
  simp [recredit]

@[simp ↓] theorem exchangeCheck_kept (x0 : ℕ) (s : State) : (exchangeCheck x0 s).kept = s.kept := by
  unfold exchangeCheck
  repeat' (first
    | (simp; done)
    | split
    | (refine (kept_foldl _ (fun _ _ => ?_) _ _).trans ?_)
    | simp)

@[simp ↓] theorem laneFails_kept (x0 : ℕ) (x1 : ℕ) (s : State) : (laneFails x0 x1 s).kept = s.kept := by
  simp [laneFails]

@[simp ↓] theorem dlkLaneLoss_kept (x0 : ℕ) (x1 : ℕ) (x2 : Bool) (s : State) : (dlkLaneLoss x0 x1 x2 s).kept = s.kept := by
  simp [dlkLaneLoss]

@[simp ↓] theorem degradeDone_kept (x0 : ℕ) (s : State) : (degradeDone x0 s).kept = s.kept := by
  unfold degradeDone
  repeat' (first
    | (simp; done)
    | split
    | (refine (kept_foldl _ (fun _ _ => ?_) _ _).trans ?_)
    | simp)

@[simp ↓] theorem readmitDone_kept (x0 : ℕ) (x1 : ℕ) (s : State) : (readmitDone x0 x1 s).kept = s.kept := by
  simp [readmitDone]

@[simp ↓] theorem laneRelock_kept (x0 : ℕ) (x1 : ℕ) (s : State) : (laneRelock x0 x1 s).kept = s.kept := by
  simp [laneRelock]

@[simp ↓] theorem stripeStart_kept (x0 : ℕ) (x1 : ℕ) (s : State) : (stripeStart x0 x1 s).kept = s.kept := by
  simp [stripeStart]

@[simp ↓] theorem restripe_kept (x0 : ℕ) (x1 : ℕ) (s : State) : (restripe x0 x1 s).kept = s.kept := by
  simp [restripe]

/-! ### LinkRows -/

@[simp ↓] theorem assertLol_kept (x0 : ℕ) (s : State) : (assertLol x0 s).kept = s.kept := by
  simp [assertLol]

@[simp ↓] theorem ethLaneLoss_kept (x0 : ℕ) (x1 : ℕ) (x2 : Bool) (s : State) : (ethLaneLoss x0 x1 x2 s).kept = s.kept := by
  simp [ethLaneLoss]

@[simp ↓] theorem portLaneLoss_kept (x0 : ℕ) (x1 : Bool) (s : State) : (portLaneLoss x0 x1 s).kept = s.kept := by
  simp [portLaneLoss]

@[simp ↓] theorem losAssert_kept (x0 : ℕ) (s : State) : (losAssert x0 s).kept = s.kept := by
  simp [losAssert]

@[simp ↓] theorem losClears_kept (x0 : ℕ) (s : State) : (losClears x0 s).kept = s.kept := by
  simp [losClears]

@[simp ↓] theorem lolAssert_kept (x0 : ℕ) (s : State) : (lolAssert x0 s).kept = s.kept := by
  simp [lolAssert]

@[simp ↓] theorem adaptUpdate_kept (x0 : ℕ) (x1 : ℕ) (x2 : List ℤ) (x3 : Bool) (x4 : ℕ) (x5 : ℤ) (s : State) : (adaptUpdate x0 x1 x2 x3 x4 x5 s).kept = s.kept := by
  simp [adaptUpdate]

@[simp ↓] theorem moduleEvent_kept (x0 : ℕ) (s : State) : (moduleEvent x0 s).kept = s.kept := by
  simp [moduleEvent]

@[simp ↓] theorem moduleFound_kept (x0 : ℕ) (s : State) : (moduleFound x0 s).kept = s.kept := by
  simp [moduleFound]

@[simp ↓] theorem trainingDone_kept (x0 : ℕ) (x1 : List (List ℤ)) (s : State) : (trainingDone x0 x1 s).kept = s.kept := by
  simp [trainingDone]

@[simp ↓] theorem alignDone_kept (x0 : ℕ) (x1 : List (ℕ × ℕ)) (s : State) : (alignDone x0 x1 s).kept = s.kept := by
  simp [alignDone]

@[simp ↓] theorem moduleGone_kept (x0 : ℕ) (s : State) : (moduleGone x0 s).kept = s.kept := by
  unfold moduleGone
  repeat' (first
    | (simp; done)
    | split
    | (refine (kept_foldl _ (fun _ _ => ?_) _ _).trans ?_)
    | simp)

@[simp ↓] theorem ethDown_kept (x0 : ℕ) (x1 : ℕ) (s : State) : (ethDown x0 x1 s).kept = s.kept := by
  simp [ethDown]

@[simp ↓] theorem laneTestEnd_kept (x0 : ℕ) (s : State) : (laneTestEnd x0 s).kept = s.kept := by
  simp [laneTestEnd]

@[simp ↓] theorem laneTestsEnd_kept (s : State) : (laneTestsEnd s).kept = s.kept := by
  simp [laneTestsEnd]

/-! ### CpuRows -/

@[simp ↓] theorem modTrap_kept (x0 : ℕ) (x1 : CpuRing → CpuRing) (s : State) : (modTrap x0 x1 s).kept = s.kept := by
  simp [modTrap]

@[simp ↓] theorem modInj_kept (x0 : ℕ) (x1 : CpuRing → CpuRing) (s : State) : (modInj x0 x1 s).kept = s.kept := by
  simp [modInj]

@[simp ↓] theorem trapDeliver_kept (x0 : ℕ) (s : State) : (trapDeliver x0 s).kept = s.kept := by
  unfold trapDeliver
  repeat' (first
    | (simp; done)
    | split
    | (refine (kept_foldl _ (fun _ _ => ?_) _ _).trans ?_)
    | simp)

@[simp ↓] theorem injectTake_kept (x0 : ℕ) (s : State) : (injectTake x0 s).kept = s.kept := by
  unfold injectTake
  extract_lets r
  split
  · rename_i d b rest _ _
    extract_lets finish
    have hf : ∀ st h s, (finish st h s).kept = s.kept := fun st h s => by simp [finish]
    clear_value finish
    split
    · exact hf _ _ _
    · split
      · rfl
      · have h1 := admission_kept 64 (byteAt d 11).toNat (field d 8 2 + 4) (.port (byteAt d 10).toNat) s
        split <;> rename_i h2 <;> rw [h2] at h1
        · rw [hf]; exact h1
        · rename_i _ tiers _ s1
          have h3 := allocate_kept 18 (field d 8 2 + 4) tiers s1
          split <;> rename_i h4 <;> rw [h4] at h3
          · rw [hf]; exact h3.trans h1
          · simp only [] at h1 h3
            simp [h3, h1]
  · rfl

@[simp ↓] theorem injectDone_kept (x0 : ℕ) (s : State) : (injectDone x0 s).kept = s.kept := by
  unfold injectDone
  repeat' (first
    | (simp; done)
    | split
    | (refine (kept_foldl _ (fun _ _ => ?_) _ _).trans ?_)
    | simp)

@[simp ↓] theorem trapPost_kept (x0 : ℕ) (x1 : ℕ) (x2 : List Bytes) (s : State) : (trapPost x0 x1 x2 s).kept = s.kept := by
  simp [trapPost]

@[simp ↓] theorem injectPost_kept (x0 : ℕ) (x1 : ℕ) (x2 : List (Bytes × Bytes)) (s : State) : (injectPost x0 x1 x2 s).kept = s.kept := by
  simp [injectPost]

@[simp ↓] theorem forgetInject_kept (x0 : ℕ) (s : State) : (forgetInject x0 s).kept = s.kept := by
  simp [forgetInject]

@[simp ↓] theorem ringControl_kept (x0 : Bool) (x1 : ℕ) (x2 : Bool) (s : State) : (ringControl x0 x1 x2 s).kept = s.kept := by
  simp [ringControl]

/-! ### TableRows -/

@[simp ↓] theorem tawNow_kept (x0 : ℕ) (x1 : ℕ) (x2 : ℕ) (s : State) : (tawNow x0 x1 x2 s).kept = s.kept := by
  simp [tawNow]

@[simp ↓] theorem tawGrant_kept (x0 : ℕ) (s : State) : (tawGrant x0 s).kept = s.kept := by
  simp [tawGrant]

@[simp ↓] theorem tawExpire_kept (x0 : ℕ) (s : State) : (tawExpire x0 s).kept = s.kept := by
  simp [tawExpire]

@[simp ↓] theorem ageVisit_kept (x0 : ℕ) (x1 : ℕ) (s : State) : (ageVisit x0 x1 s).kept = s.kept := by
  unfold ageVisit
  repeat' (first
    | (simp; done)
    | split
    | (refine (kept_foldl _ (fun _ _ => ?_) _ _).trans ?_)
    | simp)

@[simp ↓] theorem clsParity_kept (x0 : ℕ) (x1 : ℕ) (x2 : Bytes) (s : State) : (clsParity x0 x1 x2 s).kept = s.kept := by
  unfold clsParity
  repeat' (first
    | (simp; done)
    | split
    | (refine (kept_foldl _ (fun _ _ => ?_) _ _).trans ?_)
    | simp)

@[simp ↓] theorem tcamScrub_kept (x0 : ℕ) (x1 : List ℕ) (x2 : List (ℕ × Bytes)) (s : State) : (tcamScrub x0 x1 x2 s).kept = s.kept := by
  simp [tcamScrub]

@[simp ↓] theorem rebuildDone_kept (x0 : ℕ) (s : State) : (rebuildDone x0 s).kept = s.kept := by
  unfold rebuildDone
  repeat' (first
    | (simp; done)
    | split
    | (refine (kept_foldl _ (fun _ _ => ?_) _ _).trans ?_)
    | simp)

@[simp ↓] theorem selftestDone_kept (x0 : ℕ) (x1 : List ℕ) (s : State) : (selftestDone x0 x1 s).kept = s.kept := by
  unfold selftestDone
  repeat' (first
    | (simp; done)
    | split
    | (refine (kept_foldl _ (fun _ _ => ?_) _ _).trans ?_)
    | simp)

@[simp ↓] theorem shadowNote_kept (x0 : ℕ) (x1 : ℕ) (x2 : ℕ) (x3 : Bool) (s : State) : (shadowNote x0 x1 x2 x3 s).kept = s.kept := by
  unfold shadowNote
  repeat' (first
    | (simp; done)
    | split
    | (refine (kept_foldl _ (fun _ _ => ?_) _ _).trans ?_)
    | simp)

@[simp ↓] theorem countCompare_kept (x0 : ℕ) (x1 : ℕ) (s : State) : (countCompare x0 x1 s).kept = s.kept := by
  simp [countCompare]

@[simp ↓] theorem shadowRead_kept (x0 : ℕ) (x1 : Bytes) (s : State) : (shadowRead x0 x1 s).kept = s.kept := by
  unfold shadowRead
  repeat' (first
    | (simp; done)
    | split
    | (refine (kept_foldl _ (fun _ _ => ?_) _ _).trans ?_)
    | simp)

@[simp ↓] theorem bulkNext_kept (x0 : ℕ) (x1 : Bytes) (s : State) : (bulkNext x0 x1 s).kept = s.kept := by
  unfold bulkNext
  repeat' (first
    | (simp; done)
    | split
    | (refine (kept_foldl _ (fun _ _ => ?_) _ _).trans ?_)
    | simp)

@[simp ↓] theorem fenceExpire_kept (x0 : ℕ) (s : State) : (fenceExpire x0 s).kept = s.kept := by
  unfold fenceExpire
  repeat' (first
    | (simp; done)
    | split
    | (refine (kept_foldl _ (fun _ _ => ?_) _ _).trans ?_)
    | simp)

/-! ### RegRows -/

@[simp ↓] theorem causeWrite_kept (x0 : ℕ) (x1 : BitVec 32) (s : State) : (causeWrite x0 x1 s).kept = s.kept := by
  simp [causeWrite]

@[simp ↓] theorem holdoffEnd_kept (x0 : ℕ) (s : State) : (holdoffEnd x0 s).kept = s.kept := by
  unfold holdoffEnd
  repeat' (first
    | (simp; done)
    | split
    | (refine (kept_foldl _ (fun _ _ => ?_) _ _).trans ?_)
    | simp)

@[simp ↓] theorem evqFree_kept (x0 : ℕ) (s : State) : (evqFree x0 s).kept = s.kept := by
  simp [evqFree]

@[simp ↓] theorem evqArm_kept (x0 : Bool) (s : State) : (evqArm x0 s).kept = s.kept := by
  simp [evqArm]

@[simp ↓] theorem lostRead_kept (s : State) : (lostRead s).kept = s.kept := by
  simp [lostRead]

@[simp ↓] theorem dropsRead_kept (x0 : ℕ) (s : State) : (dropsRead x0 s).kept = s.kept := by
  simp [dropsRead]

@[simp ↓] theorem statWrite_kept (x0 : Bool) (x1 : Bool) (s : State) : (statWrite x0 x1 s).kept = s.kept := by
  simp [statWrite]

@[simp ↓] theorem statPeriod_kept (s : State) : (statPeriod s).kept = s.kept := by
  simp [statPeriod]

@[simp ↓] theorem statSnap_kept (s : State) : (statSnap s).kept = s.kept := by
  simp [statSnap]

@[simp ↓] theorem tsuSnap_kept (s : State) : (tsuSnap s).kept = s.kept := by
  simp [tsuSnap]

@[simp ↓] theorem calApplyStaged_kept (x0 : ℕ) (s : State) : (calApplyStaged x0 s).kept = s.kept := by
  simp [calApplyStaged]

@[simp ↓] theorem calRestart_kept (x0 : ℕ) (s : State) : (calRestart x0 s).kept = s.kept := by
  simp [calRestart]

@[simp ↓] theorem sysWrite_kept (x0 : ℕ) (x1 : ℕ) (s : State) : (sysWrite x0 x1 s).kept = s.kept := by
  simp [sysWrite]

@[simp ↓] theorem mbxWrite_kept (x0 x1 : ℕ) (s : State) : (mbxWrite x0 x1 s).kept = s.kept := by
  unfold mbxWrite
  split
  · rfl
  · split <;> simp

@[simp ↓] theorem maskWrite_kept (x0 : ℕ) (x1 : ℕ) (s : State) : (maskWrite x0 x1 s).kept = s.kept := by
  simp [maskWrite]

@[simp ↓] theorem irqWrite_kept (x0 x1 : ℕ) (s : State) : (irqWrite x0 x1 s).kept = s.kept := by
  unfold irqWrite
  repeat' (refine (kept_ite _ _ _).trans (ite_eq_iff'.mpr ⟨fun _ => ?_, fun _ => ?_⟩))
  all_goals simp

@[simp ↓] theorem tawWrite_kept (x0 : ℕ) (x1 : ℕ) (x2 : ℕ) (s : State) : (tawWrite x0 x1 x2 s).kept = s.kept := by
  simp [tawWrite]

@[simp ↓] theorem statRegWrite_kept (x0 x1 : ℕ) (s : State) : (statRegWrite x0 x1 s).kept = s.kept := by
  unfold statRegWrite
  split
  · dsimp only; split <;> simp
  all_goals simp

@[simp ↓] theorem calWrite_kept (x0 : ℕ) (x1 : ℕ) (x2 : ℕ) (s : State) : (calWrite x0 x1 x2 s).kept = s.kept := by
  simp [calWrite]

@[simp ↓] theorem cpuRegWrite_kept (x0 : ℕ) (x1 : ℕ) (s : State) : (cpuRegWrite x0 x1 s).kept = s.kept := by
  simp [cpuRegWrite]

@[simp ↓] theorem registerWrite_kept (x0 : Bool) (x1 : ℕ) (x2 : ℕ) (s : State) : (registerWrite x0 x1 x2 s).kept = s.kept := by
  simp [registerWrite]

end Sys2Proof.Machine
end

