-- ==== Sys2Proof/Laws/KeptSystem.lean ====
section
/-! SUPPORT. Frames over the queue and the owner's part (`State.kept`): clock rows, boot, slices and calibration steps. -/

namespace Sys2Proof.Machine

set_option linter.unusedTactic false
set_option linter.unreachableTactic false
set_option linter.unnecessarySeqFocus false
set_option linter.unusedSimpArgs false

/-! ### TimeRows -/

@[simp ↓] theorem xoNote_kept (x0 : ℕ) (s : State) : (xoNote x0 s).kept = s.kept := by
  simp [xoNote]

@[simp ↓] theorem holdTimer_kept (s : State) (x1 : ℕ) : (holdTimer s x1).kept = s.kept := by
  simp [holdTimer]

@[simp ↓] theorem xoLost_kept (s : State) : (xoLost s).kept = s.kept := by
  simp [xoLost]

@[simp ↓] theorem xoRestored_kept (s : State) : (xoRestored s).kept = s.kept := by
  simp [xoRestored]

@[simp ↓] theorem xoReady_kept (x0 : Bool) (s : State) : (xoReady x0 s).kept = s.kept := by
  simp [xoReady]

@[simp ↓] theorem warmJudge_kept (x0 : ℕ) (s : State) : (warmJudge x0 s).kept = s.kept := by
  simp [warmJudge]

@[simp ↓] theorem driftJudge_kept (x0 : ℕ) (s : State) : (driftJudge x0 s).kept = s.kept := by
  simp [driftJudge]

@[simp ↓] theorem judgeQualified_kept (x0 : ℕ) (s : State) : (judgeQualified x0 s).kept = s.kept := by
  simp [judgeQualified]

@[simp ↓] theorem judgeRef_kept (x0 : ℕ) (s : State) : (judgeRef x0 s).kept = s.kept := by
  unfold judgeRef
  repeat' (first
    | (simp; done)
    | split
    | (refine (kept_foldl _ (fun _ _ => ?_) _ _).trans ?_)
    | simp)

@[simp ↓] theorem monitorUpdate_kept (x0 : ℕ) (x1 : Bool) (x2 : ℤ) (x3 : ℤ) (s : State) : (monitorUpdate x0 x1 x2 x3 s).kept = s.kept := by
  simp [monitorUpdate]

@[simp ↓] theorem qualify_kept (x0 : ℕ) (s : State) : (qualify x0 s).kept = s.kept := by
  simp [qualify]

@[simp ↓] theorem selectionTick_kept (x0 : List (ℤ × ℤ)) (x1 : ℤ) (s : State) : (selectionTick x0 x1 s).kept = s.kept := by
  unfold selectionTick
  repeat' (first
    | (simp; done)
    | split
    | (refine (kept_foldl _ (fun _ _ => ?_) _ _).trans ?_)
    | simp)

@[simp ↓] theorem lockDwell_kept (x0 : ℕ) (s : State) : (lockDwell x0 s).kept = s.kept := by
  simp [lockDwell]

@[simp ↓] theorem dpllUnlock_kept (x0 : ℕ) (s : State) : (dpllUnlock x0 s).kept = s.kept := by
  simp [dpllUnlock]

@[simp ↓] theorem narrow_kept (x0 : ℕ) (s : State) : (narrow x0 s).kept = s.kept := by
  simp [narrow]

@[simp ↓] theorem frequencyLock_kept (x0 : ℤ) (s : State) : (frequencyLock x0 s).kept = s.kept := by
  simp [frequencyLock]

@[simp ↓] theorem slewComplete_kept (s : State) : (slewComplete s).kept = s.kept := by
  unfold slewComplete
  repeat' (first
    | (simp; done)
    | split
    | (refine (kept_foldl _ (fun _ _ => ?_) _ _).trans ?_)
    | simp)

/-! ### Boot -/

@[simp ↓] theorem modImg_kept (x0 : ℕ) (x1 : Img → Img) (s : State) : (modImg x0 x1 s).kept = s.kept := by
  simp [modImg]

@[simp ↓] theorem countAttempt_kept (s : State) : (countAttempt s).kept = s.kept := by
  simp [countAttempt]

@[simp ↓] theorem tryImages_kept (x0 : List ℕ) (x1 : Option Transport) (s : State) : (tryImages x0 x1 s).kept = s.kept := by
  induction x0 generalizing x1 s <;> simp only [tryImages] <;>
  (repeat' (first
    | (simp [*]; done)
    | split
    | (refine (kept_foldl _ (fun _ _ => ?_) _ _).trans ?_)
    | simp [*]))

@[simp ↓] theorem autoStart_kept (s : State) : (autoStart s).kept = s.kept := by
  simp [autoStart]

@[simp ↓] theorem verified_kept (x0 : ImageFacts) (x1 : ImageFacts) (s : State) : (verified x0 x1 s).kept = s.kept := by
  simp [verified]

@[simp ↓] theorem xoDetect_kept (x0 : ℕ) (s : State) : (xoDetect x0 s).kept = s.kept := by
  simp [xoDetect]

@[simp ↓] theorem resetRecord_kept (x0 : ℕ) (s : State) : (resetRecord x0 s).kept = s.kept := by
  simp [resetRecord]

@[simp ↓] theorem startRecords_kept (x0 : ℕ) (s : State) : (startRecords x0 s).kept = s.kept := by
  unfold startRecords
  repeat' (first
    | (simp; done)
    | split
    | (refine (kept_foldl _ (fun _ _ => ?_) _ _).trans ?_)
    | simp)

@[simp ↓] theorem synStart_kept (s : State) (x1 : ℕ) : (synStart s x1).kept = s.kept := by
  unfold synStart
  repeat' (first
    | (simp; done)
    | split
    | (refine (kept_foldl _ (fun _ _ => ?_) _ _).trans ?_)
    | simp)

@[simp ↓] theorem alive_kept (s : State) : (alive s).kept = s.kept := by
  unfold alive
  repeat' (first
    | (simp; done)
    | split
    | (refine (kept_foldl _ (fun _ _ => ?_) _ _).trans ?_)
    | simp)

@[simp ↓] theorem startFails_kept (s : State) : (startFails s).kept = s.kept := by
  unfold startFails
  repeat' (first
    | (simp; done)
    | split
    | (refine (kept_foldl _ (fun _ _ => ?_) _ _).trans ?_)
    | simp)

@[simp ↓] theorem hostReset_kept (s : State) : (hostReset s).kept = s.kept := by
  simp [hostReset]

@[simp ↓] theorem perstAssert_kept (s : State) : (perstAssert s).kept = s.kept := by
  simp [perstAssert]

@[simp ↓] theorem perstRelease_kept (s : State) : (perstRelease s).kept = s.kept := by
  simp [perstRelease]

@[simp ↓] theorem calWake_kept (old s : State) : (calWake old s).kept = s.kept := by
  refine kept_foldl _ (fun s i => ?_) _ _
  split <;> simp

@[simp ↓] theorem setMasks_kept (x0 : PState) (x1 : BitVec 64) (x2 : BitVec 256) (s : State) : (setMasks x0 x1 x2 s).kept = s.kept := by
  unfold setMasks
  repeat' (first
    | (simp; done)
    | split
    | (refine (kept_foldl _ (fun _ _ => ?_) _ _).trans ?_)
    | simp)

@[simp ↓] theorem rideEnter_kept (s : State) : (rideEnter s).kept = s.kept := by
  simp [rideEnter]

@[simp ↓] theorem sleepEnter_kept (s : State) : (sleepEnter s).kept = s.kept := by
  unfold sleepEnter
  repeat' (first
    | (simp; done)
    | split
    | (refine (kept_foldl _ (fun _ _ => ?_) _ _).trans ?_)
    | simp)

@[simp ↓] theorem poolsRebuild_kept (s : State) : (poolsRebuild s).kept = s.kept := by
  simp [poolsRebuild]

@[simp ↓] theorem pauseAll_kept (s : State) : (pauseAll s).kept = s.kept := by
  simp [pauseAll]

@[simp ↓] theorem pauseEnds_kept (s : State) : (pauseEnds s).kept = s.kept := by
  simp [pauseEnds]

@[simp ↓] theorem leaveMaintenance_kept (s : State) : (leaveMaintenance s).kept = s.kept := by
  simp [leaveMaintenance]

@[simp ↓] theorem enterMode_kept (x0 : Mode) (x1 : ℕ) (x2 : ℕ) (x3 : ℕ) (x4 : ℕ) (s : State) : (enterMode x0 x1 x2 x3 x4 s).kept = s.kept := by
  simp [enterMode]

@[simp ↓] theorem drainStop_kept (s : State) : (drainStop s).kept = s.kept := by
  simp [drainStop]

@[simp ↓] theorem abortDalom_kept (s : State) : (abortDalom s).kept = s.kept := by
  simp [abortDalom]

@[simp ↓] theorem cntStopped_kept (x0 : Frame) (s : State) : (cntStopped x0 s).kept = s.kept := by
  simp [cntStopped]

@[simp ↓] theorem emergency_kept (x0 : Bool) (s : State) : (emergency x0 s).kept = s.kept := by
  unfold emergency
  repeat' (first
    | (simp; done)
    | split
    | (refine (kept_foldl _ (fun _ _ => ?_) _ _).trans ?_)
    | simp)

@[simp ↓] theorem drainEnd_kept (s : State) : (drainEnd s).kept = s.kept := by
  simp only [drainEnd]
  repeat' (first
    | (simp; done)
    | split
    | (refine (kept_foldl _ (fun _ _ => ?_) _ _).trans ?_)
    | simp)

/-! ### SliceRows -/

@[simp ↓] theorem bumpEpoch_kept (x0 : ℕ) (s : State) : (bumpEpoch x0 s).kept = s.kept := by
  simp [bumpEpoch]

@[simp ↓] theorem shadowRestart_kept (s : State) : (shadowRestart s).kept = s.kept := by
  simp [shadowRestart]

@[simp ↓] theorem declareDead_kept (x0 : ℕ) (x1 : ℕ) (s : State) : (declareDead x0 x1 s).kept = s.kept := by
  unfold declareDead
  repeat' (first
    | (simp; done)
    | split
    | (refine (kept_foldl _ (fun _ _ => ?_) _ _).trans ?_)
    | simp)

@[simp ↓] theorem windowEnd_kept (x0 : ℕ) (x1 : Bool) (s : State) : (windowEnd x0 x1 s).kept = s.kept := by
  unfold windowEnd
  repeat' (first
    | (simp; done)
    | split
    | (refine (kept_foldl _ (fun _ _ => ?_) _ _).trans ?_)
    | simp)

@[simp ↓] theorem forget_kept (x0 : ℕ) (s : State) : (forget x0 s).kept = s.kept := by
  simp [forget]

@[simp ↓] theorem takeover_kept (s : State) : (takeover s).kept = s.kept := by
  unfold takeover
  repeat' (first
    | (simp; done)
    | split
    | (refine (kept_foldl _ (fun _ _ => ?_) _ _).trans ?_)
    | simp)

@[simp ↓] theorem deadlockSuspect_kept (x0 : ℕ) (x1 : ℕ) (s : State) : (deadlockSuspect x0 x1 s).kept = s.kept := by
  simp [deadlockSuspect]

@[simp ↓] theorem setTarget_kept (x0 : ℕ) (s : State) : (setTarget x0 s).kept = s.kept := by
  simp [setTarget]

@[simp ↓] theorem avsBus_kept (x0 : Bool) (s : State) : (avsBus x0 s).kept = s.kept := by
  simp [avsBus]

@[simp ↓] theorem notePace_kept (s : State) (x1 : ℕ × ℕ × ℕ) : (notePace s x1).kept = s.kept := by
  simp [notePace]

@[simp ↓] theorem readExtra_kept (s : State) : (readExtra s).kept = s.kept := by
  simp [readExtra]

@[simp ↓] theorem avsLoop_kept (x0 : List (ℕ × ℕ × ℕ)) (s : State) : (avsLoop x0 s).kept = s.kept := by
  unfold avsLoop
  repeat' (first
    | (simp; done)
    | split
    | (refine (kept_foldl _ (fun _ _ => ?_) _ _).trans ?_)
    | simp)

/-! ### GcpSys -/

@[simp ↓] theorem rebuildUnloaded_kept (s : State) : (rebuildUnloaded s).kept = s.kept := by
  simp [rebuildUnloaded]

@[simp ↓] theorem returnService_kept (x0 : ℕ) (x1 : ℕ) (s : State) : (returnService x0 x1 s).kept = s.kept := by
  unfold returnService
  repeat' (first
    | (simp; done)
    | split
    | (refine (kept_foldl _ (fun _ _ => ?_) _ _).trans ?_)
    | simp)

@[simp ↓] theorem ptpRestart_kept (s : State) : (ptpRestart s).kept = s.kept := by
  simp [ptpRestart]

@[simp ↓] theorem deviceConfig_kept (x0 : Bytes) (s : State) : (deviceConfig x0 s).kept = s.kept := by
  simp [deviceConfig]

@[simp ↓] theorem lifecycleRecord_kept (x0 : Lifecycle) (x1 : ℕ) (x2 : Bool) (x3 : ℕ) (s : State) : (lifecycleRecord x0 x1 x2 x3 s).kept = s.kept := by
  simp [lifecycleRecord]

@[simp ↓] theorem challenge_kept (x0 : ℕ) (s : State) : (challenge x0 s).2.kept = s.kept := by
  simp [challenge]

@[simp ↓] theorem unlock_kept (x0 : Cmd) (s : State) : (unlock x0 s).kept = s.kept := by
  simp [unlock]

/-! ### ClockRows -/

@[simp ↓] theorem rebandCheck_kept (x0 : ℕ) (s : State) : (rebandCheck x0 s).kept = s.kept := by
  unfold rebandCheck
  repeat' (first
    | (simp; done)
    | split
    | (refine (kept_foldl _ (fun _ _ => ?_) _ _).trans ?_)
    | simp)

@[simp ↓] theorem outSettled_kept (x0 : ℕ) (s : State) : (outSettled x0 s).kept = s.kept := by
  simp [outSettled]

@[simp ↓] theorem sourceSettles_kept (x0 : ℕ) (s : State) : (sourceSettles x0 s).kept = s.kept := by
  simp [sourceSettles]

@[simp ↓] theorem ppsRise_kept (x0 : ℤ) (s : State) (x2 : ℕ) : (ppsRise x0 s x2).kept = s.kept := by
  simp [ppsRise]

@[simp ↓] theorem secondBoundary_kept (x0 : ℤ) (x1 : ℤ) (s : State) : (secondBoundary x0 x1 s).kept = s.kept := by
  simp [secondBoundary]

@[simp ↓] theorem fromTod_kept (x0 : TodMsg) (s : State) : (fromTod x0 s).kept = s.kept := by
  simp [fromTod]

@[simp ↓] theorem todMessageRx_kept (x0 : Bytes) (x1 : Bool) (s : State) : (todMessageRx x0 x1 s).kept = s.kept := by
  unfold todMessageRx
  repeat' (first
    | (simp; done)
    | split
    | (refine (kept_foldl _ (fun _ _ => ?_) _ _).trans ?_)
    | simp)

@[simp ↓] theorem ppsinPulse_kept (x0 : ℕ) (x1 : ℤ) (s : State) : (ppsinPulse x0 x1 s).kept = s.kept := by
  unfold ppsinPulse
  repeat' (first
    | (simp; done)
    | split
    | (refine (kept_foldl _ (fun _ _ => ?_) _ _).trans ?_)
    | simp)

/-! ### CalRows -/

@[simp ↓] theorem sweepClear_kept (x0 : SweepWork) (s : State) : (sweepClear x0 s).kept = s.kept := by
  simp [sweepClear]

@[simp ↓] theorem sweepRestore_kept (x0 : SweepWork) (s : State) : (sweepRestore x0 s).kept = s.kept := by
  simp [sweepRestore]

@[simp ↓] theorem sweepStart_kept (x0 : SweepWork) (s : State) : (sweepStart x0 s).kept = s.kept := by
  simp [sweepStart]

@[simp ↓] theorem saveBegin_kept (x0 : Op) (x1 : SweepWork) (s : State) : (saveBegin x0 x1 s).kept = s.kept := by
  simp [saveBegin]

@[simp ↓] theorem sweepCheck_kept (x0 : ℕ) (s : State) : (sweepCheck x0 s).kept = s.kept := by
  unfold sweepCheck
  repeat' (first
    | (simp; done)
    | split
    | (refine (kept_foldl _ (fun _ _ => ?_) _ _).trans ?_)
    | simp)

@[simp ↓] theorem sweepStep_kept (x0 : ℕ) (s : State) : (sweepStep x0 s).kept = s.kept := by
  unfold sweepStep
  repeat' (first
    | (simp; done)
    | split
    | (refine (kept_foldl _ (fun _ _ => ?_) _ _).trans ?_)
    | simp)

@[simp ↓] theorem sweepStall_kept (x0 : ℕ) (s : State) : (sweepStall x0 s).kept = s.kept := by
  unfold sweepStall
  repeat' (first
    | (simp; done)
    | split
    | (refine (kept_foldl _ (fun _ _ => ?_) _ _).trans ?_)
    | simp)

@[simp ↓] theorem afterDiscard_kept (x0 : ℕ) (x1 : Bool) (s : State) : (afterDiscard x0 x1 s).kept = s.kept := by
  unfold afterDiscard
  repeat' (first
    | (simp; done)
    | split
    | (refine (kept_foldl _ (fun _ _ => ?_) _ _).trans ?_)
    | simp)

@[simp ↓] theorem calStep_kept (x0 : ℕ) (x1 : Bool) (x2 : List (ℕ × ℕ)) (s : State) : (calStep x0 x1 x2 s).kept = s.kept := by
  unfold calStep
  repeat' (first
    | (simp; done)
    | split
    | (refine (kept_foldl _ (fun _ _ => ?_) _ _).trans ?_)
    | simp)

@[simp ↓] theorem publishBlock_kept (s : State) (x1 : ℕ) : (publishBlock s x1).kept = s.kept := by
  simp [publishBlock]

@[simp ↓] theorem holdDelays_kept (x0 : ℕ) (s : State) : (holdDelays x0 s).kept = s.kept := by
  simp [holdDelays]

@[simp ↓] theorem publish_kept (s : State) : (publish s).kept = s.kept := by
  unfold publish
  repeat' (first
    | (simp; done)
    | split
    | (refine (kept_foldl _ (fun _ _ => ?_) _ _).trans ?_)
    | simp)

@[simp ↓] theorem saveDone_kept (x0 : ℕ) (s : State) : (saveDone x0 s).kept = s.kept := by
  unfold saveDone
  repeat' (first
    | (simp; done)
    | split
    | (refine (kept_foldl _ (fun _ _ => ?_) _ _).trans ?_)
    | simp)

end Sys2Proof.Machine
end

