-- ==== Sys2Proof/Laws/KeptGcp.lean ====
section
/-! SUPPORT. Frames over the queue and the owner's part (`State.kept`): modules, visits and what opcodes do. -/

namespace Sys2Proof.Machine

set_option linter.unusedTactic false
set_option linter.unreachableTactic false
set_option linter.unnecessarySeqFocus false
set_option linter.unusedSimpArgs false

/-! ### ModuleRows -/

@[simp ↓] theorem modModule_kept (x0 : ℕ) (x1 : Module → Module) (s : State) : (modModule x0 x1 s).kept = s.kept := by
  simp [modModule]

@[simp ↓] theorem presenceChange_kept (x0 : ℕ) (x1 : Bool) (s : State) : (presenceChange x0 x1 s).kept = s.kept := by
  simp [presenceChange]

@[simp ↓] theorem scanModule_kept (x0 : ℕ) (s : State) (x2 : ℕ) : (scanModule x0 s x2).kept = s.kept := by
  simp [scanModule]

@[simp ↓] theorem readiness_kept (x0 : ℕ) (x1 : Bool) (s : State) : (readiness x0 x1 s).kept = s.kept := by
  simp [readiness]

@[simp ↓] theorem muxSelect_kept (x0 : ℕ) (s : State) : (muxSelect x0 s).kept = s.kept := by
  simp [muxSelect]

@[simp ↓] theorem reselectApp_kept (x0 : ℕ) (s : State) : (reselectApp x0 s).kept = s.kept := by
  simp [reselectApp]

@[simp ↓] theorem readFlags_kept (x0 : ℕ) (x1 : ℕ) (x2 : ℕ) (x3 : ModuleWorks) (s : State) : (readFlags x0 x1 x2 x3 s).kept = s.kept := by
  simp [readFlags]

/-! ### GcpPort -/

@[simp ↓] theorem testStart_kept (x0 : Bytes) (s : State) : (testStart x0 s).kept = s.kept := by
  simp [testStart]

@[simp ↓] theorem laneTest_kept (x0 : Bytes) (s : State) : (laneTest x0 s).kept = s.kept := by
  simp [laneTest]

@[simp ↓] theorem dlkDelay_kept (x0 : Bytes) (s : State) : (dlkDelay x0 s).kept = s.kept := by
  simp [dlkDelay]

@[simp ↓] theorem flowTrace_kept (x0 : Cmd) (s : State) : (flowTrace x0 s).kept = s.kept := by
  unfold flowTrace
  repeat' (first
    | (simp; done)
    | split
    | (refine (kept_foldl _ (fun _ _ => ?_) _ _).trans ?_)
    | simp)

@[simp ↓] theorem classAdd_kept (x0 : ℕ) (s : State) (x2 : ℕ) : (classAdd x0 s x2).kept = s.kept := by
  simp [classAdd]

@[simp ↓] theorem classRemove_kept (x0 : ℕ) (s : State) (x2 : ℕ) : (classRemove x0 s x2).kept = s.kept := by
  simp [classRemove]

@[simp ↓] theorem flowControl_kept (x0 : Bytes) (s : State) : (flowControl x0 s).kept = s.kept := by
  simp [flowControl]

@[simp ↓] theorem portDelay_kept (x0 : Bytes) (s : State) : (portDelay x0 s).kept = s.kept := by
  simp [portDelay]

/-! ### GcpTime -/

@[simp ↓] theorem xoConfig_kept (x0 : Bytes) (s : State) : (xoConfig x0 s).kept = s.kept := by
  simp [xoConfig]

@[simp ↓] theorem refConfig_kept (x0 : Bytes) (s : State) : (refConfig x0 s).kept = s.kept := by
  simp [refConfig]

@[simp ↓] theorem dpllConfig_kept (x0 : Bytes) (s : State) : (dpllConfig x0 s).kept = s.kept := by
  unfold dpllConfig
  repeat' (first
    | (simp; done)
    | split
    | (refine (kept_foldl _ (fun _ _ => ?_) _ _).trans ?_)
    | simp)

@[simp ↓] theorem todConfig_kept (x0 : Bytes) (s : State) : (todConfig x0 s).kept = s.kept := by
  simp [todConfig]

@[simp ↓] theorem synConfig_kept (x0 : Bytes) (s : State) : (synConfig x0 s).kept = s.kept := by
  have h : ∀ i go s, (synConfig.relockFedOf i go s).kept = s.kept := by
    intro i go s; cases go <;> simp [synConfig.relockFedOf]
  simp [synConfig, h]

@[simp ↓] theorem synConfig.relockFedOf_kept (x0 : ℕ) (x1 : Bool) (s : State) : (synConfig.relockFedOf x0 x1 s).kept = s.kept := by
  simp [synConfig.relockFedOf]

@[simp ↓] theorem outConfig_kept (x0 : Bytes) (s : State) : (outConfig x0 s).kept = s.kept := by
  simp [outConfig]

@[simp ↓] theorem ptpClockConfig_kept (x0 : Bytes) (s : State) : (ptpClockConfig x0 s).kept = s.kept := by
  simp [ptpClockConfig]

@[simp ↓] theorem ptpPortConfig_kept (x0 : Bytes) (s : State) : (ptpPortConfig x0 s).kept = s.kept := by
  simp [ptpPortConfig]

@[simp ↓] theorem stepNotes_kept (x0 : ℕ) (x1 : ℕ) (x2 : ℕ) (x3 : ℕ) (x4 : ℤ) (s : State) : (stepNotes x0 x1 x2 x3 x4 s).kept = s.kept := by
  simp [stepNotes]

@[simp ↓] theorem stepTime_kept (x0 : Cmd) (s : State) : (stepTime x0 s).2.kept = s.kept := by
  unfold stepTime
  repeat' (first
    | (simp; done)
    | split
    | (refine (kept_foldl _ (fun _ _ => ?_) _ _).trans ?_)
    | simp)

/-! ### TdeRows -/

@[simp ↓] theorem passesPrescaler_kept (x0 : ℕ) (s : State) : (passesPrescaler x0 s).2.kept = s.kept := by
  unfold passesPrescaler
  repeat' (first
    | (simp; done)
    | split
    | (refine (kept_foldl _ (fun _ _ => ?_) _ _).trans ?_)
    | simp)

@[simp ↓] theorem countSpacing_kept (x0 : ℕ) (s : State) : (countSpacing x0 s).kept = s.kept := by
  unfold countSpacing
  repeat' (first
    | (simp; done)
    | split
    | (refine (kept_foldl _ (fun _ _ => ?_) _ _).trans ?_)
    | simp)

@[simp ↓] theorem refineMark_kept (x0 : ℕ) (x1 : Bool) (x2 : ℤ) (s : State) : (refineMark x0 x1 x2 s).kept = s.kept := by
  simp [refineMark]

@[simp ↓] theorem refine_kept (x0 : ℕ) (x1 : ℕ) (x2 : Bool) (x3 : ℤ) (x4 : ℤ) (s : State) : (refine x0 x1 x2 x3 x4 s).kept = s.kept := by
  simp [refine]

@[simp ↓] theorem coarsePhase_kept (x0 : ℕ) (x1 : ℤ) (s : State) : (coarsePhase x0 x1 s).kept = s.kept := by
  simp [coarsePhase]

@[simp ↓] theorem edge_kept (x0 : ℕ) (x1 : ℤ) (x2 : ℤ) (x3 : Bool) (s : State) : (edge x0 x1 x2 x3 s).kept = s.kept := by
  unfold edge
  repeat' (first
    | (simp; done)
    | split
    | (refine (kept_foldl _ (fun _ _ => ?_) _ _).trans ?_)
    | simp)

@[simp ↓] theorem roundStart_kept (s : State) : (roundStart s).kept = s.kept := by
  simp [roundStart]

theorem roundFor_kept {x0 : ℕ} {s t : State} (h : roundFor x0 s = some t) : t.kept = s.kept := by
  unfold roundFor at h
  extract_lets s1 at h
  have h1 : s1.kept = s.kept := by simp only [s1]; split <;> simp
  clear_value s1
  split at h
  · rw [← Option.some.inj h]; exact h1
  · split at h
    · rw [← Option.some.inj h]; simp [h1]
    · exact absurd h (by simp)

@[simp ↓] theorem visit_kept (x0 x1 : ℕ) (x2 : List (ℤ × ℤ × Bool)) (s : State) : (visit x0 x1 x2 s).kept = s.kept := by
  unfold visit
  split
  · rfl
  split
  · rfl
  · rename_i t h
    have h := roundFor_kept h
    dsimp only
    refine (kept_foldl _ (fun _ _ => by simp) _ _).trans ?_
    simpa using h

@[simp ↓] theorem claimGrant_kept (x0 : ℕ) (s : State) : (claimGrant x0 s).kept = s.kept := by
  unfold claimGrant
  repeat' (first
    | (simp; done)
    | split
    | (refine (kept_foldl _ (fun _ _ => ?_) _ _).trans ?_)
    | simp)

/-! ### LongWork -/

@[simp ↓] theorem sweepGo_kept (x0 : ℕ) (s : State) : (sweepGo x0 s).kept = s.kept := by
  unfold sweepGo
  repeat' (first
    | (simp; done)
    | split
    | (refine (kept_foldl _ (fun _ _ => ?_) _ _).trans ?_)
    | simp)

@[simp ↓] theorem fwGo_kept (x0 : ℕ) (s : State) : (fwGo x0 s).kept = s.kept := by
  unfold fwGo
  repeat' (first
    | (simp; done)
    | split
    | (refine (kept_foldl _ (fun _ _ => ?_) _ _).trans ?_)
    | simp)

@[simp ↓] theorem opGo_kept (x0 : ℕ) (s : State) : (opGo x0 s).kept = s.kept := by
  unfold opGo
  repeat' (first
    | (simp; done)
    | split
    | (refine (kept_foldl _ (fun _ _ => ?_) _ _).trans ?_)
    | simp)

@[simp ↓] theorem opsSettle_kept (s : State) : (opsSettle s).kept = s.kept := by
  simp [opsSettle]

/-! ### GcpTde -/

@[simp ↓] theorem pinSet_kept (x0 : Bytes) (s : State) : (pinSet x0 s).kept = s.kept := by
  simp only [pinSet]
  repeat' (first
    | (simp; done)
    | split
    | (refine (kept_foldl _ (fun _ _ => ?_) _ _).trans ?_)
    | simp)

@[simp ↓] theorem claim_kept (x0 : Bytes) (x1 x2 : ℕ) (s : State) : (claim x0 x1 x2 s).2.kept = s.kept := by
  simp [claim]

/-! ### GcpCore -/

@[simp ↓] theorem poolsBuild_kept (x0 : List ℕ) (s : State) : (poolsBuild x0 s).kept = s.kept := by
  simp [poolsBuild]

@[simp ↓] theorem poolsRun_kept (x0 : Cmd) (s : State) : (poolsRun x0 s).2.kept = s.kept := by
  unfold poolsRun
  repeat' (first
    | (simp; done)
    | split
    | (refine (kept_foldl _ (fun _ _ => ?_) _ _).trans ?_)
    | simp)

@[simp ↓] theorem poolsSettle_kept (s : State) : (poolsSettle s).kept = s.kept := by
  unfold poolsSettle
  repeat' (first
    | (simp; done)
    | split
    | (refine (kept_foldl _ (fun _ _ => ?_) _ _).trans ?_)
    | simp)

@[simp ↓] theorem thresholdSet_kept (x0 : Bytes) (s : State) : (thresholdSet x0 s).kept = s.kept := by
  simp [thresholdSet]

@[simp ↓] theorem schedSet_kept (x0 : Bytes) (s : State) : (schedSet x0 s).kept = s.kept := by
  simp [schedSet]

@[simp ↓] theorem assignQuad_kept (x0 : Bytes) (s : State) (x2 : ℕ) : (assignQuad x0 s x2).kept = s.kept := by
  simp [assignQuad]

@[simp ↓] theorem assign_kept (x0 : Bytes) (s : State) : (assign x0 s).kept = s.kept := by
  simp [assign]

@[simp ↓] theorem copyTables_kept (x0 : ℕ) (x1 : ℕ) (s : State) : (copyTables x0 x1 s).kept = s.kept := by
  simp [copyTables]

@[simp ↓] theorem sliceReturn_kept (x0 : ℕ) (s : State) : (sliceReturn x0 s).2.kept = s.kept := by
  unfold sliceReturn
  repeat' (first
    | (simp; done)
    | split
    | (refine (kept_foldl _ (fun _ _ => ?_) _ _).trans ?_)
    | simp)

@[simp ↓] theorem groupSet_kept (x0 : Bytes) (s : State) : (groupSet x0 s).kept = s.kept := by
  simp [groupSet]

/-! ### GcpTab -/

@[simp ↓] theorem learnSet_kept (x0 : Bytes) (s : State) : (learnSet x0 s).kept = s.kept := by
  simp [learnSet]

@[simp ↓] theorem flush_kept (x0 : ℕ) (x1 : ℕ) (s : State) : (flush x0 x1 s).2.kept = s.kept := by
  simp [flush]

@[simp ↓] theorem rebuildStart_kept (x0 : Cmd) (s : State) : (rebuildStart x0 s).2.kept = s.kept := by
  simp [rebuildStart]

/-! ### GcpNv -/

@[simp ↓] theorem contactLoad_kept (x0 x1 : ℕ) (s : State) : (contactLoad x0 x1 s).2.kept = s.kept := by
  refine kept_foldl_snd _ (fun x r => ?_) _ _
  dsimp only
  split
  · rfl
  · split
    · rfl
    · simp

@[simp ↓] theorem contactRestore_kept (x0 : Cmd) (s : State) : (contactRestore x0 s).2.kept = s.kept := by
  simp [contactRestore]

@[simp ↓] theorem fwData_kept (x0 : Bytes) (s : State) : (fwData x0 s).kept = s.kept := by
  unfold fwData
  repeat' (first
    | (simp; done)
    | split
    | (refine (kept_foldl _ (fun _ _ => ?_) _ _).trans ?_)
    | simp)

@[simp ↓] theorem opSuspend_kept (x0 : ℕ) (s : State) : (opSuspend x0 s).kept = s.kept := by
  unfold opSuspend
  repeat' (first
    | (simp; done)
    | split
    | (refine (kept_foldl _ (fun _ _ => ?_) _ _).trans ?_)
    | simp)

@[simp ↓] theorem opResume_kept (x0 : ℕ) (s : State) : (opResume x0 s).kept = s.kept := by
  unfold opResume
  repeat' (first
    | (simp; done)
    | split
    | (refine (kept_foldl _ (fun _ _ => ?_) _ _).trans ?_)
    | simp)

@[simp ↓] theorem opCancel_kept (x0 : ℕ) (s : State) : (opCancel x0 s).kept = s.kept := by
  unfold opCancel
  repeat' (first
    | (simp; done)
    | split
    | (refine (kept_foldl _ (fun _ _ => ?_) _ _).trans ?_)
    | simp)

/-! ### GcpRun -/

@[simp ↓] theorem rateTick_kept (x0 : ℕ) (s : State) : (rateTick x0 s).2.kept = s.kept := by
  simp [rateTick]

@[simp ↓] theorem sbBadCount_kept (s : State) : (sbBadCount s).kept = s.kept := by
  simp [sbBadCount]

@[simp ↓] theorem sbRead_kept (s : State) : (sbRead s).kept = s.kept := by
  unfold sbRead
  repeat' (first
    | (simp; done)
    | split
    | (refine (kept_foldl _ (fun _ _ => ?_) _ _).trans ?_)
    | simp)

@[simp ↓] theorem expire_kept (x0 : Transport) (x1 : ℕ) (s : State) : (expire x0 x1 s).kept = s.kept := by
  simp [expire]

end Sys2Proof.Machine
end

