-- ==== Sys2Proof/Laws/KeptRows.lean ====
section
/-! SUPPORT. Frames over the queue and the owner's part (`State.kept`): tiles, frames, operations, power, PTP, resets and transports. -/

namespace Sys2Proof.Machine

set_option linter.unusedTactic false
set_option linter.unreachableTactic false
set_option linter.unnecessarySeqFocus false
set_option linter.unusedSimpArgs false

/-! ### DalomRows -/

@[simp ↓] theorem rxLine_kept (x0 : ℕ) (x1 : ℕ) (x2 : ℕ) (x3 : ℕ) (x4 : ℕ) (x5 : Bool) (x6 : Bool) (s : State) : (rxLine x0 x1 x2 x3 x4 x5 x6 s).kept = s.kept := by
  simp [rxLine]

@[simp ↓] theorem lostCount_kept (x0 : ℕ) (x1 : ℕ) (x2 : Bool) (s : State) : (lostCount x0 x1 x2 s).kept = s.kept := by
  simp [lostCount]

@[simp ↓] theorem tilePasses_kept (x0 : ℕ) (x1 : ℕ) (s : State) : (tilePasses x0 x1 s).kept = s.kept := by
  simp [tilePasses]

@[simp ↓] theorem tileLost_kept (x0 : ℕ) (x1 : ℕ) (x2 : Bool) (s : State) : (tileLost x0 x1 x2 s).kept = s.kept := by
  simp [tileLost]

@[simp ↓] theorem headerCredit_kept (x0 : ℕ) (x1 : ℕ) (s : State) : (headerCredit x0 x1 s).kept = s.kept := by
  simp [headerCredit]

@[simp ↓] theorem reconcile_kept (x0 : ℕ) (x1 : Bytes) (s : State) : (reconcile x0 x1 s).kept = s.kept := by
  unfold reconcile
  extract_lets s1
  have h : s1.kept = s.kept := by
    refine kept_foldl _ (fun s c => ?_) _ _
    dsimp only
    split <;> simp
  simp [h]

@[simp ↓] theorem account_kept (x0 : ℕ) (x1 : ℕ) (x2 : ℕ) (s : State) : (account x0 x1 x2 s).kept = s.kept := by
  simp [account]

@[simp ↓] theorem returnNow_kept (x0 : ℕ) (x1 : ℕ) (x2 : ℕ) (s : State) : (returnNow x0 x1 x2 s).kept = s.kept := by
  simp [returnNow]

@[simp ↓] theorem segBytes_kept (x0 : ℕ) (x1 : ℕ) (x2 : Bytes) (x3 : Bool) (s : State) : (segBytes x0 x1 x2 x3 s).kept = s.kept := by
  unfold segBytes
  repeat' (first
    | (simp; done)
    | split
    | (refine (kept_foldl _ (fun _ _ => ?_) _ _).trans ?_)
    | simp)

@[simp ↓] theorem segDiscard_kept (x0 : ℕ) (x1 : ℕ) (x2 : ℕ) (x3 : Option ℕ) (s : State) : (segDiscard x0 x1 x2 x3 s).kept = s.kept := by
  unfold segDiscard
  repeat' (first
    | (simp; done)
    | split
    | (refine (kept_foldl _ (fun _ _ => ?_) _ _).trans ?_)
    | simp)

@[simp ↓] theorem segEnd_kept (x0 : ℕ) (x1 : ℕ) (x2 : ℕ) (s : State) : (segEnd x0 x1 x2 s).kept = s.kept := by
  unfold segEnd
  repeat' (first
    | (simp; done)
    | split
    | (refine (kept_foldl _ (fun _ _ => ?_) _ _).trans ?_)
    | simp)

@[simp ↓] theorem segmentRx_kept (x0 : ℕ) (x1 : DlkTile) (x2 : Tile.Seg) (s : State) : (segmentRx x0 x1 x2 s).kept = s.kept := by
  simp [segmentRx]

@[simp ↓] theorem segmentsRx_kept (x0 : ℕ) (x1 : DlkTile) (x2 : List Tile.Seg) (s : State) : (segmentsRx x0 x1 x2 s).kept = s.kept := by
  simp [segmentsRx]

@[simp ↓] theorem markArrives_kept (x0 : ℕ) (x1 : ℕ) (x2 : ℕ) (x3 : ℤ) (s : State) : (markArrives x0 x1 x2 x3 s).kept = s.kept := by
  simp [markArrives]

@[simp ↓] theorem pairTaken_kept (x0 : ℕ) (x1 : ℤ × ℤ × ℤ) (s : State) : (pairTaken x0 x1 s).kept = s.kept := by
  unfold pairTaken
  repeat' (first
    | (simp; done)
    | split
    | (refine (kept_foldl _ (fun _ _ => ?_) _ _).trans ?_)
    | simp)

@[simp ↓] theorem timeRx_kept (x0 : ℕ) (x1 : Bytes) (s : State) : (timeRx x0 x1 s).kept = s.kept := by
  unfold timeRx
  repeat' (first
    | (simp; done)
    | split
    | (refine (kept_foldl _ (fun _ _ => ?_) _ _).trans ?_)
    | simp)

@[simp ↓] theorem answerRequest_kept (x0 : ℕ) (x1 : ℕ) (x2 : ℕ) (x3 : ℕ) (x4 : ℕ) (s : State) : (answerRequest x0 x1 x2 x3 x4 s).kept = s.kept := by
  unfold answerRequest
  repeat' (first
    | (simp; done)
    | split
    | (refine (kept_foldl _ (fun _ _ => ?_) _ _).trans ?_)
    | simp)

@[simp ↓] theorem ownRequest_kept (x0 : ℕ) (x1 : ℕ) (x2 : Bool) (x3 : ℕ) (x4 : ℕ) (x5 : ℕ) (s : State) : (ownRequest x0 x1 x2 x3 x4 x5 s).kept = s.kept := by
  simp [ownRequest]

@[simp ↓] theorem controlRx_kept (x0 : ℕ) (x1 : ℕ) (x2 : Option Bytes) (x3 : Bool) (x4 : ℕ) (x5 : ℕ) (s : State) : (controlRx x0 x1 x2 x3 x4 x5 s).kept = s.kept := by
  unfold controlRx
  repeat' (first
    | (simp; done)
    | split
    | (refine (kept_foldl _ (fun _ _ => ?_) _ _).trans ?_)
    | simp)

@[simp ↓] theorem reverseBlock_kept (x0 : ℕ) (x1 : ℕ) (s : State) : (reverseBlock x0 x1 s).kept = s.kept := by
  simp [reverseBlock]

@[simp ↓] theorem trainRx_kept (x0 : ℕ) (x1 : DlkTile) (x2 : Bool) (x3 : ℕ) (x4 : ℕ) (s : State) : (trainRx x0 x1 x2 x3 x4 s).kept = s.kept := by
  simp [trainRx]

@[simp ↓] theorem capHeard_kept (x0 : ℕ) (x1 : Bytes) (s : State) : (capHeard x0 x1 s).kept = s.kept := by
  simp [capHeard]

@[simp ↓] theorem capExchangeRx_kept (x0 : ℕ) (x1 : Bytes) (s : State) : (capExchangeRx x0 x1 s).kept = s.kept := by
  unfold capExchangeRx
  repeat' (first
    | (simp; done)
    | split
    | (refine (kept_foldl _ (fun _ _ => ?_) _ _).trans ?_)
    | simp)

@[simp ↓] theorem capLaneRx_kept (x0 : ℕ) (x1 : Bytes) (s : State) : (capLaneRx x0 x1 s).kept = s.kept := by
  simp [capLaneRx]

@[simp ↓] theorem capDelayRx_kept (x0 : ℕ) (x1 : Bytes) (s : State) : (capDelayRx x0 x1 s).kept = s.kept := by
  simp [capDelayRx]

@[simp ↓] theorem capTrainRx_kept (x0 : ℕ) (x1 : Bytes) (s : State) : (capTrainRx x0 x1 s).kept = s.kept := by
  simp [capTrainRx]

@[simp ↓] theorem tileTake_kept (x0 : ℕ) (x1 : RxKind) (x2 : DlkTile) (x3 : Bytes) (s : State) : (tileTake x0 x1 x2 x3 s).kept = s.kept := by
  unfold tileTake
  repeat' (first
    | (simp; done)
    | split
    | (refine (kept_foldl _ (fun _ _ => ?_) _ _).trans ?_)
    | simp)

@[simp ↓] theorem stripedRx_kept (x0 : ℕ) (x1 : RxKind) (x2 : DlkTile) (s : State) : (stripedRx x0 x1 x2 s).kept = s.kept := by
  simp [stripedRx]

@[simp ↓] theorem tileTurn_kept (x0 : ℕ) (x1 : RxTile) (s : State) : (tileTurn x0 x1 s).kept = s.kept := by
  unfold tileTurn
  repeat' (first
    | (simp; done)
    | split
    | (refine (kept_foldl _ (fun _ _ => ?_) _ _).trans ?_)
    | simp)

@[simp ↓] theorem lanePasses_kept (x0 : ℕ) (x1 : ℕ) (s : State) : (lanePasses x0 x1 s).kept = s.kept := by
  simp [lanePasses]

@[simp ↓] theorem slotTurn_kept (x0 : ℕ) (s : State) : (slotTurn x0 s).kept = s.kept := by
  simp [slotTurn]

@[simp ↓] theorem tileDrain_kept (x0 : ℕ) (x1 : ℕ) (s : State) : (tileDrain x0 x1 s).kept = s.kept := by
  induction x1 generalizing x0 s <;> simp only [tileDrain] <;>
  (repeat' (first
    | (simp [*]; done)
    | split
    | (refine (kept_foldl _ (fun _ _ => ?_) _ _).trans ?_)
    | simp [*]))

@[simp ↓] theorem tileLate_kept (x0 : ℕ) (x1 : RxTile) (s : State) : (tileLate x0 x1 s).kept = s.kept := by
  unfold tileLate
  repeat' (first
    | (simp; done)
    | split
    | (refine (kept_foldl _ (fun _ _ => ?_) _ _).trans ?_)
    | simp)

@[simp ↓] theorem tileEarly_kept (x0 : ℕ) (x1 : RxTile) (s : State) : (tileEarly x0 x1 s).kept = s.kept := by
  unfold tileEarly
  repeat' (first
    | (simp; done)
    | split
    | (refine (kept_foldl _ (fun _ _ => ?_) _ _).trans ?_)
    | simp)

@[simp ↓] theorem tileRx_kept (x0 : ℕ) (x1 : RxKind) (x2 : DlkTile) (s : State) : (tileRx x0 x1 x2 s).kept = s.kept := by
  simp [tileRx]

@[simp ↓] theorem lockEnter_kept (x0 : ℕ) (x1 : ℕ) (s : State) : (lockEnter x0 x1 s).kept = s.kept := by
  simp [lockEnter]

/-! ### FrameRows -/

@[simp ↓] theorem upset_kept (x0 : List (ℕ × Byte)) (s : State) : (upset x0 s).kept = s.kept := by
  simp [upset]

@[simp ↓] theorem frameStart_kept (x0 : ℕ) (x1 : Bytes) (x2 : List (ℕ × Byte)) (s : State) : (frameStart x0 x1 x2 s).kept = s.kept := by
  simp [frameStart]

@[simp ↓] theorem frameStop_kept (x0 : ℕ) (x1 : Bytes) (s : State) : (frameStop x0 x1 s).kept = s.kept := by
  unfold frameStop
  repeat' (first
    | (simp; done)
    | split
    | (refine (kept_foldl _ (fun _ _ => ?_) _ _).trans ?_)
    | simp)

@[simp ↓] theorem refillDone_kept (x0 : ℕ) (s : State) : (refillDone x0 s).kept = s.kept := by
  unfold refillDone
  repeat' (first
    | (simp; done)
    | split
    | (refine (kept_foldl _ (fun _ _ => ?_) _ _).trans ?_)
    | simp)

@[simp ↓] theorem spillDone_kept (x0 : ℕ) (s : State) : (spillDone x0 s).kept = s.kept := by
  unfold spillDone
  repeat' (first
    | (simp; done)
    | split
    | (refine (kept_foldl _ (fun _ _ => ?_) _ _).trans ?_)
    | simp)

@[simp ↓] theorem pauseExpire_kept (x0 : ℕ) (x1 : ℕ) (s : State) : (pauseExpire x0 x1 s).kept = s.kept := by
  simp [pauseExpire]

@[simp ↓] theorem pauseRepeat_kept (x0 : ℕ) (x1 : ℕ) (s : State) : (pauseRepeat x0 x1 s).kept = s.kept := by
  simp [pauseRepeat]

@[simp ↓] theorem bathDrain_kept (x0 : ℕ) (s : State) : (bathDrain x0 s).kept = s.kept := by
  unfold bathDrain
  repeat' (first
    | (simp; done)
    | split
    | (refine (kept_foldl _ (fun _ _ => ?_) _ _).trans ?_)
    | simp)

@[simp ↓] theorem bathHoldEnd_kept (x0 : ℕ) (s : State) : (bathHoldEnd x0 s).kept = s.kept := by
  unfold bathHoldEnd
  repeat' (first
    | (simp; done)
    | split
    | (refine (kept_foldl _ (fun _ _ => ?_) _ _).trans ?_)
    | simp)

/-! ### JtagRows -/

@[simp ↓] theorem tapSelect_kept (x0 : ℕ) (s : State) : (tapSelect x0 s).kept = s.kept := by
  simp [tapSelect]

@[simp ↓] theorem tapAt_kept (x0 : ℕ) (x1 : ℕ) (x2 : State → State) (s : State) (h2 : ∀ s, (x2 s).kept = s.kept) : (tapAt x0 x1 x2 s).kept = s.kept := by
  simp [tapAt, h2]

/-! ### OpRows -/

@[simp ↓] theorem fwVerify_kept (x0 : Op) (x1 : FwWork) (x2 : ImageFacts) (s : State) : (fwVerify x0 x1 x2 s).kept = s.kept := by
  simp [fwVerify]

@[simp ↓] theorem fwEnd_kept (x0 : Op) (x1 : FwWork) (x2 : ImageFacts) (s : State) : (fwEnd x0 x1 x2 s).kept = s.kept := by
  simp [fwEnd]

@[simp ↓] theorem fwWrite_kept (x0 : Op) (x1 : FwWork) (x2 : Bytes) (x3 : ImageFacts) (s : State) : (fwWrite x0 x1 x2 x3 s).kept = s.kept := by
  simp [fwWrite]

@[simp ↓] theorem fwSector_kept (x0 : ℕ) (x1 : Bytes) (x2 : ImageFacts) (s : State) : (fwSector x0 x1 x2 s).kept = s.kept := by
  unfold fwSector
  repeat' (first
    | (simp; done)
    | split
    | (refine (kept_foldl _ (fun _ _ => ?_) _ _).trans ?_)
    | simp)

@[simp ↓] theorem fwExpire_kept (x0 : ℕ) (s : State) : (fwExpire x0 s).kept = s.kept := by
  unfold fwExpire
  repeat' (first
    | (simp; done)
    | split
    | (refine (kept_foldl _ (fun _ _ => ?_) _ _).trans ?_)
    | simp)

@[simp ↓] theorem opUndo_kept (x0 : ℕ) (x1 : Work) (s : State) : (opUndo x0 x1 s).kept = s.kept := by
  unfold opUndo
  repeat' (first
    | (simp; done)
    | split
    | (refine (kept_foldl _ (fun _ _ => ?_) _ _).trans ?_)
    | simp)

@[simp ↓] theorem unrecoverable_kept (x0 : ℕ) (x1 : ℕ) (x2 : InternalFault) (s : State) : (unrecoverable x0 x1 x2 s).kept = s.kept := by
  unfold unrecoverable
  repeat' (first
    | (simp; done)
    | split
    | (refine (kept_foldl _ (fun _ _ => ?_) _ _).trans ?_)
    | simp)

@[simp ↓] theorem exportEnds_kept (x0 : ℕ) (x1 : ExportWork) (s : State) : (exportEnds x0 x1 s).kept = s.kept := by
  simp [exportEnds]

@[simp ↓] theorem exportOver_kept (x0 : ℕ) (x1 : Op) (x2 : ExportWork) (s : State) : (exportOver x0 x1 x2 s).kept = s.kept := by
  simp [exportOver]

@[simp ↓] theorem exportCopy_kept (x0 : ℕ) (x1 : Op) (x2 : ExportWork) (x3 : ℕ) (x4 : Bytes) (s : State) : (exportCopy x0 x1 x2 x3 x4 s).kept = s.kept := by
  simp [exportCopy]

@[simp ↓] theorem exportStep_kept (x0 : ℕ) (s : State) : (exportStep x0 s).kept = s.kept := by
  unfold exportStep
  repeat' (first
    | (simp; done)
    | split
    | (refine (kept_foldl _ (fun _ _ => ?_) _ _).trans ?_)
    | simp)

@[simp ↓] theorem traceEnds_kept (x0 : ℕ) (x1 : TraceWork) (s : State) : (traceEnds x0 x1 s).kept = s.kept := by
  simp [traceEnds]

@[simp ↓] theorem traceOver_kept (x0 : ℕ) (x1 : Op) (x2 : TraceWork) (s : State) : (traceOver x0 x1 x2 s).kept = s.kept := by
  simp [traceOver]

@[simp ↓] theorem traceStep_kept (x0 : ℕ) (s : State) : (traceStep x0 s).kept = s.kept := by
  unfold traceStep
  repeat' (first
    | (simp; done)
    | split
    | (refine (kept_foldl _ (fun _ _ => ?_) _ _).trans ?_)
    | simp)

@[simp ↓] theorem sampleClose_kept (x0 : ℕ) (x1 : ℕ) (x2 : Meter) (s : State) : (sampleClose x0 x1 x2 s).kept = s.kept := by
  unfold sampleClose
  repeat' (first
    | (simp; done)
    | split
    | (refine (kept_foldl _ (fun _ _ => ?_) _ _).trans ?_)
    | simp)

/-! ### PowerRows -/

@[simp ↓] theorem measure_kept (x0 : Meas) (s : State) : (measure x0 s).kept = s.kept := by
  simp [measure]

@[simp ↓] theorem supplyRaise_kept (x0 : ℕ) (s : State) : (supplyRaise x0 s).kept = s.kept := by
  simp [supplyRaise]

@[simp ↓] theorem supplyClear_kept (x0 : ℕ) (s : State) : (supplyClear x0 s).kept = s.kept := by
  simp [supplyClear]

@[simp ↓] theorem thermalRaise_kept (x0 : ℕ) (s : State) : (thermalRaise x0 s).kept = s.kept := by
  simp [thermalRaise]

@[simp ↓] theorem thermalClear_kept (x0 : ℕ) (s : State) : (thermalClear x0 s).kept = s.kept := by
  simp [thermalClear]

@[simp ↓] theorem crossing_kept (x0 : Meas) (x1 : State → Bool) (x2 : State → State) (s : State) (h2 : ∀ s, (x2 s).kept = s.kept) : (crossing x0 x1 x2 s).kept = s.kept := by
  simp [crossing, h2]

@[simp ↓] theorem supplySuspend_kept (s : State) : (supplySuspend s).kept = s.kept := by
  simp [supplySuspend]

@[simp ↓] theorem supplyResume_kept (s : State) : (supplyResume s).kept = s.kept := by
  simp [supplyResume]

@[simp ↓] theorem auxWarn_kept (s : State) : (auxWarn s).kept = s.kept := by
  simp [auxWarn]

@[simp ↓] theorem auxWarnClear_kept (s : State) : (auxWarnClear s).kept = s.kept := by
  simp [auxWarnClear]

@[simp ↓] theorem nvInhibit_kept (s : State) : (nvInhibit s).kept = s.kept := by
  simp [nvInhibit]

@[simp ↓] theorem critAuxClear_kept (s : State) : (critAuxClear s).kept = s.kept := by
  simp [critAuxClear]

@[simp ↓] theorem critAux_kept (s : State) : (critAux s).kept = s.kept := by
  simp [critAux]

@[simp ↓] theorem critCore_kept (s : State) : (critCore s).kept = s.kept := by
  simp [critCore]

@[simp ↓] theorem critCoreClear_kept (s : State) : (critCoreClear s).kept = s.kept := by
  simp [critCoreClear]

@[simp ↓] theorem coreWarn_kept (s : State) : (coreWarn s).kept = s.kept := by
  simp [coreWarn]

@[simp ↓] theorem coreWarnClear_kept (s : State) : (coreWarnClear s).kept = s.kept := by
  simp [coreWarnClear]

@[simp ↓] theorem coreSag_kept (s : State) : (coreSag s).kept = s.kept := by
  simp [coreSag]

@[simp ↓] theorem rideExit_kept (s : State) : (rideExit s).kept = s.kept := by
  simp [rideExit]

@[simp ↓] theorem thermWarn_kept (s : State) : (thermWarn s).kept = s.kept := by
  simp [thermWarn]

@[simp ↓] theorem thermWarnClear_kept (s : State) : (thermWarnClear s).kept = s.kept := by
  simp [thermWarnClear]

@[simp ↓] theorem thermCrit_kept (s : State) : (thermCrit s).kept = s.kept := by
  simp [thermCrit]

@[simp ↓] theorem thermCritClear_kept (s : State) : (thermCritClear s).kept = s.kept := by
  simp [thermCritClear]

@[simp ↓] theorem countersRestart_kept (s : State) : (countersRestart s).kept = s.kept := by
  simp [countersRestart]

@[simp ↓] theorem shadowLoad_kept (x0 : ℕ) (x1 : List Bytes) (s : State) : (shadowLoad x0 x1 s).kept = s.kept := by
  refine kept_foldl_snd (β := ℕ) _ (fun x r => ?_) _ _
  simp

@[simp ↓] theorem tableRestore_kept (x0 : List (ℕ × List Bytes)) (s : State) (x2 : ℕ) : (tableRestore x0 s x2).kept = s.kept := by
  unfold tableRestore
  repeat' (first
    | (simp; done)
    | split
    | (refine (kept_foldl _ (fun _ _ => ?_) _ _).trans ?_)
    | simp)

@[simp ↓] theorem tablesRestore_kept (x0 : List (ℕ × List Bytes)) (s : State) : (tablesRestore x0 s).kept = s.kept := by
  simp [tablesRestore]

@[simp ↓] theorem wakePower_kept (s : State) : (wakePower s).kept = s.kept := by
  simp [wakePower]

@[simp ↓] theorem wakePorts_kept (s : State) : (wakePorts s).kept = s.kept := by
  simp [wakePorts]

@[simp ↓] theorem challengeExpire_kept (s : State) : (challengeExpire s).kept = s.kept := by
  unfold challengeExpire
  repeat' (first
    | (simp; done)
    | split
    | (refine (kept_foldl _ (fun _ _ => ?_) _ _).trans ?_)
    | simp)

@[simp ↓] theorem sessionExpire_kept (s : State) : (sessionExpire s).kept = s.kept := by
  unfold sessionExpire
  repeat' (first
    | (simp; done)
    | split
    | (refine (kept_foldl _ (fun _ _ => ?_) _ _).trans ?_)
    | simp)

/-! ### PtpRows -/

@[simp ↓] theorem ptpSend_kept (x0 : ℕ) (x1 : ℕ) (x2 : Bytes) (s : State) : (ptpSend x0 x1 x2 s).kept = s.kept := by
  simp [ptpSend]

@[simp ↓] theorem ptpHeard_kept (x0 : ℕ) (x1 : ℕ) (x2 : State → State) (s : State) (h2 : ∀ s, (x2 s).kept = s.kept) : (ptpHeard x0 x1 x2 s).kept = s.kept := by
  simp [ptpHeard, h2]

@[simp ↓] theorem syncDone_kept (x0 : ℕ) (x1 : ℤ) (x2 : ℤ) (x3 : ℤ) (s : State) : (syncDone x0 x1 x2 x3 s).kept = s.kept := by
  simp [syncDone]

@[simp ↓] theorem takeBest_kept (x0 : ℕ) (s : State) : (takeBest x0 s).kept = s.kept := by
  simp [takeBest]

@[simp ↓] theorem announceTimeout_kept (x0 : ℕ) (s : State) : (announceTimeout x0 s).kept = s.kept := by
  simp [announceTimeout]

@[simp ↓] theorem syncTimeout_kept (x0 : ℕ) (s : State) : (syncTimeout x0 s).kept = s.kept := by
  unfold syncTimeout
  repeat' (first
    | (simp; done)
    | split
    | (refine (kept_foldl _ (fun _ _ => ?_) _ _).trans ?_)
    | simp)

@[simp ↓] theorem respTimeout_kept (x0 : ℕ) (s : State) : (respTimeout x0 s).kept = s.kept := by
  unfold respTimeout
  repeat' (first
    | (simp; done)
    | split
    | (refine (kept_foldl _ (fun _ _ => ?_) _ _).trans ?_)
    | simp)

@[simp ↓] theorem pairTimeout_kept (x0 : ℕ) (s : State) : (pairTimeout x0 s).kept = s.kept := by
  unfold pairTimeout
  repeat' (first
    | (simp; done)
    | split
    | (refine (kept_foldl _ (fun _ _ => ?_) _ _).trans ?_)
    | simp)

@[simp ↓] theorem pdelayDone_kept (x0 : ℕ) (x1 : ℤ) (s : State) : (pdelayDone x0 x1 s).kept = s.kept := by
  simp [pdelayDone]

@[simp ↓] theorem announceRewrite_kept (x0 : ℕ) (s : State) : (announceRewrite x0 s).kept = s.kept := by
  simp [announceRewrite]

@[simp ↓] theorem stepConfirm_kept (s : State) : (stepConfirm s).kept = s.kept := by
  unfold stepConfirm
  repeat' (first
    | (simp; done)
    | split
    | (refine (kept_foldl _ (fun _ _ => ?_) _ _).trans ?_)
    | simp)

/-! ### ResetRows -/

@[simp ↓] theorem tripRelease_kept (x0 : ℤ) (s : State) : (tripRelease x0 s).kept = s.kept := by
  simp [tripRelease]

@[simp ↓] theorem flr_kept (s : State) : (flr s).kept = s.kept := by
  simp [flr]

@[simp ↓] theorem d3Entry_kept (s : State) : (d3Entry s).kept = s.kept := by
  simp [d3Entry]

@[simp ↓] theorem d0Return_kept (s : State) : (d0Return s).kept = s.kept := by
  simp [d0Return]

end Sys2Proof.Machine
end

