-- ==== Sys2Proof/Laws/KeptExec.lean ====
section
/-! SUPPORT. The rows that neither carry a packet nor start waiting ones keep the queue and the owner's part: one lemma per row. -/

set_option linter.unusedTactic false
set_option linter.unreachableTactic false

namespace Sys2Proof.Machine
theorem live_kept {f : State → State} {s t : State} (h : live s f = .next t) (k : ∀ s, (f s).kept = s.kept) : t.kept = s.kept := by
  have h2 : t = if s.held then s else f s := by simpa [live] using h.symm
  rw [h2]; split
  · rfl
  · exact k s
theorem tap_kept {f : State → State} {s t : State} (h : tap s f = .next t) (k : ∀ s, (f s).kept = s.kept) : t.kept = s.kept := by
  have h2 : t = if s.sys.auxDown then s else f s := by simpa [tap] using h.symm
  rw [h2]; split
  · rfl
  · exact k s

theorem execCalStep_kept (x0 : Fin 356) (x1 : Bool) (x2 : List (ℕ × ℕ)) (s t : State) (h : execCalStep x0 x1 x2 s = .next t) : t.kept = s.kept :=
  live_kept h (fun s => by simp)

theorem execCalNoGapExpiry_kept (x0 : Fin 356) (s t : State) (h : execCalNoGapExpiry x0 s = .next t) : t.kept = s.kept :=
  live_kept h (fun s => by simp)

theorem execDelayPublication_kept (s t : State) (h : execDelayPublication s = .next t) : t.kept = s.kept :=
  live_kept h (fun s => by simp)

theorem execContactSheetSaveDone_kept (x0 : ℕ) (s t : State) (h : execContactSheetSaveDone x0 s = .next t) : t.kept = s.kept :=
  live_kept h (fun s => by simp)

theorem execRebandCheck_kept (x0 : Fin 2) (s t : State) (h : execRebandCheck x0 s = .next t) : t.kept = s.kept :=
  live_kept h (fun s => by simp)

theorem execSynthLockLoss_kept (x0 : Fin 7) (s t : State) (h : execSynthLockLoss x0 s = .next t) : t.kept = s.kept :=
  live_kept h (fun s => by simp)

theorem execSourceSettled_kept (x0 : Fin 7) (s t : State) (h : execSourceSettled x0 s = .next t) : t.kept = s.kept :=
  live_kept h (fun s => by simp)

theorem execBridgedChangeBack_kept (x0 : Fin 8) (s t : State) (h : execBridgedChangeBack x0 s = .next t) : t.kept = s.kept :=
  live_kept h (fun s => by simp)

theorem execPpsSecondBoundary_kept (x0 : ℤ) (x1 : ℤ) (s t : State) (h : execPpsSecondBoundary x0 x1 s = .next t) : t.kept = s.kept :=
  live_kept h (fun s => by simp)

theorem execPpsWidthEnd_kept (x0 : Fin 2) (s t : State) (h : execPpsWidthEnd x0 s = .next t) : t.kept = s.kept :=
  live_kept h (fun s => by simp)

theorem execTodTxStart_kept (s t : State) (h : execTodTxStart s = .next t) : t.kept = s.kept :=
  live_kept h (fun s => by simp)

theorem execTodRxMessage_kept (x0 : Bytes) (x1 : Bool) (s t : State) (h : execTodRxMessage x0 x1 s = .next t) : t.kept = s.kept :=
  live_kept h (fun s => by simp)

theorem execPpsinPulse_kept (x0 : Fin 2) (x1 : ℤ) (s t : State) (h : execPpsinPulse x0 x1 s = .next t) : t.kept = s.kept :=
  live_kept h (fun s => by simp)

theorem execTrapFrameDelivery_kept (x0 : TC) (s t : State) (h : execTrapFrameDelivery x0 s = .next t) : t.kept = s.kept :=
  live_kept h (fun s => by simp)

theorem execInjectFrameDone_kept (x0 : TC) (s t : State) (h : execInjectFrameDone x0 s = .next t) : t.kept = s.kept :=
  live_kept h (fun s => by simp)

theorem execTrapHostIdxWrite_kept (x0 : TC) (x1 : BitVec 16) (x2 : List Bytes) (s t : State) (h : execTrapHostIdxWrite x0 x1 x2 s = .next t) : t.kept = s.kept :=
  live_kept h (fun s => by simp)

theorem execInjectHostIdxWrite_kept (x0 : TC) (x1 : BitVec 16) (x2 : List (Bytes × Bytes)) (s t : State) (h : execInjectHostIdxWrite x0 x1 x2 s = .next t) : t.kept = s.kept :=
  live_kept h (fun s => by simp)

theorem execCpuRingEnableWrite_kept (x0 : Bool) (x1 : TC) (x2 : Bool) (s t : State) (h : execCpuRingEnableWrite x0 x1 x2 s = .next t) : t.kept = s.kept :=
  live_kept h (fun s => by simp)

theorem execShutterMarkArrival_kept (x0 : Port) (x1 : Fin 4) (x2 : BitVec 48) (x3 : ℤ) (s t : State) (h : execShutterMarkArrival x0 x1 x2 x3 s = .next t) : t.kept = s.kept :=
  live_kept h (fun s => by simp)

theorem execDlkCapExchangeTx_kept (x0 : Port) (s t : State) (h : execDlkCapExchangeTx x0 s = .next t) : t.kept = s.kept :=
  live_kept h (fun s => by simp)

theorem execDlkSlot_kept (x0 : Port) (x1 : List ℤ) (s t : State) (h : execDlkSlot x0 x1 s = .next t) : t.kept = s.kept :=
  live_kept h (fun s => by simp)

theorem execDlkModuleReady_kept (x0 : Port) (s t : State) (h : execDlkModuleReady x0 s = .next t) : t.kept = s.kept :=
  live_kept h (fun s => by simp)

theorem execDlkTrainingComplete_kept (x0 : Port) (s t : State) (h : execDlkTrainingComplete x0 s = .next t) : t.kept = s.kept :=
  live_kept h (fun s => by simp)

theorem execDlkTrainTimeout_kept (x0 : Port) (x1 : Bool) (s t : State) (h : execDlkTrainTimeout x0 x1 s = .next t) : t.kept = s.kept :=
  live_kept h (fun s => by simp)

theorem execDlkLanesLocked_kept (x0 : Port) (x1 : BitVec 4) (s t : State) (h : execDlkLanesLocked x0 x1 s = .next t) : t.kept = s.kept :=
  live_kept h (fun s => by simp)

theorem execDlkLockTimeout_kept (x0 : Port) (x1 : BitVec 4) (s t : State) (h : execDlkLockTimeout x0 x1 s = .next t) : t.kept = s.kept :=
  live_kept h (fun s => by simp)

theorem execDlkExchangeTimeout_kept (x0 : Port) (s t : State) (h : execDlkExchangeTimeout x0 s = .next t) : t.kept = s.kept :=
  live_kept h (fun s => by simp)

theorem execDlkBackoffExpiry_kept (x0 : Port) (s t : State) (h : execDlkBackoffExpiry x0 s = .next t) : t.kept = s.kept :=
  live_kept h (fun s => by simp)

theorem execLaneRetry_kept (x0 : Port) (x1 : Fin 4) (s t : State) (h : execLaneRetry x0 x1 s = .next t) : t.kept = s.kept :=
  live_kept h (fun s => by simp)

theorem execLaneRetryBackoffExpiry_kept (x0 : Port) (x1 : Fin 4) (s t : State) (h : execLaneRetryBackoffExpiry x0 x1 s = .next t) : t.kept = s.kept :=
  live_kept h (fun s => by simp)

theorem execDlkLaneRelock_kept (x0 : Port) (x1 : Fin 4) (s t : State) (h : execDlkLaneRelock x0 x1 s = .next t) : t.kept = s.kept :=
  live_kept h (fun s => by simp)

theorem execFrameGrantPoint_kept (x0 : Port) (x1 : Bytes) (x2 : List (ℕ × Byte)) (s t : State) (h : execFrameGrantPoint x0 x1 x2 s = .next t) : t.kept = s.kept :=
  live_kept h (fun s => by simp)

theorem execCacheRefillDone_kept (x0 : Fin 6) (s t : State) (h : execCacheRefillDone x0 s = .next t) : t.kept = s.kept :=
  live_kept h (fun s => by simp)

theorem execCacheSpillDone_kept (x0 : Fin 6) (s t : State) (h : execCacheSpillDone x0 s = .next t) : t.kept = s.kept :=
  live_kept h (fun s => by simp)

theorem execFrameLookup_kept (x0 : Port) (x1 : ℕ) (x2 : List (ℕ × ℕ)) (x3 : ℕ) (s t : State) (h : execFrameLookup x0 x1 x2 x3 s = .next t) : t.kept = s.kept :=
  live_kept h (fun s => by simp)

theorem execQmResultArrival_kept (x0 : Slice) (x1 : Port) (x2 : Fin 16) (x3 : Bytes) (s t : State) (h : execQmResultArrival x0 x1 x2 x3 s = .next t) : t.kept = s.kept :=
  live_kept h (fun s => by simp)

theorem execCrossbarRound_kept (x0 : List (ℕ × Byte)) (s t : State) (h : execCrossbarRound x0 s = .next t) : t.kept = s.kept :=
  live_kept h (fun s => by simp)

theorem execEgressFrameSelect_kept (x0 : Port) (s t : State) (h : execEgressFrameSelect x0 s = .next t) : t.kept = s.kept :=
  live_kept h (fun s => by simp)

theorem execPfcFrameRx_kept (x0 : Port) (x1 : Byte) (x2 : List (BitVec 16)) (s t : State) (h : execPfcFrameRx x0 x1 x2 s = .next t) : t.kept = s.kept :=
  live_kept h (fun s => by simp)

theorem execPauseFrameRx_kept (x0 : Port) (x1 : BitVec 16) (s t : State) (h : execPauseFrameRx x0 x1 s = .next t) : t.kept = s.kept :=
  live_kept h (fun s => by simp)

theorem execRxPauseExpiry_kept (x0 : Port) (x1 : TC) (s t : State) (h : execRxPauseExpiry x0 x1 s = .next t) : t.kept = s.kept :=
  live_kept h (fun s => by simp)

theorem execPfcRepeatTimer_kept (x0 : Port) (x1 : TC) (s t : State) (h : execPfcRepeatTimer x0 x1 s = .next t) : t.kept = s.kept :=
  live_kept h (fun s => by simp)

theorem execStopBathFrameDrained_kept (x0 : ℕ) (s t : State) (h : execStopBathFrameDrained x0 s = .next t) : t.kept = s.kept :=
  live_kept h (fun s => by simp)

theorem execStopBathHoldExpiry_kept (x0 : ℕ) (s t : State) (h : execStopBathHoldExpiry x0 s = .next t) : t.kept = s.kept :=
  live_kept h (fun s => by simp)

theorem execIdcode_kept (s t : State) (h : execIdcode s = .next t) : t.kept = s.kept :=
  tap_kept h (fun s => by simp)

theorem execBypass_kept (s t : State) (h : execBypass s = .next t) : t.kept = s.kept :=
  tap_kept h (fun s => by simp)

theorem execSample_kept (x0 : Bytes) (s t : State) (h : execSample x0 s = .next t) : t.kept = s.kept :=
  tap_kept h (fun s => by simp)

theorem execPreload_kept (x0 : Bytes) (s t : State) (h : execPreload x0 s = .next t) : t.kept = s.kept :=
  tap_kept h (fun s => by simp)

theorem execExtest_kept (s t : State) (h : execExtest s = .next t) : t.kept = s.kept :=
  tap_kept h (fun s => by simp)

theorem execDbgTrace_kept (x0 : Fin 4096) (s t : State) (h : execDbgTrace x0 s = .next t) : t.kept = s.kept :=
  tap_kept h (fun s => by simp)

theorem execDbgRead_kept (x0 : BitVec 64) (s t : State) (h : execDbgRead x0 s = .next t) : t.kept = s.kept :=
  tap_kept h (fun s => by simp)

theorem execDbgWrite_kept (x0 : BitVec 64) (x1 : BitVec 32) (s t : State) (h : execDbgWrite x0 x1 s = .next t) : t.kept = s.kept :=by
  unfold execDbgWrite at h
  split at h
  · cases h
  · exact tap_kept h (fun s => by simp)

theorem execFactoryTest_kept (x0 : Fin 16) (s t : State) (h : execFactoryTest x0 s = .next t) : t.kept = s.kept :=by
  unfold execFactoryTest at h
  split at h
  · cases h
  · exact tap_kept h (fun s => by simp)

theorem execTestLogicReset_kept (s t : State) (h : execTestLogicReset s = .next t) : t.kept = s.kept :=
  tap_kept h (fun s => by simp)

theorem execLosAssert_kept (x0 : Fin 256) (s t : State) (h : execLosAssert x0 s = .next t) : t.kept = s.kept :=
  live_kept h (fun s => by simp)

theorem execLosClear_kept (x0 : Fin 256) (s t : State) (h : execLosClear x0 s = .next t) : t.kept = s.kept :=
  live_kept h (fun s => by simp)

theorem execLolAssert_kept (x0 : Fin 256) (s t : State) (h : execLolAssert x0 s = .next t) : t.kept = s.kept :=
  live_kept h (fun s => by simp)

theorem execLolClear_kept (x0 : Fin 256) (s t : State) (h : execLolClear x0 s = .next t) : t.kept = s.kept :=
  live_kept h (fun s => by simp)

theorem execRxAdaptUpdate_kept (x0 : Fin 256) (x1 : Fin 32) (x2 : List ℤ) (x3 : Bool) (x4 : ℕ) (x5 : ℤ) (s t : State) (h : execRxAdaptUpdate x0 x1 x2 x3 x4 x5 s = .next t) : t.kept = s.kept :=
  live_kept h (fun s => by simp)

theorem execEthModuleReady_kept (x0 : Port) (s t : State) (h : execEthModuleReady x0 s = .next t) : t.kept = s.kept :=
  live_kept h (fun s => by simp)

theorem execAnComplete_kept (x0 : Port) (s t : State) (h : execAnComplete x0 s = .next t) : t.kept = s.kept :=
  live_kept h (fun s => by simp)

theorem execEthTrainingComplete_kept (x0 : Port) (x1 : List (List ℤ)) (s t : State) (h : execEthTrainingComplete x0 x1 s = .next t) : t.kept = s.kept :=
  live_kept h (fun s => by simp)

theorem execMaxWaitTimerExpiry_kept (x0 : Port) (s t : State) (h : execMaxWaitTimerExpiry x0 s = .next t) : t.kept = s.kept :=
  live_kept h (fun s => by simp)

theorem execAdaptConverged_kept (x0 : Port) (s t : State) (h : execAdaptConverged x0 s = .next t) : t.kept = s.kept :=
  live_kept h (fun s => by simp)

theorem execAdaptTimeout_kept (x0 : Port) (s t : State) (h : execAdaptTimeout x0 s = .next t) : t.kept = s.kept :=
  live_kept h (fun s => by simp)

theorem execAlignLock_kept (x0 : Port) (x1 : List (ℕ × ℕ)) (s t : State) (h : execAlignLock x0 x1 s = .next t) : t.kept = s.kept :=
  live_kept h (fun s => by simp)

theorem execAlignTimeout_kept (x0 : Port) (s t : State) (h : execAlignTimeout x0 s = .next t) : t.kept = s.kept :=
  live_kept h (fun s => by simp)

theorem execModuleRemoved_kept (x0 : Port) (s t : State) (h : execModuleRemoved x0 s = .next t) : t.kept = s.kept :=
  live_kept h (fun s => by simp)

theorem execAlignLoss_kept (x0 : Port) (s t : State) (h : execAlignLoss x0 s = .next t) : t.kept = s.kept :=
  live_kept h (fun s => by simp)

theorem execHiBer_kept (x0 : Port) (s t : State) (h : execHiBer x0 s = .next t) : t.kept = s.kept :=
  live_kept h (fun s => by simp)

theorem execFaultReceived_kept (x0 : Port) (s t : State) (h : execFaultReceived x0 s = .next t) : t.kept = s.kept :=
  live_kept h (fun s => by simp)

theorem execFaultEnd_kept (x0 : UpMeasure) (s t : State) (h : execFaultEnd x0 s = .next t) : t.kept = s.kept :=
  live_kept h (fun s => by simp)

theorem execEthBackoffExpiry_kept (x0 : Port) (s t : State) (h : execEthBackoffExpiry x0 s = .next t) : t.kept = s.kept :=
  live_kept h (fun s => by simp)

theorem execLaneTestDurationExpiry_kept (x0 : Port) (s t : State) (h : execLaneTestDurationExpiry x0 s = .next t) : t.kept = s.kept :=
  live_kept h (fun s => by simp)

theorem execSgpioScan_kept (x0 : BitVec 128) (s t : State) (h : execSgpioScan x0 s = .next t) : t.kept = s.kept :=
  live_kept h (fun s => by simp)

theorem execResetlRelease_kept (x0 : Port) (s t : State) (h : execResetlRelease x0 s = .next t) : t.kept = s.kept :=
  live_kept h (fun s => by simp)

theorem execModuleInitComplete_kept (x0 : Port) (x1 : ModuleInit) (x2 : Byte) (s t : State) (h : execModuleInitComplete x0 x1 x2 s = .next t) : t.kept = s.kept :=
  live_kept h (fun s => by simp)

theorem execModuleIntl_kept (x0 : Port) (x1 : BitVec 32) (x2 : Byte) (x3 : ModuleWorks) (s t : State) (h : execModuleIntl x0 x1 x2 x3 s = .next t) : t.kept = s.kept :=
  live_kept h (fun s => by simp)

theorem execModuleFlagPoll_kept (x0 : Port) (x1 : BitVec 32) (x2 : Byte) (x3 : ModuleWorks) (s t : State) (h : execModuleFlagPoll x0 x1 x2 x3 s = .next t) : t.kept = s.kept :=
  live_kept h (fun s => by simp)

theorem execFwSectorWritten_kept (x0 : ℕ) (x1 : Bytes) (x2 : ImageFacts) (s t : State) (h : execFwSectorWritten x0 x1 x2 s = .next t) : t.kept = s.kept :=
  live_kept h (fun s => by simp)

theorem execFwDataWaitExpiry_kept (x0 : ℕ) (s t : State) (h : execFwDataWaitExpiry x0 s = .next t) : t.kept = s.kept :=
  live_kept h (fun s => by simp)

theorem execOpCancelOutcome_kept (x0 : ℕ) (s t : State) (h : execOpCancelOutcome x0 s = .next t) : t.kept = s.kept :=
  live_kept h (fun s => by repeat' (first | (simp; done) | split | dsimp only))

theorem execOpUnrecoverableError_kept (x0 : ℕ) (x1 : OpError) (s t : State) (h : execOpUnrecoverableError x0 x1 s = .next t) : t.kept = s.kept :=
  live_kept h (fun s => by repeat' (first | (simp; done) | split | dsimp only))

theorem execExportRecordCopied_kept (x0 : ℕ) (s t : State) (h : execExportRecordCopied x0 s = .next t) : t.kept = s.kept :=
  live_kept h (fun s => by simp)

theorem execTracePortRecordBuilt_kept (x0 : ℕ) (s t : State) (h : execTracePortRecordBuilt x0 s = .next t) : t.kept = s.kept :=
  live_kept h (fun s => by simp)

theorem execSupplyWarn_kept (x0 : Meas) (s t : State) (h : execSupplyWarn x0 s = .next t) : t.kept = s.kept :=
  live_kept h (fun s => by simp)

theorem execSupplyWarnClear_kept (x0 : Meas) (s t : State) (h : execSupplyWarnClear x0 s = .next t) : t.kept = s.kept :=
  live_kept h (fun s => by simp)

theorem execNvInhibit_kept (x0 : Meas) (s t : State) (h : execNvInhibit x0 s = .next t) : t.kept = s.kept :=
  live_kept h (fun s => by simp)

theorem execSupplyCriticalAux_kept (x0 : Meas) (s t : State) (h : execSupplyCriticalAux x0 s = .next t) : t.kept = s.kept :=
  live_kept h (fun s => by simp)

theorem execSupplyCriticalCore_kept (x0 : Meas) (s t : State) (h : execSupplyCriticalCore x0 s = .next t) : t.kept = s.kept :=
  live_kept h (fun s => by simp)

theorem execSupplyCriticalClear_kept (x0 : Meas) (s t : State) (h : execSupplyCriticalClear x0 s = .next t) : t.kept = s.kept :=
  live_kept h (fun s => by simp)

theorem execCoreWarn_kept (x0 : Meas) (s t : State) (h : execCoreWarn x0 s = .next t) : t.kept = s.kept :=
  live_kept h (fun s => by simp)

theorem execCoreWarnClear_kept (x0 : Meas) (s t : State) (h : execCoreWarnClear x0 s = .next t) : t.kept = s.kept :=
  live_kept h (fun s => by simp)

theorem execCoreSag_kept (x0 : Meas) (s t : State) (h : execCoreSag x0 s = .next t) : t.kept = s.kept :=
  live_kept h (fun s => by simp)

theorem execRideExit_kept (x0 : Meas) (s t : State) (h : execRideExit x0 s = .next t) : t.kept = s.kept :=
  live_kept h (fun s => by simp)

theorem execThermalWarn_kept (x0 : Meas) (s t : State) (h : execThermalWarn x0 s = .next t) : t.kept = s.kept :=
  live_kept h (fun s => by simp)

theorem execThermalWarnClear_kept (x0 : Meas) (s t : State) (h : execThermalWarnClear x0 s = .next t) : t.kept = s.kept :=
  live_kept h (fun s => by simp)

theorem execThermalCritical_kept (x0 : Meas) (s t : State) (h : execThermalCritical x0 s = .next t) : t.kept = s.kept :=
  live_kept h (fun s => by simp)

theorem execThermalCriticalClear_kept (x0 : Meas) (s t : State) (h : execThermalCriticalClear x0 s = .next t) : t.kept = s.kept :=
  live_kept h (fun s => by simp)

theorem execQuiesceDrainEnd_kept (s t : State) (h : execQuiesceDrainEnd s = .next t) : t.kept = s.kept :=
  live_kept h (fun s => by simp)

theorem execDrainLimitExpiry_kept (s t : State) (h : execDrainLimitExpiry s = .next t) : t.kept = s.kept :=
  live_kept h (fun s => by simp)

theorem execDebugChallengeExpiry_kept (s t : State) (h : execDebugChallengeExpiry s = .next t) : t.kept = s.kept :=
  live_kept h (fun s => by simp)

theorem execDebugSessionExpiry_kept (s t : State) (h : execDebugSessionExpiry s = .next t) : t.kept = s.kept :=
  live_kept h (fun s => by simp)

theorem execPtpSyncRx_kept (x0 : Port) (x1 : PtpMsg) (s t : State) (h : execPtpSyncRx x0 x1 s = .next t) : t.kept = s.kept :=
  live_kept h (fun s => by simp)

theorem execPtpFollowUpRx_kept (x0 : Port) (x1 : PtpMsg) (s t : State) (h : execPtpFollowUpRx x0 x1 s = .next t) : t.kept = s.kept :=
  live_kept h (fun s => ptpHeard_kept _ _ _ _ (fun s => by repeat' (first | (simp; done) | split | dsimp only)))

theorem execPtpDelayReqRx_kept (x0 : Port) (x1 : PtpMsg) (s t : State) (h : execPtpDelayReqRx x0 x1 s = .next t) : t.kept = s.kept :=
  live_kept h (fun s => by simp)

theorem execPtpDelayRespRx_kept (x0 : Port) (x1 : PtpMsg) (s t : State) (h : execPtpDelayRespRx x0 x1 s = .next t) : t.kept = s.kept :=
  live_kept h (fun s => ptpHeard_kept _ _ _ _ (fun s => by repeat' (first | (simp; done) | split | dsimp only)))

theorem execPtpAnnounceRx_kept (x0 : Port) (x1 : PtpMsg) (x2 : PtpAnnounce) (s t : State) (h : execPtpAnnounceRx x0 x1 x2 s = .next t) : t.kept = s.kept :=
  live_kept h (fun s => by simp)

theorem execAnnounceReceiptTimeout_kept (x0 : Port) (s t : State) (h : execAnnounceReceiptTimeout x0 s = .next t) : t.kept = s.kept :=
  live_kept h (fun s => by simp)

theorem execSyncReceiptTimeout_kept (x0 : Port) (s t : State) (h : execSyncReceiptTimeout x0 s = .next t) : t.kept = s.kept :=
  live_kept h (fun s => by simp)

theorem execDelayRespTimeout_kept (x0 : Port) (s t : State) (h : execDelayRespTimeout x0 s = .next t) : t.kept = s.kept :=
  live_kept h (fun s => by simp)

theorem execOffsetPairTimeout_kept (x0 : Port) (s t : State) (h : execOffsetPairTimeout x0 s = .next t) : t.kept = s.kept :=
  live_kept h (fun s => by simp)

theorem execPtpPdelayReqRx_kept (x0 : Port) (x1 : PtpMsg) (x2 : ℤ) (s t : State) (h : execPtpPdelayReqRx x0 x1 x2 s = .next t) : t.kept = s.kept :=
  live_kept h (fun s => by simp)

theorem execPtpPdelayRespRx_kept (x0 : Port) (x1 : PtpMsg) (s t : State) (h : execPtpPdelayRespRx x0 x1 s = .next t) : t.kept = s.kept :=
  live_kept h (fun s => ptpHeard_kept _ _ _ _ (fun s => by repeat' (first | (simp; done) | split | dsimp only)))

theorem execPtpPdelayRespFollowUpRx_kept (x0 : Port) (x1 : PtpMsg) (s t : State) (h : execPtpPdelayRespFollowUpRx x0 x1 s = .next t) : t.kept = s.kept :=
  live_kept h (fun s => ptpHeard_kept _ _ _ _ (fun s => by repeat' (first | (simp; done) | split | dsimp only)))

theorem execL1SyncTlvRx_kept (x0 : Port) (x1 : Bool) (x2 : Bool) (x3 : Bool) (s t : State) (h : execL1SyncTlvRx x0 x1 x2 x3 s = .next t) : t.kept = s.kept :=
  live_kept h (fun s => by simp)

theorem execPtpUnsupportedRx_kept (x0 : Port) (s t : State) (h : execPtpUnsupportedRx x0 s = .next t) : t.kept = s.kept :=
  live_kept h (fun s => by simp)

theorem execPtpSyncTx_kept (x0 : Port) (x1 : ℤ) (s t : State) (h : execPtpSyncTx x0 x1 s = .next t) : t.kept = s.kept :=
  live_kept h (fun s => by simp)

theorem execPtpAnnounceTx_kept (x0 : Port) (s t : State) (h : execPtpAnnounceTx x0 s = .next t) : t.kept = s.kept :=
  live_kept h (fun s => by simp)

theorem execPtpDelayReqTx_kept (x0 : Port) (x1 : ℤ) (s t : State) (h : execPtpDelayReqTx x0 x1 s = .next t) : t.kept = s.kept :=
  live_kept h (fun s => by simp)

theorem execPtpPdelayReqTx_kept (x0 : Port) (x1 : ℤ) (s t : State) (h : execPtpPdelayReqTx x0 x1 s = .next t) : t.kept = s.kept :=
  live_kept h (fun s => by simp)

theorem execAnnounceBlockRewrite_kept (x0 : Port) (s t : State) (h : execAnnounceBlockRewrite x0 s = .next t) : t.kept = s.kept :=
  live_kept h (fun s => by simp)

theorem execStepConfirmExpiry_kept (s t : State) (h : execStepConfirmExpiry s = .next t) : t.kept = s.kept :=
  live_kept h (fun s => by simp)

theorem execWithdrawalEnd_kept (x0 : Fin 3) (s t : State) (h : execWithdrawalEnd x0 s = .next t) : t.kept = s.kept :=
  live_kept h (fun s => by repeat' (first | (simp; done) | split | dsimp only))

theorem execIrqCauseWrite_kept (x0 : Fin 4) (x1 : BitVec 32) (s t : State) (h : execIrqCauseWrite x0 x1 s = .next t) : t.kept = s.kept :=
  live_kept h (fun s => by simp)

theorem execIrqHoldoffExpiry_kept (x0 : Fin 64) (s t : State) (h : execIrqHoldoffExpiry x0 s = .next t) : t.kept = s.kept :=
  live_kept h (fun s => by simp)

theorem execIrqEvqCiWrite_kept (x0 : BitVec 16) (s t : State) (h : execIrqEvqCiWrite x0 s = .next t) : t.kept = s.kept :=
  live_kept h (fun s => by simp)

theorem execIrqEvqArm_kept (s t : State) (h : execIrqEvqArm s = .next t) : t.kept = s.kept :=
  live_kept h (fun s => by simp)

theorem execIrqEvqLostRead_kept (s t : State) (h : execIrqEvqLostRead s = .next t) : t.kept = s.kept :=
  live_kept h (fun s => by simp)

theorem execPacDropsLoRead_kept (x0 : Slice) (s t : State) (h : execPacDropsLoRead x0 s = .next t) : t.kept = s.kept :=
  live_kept h (fun s => by simp)

theorem execStatPeriod_kept (s t : State) (h : execStatPeriod s = .next t) : t.kept = s.kept :=
  live_kept h (fun s => by simp)

theorem execStatSnap_kept (s t : State) (h : execStatSnap s = .next t) : t.kept = s.kept :=
  live_kept h (fun s => by simp)

theorem execTsuSnap_kept (s t : State) (h : execTsuSnap s = .next t) : t.kept = s.kept :=
  live_kept h (fun s => by simp)

theorem execCalApply_kept (x0 : Fin 356) (s t : State) (h : execCalApply x0 s = .next t) : t.kept = s.kept :=
  live_kept h (fun s => by simp)

theorem execCalRestart_kept (x0 : Fin 356) (s t : State) (h : execCalRestart x0 s = .next t) : t.kept = s.kept :=
  live_kept h (fun s => by simp)

theorem execRegisterWrite_kept (x0 : Bool) (x1 : BitVec 24) (x2 : BitVec 32) (s t : State) (h : execRegisterWrite x0 x1 x2 s = .next t) : t.kept = s.kept :=
  live_kept h (fun s => by simp)

theorem execThermtripRelease_kept (x0 : ℤ) (s t : State) (h : execThermtripRelease x0 s = .next t) : t.kept = s.kept :=by
  cases h; simp

theorem execPerstNAssert_kept (s t : State) (h : execPerstNAssert s = .next t) : t.kept = s.kept :=by
  cases h; simp

theorem execPerstNRelease_kept (s t : State) (h : execPerstNRelease s = .next t) : t.kept = s.kept :=by
  cases h; simp

theorem execFunctionLevelReset_kept (s t : State) (h : execFunctionLevelReset s = .next t) : t.kept = s.kept :=
  live_kept h (fun s => by simp)

theorem execD3hotEntry_kept (s t : State) (h : execD3hotEntry s = .next t) : t.kept = s.kept :=
  live_kept h (fun s => by simp)

theorem execD0Return_kept (s t : State) (h : execD0Return s = .next t) : t.kept = s.kept :=
  live_kept h (fun s => by simp)

theorem execImageVerificationComplete_kept (x0 : ImageFacts) (x1 : ImageFacts) (s t : State) (h : execImageVerificationComplete x0 x1 s = .next t) : t.kept = s.kept :=
  live_kept h (fun s => by simp)

theorem execWatchdogWindowEnd_kept (x0 : Slice) (x1 : Bool) (s t : State) (h : execWatchdogWindowEnd x0 x1 s = .next t) : t.kept = s.kept :=
  live_kept h (fun s => by simp)

theorem execSliceTakeover_kept (s t : State) (h : execSliceTakeover s = .next t) : t.kept = s.kept :=
  live_kept h (fun s => by simp)

theorem execDeadlockSuspect_kept (x0 : Port) (x1 : TC) (s t : State) (h : execDeadlockSuspect x0 x1 s = .next t) : t.kept = s.kept :=
  live_kept h (fun s => by simp)

theorem execAvsLoopTick_kept (x0 : Bool) (x1 : List (ℕ × ℕ × ℕ)) (s t : State) (h : execAvsLoopTick x0 x1 s = .next t) : t.kept = s.kept :=
  live_kept h (fun s => by simp)

theorem execAvsbusRetry_kept (x0 : Bool) (s t : State) (h : execAvsbusRetry x0 s = .next t) : t.kept = s.kept :=
  live_kept h (fun s => by simp)

theorem execReadIndex_kept (x0 : Fin 18) (x1 : Fin 16) (s t : State) (h : execReadIndex x0 x1 s = .next t) : t.kept = s.kept :=
  live_kept h (fun s => by simp)

theorem execWriteIndex_kept (x0 : Fin 18) (x1 : Fin 16) (s t : State) (h : execWriteIndex x0 x1 s = .next t) : t.kept = s.kept :=
  live_kept h (fun s => by simp)

theorem execInsert_kept (x0 : Fin 18) (x1 : Fin 16) (s t : State) (h : execInsert x0 x1 s = .next t) : t.kept = s.kept :=
  live_kept h (fun s => by simp)

theorem execDelete_kept (x0 : Fin 18) (x1 : Fin 16) (s t : State) (h : execDelete x0 x1 s = .next t) : t.kept = s.kept :=
  live_kept h (fun s => by simp)

theorem execSearch_kept (x0 : Fin 18) (x1 : Fin 16) (s t : State) (h : execSearch x0 x1 s = .next t) : t.kept = s.kept :=
  live_kept h (fun s => by simp)

theorem execClearHit_kept (x0 : Fin 18) (x1 : Fin 16) (s t : State) (h : execClearHit x0 x1 s = .next t) : t.kept = s.kept :=
  live_kept h (fun s => by simp)

theorem execTawPortGrant_kept (x0 : Fin 18) (s t : State) (h : execTawPortGrant x0 s = .next t) : t.kept = s.kept :=
  live_kept h (fun s => by simp)

theorem execTawStartLimitExpiry_kept (x0 : Fin 18) (s t : State) (h : execTawStartLimitExpiry x0 s = .next t) : t.kept = s.kept :=
  live_kept h (fun s => by simp)

theorem execAgeingSweepVisit_kept (x0 : Slice) (x1 : ℕ) (s t : State) (h : execAgeingSweepVisit x0 x1 s = .next t) : t.kept = s.kept :=
  live_kept h (fun s => by simp)

theorem execTcamScrub_kept (x0 : Slice) (x1 : List ℕ) (x2 : List (ℕ × Bytes)) (s t : State) (h : execTcamScrub x0 x1 x2 s = .next t) : t.kept = s.kept :=
  live_kept h (fun s => by simp)

theorem execTcamRebuildDone_kept (x0 : Slice) (s t : State) (h : execTcamRebuildDone x0 s = .next t) : t.kept = s.kept :=
  live_kept h (fun s => by simp)

theorem execTcamSelftestDone_kept (x0 : Slice) (x1 : List ℕ) (s t : State) (h : execTcamSelftestDone x0 x1 s = .next t) : t.kept = s.kept :=
  live_kept h (fun s => by simp)

theorem execShadowCompareRead_kept (x0 : Fin 7) (x1 : Bytes) (s t : State) (h : execShadowCompareRead x0 x1 s = .next t) : t.kept = s.kept :=
  live_kept h (fun s => by simp)

theorem execBulkRecordCommitted_kept (x0 : ℕ) (x1 : Bytes) (s t : State) (h : execBulkRecordCommitted x0 x1 s = .next t) : t.kept = s.kept :=
  live_kept h (fun s => by simp)

theorem execFenceLimitExpiry_kept (x0 : ℕ) (s t : State) (h : execFenceLimitExpiry x0 s = .next t) : t.kept = s.kept :=
  live_kept h (fun s => by simp)

theorem execTdeEdge_kept (x0 : Fin 82) (x1 : ℤ) (x2 : ℤ) (x3 : Bool) (s t : State) (h : execTdeEdge x0 x1 x2 x3 s = .next t) : t.kept = s.kept :=
  live_kept h (fun s => by simp)

theorem execTdeVisitSlot_kept (x0 : Fin 8) (x1 : Fin 82) (x2 : List (ℤ × ℤ × Bool)) (s t : State) (h : execTdeVisitSlot x0 x1 x2 s = .next t) : t.kept = s.kept :=
  live_kept h (fun s => by simp)

theorem execTdeClaimGrant_kept (x0 : Fin 8) (s t : State) (h : execTdeClaimGrant x0 s = .next t) : t.kept = s.kept :=
  live_kept h (fun s => by simp)

theorem execXoLost_kept (s t : State) (h : execXoLost s = .next t) : t.kept = s.kept :=
  live_kept h (fun s => by simp)

theorem execXoRestored_kept (s t : State) (h : execXoRestored s = .next t) : t.kept = s.kept :=
  live_kept h (fun s => by simp)

theorem execXoRdyChange_kept (x0 : Bool) (s t : State) (h : execXoRdyChange x0 s = .next t) : t.kept = s.kept :=
  live_kept h (fun s => by simp)

theorem execWarmHoldExpiry_kept (x0 : ℕ) (s t : State) (h : execWarmHoldExpiry x0 s = .next t) : t.kept = s.kept :=
  live_kept h (fun s => by simp)

theorem execRefActivityFailure_kept (x0 : Fin 14) (s t : State) (h : execRefActivityFailure x0 s = .next t) : t.kept = s.kept :=
  live_kept h (fun s => by simp)

theorem execFreqMonitorUpdate_kept (x0 : Fin 15) (x1 : Bool) (x2 : ℤ) (x3 : ℤ) (s t : State) (h : execFreqMonitorUpdate x0 x1 x2 x3 s = .next t) : t.kept = s.kept :=
  live_kept h (fun s => by simp)

theorem execDriftClearExpiry_kept (x0 : Fin 15) (s t : State) (h : execDriftClearExpiry x0 s = .next t) : t.kept = s.kept :=
  live_kept h (fun s => by simp)

theorem execQualificationTimerExpiry_kept (x0 : Fin 15) (s t : State) (h : execQualificationTimerExpiry x0 s = .next t) : t.kept = s.kept :=
  live_kept h (fun s => by simp)

theorem execSelectionTick_kept (x0 : List (ℤ × ℤ)) (x1 : ℤ) (s t : State) (h : execSelectionTick x0 x1 s = .next t) : t.kept = s.kept :=
  live_kept h (fun s => by simp)

theorem execDpllLockDwellExpiry_kept (x0 : Fin 4) (s t : State) (h : execDpllLockDwellExpiry x0 s = .next t) : t.kept = s.kept :=
  live_kept h (fun s => by simp)

theorem execDpllUnlock_kept (x0 : Fin 4) (s t : State) (h : execDpllUnlock x0 s = .next t) : t.kept = s.kept :=
  live_kept h (fun s => by simp)

theorem execBandwidthNarrowStep_kept (x0 : Fin 4) (s t : State) (h : execBandwidthNarrowStep x0 s = .next t) : t.kept = s.kept :=
  live_kept h (fun s => by simp)

theorem execFrequencyLock_kept (x0 : ℤ) (s t : State) (h : execFrequencyLock x0 s = .next t) : t.kept = s.kept :=
  live_kept h (fun s => by simp)

theorem execSlewComplete_kept (s t : State) (h : execSlewComplete s = .next t) : t.kept = s.kept :=
  live_kept h (fun s => by simp)

theorem execHoldoverSpecExpiry_kept (s t : State) (h : execHoldoverSpecExpiry s = .next t) : t.kept = s.kept :=
  live_kept h (fun s => by simp)

theorem execEsmcPduRx_kept (x0 : Port) (x1 : Byte) (x2 : Byte) (s t : State) (h : execEsmcPduRx x0 x1 x2 s = .next t) : t.kept = s.kept :=
  live_kept h (fun s => by simp)

theorem execEsmcTimeout_kept (x0 : Port) (s t : State) (h : execEsmcTimeout x0 s = .next t) : t.kept = s.kept :=
  live_kept h (fun s => by repeat' (first | (simp; done) | split | dsimp only))

theorem execEsmcInfoTx_kept (x0 : Port) (s t : State) (h : execEsmcInfoTx x0 s = .next t) : t.kept = s.kept :=
  live_kept h (fun s => by simp)

theorem execSidebandReadTransfer_kept (s t : State) (h : execSidebandReadTransfer s = .next t) : t.kept = s.kept :=
  live_kept h (fun s => by simp)

theorem execSidebandSclTimeout_kept (s t : State) (h : execSidebandSclTimeout s = .next t) : t.kept = s.kept :=
  live_kept h (fun s => by simp)
end Sys2Proof.Machine
end

