-- ==== Sys2Proof/Laws/Owner.lean ====
section
/-! SUPPORT. What each function that can reach the owner's part does to it: it keeps the queue, never takes the lifecycle back, and keeps the keys fitting the lifecycle (`Forward`). -/

namespace Sys2Proof.Machine

/-- The queue is kept, the owner's part goes forward only, and the keys go on fitting the lifecycle. -/
def Forward (s t : State) : Prop := t.pending = s.pending ∧ OwnerForward s t ∧ (KeysFit s → KeysFit t)

theorem forward_refl (s : State) : Forward s s :=
  ⟨rfl, ⟨le_refl _, fun _ => le_refl _, fun _ h => h⟩, id⟩

theorem forward_trans {s t u : State} (h : Forward s t) (k : Forward t u) : Forward s u :=
  ⟨k.1.trans h.1,
   ⟨h.2.1.1.trans k.2.1.1, fun x => (h.2.1.2.1 x).trans (k.2.1.2.1 (x.trans h.2.1.1)), fun r x => k.2.1.2.2 r (h.2.1.2.2 r x)⟩,
   fun x => k.2.2 (h.2.2 x)⟩

/-- A state with the same queue and the same owner's part is forward. -/
theorem forward_of_kept {s t : State} (h : t.kept = s.kept) : Forward s t := by
  simp only [State.kept, Prod.mk.injEq] at h
  obtain ⟨h1, h2, h3, _, _, h6, h7⟩ := h
  refine ⟨h1, ⟨by rw [h2], fun _ => by rw [h6], fun r hr => by rw [h7, hr]⟩, ?_⟩
  unfold KeysFit
  rw [h2, h3]
  exact id

/-- A forward change before one that keeps the owner's part. -/
theorem forward_then {s t u : State} (h : Forward s t) (k : u.kept = t.kept) : Forward s u :=
  forward_trans h (forward_of_kept k)

/-- One that keeps the owner's part before a forward change. -/
theorem then_forward {s t u : State} (k : t.kept = s.kept) (h : Forward t u) : Forward s u :=
  forward_trans (forward_of_kept k) h

theorem forward_foldl {α : Type} (f : State → α → State) (h : ∀ s a, Forward s (f s a)) (l : List α) (s : State) :
    Forward s (l.foldl f s) := by
  induction l generalizing s with
  | nil => exact forward_refl s
  | cons x xs ih => exact forward_trans (h s x) (ih _)

/-! ### The boot ROM and resets -/

theorem retireSequence_forward (s : State) : Forward s (retireSequence s) := by
  refine ⟨rfl, ⟨?_, fun _ => le_refl _, fun r hr => ?_⟩, fun _ => rfl⟩
  · simp only [retireSequence]; cases s.nv.lifecycle <;> decide
  · simp only [retireSequence, hr]

theorem retireResume_forward (s : State) : Forward s (retireResume s) := by
  unfold retireResume; split
  · exact retireSequence_forward s
  · exact forward_refl s

theorem bootStart_forward (s : State) : Forward s (bootStart s) := by
  unfold bootStart; split
  · exact forward_refl s
  · exact retireResume_forward s

theorem deviceReset_forward (code data : Nat) (s : State) : Forward s (deviceReset code data s) := by
  unfold deviceReset
  exact then_forward (by simp) (bootStart_forward _)

theorem powerOn_forward (s : State) : Forward s (powerOn s) := by
  unfold powerOn; split
  · exact then_forward (by simp) (bootStart_forward _)
  · exact deviceReset_forward ..

theorem supplyReset_forward (s : State) : Forward s (supplyReset s) := by
  unfold supplyReset; dsimp only; split
  · exact forward_of_kept (by simp)
  · exact then_forward (by simp) (deviceReset_forward ..)

theorem pinAssert_forward (s : State) : Forward s (pinAssert s) := by
  unfold pinAssert; dsimp only; split
  · exact forward_of_kept (by simp)
  · exact then_forward (by simp) (deviceReset_forward ..)

theorem pinRelease_forward (straps : Fin 4) (s : State) : Forward s (pinRelease straps s) := by
  unfold pinRelease; split
  · exact forward_refl s
  · exact then_forward (by simp) (bootStart_forward _)

theorem thermalTrip_forward (tj : Int) (s : State) : Forward s (thermalTrip tj s) := by
  unfold thermalTrip; split
  · exact forward_refl s
  · dsimp only; split
    · exact forward_of_kept (by simp)
    · exact then_forward (by simp) (deviceReset_forward ..)

theorem fatal_forward (proc : Option Nat) (code addr : Nat) (s : State) : Forward s (fatal proc code addr s) := by
  unfold fatal; split
  · exact forward_refl s
  · exact then_forward (by simp) (deviceReset_forward ..)

theorem resetAfterReply_forward (s : State) : Forward s (resetAfterReply s) := by
  unfold resetAfterReply; split
  · exact deviceReset_forward ..
  · exact forward_refl s

theorem nvInhibitClear_forward (s : State) : Forward s (nvInhibitClear s) := by
  unfold nvInhibitClear
  exact then_forward (by simp) (retireResume_forward _)

/-! ### The owner's opcodes (R99 to R107) -/

theorem takeOwnership_forward (p : Bytes) (s : State) (h : s.nv.lifecycle = .blank) : Forward s (takeOwnership p s) := by
  have k : (lifecycleRecord .owned 0xFF false 0 s).kept = s.kept := by simp
  have hr : (lifecycleRecord .owned 0xFF false 0 s).nv.rk = s.nv.rk := congrArg (fun x => x.2.2.2.2.2.2) k
  refine ⟨congrArg Prod.fst k, ⟨?_, fun h2 => ?_, fun r hr2 => ?_⟩, fun _ => ?_⟩
  · rw [h]; exact Nat.zero_le _
  · rw [h] at h2; exact absurd h2 (by decide)
  · simp only [takeOwnership, hr, hr2]
  · simp [KeysFit, takeOwnership]

theorem lockDevice_forward (slot : Nat) (s : State) (h : s.nv.lifecycle = .owned) : Forward s (lockDevice slot s) := by
  have k : ∀ v, (lifecycleRecord .locked slot false v s).kept = s.kept := fun v => by simp
  have hr : ∀ v, (lifecycleRecord .locked slot false v s).nv.rk = s.nv.rk := fun v => congrArg (fun x => x.2.2.2.2.2.2) (k v)
  have hk : ∀ v, (lifecycleRecord .locked slot false v s).nv.keys = s.nv.keys := fun v => congrArg (fun x => x.2.2.1) (k v)
  refine ⟨congrArg Prod.fst (k _), ⟨?_, fun h2 => ?_, fun r hr2 => ?_⟩, fun hf => ?_⟩
  · simp only [h, lockDevice]; exact (by decide : (1 : Nat) ≤ 2)
  · rw [h] at h2; exact absurd h2 (by decide)
  · simp only [lockDevice, hr, hr2]
  · simp only [KeysFit, h] at hf
    simp only [KeysFit, lockDevice, hk, hf]

theorem retireDevice_forward (slot : Nat) (s : State) : Forward s (retireDevice slot s) := by
  unfold retireDevice
  exact then_forward (by simp) (retireSequence_forward _)

theorem keys_set_forward (s : State) (k : Nat) (v : Bytes) (c : Tab Nat) (h : s.nv.lifecycle = .owned ∨ s.nv.lifecycle = .locked) :
    Forward s { s with nv := { s.nv with keys := s.nv.keys.set k v, counters := c } } := by
  refine ⟨rfl, ⟨le_refl _, fun _ => le_refl _, fun _ h => h⟩, fun hf => ?_⟩
  have : (s.nv.keys.find? 0).isSome → ((s.nv.keys.set k v).find? 0).isSome := by
    by_cases hk : 0 = k
    · subst hk; simp
    · simp [hk]
  rcases h with h | h <;> simp only [KeysFit, h] at hf ⊢ <;> exact this hf

theorem installKey_forward (p : Bytes) (s : State) (h : s.nv.lifecycle = .owned ∨ s.nv.lifecycle = .locked) :
    Forward s (installKey p s) := by
  unfold installKey; split
  · exact forward_refl s
  · exact keys_set_forward _ _ _ _ h

theorem keys_erase_forward (s : State) (k : Nat) (h : 1 ≤ k) :
    Forward s { s with nv := { s.nv with keys := s.nv.keys.erase k } } := by
  refine ⟨rfl, ⟨le_refl _, fun _ => le_refl _, fun _ h => h⟩, fun hf => ?_⟩
  have e : (s.nv.keys.erase k).find? 0 = s.nv.keys.find? 0 := tab_find_erase_other _ (by omega)
  unfold KeysFit at hf ⊢
  dsimp only
  cases hl : s.nv.lifecycle <;> simp only [hl] at hf ⊢
  · simp [hf, Tab.erase]
  · rw [e]; exact hf
  · rw [e]; exact hf
  · simp [hf, Tab.erase]

end Sys2Proof.Machine
end

