-- ==== Sys2Proof/Laws/OwnerOps.lean ====
section
/-! SUPPORT. The opcodes' effects on the queue and the owner's part: all but the owner's own keep both, and the owner's go forward from the lifecycles and checks of their rows; then judging, the transports, and every function that runs packets. -/

namespace Sys2Proof.Machine

set_option linter.unusedSimpArgs false
set_option linter.unusedTactic false
set_option linter.unreachableTactic false

theorem opGetStatus_run_kept (c : Cmd) (s : State) : (opGetStatus.run c s).2.kept = s.kept := by
  simp [opGetStatus, classA, classP, reads, sets, owners, OpDef.safe]

theorem opGetResetCause_run_kept (c : Cmd) (s : State) : (opGetResetCause.run c s).2.kept = s.kept := by
  simp [opGetResetCause, classA, classP, reads, sets, owners, OpDef.safe]

theorem opSetBootPolicy_run_kept (c : Cmd) (s : State) : (opSetBootPolicy.run c s).2.kept = s.kept := by
  simp [opSetBootPolicy, classA, classP, reads, sets, owners, OpDef.safe]

theorem opEnterProvision_run_kept (c : Cmd) (s : State) : (opEnterProvision.run c s).2.kept = s.kept := by
  simp [opEnterProvision, classA, classP, reads, sets, owners, OpDef.safe]

theorem opCommitConfig_run_kept (c : Cmd) (s : State) : (opCommitConfig.run c s).2.kept = s.kept := by
  simp [opCommitConfig, classA, classP, reads, sets, owners, OpDef.safe]

theorem opEnterMaintenance_run_kept (c : Cmd) (s : State) : (opEnterMaintenance.run c s).2.kept = s.kept := by
  simp [opEnterMaintenance, classA, classP, reads, sets, owners, OpDef.safe]

theorem opEnterQuiesce_run_kept (c : Cmd) (s : State) : (opEnterQuiesce.run c s).2.kept = s.kept := by
  simp [opEnterQuiesce, classA, classP, reads, sets, owners, OpDef.safe]

theorem opReturnService_run_kept (c : Cmd) (s : State) : (opReturnService.run c s).2.kept = s.kept := by
  simp only [opReturnService, classA, classP, reads, sets, owners, OpDef.safe]
  repeat' (first | (simp; done) | split)

theorem opResetDevice_run_kept (c : Cmd) (s : State) : (opResetDevice.run c s).2.kept = s.kept := by
  simp [opResetDevice, classA, classP, reads, sets, owners, OpDef.safe]

theorem opSetPowerState_run_kept (c : Cmd) (s : State) : (opSetPowerState.run c s).2.kept = s.kept := by
  simp only [opSetPowerState, classA, classP, reads, sets, owners, OpDef.safe]
  repeat' (first | (simp; done) | split)

theorem opAvsConfig_run_kept (c : Cmd) (s : State) : (opAvsConfig.run c s).2.kept = s.kept := by
  simp [opAvsConfig, classA, classP, reads, sets, owners, OpDef.safe]

theorem opDeviceConfig_run_kept (c : Cmd) (s : State) : (opDeviceConfig.run c s).2.kept = s.kept := by
  simp [opDeviceConfig, classA, classP, reads, sets, owners, OpDef.safe]

theorem opGetSecurityStatus_run_kept (c : Cmd) (s : State) : (opGetSecurityStatus.run c s).2.kept = s.kept := by
  simp [opGetSecurityStatus, classA, classP, reads, sets, owners, OpDef.safe]

theorem opDebugChallenge_run_kept (c : Cmd) (s : State) : (opDebugChallenge.run c s).2.kept = s.kept := by
  simp [opDebugChallenge, classA, classP, reads, sets, owners, OpDef.safe]

theorem opDebugUnlock_run_kept (c : Cmd) (s : State) : (opDebugUnlock.run c s).2.kept = s.kept := by
  simp [opDebugUnlock, classA, classP, reads, sets, owners, OpDef.safe]

theorem opDebugClose_run_kept (c : Cmd) (s : State) : (opDebugClose.run c s).2.kept = s.kept := by
  simp [opDebugClose, classA, classP, reads, sets, owners, OpDef.safe]

theorem opPortConfig_run_kept (c : Cmd) (s : State) : (opPortConfig.run c s).2.kept = s.kept := by
  simp [opPortConfig, classA, classP, reads, sets, owners, OpDef.safe]

theorem opPortSetState_run_kept (c : Cmd) (s : State) : (opPortSetState.run c s).2.kept = s.kept := by
  simp [opPortSetState, classA, classP, reads, sets, owners, OpDef.safe]

theorem opPortStatus_run_kept (c : Cmd) (s : State) : (opPortStatus.run c s).2.kept = s.kept := by
  simp [opPortStatus, classA, classP, reads, sets, owners, OpDef.safe]

theorem opLaneMap_run_kept (c : Cmd) (s : State) : (opLaneMap.run c s).2.kept = s.kept := by
  simp [opLaneMap, classA, classP, reads, sets, owners, OpDef.safe]

theorem opLaneTxEq_run_kept (c : Cmd) (s : State) : (opLaneTxEq.run c s).2.kept = s.kept := by
  simp [opLaneTxEq, classA, classP, reads, sets, owners, OpDef.safe]

theorem opLaneRxEq_run_kept (c : Cmd) (s : State) : (opLaneRxEq.run c s).2.kept = s.kept := by
  simp [opLaneRxEq, classA, classP, reads, sets, owners, OpDef.safe]

theorem opLaneStatus_run_kept (c : Cmd) (s : State) : (opLaneStatus.run c s).2.kept = s.kept := by
  simp [opLaneStatus, classA, classP, reads, sets, owners, OpDef.safe]

theorem opLaneTest_run_kept (c : Cmd) (s : State) : (opLaneTest.run c s).2.kept = s.kept := by
  simp [opLaneTest, classA, classP, reads, sets, owners, OpDef.safe]

theorem opLaneTestResult_run_kept (c : Cmd) (s : State) : (opLaneTestResult.run c s).2.kept = s.kept := by
  simp [opLaneTestResult, classA, classP, reads, sets, owners, OpDef.safe]

theorem opDlkConfig_run_kept (c : Cmd) (s : State) : (opDlkConfig.run c s).2.kept = s.kept := by
  simp [opDlkConfig, classA, classP, reads, sets, owners, OpDef.safe]

theorem opDlkDelay_run_kept (c : Cmd) (s : State) : (opDlkDelay.run c s).2.kept = s.kept := by
  simp [opDlkDelay, classA, classP, reads, sets, owners, OpDef.safe]

theorem opDlkStatus_run_kept (c : Cmd) (s : State) : (opDlkStatus.run c s).2.kept = s.kept := by
  simp [opDlkStatus, classA, classP, reads, sets, owners, OpDef.safe]

theorem opClassMap_run_kept (c : Cmd) (s : State) : (opClassMap.run c s).2.kept = s.kept := by
  simp [opClassMap, classA, classP, reads, sets, owners, OpDef.safe]

theorem opFlowControl_run_kept (c : Cmd) (s : State) : (opFlowControl.run c s).2.kept = s.kept := by
  simp [opFlowControl, classA, classP, reads, sets, owners, OpDef.safe]

theorem opPortDelay_run_kept (c : Cmd) (s : State) : (opPortDelay.run c s).2.kept = s.kept := by
  simp [opPortDelay, classA, classP, reads, sets, owners, OpDef.safe]

theorem opLosslessBudget_run_kept (c : Cmd) (s : State) : (opLosslessBudget.run c s).2.kept = s.kept := by
  simp [opLosslessBudget, classA, classP, reads, sets, owners, OpDef.safe]

theorem opEcnConfig_run_kept (c : Cmd) (s : State) : (opEcnConfig.run c s).2.kept = s.kept := by
  simp [opEcnConfig, classA, classP, reads, sets, owners, OpDef.safe]

theorem opLosslessStatus_run_kept (c : Cmd) (s : State) : (opLosslessStatus.run c s).2.kept = s.kept := by
  simp [opLosslessStatus, classA, classP, reads, sets, owners, OpDef.safe]

theorem opModuleRead_run_kept (c : Cmd) (s : State) : (opModuleRead.run c s).2.kept = s.kept := by
  simp [opModuleRead, classA, classP, reads, sets, owners, OpDef.safe]

theorem opModuleWrite_run_kept (c : Cmd) (s : State) : (opModuleWrite.run c s).2.kept = s.kept := by
  simp [opModuleWrite, classA, classP, reads, sets, owners, OpDef.safe]

theorem opModuleControl_run_kept (c : Cmd) (s : State) : (opModuleControl.run c s).2.kept = s.kept := by
  simp [opModuleControl, classA, classP, reads, sets, owners, OpDef.safe]

theorem opModuleBus_run_kept (c : Cmd) (s : State) : (opModuleBus.run c s).2.kept = s.kept := by
  simp [opModuleBus, classA, classP, reads, sets, owners, OpDef.safe]

theorem opXoConfig_run_kept (c : Cmd) (s : State) : (opXoConfig.run c s).2.kept = s.kept := by
  simp [opXoConfig, classA, classP, reads, sets, owners, OpDef.safe]

theorem opRefConfig_run_kept (c : Cmd) (s : State) : (opRefConfig.run c s).2.kept = s.kept := by
  simp [opRefConfig, classA, classP, reads, sets, owners, OpDef.safe]

theorem opDpllConfig_run_kept (c : Cmd) (s : State) : (opDpllConfig.run c s).2.kept = s.kept := by
  simp [opDpllConfig, classA, classP, reads, sets, owners, OpDef.safe]

theorem opEsmcConfig_run_kept (c : Cmd) (s : State) : (opEsmcConfig.run c s).2.kept = s.kept := by
  simp [opEsmcConfig, classA, classP, reads, sets, owners, OpDef.safe]

theorem opJumpResolve_run_kept (c : Cmd) (s : State) : (opJumpResolve.run c s).2.kept = s.kept := by
  simp only [opJumpResolve, classA, classP, reads, sets, owners, OpDef.safe]
  repeat' (first | (simp; done) | split)

theorem opRefStatus_run_kept (c : Cmd) (s : State) : (opRefStatus.run c s).2.kept = s.kept := by
  simp [opRefStatus, classA, classP, reads, sets, owners, OpDef.safe]

theorem opDpllStatus_run_kept (c : Cmd) (s : State) : (opDpllStatus.run c s).2.kept = s.kept := by
  simp [opDpllStatus, classA, classP, reads, sets, owners, OpDef.safe]

theorem opSynBandTable_run_kept (c : Cmd) (s : State) : (opSynBandTable.run c s).2.kept = s.kept := by
  simp [opSynBandTable, classA, classP, reads, sets, owners, OpDef.safe]

theorem opSynConfig_run_kept (c : Cmd) (s : State) : (opSynConfig.run c s).2.kept = s.kept := by
  simp [opSynConfig, classA, classP, reads, sets, owners, OpDef.safe]

theorem opOutConfig_run_kept (c : Cmd) (s : State) : (opOutConfig.run c s).2.kept = s.kept := by
  simp [opOutConfig, classA, classP, reads, sets, owners, OpDef.safe]

theorem opPpsConfig_run_kept (c : Cmd) (s : State) : (opPpsConfig.run c s).2.kept = s.kept := by
  simp [opPpsConfig, classA, classP, reads, sets, owners, OpDef.safe]

theorem opTodConfig_run_kept (c : Cmd) (s : State) : (opTodConfig.run c s).2.kept = s.kept := by
  simp [opTodConfig, classA, classP, reads, sets, owners, OpDef.safe]

theorem opClockStatus_run_kept (c : Cmd) (s : State) : (opClockStatus.run c s).2.kept = s.kept := by
  simp [opClockStatus, classA, classP, reads, sets, owners, OpDef.safe]

theorem opPtpClockConfig_run_kept (c : Cmd) (s : State) : (opPtpClockConfig.run c s).2.kept = s.kept := by
  simp [opPtpClockConfig, classA, classP, reads, sets, owners, OpDef.safe]

theorem opPtpPortConfig_run_kept (c : Cmd) (s : State) : (opPtpPortConfig.run c s).2.kept = s.kept := by
  simp [opPtpPortConfig, classA, classP, reads, sets, owners, OpDef.safe]

theorem opTimeProperties_run_kept (c : Cmd) (s : State) : (opTimeProperties.run c s).2.kept = s.kept := by
  simp [opTimeProperties, classA, classP, reads, sets, owners, OpDef.safe]

theorem opStepTime_run_kept (c : Cmd) (s : State) : (opStepTime.run c s).2.kept = s.kept := by
  simp [opStepTime, classA, classP, reads, sets, owners, OpDef.safe]

theorem opTimeStatus_run_kept (c : Cmd) (s : State) : (opTimeStatus.run c s).2.kept = s.kept := by
  simp [opTimeStatus, classA, classP, reads, sets, owners, OpDef.safe]

theorem opTimePortStatus_run_kept (c : Cmd) (s : State) : (opTimePortStatus.run c s).2.kept = s.kept := by
  simp [opTimePortStatus, classA, classP, reads, sets, owners, OpDef.safe]

theorem opTraceReport_run_kept (c : Cmd) (s : State) : (opTraceReport.run c s).2.kept = s.kept := by
  simp [opTraceReport, classA, classP, reads, sets, owners, OpDef.safe]

theorem opTraceRead_run_kept (c : Cmd) (s : State) : (opTraceRead.run c s).2.kept = s.kept := by
  simp [opTraceRead, classA, classP, reads, sets, owners, OpDef.safe]

theorem opTdePin_run_kept (c : Cmd) (s : State) : (opTdePin.run c s).2.kept = s.kept := by
  simp [opTdePin, classA, classP, reads, sets, owners, OpDef.safe]

theorem opTdeSource_run_kept (c : Cmd) (s : State) : (opTdeSource.run c s).2.kept = s.kept := by
  simp [opTdeSource, classA, classP, reads, sets, owners, OpDef.safe]

theorem opEvConfig_run_kept (c : Cmd) (s : State) : (opEvConfig.run c s).2.kept = s.kept := by
  simp [opEvConfig, classA, classP, reads, sets, owners, OpDef.safe]

theorem opIntervalMeasure_run_kept (c : Cmd) (s : State) : (opIntervalMeasure.run c s).2.kept = s.kept := by
  simp [opIntervalMeasure, classA, classP, reads, sets, owners, OpDef.safe]

theorem opStatsRun_run_kept (c : Cmd) (s : State) : (opStatsRun.run c s).2.kept = s.kept := by
  simp [opStatsRun, classA, classP, reads, sets, owners, OpDef.safe]

theorem opStatsRead_run_kept (c : Cmd) (s : State) : (opStatsRead.run c s).2.kept = s.kept := by
  simp [opStatsRead, classA, classP, reads, sets, owners, OpDef.safe]

theorem opTdeStatus_run_kept (c : Cmd) (s : State) : (opTdeStatus.run c s).2.kept = s.kept := by
  simp [opTdeStatus, classA, classP, reads, sets, owners, OpDef.safe]

theorem opPoolConfig_run_kept (c : Cmd) (s : State) : (opPoolConfig.run c s).2.kept = s.kept := by
  simp [opPoolConfig, classA, classP, reads, sets, owners, OpDef.safe]

theorem opBufThreshold_run_kept (c : Cmd) (s : State) : (opBufThreshold.run c s).2.kept = s.kept := by
  simp [opBufThreshold, classA, classP, reads, sets, owners, OpDef.safe]

theorem opPoolStatus_run_kept (c : Cmd) (s : State) : (opPoolStatus.run c s).2.kept = s.kept := by
  simp [opPoolStatus, classA, classP, reads, sets, owners, OpDef.safe]

theorem opStopBath_run_kept (c : Cmd) (s : State) : (opStopBath.run c s).2.kept = s.kept := by
  simp [opStopBath, classA, classP, reads, sets, owners, OpDef.safe]

theorem opEgressSched_run_kept (c : Cmd) (s : State) : (opEgressSched.run c s).2.kept = s.kept := by
  simp [opEgressSched, classA, classP, reads, sets, owners, OpDef.safe]

theorem opDeadlockConfig_run_kept (c : Cmd) (s : State) : (opDeadlockConfig.run c s).2.kept = s.kept := by
  simp [opDeadlockConfig, classA, classP, reads, sets, owners, OpDef.safe]

theorem opDeadlockStatus_run_kept (c : Cmd) (s : State) : (opDeadlockStatus.run c s).2.kept = s.kept := by
  simp [opDeadlockStatus, classA, classP, reads, sets, owners, OpDef.safe]

theorem opSliceAssign_run_kept (c : Cmd) (s : State) : (opSliceAssign.run c s).2.kept = s.kept := by
  simp [opSliceAssign, classA, classP, reads, sets, owners, OpDef.safe]

theorem opSliceReturn_run_kept (c : Cmd) (s : State) : (opSliceReturn.run c s).2.kept = s.kept := by
  simp [opSliceReturn, classA, classP, reads, sets, owners, OpDef.safe]

theorem opSliceStatus_run_kept (c : Cmd) (s : State) : (opSliceStatus.run c s).2.kept = s.kept := by
  simp [opSliceStatus, classA, classP, reads, sets, owners, OpDef.safe]

theorem opMcastGroup_run_kept (c : Cmd) (s : State) : (opMcastGroup.run c s).2.kept = s.kept := by
  simp [opMcastGroup, classA, classP, reads, sets, owners, OpDef.safe]

theorem opMcastConfig_run_kept (c : Cmd) (s : State) : (opMcastConfig.run c s).2.kept = s.kept := by
  simp [opMcastConfig, classA, classP, reads, sets, owners, OpDef.safe]

theorem opTableBulkLoad_run_kept (c : Cmd) (s : State) : (opTableBulkLoad.run c s).2.kept = s.kept := by
  simp [opTableBulkLoad, classA, classP, reads, sets, owners, OpDef.safe]

theorem opFence_run_kept (c : Cmd) (s : State) : (opFence.run c s).2.kept = s.kept := by
  simp [opFence, classA, classP, reads, sets, owners, OpDef.safe]

theorem opTableShadow_run_kept (c : Cmd) (s : State) : (opTableShadow.run c s).2.kept = s.kept := by
  simp [opTableShadow, classA, classP, reads, sets, owners, OpDef.safe]

theorem opLearnConfig_run_kept (c : Cmd) (s : State) : (opLearnConfig.run c s).2.kept = s.kept := by
  simp [opLearnConfig, classA, classP, reads, sets, owners, OpDef.safe]

theorem opL2PortConfig_run_kept (c : Cmd) (s : State) : (opL2PortConfig.run c s).2.kept = s.kept := by
  simp [opL2PortConfig, classA, classP, reads, sets, owners, OpDef.safe]

theorem opFdbFlush_run_kept (c : Cmd) (s : State) : (opFdbFlush.run c s).2.kept = s.kept := by
  simp [opFdbFlush, classA, classP, reads, sets, owners, OpDef.safe]

theorem opTcamRebuild_run_kept (c : Cmd) (s : State) : (opTcamRebuild.run c s).2.kept = s.kept := by
  simp [opTcamRebuild, classA, classP, reads, sets, owners, OpDef.safe]

theorem opTableStatus_run_kept (c : Cmd) (s : State) : (opTableStatus.run c s).2.kept = s.kept := by
  simp [opTableStatus, classA, classP, reads, sets, owners, OpDef.safe]

theorem opNegStatus_run_kept (c : Cmd) (s : State) : (opNegStatus.run c s).2.kept = s.kept := by
  simp [opNegStatus, classA, classP, reads, sets, owners, OpDef.safe]

theorem opNegRead_run_kept (c : Cmd) (s : State) : (opNegRead.run c s).2.kept = s.kept := by
  simp [opNegRead, classA, classP, reads, sets, owners, OpDef.safe]

theorem opNegExport_run_kept (c : Cmd) (s : State) : (opNegExport.run c s).2.kept = s.kept := by
  simp [opNegExport, classA, classP, reads, sets, owners, OpDef.safe]

theorem opCalSweep_run_kept (c : Cmd) (s : State) : (opCalSweep.run c s).2.kept = s.kept := by
  simp [opCalSweep, classA, classP, reads, sets, owners, OpDef.safe]

theorem opCalStatus_run_kept (c : Cmd) (s : State) : (opCalStatus.run c s).2.kept = s.kept := by
  simp [opCalStatus, classA, classP, reads, sets, owners, OpDef.safe]

theorem opContactRestore_run_kept (c : Cmd) (s : State) : (opContactRestore.run c s).2.kept = s.kept := by
  simp [opContactRestore, classA, classP, reads, sets, owners, OpDef.safe]

theorem opContactStatus_run_kept (c : Cmd) (s : State) : (opContactStatus.run c s).2.kept = s.kept := by
  simp [opContactStatus, classA, classP, reads, sets, owners, OpDef.safe]

theorem opFwStatus_run_kept (c : Cmd) (s : State) : (opFwStatus.run c s).2.kept = s.kept := by
  simp [opFwStatus, classA, classP, reads, sets, owners, OpDef.safe]

theorem opFwUpdate_run_kept (c : Cmd) (s : State) : (opFwUpdate.run c s).2.kept = s.kept := by
  simp [opFwUpdate, classA, classP, reads, sets, owners, OpDef.safe]

theorem opFwData_run_kept (c : Cmd) (s : State) : (opFwData.run c s).2.kept = s.kept := by
  simp [opFwData, classA, classP, reads, sets, owners, OpDef.safe]

theorem opOpQuery_run_kept (c : Cmd) (s : State) : (opOpQuery.run c s).2.kept = s.kept := by
  simp [opOpQuery, classA, classP, reads, sets, owners, OpDef.safe]

theorem opOpSuspend_run_kept (c : Cmd) (s : State) : (opOpSuspend.run c s).2.kept = s.kept := by
  simp [opOpSuspend, classA, classP, reads, sets, owners, OpDef.safe]

theorem opOpResume_run_kept (c : Cmd) (s : State) : (opOpResume.run c s).2.kept = s.kept := by
  simp [opOpResume, classA, classP, reads, sets, owners, OpDef.safe]

theorem opOpCancel_run_kept (c : Cmd) (s : State) : (opOpCancel.run c s).2.kept = s.kept := by
  simp [opOpCancel, classA, classP, reads, sets, owners, OpDef.safe]

theorem persist_lifecycle (c : Cmd) (s : State) : (persist c s).nv.lifecycle = s.nv.lifecycle :=
  congrArg (fun x => x.2.1) (persist_kept c s)

theorem persist_minVersion (c : Cmd) (s : State) : (persist c s).nv.minVersion = s.nv.minVersion :=
  congrArg (fun x => x.2.2.2.2.2.1) (persist_kept c s)

/-- The effect of an opcode that its row's lifecycles and conditions let through goes forward. -/
theorem defOf_run_forward {op : Nat} {d : OpDef} (h : defOf op = some d) (c : Cmd) (s : State)
    (hl : d.lifeOk c s = true) (hc : d.check c s = none) : Forward s (d.run c (persist c s)).2 := by
  refine then_forward (persist_kept c s) ?_
  have hp := persist_lifecycle c s
  unfold defOf at h
  split at h
  · cases h; exact forward_of_kept (opGetStatus_run_kept c _)
  · cases h; exact forward_of_kept (opGetResetCause_run_kept c _)
  · cases h; exact forward_of_kept (opSetBootPolicy_run_kept c _)
  · cases h; exact forward_of_kept (opEnterProvision_run_kept c _)
  · cases h; exact forward_of_kept (opCommitConfig_run_kept c _)
  · cases h; exact forward_of_kept (opEnterMaintenance_run_kept c _)
  · cases h; exact forward_of_kept (opEnterQuiesce_run_kept c _)
  · cases h; exact forward_of_kept (opReturnService_run_kept c _)
  · cases h; exact forward_of_kept (opResetDevice_run_kept c _)
  · cases h; exact forward_of_kept (opSetPowerState_run_kept c _)
  · cases h; exact forward_of_kept (opAvsConfig_run_kept c _)
  · cases h; exact forward_of_kept (opDeviceConfig_run_kept c _)
  · cases h; exact forward_of_kept (opGetSecurityStatus_run_kept c _)
  · cases h; exact takeOwnership_forward _ _ (by rw [hp]; simpa [opTakeOwnership, inLives] using hl)
  · cases h; exact installKey_forward _ _ (by rw [hp]; simpa [opInstallKey, owners, inLives] using hl)
  · cases h; exact keys_erase_forward _ _ (by simp [opRevokeKey, owners, bad] at hc; omega)
  · cases h; exact ⟨rfl, ⟨le_refl _, fun _ => le_refl _, fun _ h => h⟩, id⟩
  · cases h; exact lockDevice_forward _ _ (by rw [hp]; simpa [opLockDevice, owners, inLives] using hl)
  · cases h; exact ⟨rfl, ⟨le_refl _, fun _ => by rw [persist_minVersion]; simp [opSetMinVersion, owners, bad] at hc; exact hc.2.1, fun _ h => h⟩, id⟩
  · cases h; exact retireDevice_forward _ _
  · cases h; exact forward_of_kept (opDebugChallenge_run_kept c _)
  · cases h; exact forward_of_kept (opDebugUnlock_run_kept c _)
  · cases h; exact forward_of_kept (opDebugClose_run_kept c _)
  · cases h; exact forward_of_kept (opPortConfig_run_kept c _)
  · cases h; exact forward_of_kept (opPortSetState_run_kept c _)
  · cases h; exact forward_of_kept (opPortStatus_run_kept c _)
  · cases h; exact forward_of_kept (opLaneMap_run_kept c _)
  · cases h; exact forward_of_kept (opLaneTxEq_run_kept c _)
  · cases h; exact forward_of_kept (opLaneRxEq_run_kept c _)
  · cases h; exact forward_of_kept (opLaneStatus_run_kept c _)
  · cases h; exact forward_of_kept (opLaneTest_run_kept c _)
  · cases h; exact forward_of_kept (opLaneTestResult_run_kept c _)
  · cases h; exact forward_of_kept (opDlkConfig_run_kept c _)
  · cases h; exact forward_of_kept (opDlkDelay_run_kept c _)
  · cases h; exact forward_of_kept (opDlkStatus_run_kept c _)
  · cases h; exact forward_of_kept (opClassMap_run_kept c _)
  · cases h; exact forward_of_kept (opFlowControl_run_kept c _)
  · cases h; exact forward_of_kept (opPortDelay_run_kept c _)
  · cases h; exact forward_of_kept (opLosslessBudget_run_kept c _)
  · cases h; exact forward_of_kept (opEcnConfig_run_kept c _)
  · cases h; exact forward_of_kept (opLosslessStatus_run_kept c _)
  · cases h; exact forward_of_kept (opModuleRead_run_kept c _)
  · cases h; exact forward_of_kept (opModuleWrite_run_kept c _)
  · cases h; exact forward_of_kept (opModuleControl_run_kept c _)
  · cases h; exact forward_of_kept (opModuleBus_run_kept c _)
  · cases h; exact forward_of_kept (opXoConfig_run_kept c _)
  · cases h; exact forward_of_kept (opRefConfig_run_kept c _)
  · cases h; exact forward_of_kept (opDpllConfig_run_kept c _)
  · cases h; exact forward_of_kept (opEsmcConfig_run_kept c _)
  · cases h; exact forward_of_kept (opJumpResolve_run_kept c _)
  · cases h; exact forward_of_kept (opRefStatus_run_kept c _)
  · cases h; exact forward_of_kept (opDpllStatus_run_kept c _)
  · cases h; exact forward_of_kept (opSynBandTable_run_kept c _)
  · cases h; exact forward_of_kept (opSynConfig_run_kept c _)
  · cases h; exact forward_of_kept (opOutConfig_run_kept c _)
  · cases h; exact forward_of_kept (opPpsConfig_run_kept c _)
  · cases h; exact forward_of_kept (opTodConfig_run_kept c _)
  · cases h; exact forward_of_kept (opClockStatus_run_kept c _)
  · cases h; exact forward_of_kept (opPtpClockConfig_run_kept c _)
  · cases h; exact forward_of_kept (opPtpPortConfig_run_kept c _)
  · cases h; exact forward_of_kept (opTimeProperties_run_kept c _)
  · cases h; exact forward_of_kept (opStepTime_run_kept c _)
  · cases h; exact forward_of_kept (opTimeStatus_run_kept c _)
  · cases h; exact forward_of_kept (opTimePortStatus_run_kept c _)
  · cases h; exact forward_of_kept (opTraceReport_run_kept c _)
  · cases h; exact forward_of_kept (opTraceRead_run_kept c _)
  · cases h; exact forward_of_kept (opTdePin_run_kept c _)
  · cases h; exact forward_of_kept (opTdeSource_run_kept c _)
  · cases h; exact forward_of_kept (opEvConfig_run_kept c _)
  · cases h; exact forward_of_kept (opIntervalMeasure_run_kept c _)
  · cases h; exact forward_of_kept (opStatsRun_run_kept c _)
  · cases h; exact forward_of_kept (opStatsRead_run_kept c _)
  · cases h; exact forward_of_kept (opTdeStatus_run_kept c _)
  · cases h; exact forward_of_kept (opPoolConfig_run_kept c _)
  · cases h; exact forward_of_kept (opBufThreshold_run_kept c _)
  · cases h; exact forward_of_kept (opPoolStatus_run_kept c _)
  · cases h; exact forward_of_kept (opStopBath_run_kept c _)
  · cases h; exact forward_of_kept (opEgressSched_run_kept c _)
  · cases h; exact forward_of_kept (opDeadlockConfig_run_kept c _)
  · cases h; exact forward_of_kept (opDeadlockStatus_run_kept c _)
  · cases h; exact forward_of_kept (opSliceAssign_run_kept c _)
  · cases h; exact forward_of_kept (opSliceReturn_run_kept c _)
  · cases h; exact forward_of_kept (opSliceStatus_run_kept c _)
  · cases h; exact forward_of_kept (opMcastGroup_run_kept c _)
  · cases h; exact forward_of_kept (opMcastConfig_run_kept c _)
  · cases h; exact forward_of_kept (opTableBulkLoad_run_kept c _)
  · cases h; exact forward_of_kept (opFence_run_kept c _)
  · cases h; exact forward_of_kept (opTableShadow_run_kept c _)
  · cases h; exact forward_of_kept (opLearnConfig_run_kept c _)
  · cases h; exact forward_of_kept (opL2PortConfig_run_kept c _)
  · cases h; exact forward_of_kept (opFdbFlush_run_kept c _)
  · cases h; exact forward_of_kept (opTcamRebuild_run_kept c _)
  · cases h; exact forward_of_kept (opTableStatus_run_kept c _)
  · cases h; exact forward_of_kept (opNegStatus_run_kept c _)
  · cases h; exact forward_of_kept (opNegRead_run_kept c _)
  · cases h; exact forward_of_kept (opNegExport_run_kept c _)
  · cases h; exact forward_of_kept (opCalSweep_run_kept c _)
  · cases h; exact forward_of_kept (opCalStatus_run_kept c _)
  · cases h; exact forward_of_kept (opContactRestore_run_kept c _)
  · cases h; exact forward_of_kept (opContactStatus_run_kept c _)
  · cases h; exact forward_of_kept (opFwStatus_run_kept c _)
  · cases h; exact forward_of_kept (opFwUpdate_run_kept c _)
  · cases h; exact forward_of_kept (opFwData_run_kept c _)
  · cases h; exact forward_of_kept (opOpQuery_run_kept c _)
  · cases h; exact forward_of_kept (opOpSuspend_run_kept c _)
  · cases h; exact forward_of_kept (opOpResume_run_kept c _)
  · cases h; exact forward_of_kept (opOpCancel_run_kept c _)
  · cases h

/-- What follows an opcode's reply keeps the queue and the owner's part. -/
theorem defOf_after_kept {op : Nat} {d : OpDef} (h : defOf op = some d) (s : State) : (d.after s).kept = s.kept := by
  unfold defOf at h
  split at h <;> cases h <;> first
    | rfl
    | exact opsSettle_kept s

/-- What a refusal at step 14 leaves keeps the queue and the owner's part. -/
theorem defOf_trace_kept {op : Nat} {d : OpDef} (h : defOf op = some d) (c : Cmd) (s : State) : (d.trace c s).kept = s.kept := by
  unfold defOf at h
  split at h <;> cases h <;> first
    | rfl
    | exact flowTrace_kept c s

/-! ### Judging and the transports -/

/-- Judging a packet by its opcode's row, and carrying it out, goes forward. -/
theorem runCommand_forward (c : Cmd) (s : State) : Forward s (runCommand c s) := by
  unfold runCommand
  cases hd : defOf c.opcode with
  | none =>
    unfold judge
    split
    · exact forward_of_kept (by simp)
    · exact forward_refl s
    · contradiction
  | some d =>
    unfold judge
    split
    · exact forward_of_kept (by simp)
    · exact forward_refl s
    next d' hd' =>
    cases hd'
    split
    · exact forward_of_kept (by simp)
    split
    · refine forward_of_kept ?_; split <;> simp
    dsimp only
    split
    · exact forward_of_kept (by simp)
    next hm =>
    split
    · exact forward_of_kept (by simp [defOf_trace_kept hd])
    next hc =>
    have hl : d.lifeOk c s = true := by
      unfold midFail at hm
      split at hm; · cases hm
      split at hm; · cases hm
      split at hm; · cases hm
      next h => simpa using h
    unfold execute
    dsimp only
    split
    · exact forward_of_kept (by simp)
    · refine forward_then (defOf_run_forward hd c s hl hc) ?_
      rw [defOf_after_kept hd]
      simp

theorem startOn_forward (t : Transport) (s : State) : Forward s (startOn t s) := by
  unfold startOn
  split
  · exact forward_refl s
  · dsimp only
    repeat' split
    all_goals first
      | exact forward_of_kept (by simp)
      | exact then_forward (by simp) (runCommand_forward _ _)

theorem pumpLoop_forward (n : Nat) (s : State) : Forward s (pumpLoop n s) := by
  induction n generalizing s with
  | zero => exact forward_refl s
  | succ n ih =>
    unfold pumpLoop
    split
    · exact forward_refl s
    · exact forward_trans (then_forward (by simp) (startOn_forward _ _)) (ih _)

theorem pump_forward (s : State) : Forward s (pump s) := then_forward (by simp) (pumpLoop_forward _ _)

theorem receive_forward (o : Origin) (pkt : Bytes) (s : State) : Forward s (receive o pkt s) :=
  then_forward (by simp) (pump_forward _)

theorem doorbell_forward (pi : Nat) (packets : List Bytes) (s : State) : Forward s (doorbell pi packets s) := by
  unfold doorbell; split
  · exact forward_refl s
  · dsimp only; split
    · exact forward_of_kept (by simp)
    · exact then_forward (by simp) (pump_forward _)

theorem repliesFreed_forward (ci : Nat) (s : State) : Forward s (repliesFreed ci s) := by
  unfold repliesFreed; split
  · exact forward_refl s
  · exact then_forward (by simp) (pump_forward _)

theorem ringsArm_forward (en : Bool) (s : State) : Forward s (ringsArm en s) := by
  unfold ringsArm; split
  · exact forward_refl s
  split
  · exact forward_of_kept (by simp)
  split
  · exact forward_refl s
  · exact then_forward (by simp) (pump_forward _)

theorem inbandFrame_forward (f : InbandFrame) (s : State) : Forward s (inbandFrame f s) := by
  unfold inbandFrame; split
  · exact forward_refl s
  · dsimp only; split
    · exact forward_of_kept (by simp)
    · exact then_forward (by simp) (receive_forward _ _ _)

theorem inbandArrives_forward (f : InbandFrame) (s : State) : Forward s (inbandArrives f s) := by
  unfold inbandArrives; dsimp only; split
  · exact then_forward (by simp) (inbandFrame_forward _ _)
  · exact forward_of_kept (by simp)

theorem arrivedDrain_forward (s : State) : Forward s (arrivedDrain s) :=
  then_forward (by simp) (forward_foldl _ (fun s f => inbandFrame_forward f s) _ _)

theorem idleTick_forward (s : State) : Forward s (idleTick s) := by
  unfold idleTick; dsimp only; split
  · exact then_forward (by simp) (pump_forward _)
  · exact forward_of_kept (by simp)

theorem sbWrite_forward (b : Bytes) (s : State) : Forward s (sbWrite b s) := by
  unfold sbWrite; split
  · exact forward_refl s
  split
  · exact forward_of_kept (by simp)
  · exact then_forward (by simp) (receive_forward _ _ _)

theorem deadline_forward (t : Transport) (idx : Nat) (s : State) : Forward s (deadline t idx s) := by
  unfold deadline; split
  · exact forward_refl s
  · dsimp only; split
    · exact forward_refl s
    · exact then_forward (by simp) (pump_forward _)

theorem present_forward (op : Nat) (g : Gcp) (s : State) : Forward s (present op g s) := by
  unfold present; dsimp only; split
  · exact doorbell_forward _ _ _
  · exact inbandArrives_forward _ _
  · exact sbWrite_forward _ _

theorem replyDue_forward (t : Transport) (status : Nat) (result : Bytes) (s : State) : Forward s (replyDue t status result s) :=
  then_forward (by simp) (pump_forward _)

theorem measured_forward (e : Nat) (m : Meter) (outcome : Nat) (s : State) : Forward s (measured e m outcome s) :=
  then_forward (by simp) (forward_foldl _ (fun s t => replyDue_forward t _ _ s) _ _)

theorem windowClose_forward (e : Nat) (s : State) : Forward s (windowClose e s) := by
  unfold windowClose; split
  · split
    · exact forward_of_kept (by simp)
    · dsimp only; split
      · exact then_forward (by simp) (measured_forward _ _ _ _)
      · exact forward_of_kept (by simp)
  · exact forward_refl s

theorem startExpire_forward (e : Nat) (s : State) : Forward s (startExpire e s) := by
  unfold startExpire; split
  · split
    · exact forward_refl s
    split
    · exact then_forward (by simp) (measured_forward _ _ _ _)
    split
    · split
      · exact forward_of_kept (by simp)
      · exact forward_refl s
    · exact forward_refl s
  · exact forward_refl s

theorem wakeReply_forward (s : State) : Forward s (wakeReply s) := by
  unfold wakeReply
  dsimp only
  refine forward_trans (forward_foldl _ (fun s t => replyDue_forward t _ _ s) _ _) (forward_foldl _ (fun s t => ?_) _ _)
  split
  · split
    · split
      · exact replyDue_forward _ _ _ _
      · exact then_forward (by simp) (replyDue_forward _ _ _ _)
    · exact forward_refl s
  · exact forward_refl s

theorem wake_forward (regions : List (Nat × List Bytes)) (s : State) : Forward s (wake regions s) := by
  unfold wake; split
  · exact forward_refl s
  · dsimp only
    refine then_forward ?_ (wakeReply_forward _)
    split <;> simp

theorem frameEnd_forward (p : Nat) (rest : Bytes) (s : State) : Forward s (frameEnd p rest s) :=
  forward_trans (then_forward (by simp) (arrivedDrain_forward _)) (pump_forward _)

/-! ### Rows -/

theorem live_forward {f : State → State} {s t : State} (h : live s f = .next t) (k : ∀ s, Forward s (f s)) : Forward s t := by
  have h2 : t = if s.held then s else f s := by simpa [live] using h.symm
  rw [h2]; split
  · exact forward_refl s
  · exact k s

theorem tileRow_forward {p : Port} {k : RxKind} {x : DlkTile} {s t : State} (h : tileRow p k x s = .next t) : Forward s t :=
  live_forward h (fun _ => then_forward (by simp) (arrivedDrain_forward _))

end Sys2Proof.Machine
end

