-- ==== Sys2Proof/Laws/Shared.lean ====
section
/-! SUPPORT. What the shared operations can do: the parts of the state that raising a cause, writing the Negative, delivering a reply and the passing of time change, and that they change no other. -/

namespace Sys2Proof.Machine

/-- A meaning on a device that reset does not hold. -/
theorem live_next {s : State} (h : s.held = false) (f : State → State) : live s f = .next (f s) := by
  simp [live, h]

/-- A device held in reset stays as it is. -/
theorem live_held {s : State} (h : s.held = true) (f : State → State) : live s f = .next s := by
  simp [live, h]

/-! ### Interrupts and the event queue: IRQ and what is sent -/

theorem message_frame (v : Nat) (s : State) :
    message v s = { s with irq := (message v s).irq, out := (message v s).out } := by
  unfold message; dsimp only; split_ifs <;> rfl

theorem setCause_frame (c : Nat) (s : State) :
    setCause c s = { s with irq := (setCause c s).irq, out := (setCause c s).out } := by
  unfold setCause; dsimp only; split
  · rw [message_frame]
  · rfl

theorem evqPut_frame (r : Bytes) (s : State) :
    evqPut r s = { s with irq := (evqPut r s).irq, out := (evqPut r s).out } := by
  unfold evqPut evqWrite; split
  · rfl
  · split <;> rfl

theorem evQueue_frame (c : Nat) (b : Bool) (subject : Nat) (data : Bytes) (s : State) :
    evQueue c b subject data s = { s with irq := (evQueue c b subject data s).irq, out := (evQueue c b subject data s).out } := by
  unfold evQueue; rw [evqPut_frame]

theorem raiseClear_frame (c subject : Nat) (data : Bytes) (s : State) :
    raiseClear c subject data s = { s with irq := (raiseClear c subject data s).irq, out := (raiseClear c subject data s).out } :=
  evQueue_frame ..

/-- Raising a cause touches the interrupt block and what is sent, and nothing else. -/
theorem raise_frame (c subject : Nat) (data : Bytes) (s : State) :
    raise c subject data s = { s with irq := (raise c subject data s).irq, out := (raise c subject data s).out } := by
  unfold raise; dsimp only
  rw [setCause_frame]
  split
  · rfl
  · rw [evQueue_frame]

@[simp] theorem raise_clk (c subject : Nat) (data : Bytes) (s : State) : (raise c subject data s).clk = s.clk := by rw [raise_frame]
@[simp] theorem raise_sys (c subject : Nat) (data : Bytes) (s : State) : (raise c subject data s).sys = s.sys := by rw [raise_frame]
@[simp] theorem raise_pwr (c subject : Nat) (data : Bytes) (s : State) : (raise c subject data s).pwr = s.pwr := by rw [raise_frame]
@[simp] theorem raise_dbg (c subject : Nat) (data : Bytes) (s : State) : (raise c subject data s).dbg = s.dbg := by rw [raise_frame]
@[simp] theorem raise_nv (c subject : Nat) (data : Bytes) (s : State) : (raise c subject data s).nv = s.nv := by rw [raise_frame]
@[simp] theorem raise_neg (c subject : Nat) (data : Bytes) (s : State) : (raise c subject data s).neg = s.neg := by rw [raise_frame]
@[simp] theorem raise_mbx (c subject : Nat) (data : Bytes) (s : State) : (raise c subject data s).mbx = s.mbx := by rw [raise_frame]
@[simp] theorem raise_gcp (c subject : Nat) (data : Bytes) (s : State) : (raise c subject data s).gcp = s.gcp := by rw [raise_frame]
@[simp] theorem raise_ops (c subject : Nat) (data : Bytes) (s : State) : (raise c subject data s).ops = s.ops := by rw [raise_frame]
@[simp] theorem raise_finished (c subject : Nat) (data : Bytes) (s : State) : (raise c subject data s).finished = s.finished := by rw [raise_frame]
@[simp] theorem raise_nextHandle (c subject : Nat) (data : Bytes) (s : State) : (raise c subject data s).nextHandle = s.nextHandle := by rw [raise_frame]
@[simp] theorem raise_stat (c subject : Nat) (data : Bytes) (s : State) : (raise c subject data s).stat = s.stat := by rw [raise_frame]
@[simp] theorem raise_trap (c subject : Nat) (data : Bytes) (s : State) : (raise c subject data s).trap = s.trap := by rw [raise_frame]
@[simp] theorem raise_inject (c subject : Nat) (data : Bytes) (s : State) : (raise c subject data s).inject = s.inject := by rw [raise_frame]
@[simp] theorem raise_portCnt (c subject : Nat) (data : Bytes) (s : State) : (raise c subject data s).portCnt = s.portCnt := by rw [raise_frame]
@[simp] theorem raise_classCnt (c subject : Nat) (data : Bytes) (s : State) : (raise c subject data s).classCnt = s.classCnt := by rw [raise_frame]
@[simp] theorem raise_ports (c subject : Nat) (data : Bytes) (s : State) : (raise c subject data s).ports = s.ports := by rw [raise_frame]
@[simp] theorem raise_lanes (c subject : Nat) (data : Bytes) (s : State) : (raise c subject data s).lanes = s.lanes := by rw [raise_frame]
@[simp] theorem raise_maps (c subject : Nat) (data : Bytes) (s : State) : (raise c subject data s).maps = s.maps := by rw [raise_frame]
@[simp] theorem raise_flows (c subject : Nat) (data : Bytes) (s : State) : (raise c subject data s).flows = s.flows := by rw [raise_frame]
@[simp] theorem raise_egress (c subject : Nat) (data : Bytes) (s : State) : (raise c subject data s).egress = s.egress := by rw [raise_frame]
@[simp] theorem raise_dlks (c subject : Nat) (data : Bytes) (s : State) : (raise c subject data s).dlks = s.dlks := by rw [raise_frame]
@[simp] theorem raise_core (c subject : Nat) (data : Bytes) (s : State) : (raise c subject data s).core = s.core := by rw [raise_frame]
@[simp] theorem raise_tables (c subject : Nat) (data : Bytes) (s : State) : (raise c subject data s).tables = s.tables := by rw [raise_frame]
@[simp] theorem raise_tim (c subject : Nat) (data : Bytes) (s : State) : (raise c subject data s).tim = s.tim := by rw [raise_frame]
@[simp] theorem raise_free (c subject : Nat) (data : Bytes) (s : State) : (raise c subject data s).free = s.free := by rw [raise_frame]
@[simp] theorem raise_pending (c subject : Nat) (data : Bytes) (s : State) : (raise c subject data s).pending = s.pending := by rw [raise_frame]

@[simp] theorem raiseClear_clk (c subject : Nat) (data : Bytes) (s : State) : (raiseClear c subject data s).clk = s.clk := by rw [raiseClear_frame]
@[simp] theorem raiseClear_sys (c subject : Nat) (data : Bytes) (s : State) : (raiseClear c subject data s).sys = s.sys := by rw [raiseClear_frame]
@[simp] theorem raiseClear_pwr (c subject : Nat) (data : Bytes) (s : State) : (raiseClear c subject data s).pwr = s.pwr := by rw [raiseClear_frame]
@[simp] theorem raiseClear_dbg (c subject : Nat) (data : Bytes) (s : State) : (raiseClear c subject data s).dbg = s.dbg := by rw [raiseClear_frame]
@[simp] theorem raiseClear_nv (c subject : Nat) (data : Bytes) (s : State) : (raiseClear c subject data s).nv = s.nv := by rw [raiseClear_frame]
@[simp] theorem raiseClear_neg (c subject : Nat) (data : Bytes) (s : State) : (raiseClear c subject data s).neg = s.neg := by rw [raiseClear_frame]
@[simp] theorem raiseClear_mbx (c subject : Nat) (data : Bytes) (s : State) : (raiseClear c subject data s).mbx = s.mbx := by rw [raiseClear_frame]
@[simp] theorem raiseClear_gcp (c subject : Nat) (data : Bytes) (s : State) : (raiseClear c subject data s).gcp = s.gcp := by rw [raiseClear_frame]
@[simp] theorem raiseClear_ops (c subject : Nat) (data : Bytes) (s : State) : (raiseClear c subject data s).ops = s.ops := by rw [raiseClear_frame]
@[simp] theorem raiseClear_finished (c subject : Nat) (data : Bytes) (s : State) : (raiseClear c subject data s).finished = s.finished := by rw [raiseClear_frame]
@[simp] theorem raiseClear_nextHandle (c subject : Nat) (data : Bytes) (s : State) : (raiseClear c subject data s).nextHandle = s.nextHandle := by rw [raiseClear_frame]
@[simp] theorem raiseClear_stat (c subject : Nat) (data : Bytes) (s : State) : (raiseClear c subject data s).stat = s.stat := by rw [raiseClear_frame]
@[simp] theorem raiseClear_trap (c subject : Nat) (data : Bytes) (s : State) : (raiseClear c subject data s).trap = s.trap := by rw [raiseClear_frame]
@[simp] theorem raiseClear_inject (c subject : Nat) (data : Bytes) (s : State) : (raiseClear c subject data s).inject = s.inject := by rw [raiseClear_frame]
@[simp] theorem raiseClear_portCnt (c subject : Nat) (data : Bytes) (s : State) : (raiseClear c subject data s).portCnt = s.portCnt := by rw [raiseClear_frame]
@[simp] theorem raiseClear_classCnt (c subject : Nat) (data : Bytes) (s : State) : (raiseClear c subject data s).classCnt = s.classCnt := by rw [raiseClear_frame]
@[simp] theorem raiseClear_ports (c subject : Nat) (data : Bytes) (s : State) : (raiseClear c subject data s).ports = s.ports := by rw [raiseClear_frame]
@[simp] theorem raiseClear_lanes (c subject : Nat) (data : Bytes) (s : State) : (raiseClear c subject data s).lanes = s.lanes := by rw [raiseClear_frame]
@[simp] theorem raiseClear_maps (c subject : Nat) (data : Bytes) (s : State) : (raiseClear c subject data s).maps = s.maps := by rw [raiseClear_frame]
@[simp] theorem raiseClear_flows (c subject : Nat) (data : Bytes) (s : State) : (raiseClear c subject data s).flows = s.flows := by rw [raiseClear_frame]
@[simp] theorem raiseClear_egress (c subject : Nat) (data : Bytes) (s : State) : (raiseClear c subject data s).egress = s.egress := by rw [raiseClear_frame]
@[simp] theorem raiseClear_dlks (c subject : Nat) (data : Bytes) (s : State) : (raiseClear c subject data s).dlks = s.dlks := by rw [raiseClear_frame]
@[simp] theorem raiseClear_core (c subject : Nat) (data : Bytes) (s : State) : (raiseClear c subject data s).core = s.core := by rw [raiseClear_frame]
@[simp] theorem raiseClear_tables (c subject : Nat) (data : Bytes) (s : State) : (raiseClear c subject data s).tables = s.tables := by rw [raiseClear_frame]
@[simp] theorem raiseClear_tim (c subject : Nat) (data : Bytes) (s : State) : (raiseClear c subject data s).tim = s.tim := by rw [raiseClear_frame]
@[simp] theorem raiseClear_free (c subject : Nat) (data : Bytes) (s : State) : (raiseClear c subject data s).free = s.free := by rw [raiseClear_frame]
@[simp] theorem raiseClear_pending (c subject : Nat) (data : Bytes) (s : State) : (raiseClear c subject data s).pending = s.pending := by rw [raiseClear_frame]

/-! ### The Negative: the store of records in MRAM, and what waits to be written -/

theorem negPut_frame (r : NegRec) (s : State) :
    negPut r s = { s with neg := (negPut r s).neg,
                          nv := { s.nv with slots := (negPut r s).nv.slots, nextSeq := (negPut r s).nv.nextSeq,
                                            lastChain := (negPut r s).nv.lastChain, ringNext := (negPut r s).nv.ringNext } } := by
  unfold negPut negStore; split
  · split <;> rfl
  · rfl

/-- A record touches the Negative's part of MRAM and its own queue and limits, and nothing else. -/
theorem negWrite_frame (cause : Nat) (data : Bytes) (s : State) :
    negWrite cause data s =
      { s with
        neg := (negWrite cause data s).neg,
        nv :=
          { s.nv with
            slots := (negWrite cause data s).nv.slots
            nextSeq := (negWrite cause data s).nv.nextSeq
            lastChain := (negWrite cause data s).nv.lastChain
            ringNext := (negWrite cause data s).nv.ringNext } } := by
  unfold negWrite; split
  · rw [negPut_frame]
  · dsimp only; split
    · split
      · rfl
      · rw [negPut_frame]
    · rw [negPut_frame]

@[simp] theorem negWrite_clk (cause : Nat) (data : Bytes) (s : State) : (negWrite cause data s).clk = s.clk := by rw [negWrite_frame]
@[simp] theorem negWrite_sys (cause : Nat) (data : Bytes) (s : State) : (negWrite cause data s).sys = s.sys := by rw [negWrite_frame]
@[simp] theorem negWrite_pwr (cause : Nat) (data : Bytes) (s : State) : (negWrite cause data s).pwr = s.pwr := by rw [negWrite_frame]
@[simp] theorem negWrite_dbg (cause : Nat) (data : Bytes) (s : State) : (negWrite cause data s).dbg = s.dbg := by rw [negWrite_frame]
@[simp] theorem negWrite_irq (cause : Nat) (data : Bytes) (s : State) : (negWrite cause data s).irq = s.irq := by rw [negWrite_frame]
@[simp] theorem negWrite_mbx (cause : Nat) (data : Bytes) (s : State) : (negWrite cause data s).mbx = s.mbx := by rw [negWrite_frame]
@[simp] theorem negWrite_gcp (cause : Nat) (data : Bytes) (s : State) : (negWrite cause data s).gcp = s.gcp := by rw [negWrite_frame]
@[simp] theorem negWrite_ops (cause : Nat) (data : Bytes) (s : State) : (negWrite cause data s).ops = s.ops := by rw [negWrite_frame]
@[simp] theorem negWrite_finished (cause : Nat) (data : Bytes) (s : State) : (negWrite cause data s).finished = s.finished := by rw [negWrite_frame]
@[simp] theorem negWrite_nextHandle (cause : Nat) (data : Bytes) (s : State) : (negWrite cause data s).nextHandle = s.nextHandle := by rw [negWrite_frame]
@[simp] theorem negWrite_stat (cause : Nat) (data : Bytes) (s : State) : (negWrite cause data s).stat = s.stat := by rw [negWrite_frame]
@[simp] theorem negWrite_trap (cause : Nat) (data : Bytes) (s : State) : (negWrite cause data s).trap = s.trap := by rw [negWrite_frame]
@[simp] theorem negWrite_inject (cause : Nat) (data : Bytes) (s : State) : (negWrite cause data s).inject = s.inject := by rw [negWrite_frame]
@[simp] theorem negWrite_portCnt (cause : Nat) (data : Bytes) (s : State) : (negWrite cause data s).portCnt = s.portCnt := by rw [negWrite_frame]
@[simp] theorem negWrite_classCnt (cause : Nat) (data : Bytes) (s : State) : (negWrite cause data s).classCnt = s.classCnt := by rw [negWrite_frame]
@[simp] theorem negWrite_ports (cause : Nat) (data : Bytes) (s : State) : (negWrite cause data s).ports = s.ports := by rw [negWrite_frame]
@[simp] theorem negWrite_lanes (cause : Nat) (data : Bytes) (s : State) : (negWrite cause data s).lanes = s.lanes := by rw [negWrite_frame]
@[simp] theorem negWrite_maps (cause : Nat) (data : Bytes) (s : State) : (negWrite cause data s).maps = s.maps := by rw [negWrite_frame]
@[simp] theorem negWrite_flows (cause : Nat) (data : Bytes) (s : State) : (negWrite cause data s).flows = s.flows := by rw [negWrite_frame]
@[simp] theorem negWrite_egress (cause : Nat) (data : Bytes) (s : State) : (negWrite cause data s).egress = s.egress := by rw [negWrite_frame]
@[simp] theorem negWrite_dlks (cause : Nat) (data : Bytes) (s : State) : (negWrite cause data s).dlks = s.dlks := by rw [negWrite_frame]
@[simp] theorem negWrite_core (cause : Nat) (data : Bytes) (s : State) : (negWrite cause data s).core = s.core := by rw [negWrite_frame]
@[simp] theorem negWrite_tables (cause : Nat) (data : Bytes) (s : State) : (negWrite cause data s).tables = s.tables := by rw [negWrite_frame]
@[simp] theorem negWrite_tim (cause : Nat) (data : Bytes) (s : State) : (negWrite cause data s).tim = s.tim := by rw [negWrite_frame]
@[simp] theorem negWrite_free (cause : Nat) (data : Bytes) (s : State) : (negWrite cause data s).free = s.free := by rw [negWrite_frame]
@[simp] theorem negWrite_out (cause : Nat) (data : Bytes) (s : State) : (negWrite cause data s).out = s.out := by rw [negWrite_frame]
@[simp] theorem negWrite_pending (cause : Nat) (data : Bytes) (s : State) : (negWrite cause data s).pending = s.pending := by rw [negWrite_frame]

/-! ### Replies -/

theorem mbxPost_frame (p : Bytes) (s : State) :
    mbxPost p s = { s with mbx := (mbxPost p s).mbx, irq := (mbxPost p s).irq, out := (mbxPost p s).out } := by
  unfold mbxPost; dsimp only; rw [raise_frame]

theorem mbxDrain_frame (n : Nat) (s : State) :
    mbxDrain n s = { s with mbx := (mbxDrain n s).mbx, irq := (mbxDrain n s).irq, out := (mbxDrain n s).out } := by
  induction n generalizing s with
  | zero => rfl
  | succ n ih =>
    unfold mbxDrain
    split
    · rfl
    · split
      · rw [ih, mbxPost_frame]
      · rfl

/-- A frame that firmware sends waits in firmware's queue of its port, and nothing else changes. -/
theorem fwSend_frame (p tc : Nat) (b : Bytes) (note : Option Out) (s : State) :
    fwSend p tc b note s = { s with core := { s.core with fwQueue := (fwSend p tc b note s).core.fwQueue } } := by
  unfold fwSend; split <;> rfl

/-- A reply touches the mailbox, the interrupt block, what is sent, firmware's frames and the sideband's reply, and nothing else. -/
theorem deliver_frame (o : Origin) (p : Bytes) (s : State) :
    deliver o p s = { s with mbx := (deliver o p s).mbx, irq := (deliver o p s).irq, out := (deliver o p s).out,
                             core := { s.core with fwQueue := (deliver o p s).core.fwQueue },
                             gcp := { s.gcp with sbReply := (deliver o p s).gcp.sbReply } } := by
  unfold deliver; split
  · unfold mbxReply; split
    · rw [mbxPost_frame]
    · rfl
  · unfold inbandSend; rw [fwSend_frame]
  · rfl

@[simp] theorem deliver_clk (o : Origin) (p : Bytes) (s : State) : (deliver o p s).clk = s.clk := by rw [deliver_frame]
@[simp] theorem deliver_sys (o : Origin) (p : Bytes) (s : State) : (deliver o p s).sys = s.sys := by rw [deliver_frame]
@[simp] theorem deliver_pwr (o : Origin) (p : Bytes) (s : State) : (deliver o p s).pwr = s.pwr := by rw [deliver_frame]
@[simp] theorem deliver_dbg (o : Origin) (p : Bytes) (s : State) : (deliver o p s).dbg = s.dbg := by rw [deliver_frame]
@[simp] theorem deliver_nv (o : Origin) (p : Bytes) (s : State) : (deliver o p s).nv = s.nv := by rw [deliver_frame]
@[simp] theorem deliver_neg (o : Origin) (p : Bytes) (s : State) : (deliver o p s).neg = s.neg := by rw [deliver_frame]
@[simp] theorem deliver_ops (o : Origin) (p : Bytes) (s : State) : (deliver o p s).ops = s.ops := by rw [deliver_frame]
@[simp] theorem deliver_finished (o : Origin) (p : Bytes) (s : State) : (deliver o p s).finished = s.finished := by rw [deliver_frame]
@[simp] theorem deliver_nextHandle (o : Origin) (p : Bytes) (s : State) : (deliver o p s).nextHandle = s.nextHandle := by rw [deliver_frame]
@[simp] theorem deliver_stat (o : Origin) (p : Bytes) (s : State) : (deliver o p s).stat = s.stat := by rw [deliver_frame]
@[simp] theorem deliver_trap (o : Origin) (p : Bytes) (s : State) : (deliver o p s).trap = s.trap := by rw [deliver_frame]
@[simp] theorem deliver_inject (o : Origin) (p : Bytes) (s : State) : (deliver o p s).inject = s.inject := by rw [deliver_frame]
@[simp] theorem deliver_portCnt (o : Origin) (p : Bytes) (s : State) : (deliver o p s).portCnt = s.portCnt := by rw [deliver_frame]
@[simp] theorem deliver_classCnt (o : Origin) (p : Bytes) (s : State) : (deliver o p s).classCnt = s.classCnt := by rw [deliver_frame]
@[simp] theorem deliver_ports (o : Origin) (p : Bytes) (s : State) : (deliver o p s).ports = s.ports := by rw [deliver_frame]
@[simp] theorem deliver_lanes (o : Origin) (p : Bytes) (s : State) : (deliver o p s).lanes = s.lanes := by rw [deliver_frame]
@[simp] theorem deliver_maps (o : Origin) (p : Bytes) (s : State) : (deliver o p s).maps = s.maps := by rw [deliver_frame]
@[simp] theorem deliver_flows (o : Origin) (p : Bytes) (s : State) : (deliver o p s).flows = s.flows := by rw [deliver_frame]
@[simp] theorem deliver_egress (o : Origin) (p : Bytes) (s : State) : (deliver o p s).egress = s.egress := by rw [deliver_frame]
@[simp] theorem deliver_dlks (o : Origin) (p : Bytes) (s : State) : (deliver o p s).dlks = s.dlks := by rw [deliver_frame]
@[simp] theorem deliver_tables (o : Origin) (p : Bytes) (s : State) : (deliver o p s).tables = s.tables := by rw [deliver_frame]
@[simp] theorem deliver_tim (o : Origin) (p : Bytes) (s : State) : (deliver o p s).tim = s.tim := by rw [deliver_frame]
@[simp] theorem deliver_free (o : Origin) (p : Bytes) (s : State) : (deliver o p s).free = s.free := by rw [deliver_frame]
@[simp] theorem deliver_pending (o : Origin) (p : Bytes) (s : State) : (deliver o p s).pending = s.pending := by rw [deliver_frame]

/-! ### Time -/

/-- Time passing touches the clock and the DPLLs' slews, and nothing else. -/
theorem passTicks_frame (n : Nat) (s : State) :
    passTicks n s = { s with clk := (passTicks n s).clk, tim := { s.tim with dplls := (passTicks n s).tim.dplls } } := by
  unfold passTicks; dsimp only; cases (s.tim.dplls.get (Dpll.reset 0) 0).slew <;> rfl

theorem advanceTo_frame (t : Nat) (s : State) :
    advanceTo t s = { s with clk := (advanceTo t s).clk, tim := { s.tim with dplls := (advanceTo t s).tim.dplls } } := by
  unfold advanceTo; split
  · rw [passTicks_frame]
  · rfl

@[simp] theorem advanceTo_sys (t : Nat) (s : State) : (advanceTo t s).sys = s.sys := by rw [advanceTo_frame]
@[simp] theorem advanceTo_pwr (t : Nat) (s : State) : (advanceTo t s).pwr = s.pwr := by rw [advanceTo_frame]
@[simp] theorem advanceTo_dbg (t : Nat) (s : State) : (advanceTo t s).dbg = s.dbg := by rw [advanceTo_frame]
@[simp] theorem advanceTo_nv (t : Nat) (s : State) : (advanceTo t s).nv = s.nv := by rw [advanceTo_frame]
@[simp] theorem advanceTo_neg (t : Nat) (s : State) : (advanceTo t s).neg = s.neg := by rw [advanceTo_frame]
@[simp] theorem advanceTo_irq (t : Nat) (s : State) : (advanceTo t s).irq = s.irq := by rw [advanceTo_frame]
@[simp] theorem advanceTo_mbx (t : Nat) (s : State) : (advanceTo t s).mbx = s.mbx := by rw [advanceTo_frame]
@[simp] theorem advanceTo_gcp (t : Nat) (s : State) : (advanceTo t s).gcp = s.gcp := by rw [advanceTo_frame]
@[simp] theorem advanceTo_ops (t : Nat) (s : State) : (advanceTo t s).ops = s.ops := by rw [advanceTo_frame]
@[simp] theorem advanceTo_finished (t : Nat) (s : State) : (advanceTo t s).finished = s.finished := by rw [advanceTo_frame]
@[simp] theorem advanceTo_nextHandle (t : Nat) (s : State) : (advanceTo t s).nextHandle = s.nextHandle := by rw [advanceTo_frame]
@[simp] theorem advanceTo_stat (t : Nat) (s : State) : (advanceTo t s).stat = s.stat := by rw [advanceTo_frame]
@[simp] theorem advanceTo_trap (t : Nat) (s : State) : (advanceTo t s).trap = s.trap := by rw [advanceTo_frame]
@[simp] theorem advanceTo_inject (t : Nat) (s : State) : (advanceTo t s).inject = s.inject := by rw [advanceTo_frame]
@[simp] theorem advanceTo_portCnt (t : Nat) (s : State) : (advanceTo t s).portCnt = s.portCnt := by rw [advanceTo_frame]
@[simp] theorem advanceTo_classCnt (t : Nat) (s : State) : (advanceTo t s).classCnt = s.classCnt := by rw [advanceTo_frame]
@[simp] theorem advanceTo_ports (t : Nat) (s : State) : (advanceTo t s).ports = s.ports := by rw [advanceTo_frame]
@[simp] theorem advanceTo_lanes (t : Nat) (s : State) : (advanceTo t s).lanes = s.lanes := by rw [advanceTo_frame]
@[simp] theorem advanceTo_maps (t : Nat) (s : State) : (advanceTo t s).maps = s.maps := by rw [advanceTo_frame]
@[simp] theorem advanceTo_flows (t : Nat) (s : State) : (advanceTo t s).flows = s.flows := by rw [advanceTo_frame]
@[simp] theorem advanceTo_egress (t : Nat) (s : State) : (advanceTo t s).egress = s.egress := by rw [advanceTo_frame]
@[simp] theorem advanceTo_dlks (t : Nat) (s : State) : (advanceTo t s).dlks = s.dlks := by rw [advanceTo_frame]
@[simp] theorem advanceTo_core (t : Nat) (s : State) : (advanceTo t s).core = s.core := by rw [advanceTo_frame]
@[simp] theorem advanceTo_tables (t : Nat) (s : State) : (advanceTo t s).tables = s.tables := by rw [advanceTo_frame]
@[simp] theorem advanceTo_free (t : Nat) (s : State) : (advanceTo t s).free = s.free := by rw [advanceTo_frame]
@[simp] theorem advanceTo_out (t : Nat) (s : State) : (advanceTo t s).out = s.out := by rw [advanceTo_frame]
@[simp] theorem advanceTo_pending (t : Nat) (s : State) : (advanceTo t s).pending = s.pending := by rw [advanceTo_frame]

end Sys2Proof.Machine
end

