-- ==== Sys2Proof/Laws/Gcp.lean ====
section
/-! SUPPORT. How a packet comes to its judgement: an opcode's row is its packet's arrival (`present_judged`), and an accepted packet runs its opcode's effect (`carries_of`). -/
namespace Sys2Proof.Machine

/-- A row named after an opcode presents that opcode's packet. -/
theorem exec_opcode {i op g s} (h : opcodeOf i = some (op, g)) : exec i s = gcpRow op g s := by
  cases i <;> first | (simp only [opcodeOf, Option.some.injEq, Prod.mk.injEq] at h; obtain ⟨rfl, rfl⟩ := h; rfl) | (simp [opcodeOf] at h)

theorem modChan_pcie (f s) : modChan .pcie f s = { s with gcp := { s.gcp with pcie := f s.gcp.pcie } } := rfl
/-- With no POOL_CONFIG waiting for buffers the pump only starts commands. -/
theorem pump_settled (s : State) (h : s.core.poolsHold = none) : pump s = pumpLoop (waitingCount s) s := by
  have e : poolsSettle s = s := by unfold poolsSettle; rw [h]
  unfold pump; rw [e]

/-- A command is not late at the instant it is received. -/
theorem late_now (b : Bytes) (o : Origin) (n : Nat) : Waiting.late { pkt := b, origin := o, received := n, expired := false } n = false := by
  unfold Waiting.late
  by_cases h : (Cmd.mk o b).timeout = 0
  · simp [h]
  · have : 0 < (Cmd.mk o b).timeout * msTicks := Nat.mul_pos (by omega) (by decide)
    have h2 : ¬ n + (Cmd.mk o b).timeout * msTicks ≤ n := by omega
    simp only [decide_eq_false h2, Bool.and_false]

/-- One command waits and may start: the pump starts it and nothing else. -/
theorem pump_one (t : Transport) (w : Waiting) (s : State) (k : Nat) (hk : k < 3) (ht : turnOf k = t)
    (hw : (s.gcp.chan t).waiting = [w]) (h1 : t ≠ .pcie → s.gcp.pcie.waiting = []) (h2 : t ≠ .inband → s.gcp.inband.waiting = [])
    (h3 : t ≠ .sideband → s.gcp.sideband.waiting = []) (hd : (s.gcp.chan t).due = none) (hp : t = .pcie → pcieTakes s = true) (he : w.expired = false) (hb : s.core.poolsHold = none) :
    pump s = startOn t { s with gcp := { s.gcp with turn := (k + 1) % 3 } } := by
  have hc : waitingCount s = 1 := by
    subst ht
    unfold waitingCount
    interval_cases k <;> simp_all [turnOf, GcpSt.chan]
  have hn : nextTurn s = some k := by
    subst ht
    unfold nextTurn
    have : s.gcp.turn % 3 < 3 := Nat.mod_lt _ (by omega)
    have e1 : (s.gcp.turn + 0) % 3 = s.gcp.turn % 3 := by omega
    have e2 : (s.gcp.turn + 1) % 3 = (s.gcp.turn % 3 + 1) % 3 := by omega
    have e3 : (s.gcp.turn + 2) % 3 = (s.gcp.turn % 3 + 2) % 3 := by omega
    simp only [List.map, e1, e2, e3]
    generalize s.gcp.turn % 3 = q at *
    interval_cases q <;> interval_cases k <;> simp_all [turnOf, GcpSt.chan, canStart, List.find?] <;> rfl
  rw [pump_settled s hb, hc]
  simp only [pumpLoop, hn, ht]


theorem le_length (n x : Nat) : (le n x).length = n := by
  induction n generalizing x with
  | zero => rfl
  | succ n ih => simp [le, ih]

theorem chan_eta (c : Chan) (h : c.waiting = []) : ({ waiting := [], due := c.due, cache := c.cache } : Chan) = c := by
  cases c; simp_all

theorem take_le_append (n v : Nat) (b : Bytes) : (le n v ++ b).take n = le n v := by simp [le_length]

theorem drop_le_append (n v : Nat) (b : Bytes) : (le n v ++ b).drop n = b := by
  rw [List.drop_append_of_le_length (by simp [le_length])]
  simp [le_length]

theorem leNat_le (n v : Nat) : leNat (le n v) = v % 256 ^ n := by
  induction n generalizing v with
  | zero => simp [le, leNat, Nat.mod_one]
  | succ n ih =>
    rw [le, leNat, ih, BitVec.toNat_ofNat, Nat.pow_succ 256 n, Nat.mul_comm (256 ^ n) 256, Nat.mod_mul]

theorem sbPec_length (s r b) : (sbPec s r b).length = 1 := rfl

/-- A packet that arrives at an idle transport is judged at once. -/
theorem present_judged (op : Nat) (g : Gcp) (s : State) (h : Arrives op g s) :
    present op g s = judge (defOf (arrivedCmd op g).opcode) (arrivedCmd op g) (arrivedState op g s) := by
  obtain ⟨hh, hl, hp, hi, hs, hb, hd, ho⟩ := h
  unfold present arrivedCmd arrivedState
  cases hg : g.origin with
  | pcie =>
    simp only [landed, hg] at ho hd hl hp hi hs hb ⊢
    obtain ⟨h1, h2, h3, h4, h5⟩ := ho
    have hn : ((s.mbx.cmdPi + 1) % 256 + 256 - s.mbx.cmdPi % 256) % 256 = 1 := by omega
    simp only [doorbell, h1, Bool.false_eq_true, if_false, hn, h3, Bool.not_true]
    rw [pump_one .pcie { pkt := toLen 4096 (gcpBytes op g), origin := .pcie, received := s.clk.now, expired := false } _ 0 (by omega) rfl]
    · simp [startOn, modChan_pcie, GcpSt.chan, hp, ringEntries, runCommand, late_now, List.range_succ, chan_eta _ hp]
    · simp [modChan_pcie, GcpSt.chan, hp, ringEntries, List.range_succ]
    · simp
    · simpa [modChan_pcie] using hi
    · simpa [modChan_pcie] using hs
    · simpa [modChan_pcie, GcpSt.chan, via] using hd
    · simp [pcieTakes, modChan_pcie, State.dma, h1, h2, h4]; exact h5
    · rfl
    · exact hb
  | inband p src vlan =>
    simp only [landed, hg] at ho hd hl hp hi hs hb ⊢
    simp only [inbandArrives, hl, if_true]
    generalize (passBuffer (s.quadSlice (quadOf p.val)) (max 64 ((gcpBytes op g).length + 18)) s).2 = s at *
    obtain ⟨h1, h2⟩ := ho
    simp only [inbandFrame, h1, h2, Bool.not_true, Bool.false_eq_true, if_false, receive]
    rw [pump_one .inband { pkt := (gcpBytes op g).take (Cmd.mk (.inband p src vlan) (gcpBytes op g)).needs, origin := .inband p src vlan, received := (rateTick p.val s).2.clk.now, expired := false } _ 1 (by omega) rfl]
    · simp [startOn, modChan, via, GcpSt.chan, hi, rateTick, runCommand, late_now, chan_eta _ hi]
    · simp [modChan, via, GcpSt.chan, hi, rateTick]
    · simpa [modChan, via, rateTick] using hp
    · simp
    · simpa [modChan, via, rateTick] using hs
    · simpa [modChan, via, GcpSt.chan, rateTick] using hd
    · simp
    · rfl
    · exact hb
  | sideband =>
    simp only [landed, hg] at ho hd hl hp hi hs hb ⊢
    obtain ⟨h1, h2⟩ := ho
    have hd' : s.gcp.sideband.due = none := by simpa [via, GcpSt.chan] using hd
    have h256 : (gcpBytes op g).length % 256 ^ 2 = (gcpBytes op g).length := Nat.mod_eq_of_lt (by omega)
    have hl : ∀ x, field (le 2 (gcpBytes op g).length ++ gcpBytes op g ++ x) 0 2 = (gcpBytes op g).length := by
      intro x
      rw [field, List.drop_zero, List.append_assoc, take_le_append, leNat_le, h256]
    have hg2 : ∀ x, slice (le 2 (gcpBytes op g).length ++ gcpBytes op g ++ x) 2 (gcpBytes op g).length = gcpBytes op g := by
      intro x
      rw [slice, List.append_assoc, drop_le_append]; simp
    have hlen : (le 2 (gcpBytes op g).length ++ gcpBytes op g).length = (gcpBytes op g).length + 2 := by
      rw [List.length_append, le_length]; omega
    have hg1 : sbGood (le 2 (gcpBytes op g).length ++ gcpBytes op g ++ sbPec s false (le 2 (gcpBytes op g).length ++ gcpBytes op g)) s = true := by
      unfold sbGood
      have e1 : ∀ x : Bytes, ((le 2 (gcpBytes op g).length ++ gcpBytes op g) ++ x).take ((gcpBytes op g).length + 2) = le 2 (gcpBytes op g).length ++ gcpBytes op g := by
        intro x; exact List.take_left' hlen
      have e2 : ∀ x : Bytes, ((le 2 (gcpBytes op g).length ++ gcpBytes op g) ++ x).drop ((gcpBytes op g).length + 2) = x := by
        intro x; exact List.drop_left' hlen
      have e3 : ∀ x : Bytes, x.length = 1 → ((le 2 (gcpBytes op g).length ++ gcpBytes op g) ++ x).length = (gcpBytes op g).length + 3 := by
        intro x hx; rw [List.length_append, hlen, hx]
      simp only [hl, e1, e2, e3 _ (sbPec_length _ _ _)]
      simp [within, h1, h2]
    have hsp : sbPending s = false := by simp [sbPending, hs, hd']
    simp only [sbWrite, hsp, hg1, Bool.not_true, Bool.false_eq_true, if_false, receive, hl, hg2]
    rw [pump_one .sideband { pkt := gcpBytes op g, origin := .sideband, received := s.clk.now, expired := false } _ 2 (by omega) rfl]
    · simp [startOn, modChan, via, GcpSt.chan, hs, runCommand, late_now, chan_eta _ hs]
    · simp [modChan, via, GcpSt.chan, hs]
    · simpa [modChan, via] using hp
    · simpa [modChan, via] using hi
    · simp
    · simpa [modChan, via, GcpSt.chan] using hd'
    · simp
    · rfl
    · exact hb

/-- The packet carries the opcode it was built for. -/
theorem present_opcode (op : Nat) (g : Gcp) (h : op < 65536) : (arrivedCmd op g).opcode = op := by
  have e : ∀ o n, 4 ≤ n → (Cmd.mk o ((gcpBytes op g).take n)).opcode = op := by
    intro o n hn
    obtain ⟨m, rfl⟩ : ∃ m, n = m + 4 := ⟨n - 4, by omega⟩
    simp [Cmd.opcode, field, gcpBytes, le, leNat]
    omega
  unfold arrivedCmd
  cases g.origin with
  | pcie =>
    simp only [Cmd.opcode, toLen, field]
    have : ((gcpBytes op g).take 4096 ++ zeros (4096 - (gcpBytes op g).length)) = (gcpBytes op g).take 4096 ++ zeros (4096 - (gcpBytes op g).length) := rfl
    have h4 : ((((gcpBytes op g).take 4096 ++ zeros (4096 - (gcpBytes op g).length)).drop 2).take 2) = (((gcpBytes op g).take 4096).drop 2).take 2 := by
      simp [gcpBytes, le]
    rw [h4]
    exact e .pcie 4096 (by omega)
  | inband p src vlan =>
    exact e _ _ (by unfold Cmd.needs; omega)
  | sideband =>
    have := e .sideband (gcpBytes op g).length (by simp [gcpBytes, le_length])
    simpa using this

/-- An opcode's row carries out its effect where the packet is accepted. -/
theorem carries_of (i : Instr) (f : Cmd → State → Answer × State)
    (hr : ∀ op g d, opcodeOf i = some (op, g) → defOf op = some d → op < 65536 ∧ d.run = f) : Carries i f := by
  intro op g s d h1 h2 h3 h4
  obtain ⟨ho, hf⟩ := hr op g d h1 h2
  rw [exec_opcode h1]
  have hh : s.held = false := h3.1
  unfold gcpRow live
  rw [hh]
  simp only [Bool.false_eq_true, if_false]
  rw [present_judged op g s h3, present_opcode op g ho, h2]
  obtain ⟨a0, a1, a2, a3, a4, a5⟩ := h4
  simp only [judge, a0, a1, a2, a3, a4, a5, execute, hf, replyTag]

/-- With no command waiting there is nothing to start. -/
theorem pump_none (s : State) (h1 : s.gcp.pcie.waiting = []) (h2 : s.gcp.inband.waiting = []) (h3 : s.gcp.sideband.waiting = [])
    (h4 : s.core.poolsHold = none) : pump s = s := by
  rw [pump_settled s h4, show waitingCount s = 0 by simp [waitingCount, h1, h2, h3]]
  rfl

/-- An opcode's row whose opcode and effect are known carries out that effect. -/
theorem carries_row {i : Instr} {op : Nat} {g : Gcp} {d : OpDef} {f : Cmd → State → Answer × State} (h1 : opcodeOf i = some (op, g))
    (h2 : defOf op = some d) (h3 : op < 65536) (h4 : d.run = f) : Carries i f :=
  carries_of i f (fun op' g' d' a b => by
    rw [h1] at a; cases a
    rw [h2] at b; cases b
    exact ⟨h3, h4⟩)

theorem round_length (v : List (BitVec 32)) (kw : BitVec 32 × BitVec 32) : (Crypto.round v kw).length = v.length := by
  unfold Crypto.round; split <;> rfl

theorem rounds_length (l : List (BitVec 32 × BitVec 32)) (v : List (BitVec 32)) : (l.foldl Crypto.round v).length = v.length := by
  induction l generalizing v with
  | nil => rfl
  | cons x l ih => rw [List.foldl_cons, ih, round_length]

theorem blocks_length (n : Nat) (h : List (BitVec 32)) (b : Bytes) : (Crypto.blocks n h b).length = h.length := by
  induction n generalizing h b with
  | zero => rfl
  | succ n ih => simp only [Crypto.blocks, ih, Crypto.compress, List.length_zipWith, rounds_length, Nat.min_self]

/-- SHA-256 gives 32 bytes. -/
theorem sha256_length (m : Bytes) : (Crypto.sha256 m).length = 32 := by
  have h : ∀ l : List (BitVec 32), (l.flatMap (fun w => be 4 w.toNat)).length = 4 * l.length := by
    intro l
    induction l with
    | nil => rfl
    | cons x l ih => simp only [List.flatMap_cons, List.length_append, be, List.length_reverse, le_length, List.length_cons] at ih ⊢; omega
  simp only [Crypto.sha256, h, blocks_length]; rfl

/-- A tag has 16 bytes. -/
theorem tag16_length (k m : Bytes) : (Crypto.tag16 k m).length = 16 := by
  simp only [Crypto.tag16, Crypto.hmac, List.length_take, sha256_length]; rfl

end Sys2Proof.Machine
end

