-- ==== Sys2Proof/WellFormed.lean ====
section
/-! DEFINITION. Which commands are well formed: operands of the size that the spec gives what they carry. The machine itself takes any operand; it judges packets by R80. -/

namespace Sys2Proof

/-- A packet that a ring entry of 4 KiB holds: at most 4,048 parameter bytes (R76), and a tag of 16 bytes or none. -/
def Gcp.wf (g : Gcp) : Bool := decide (g.params.length ≤ 4048) && (g.tag.length == 0 || g.tag.length == 16)

/-- A tile with its 640 payload bytes (R155). -/
def DlkTile.wf (t : DlkTile) : Bool := t.payload.length == 640

/-- The packet of an opcode's row. -/
def Instr.packet : Instr → Option Gcp
  | .powerOn => none
  | .supplyReset => none
  | .sysRstNAssert => none
  | .sysRstNRelease _ => none
  | .perstNAssert => none
  | .perstNRelease => none
  | .functionLevelReset => none
  | .d3hotEntry => none
  | .d0Return => none
  | .thermalTrip _ => none
  | .thermtripRelease _ => none
  | .resetAfterReply => none
  | .fatalInternalError _ _ _ => none
  | .xoInDetect _ => none
  | .imageVerificationComplete _ _ => none
  | .firmwareAlive => none
  | .fwStartFail => none
  | .supplyWarn _ => none
  | .supplyWarnClear _ => none
  | .nvInhibit _ => none
  | .nvInhibitClear _ => none
  | .supplyCriticalAux _ => none
  | .coreWarn _ => none
  | .coreWarnClear _ => none
  | .coreSag _ => none
  | .rideExit _ => none
  | .supplyCriticalCore _ => none
  | .supplyCriticalClear _ => none
  | .thermalWarn _ => none
  | .thermalWarnClear _ => none
  | .thermalCritical _ => none
  | .thermalCriticalClear _ => none
  | .wakeComplete _ => none
  | .commandDoorbell _ _ => none
  | .mbxRplCiWrite _ => none
  | .mbxCtrlEnableWrite _ => none
  | .inbandCommandFrame _ => none
  | .sidebandWriteTransfer _ => none
  | .sidebandReadTransfer => none
  | .sidebandSclTimeout => none
  | .commandStartDeadline _ _ => none
  | .getStatus g => some g
  | .getResetCause g => some g
  | .setBootPolicy g => some g
  | .enterProvision g => some g
  | .commitConfig g => some g
  | .enterMaintenance g => some g
  | .enterQuiesce g => some g
  | .quiesceDrainEnd => none
  | .drainLimitExpiry => none
  | .returnService g => some g
  | .resetDevice g => some g
  | .setPowerState g => some g
  | .avsConfig g => some g
  | .deviceConfig g => some g
  | .getSecurityStatus g => some g
  | .takeOwnership g => some g
  | .installKey g => some g
  | .revokeKey g => some g
  | .setOwnerPolicy g => some g
  | .lockDevice g => some g
  | .setMinVersion g => some g
  | .retireDevice g => some g
  | .debugChallenge g => some g
  | .debugUnlock g => some g
  | .debugClose g => some g
  | .debugChallengeExpiry => none
  | .debugSessionExpiry => none
  | .portConfig g => some g
  | .portSetState g => some g
  | .portStatus g => some g
  | .laneMap g => some g
  | .laneTxEq g => some g
  | .laneRxEq g => some g
  | .laneStatus g => some g
  | .laneTest g => some g
  | .laneTestResult g => some g
  | .laneTestDurationExpiry _ => none
  | .dlkConfig g => some g
  | .dlkDelay g => some g
  | .dlkStatus g => some g
  | .classMap g => some g
  | .flowControl g => some g
  | .portDelay g => some g
  | .losslessBudget g => some g
  | .ecnConfig g => some g
  | .losslessStatus g => some g
  | .moduleRead g => some g
  | .moduleWrite g => some g
  | .moduleControl g => some g
  | .moduleBus g => some g
  | .xoConfig g => some g
  | .refConfig g => some g
  | .dpllConfig g => some g
  | .esmcConfig g => some g
  | .jumpResolve g => some g
  | .refStatus g => some g
  | .dpllStatus g => some g
  | .synBandTable g => some g
  | .synConfig g => some g
  | .outConfig g => some g
  | .ppsConfig g => some g
  | .todConfig g => some g
  | .clockStatus g => some g
  | .ptpClockConfig g => some g
  | .ptpPortConfig g => some g
  | .timeProperties g => some g
  | .stepTime g => some g
  | .timeStatus g => some g
  | .timePortStatus g => some g
  | .traceReport g => some g
  | .traceRead g => some g
  | .tdePin g => some g
  | .tdeSource g => some g
  | .evConfig g => some g
  | .intervalMeasure g => some g
  | .statsRun g => some g
  | .statsRead g => some g
  | .tdeStatus g => some g
  | .poolConfig g => some g
  | .bufThreshold g => some g
  | .poolStatus g => some g
  | .stopBath g => some g
  | .stopBathHoldExpiry _ => none
  | .egressSched g => some g
  | .deadlockConfig g => some g
  | .deadlockStatus g => some g
  | .sliceAssign g => some g
  | .sliceReturn g => some g
  | .sliceStatus g => some g
  | .mcastGroup g => some g
  | .mcastConfig g => some g
  | .tableBulkLoad g => some g
  | .fence g => some g
  | .fenceLimitExpiry _ => none
  | .tableShadow g => some g
  | .learnConfig g => some g
  | .l2PortConfig g => some g
  | .fdbFlush g => some g
  | .tcamRebuild g => some g
  | .tableStatus g => some g
  | .negStatus g => some g
  | .negRead g => some g
  | .negExport g => some g
  | .calSweep g => some g
  | .calStatus g => some g
  | .contactRestore g => some g
  | .contactStatus g => some g
  | .fwStatus g => some g
  | .fwUpdate g => some g
  | .fwData g => some g
  | .fwDataWaitExpiry _ => none
  | .fwSectorWritten _ _ _ => none
  | .opQuery g => some g
  | .opSuspend g => some g
  | .opResume g => some g
  | .opCancel g => some g
  | .opCancelOutcome _ => none
  | .opUnrecoverableError _ _ => none
  | .bulkRecordCommitted _ _ => none
  | .exportRecordCopied _ => none
  | .tracePortRecordBuilt _ => none
  | .idcode => none
  | .bypass => none
  | .sample _ => none
  | .preload _ => none
  | .extest => none
  | .dbgTrace _ => none
  | .dbgRead _ => none
  | .dbgWrite _ _ => none
  | .dbgReset => none
  | .factoryTest _ => none
  | .testLogicReset => none
  | .losAssert _ => none
  | .losClear _ => none
  | .lolAssert _ => none
  | .lolClear _ => none
  | .rxAdaptUpdate _ _ _ _ _ _ => none
  | .ethModuleReady _ => none
  | .anComplete _ => none
  | .ethTrainingComplete _ _ => none
  | .maxWaitTimerExpiry _ => none
  | .adaptConverged _ => none
  | .adaptTimeout _ => none
  | .alignLock _ _ => none
  | .alignTimeout _ => none
  | .moduleRemoved _ => none
  | .alignLoss _ => none
  | .hiBer _ => none
  | .faultReceived _ => none
  | .faultEnd _ => none
  | .ethBackoffExpiry _ => none
  | .dlkModuleReady _ => none
  | .dlkTrainingComplete _ => none
  | .dlkTrainTimeout _ _ => none
  | .dlkLanesLocked _ _ => none
  | .dlkLockTimeout _ _ => none
  | .dlkExchangeTimeout _ => none
  | .dlkBackoffExpiry _ => none
  | .dlkSlot _ _ => none
  | .dlkCapExchangeTx _ => none
  | .shutterMarkArrival _ _ _ _ => none
  | .tileLost _ _ _ _ _ _ => none
  | .dlkDataTileRx _ _ => none
  | .dlkIdleTileRx _ _ => none
  | .dlkCreditTileRx _ _ => none
  | .dlkAbortTileRx _ _ => none
  | .dlkTimeTileRx _ _ => none
  | .dlkTrainTileRx _ _ _ _ _ => none
  | .dlkCapExchangeRx _ _ => none
  | .dlkCapLaneStateRx _ _ => none
  | .dlkCapDelayUpdateRx _ _ => none
  | .dlkCapLaneTrainRx _ _ => none
  | .laneRetry _ _ => none
  | .dlkLaneRelock _ _ => none
  | .sgpioScan _ => none
  | .resetlRelease _ => none
  | .moduleInitComplete _ _ _ => none
  | .moduleIntl _ _ _ _ => none
  | .moduleFlagPoll _ _ _ _ => none
  | .frameGrantPoint _ _ _ => none
  | .cacheRefillDone _ => none
  | .cacheSpillDone _ => none
  | .frameEnd _ _ => none
  | .frameLookup _ _ _ _ => none
  | .qmResultArrival _ _ _ _ => none
  | .crossbarRound _ => none
  | .egressFrameSelect _ => none
  | .pfcFrameRx _ _ _ => none
  | .pauseFrameRx _ _ => none
  | .rxPauseExpiry _ _ => none
  | .pfcRepeatTimer _ _ => none
  | .trapFrameDelivery _ => none
  | .injectFrameDone _ => none
  | .readIndex _ _ => none
  | .writeIndex _ _ => none
  | .insert _ _ => none
  | .delete _ _ => none
  | .search _ _ => none
  | .clearHit _ _ => none
  | .tawPortGrant _ => none
  | .tawStartLimitExpiry _ => none
  | .ageingSweepVisit _ _ => none
  | .tcamScrub _ _ _ => none
  | .tcamRebuildDone _ => none
  | .tcamSelftestDone _ _ => none
  | .shadowCompareRead _ _ => none
  | .watchdogWindowEnd _ _ => none
  | .sliceTakeover => none
  | .deadlockSuspect _ _ => none
  | .avsLoopTick _ _ => none
  | .avsbusRetry _ => none
  | .xoLost => none
  | .xoRestored => none
  | .xoRdyChange _ => none
  | .warmHoldExpiry _ => none
  | .refActivityFailure _ => none
  | .freqMonitorUpdate _ _ _ _ => none
  | .driftClearExpiry _ => none
  | .qualificationTimerExpiry _ => none
  | .selectionTick _ _ => none
  | .dpllLockDwellExpiry _ => none
  | .dpllUnlock _ => none
  | .bandwidthNarrowStep _ => none
  | .frequencyLock _ => none
  | .slewComplete => none
  | .ppsinPulse _ _ => none
  | .todRxMessage _ _ => none
  | .esmcPduRx _ _ _ => none
  | .esmcTimeout _ => none
  | .esmcInfoTx _ => none
  | .ptpSyncRx _ _ => none
  | .ptpFollowUpRx _ _ => none
  | .ptpDelayReqRx _ _ => none
  | .ptpDelayRespRx _ _ => none
  | .ptpAnnounceRx _ _ _ => none
  | .ptpPdelayReqRx _ _ _ => none
  | .ptpPdelayRespRx _ _ => none
  | .ptpPdelayRespFollowUpRx _ _ => none
  | .l1SyncTlvRx _ _ _ _ => none
  | .ptpUnsupportedRx _ => none
  | .ptpSyncTx _ _ => none
  | .ptpAnnounceTx _ => none
  | .ptpDelayReqTx _ _ => none
  | .ptpPdelayReqTx _ _ => none
  | .announceReceiptTimeout _ => none
  | .syncReceiptTimeout _ => none
  | .delayRespTimeout _ => none
  | .offsetPairTimeout _ => none
  | .announceBlockRewrite _ => none
  | .stepConfirmExpiry => none
  | .withdrawalEnd _ => none
  | .ppsSecondBoundary _ _ => none
  | .ppsWidthEnd _ => none
  | .todTxStart => none
  | .rebandCheck _ => none
  | .synthLockLoss _ => none
  | .sourceSettled _ => none
  | .tdeVisitSlot _ _ _ => none
  | .tdeEdge _ _ _ _ => none
  | .tdeClaimGrant _ => none
  | .measurementWindowClose _ => none
  | .statsStartWaitExpiry _ => none
  | .calStep _ _ _ => none
  | .calNoGapExpiry _ => none
  | .delayPublication => none
  | .calApply _ => none
  | .calRestart _ => none
  | .statPeriod => none
  | .statSnap => none
  | .tsuSnap => none
  | .irqCauseWrite _ _ => none
  | .irqHoldoffExpiry _ => none
  | .irqEvqCiWrite _ => none
  | .irqEvqArm => none
  | .irqEvqLostRead => none
  | .pacDropsLoRead _ => none
  | .trapHostIdxWrite _ _ _ => none
  | .injectHostIdxWrite _ _ _ => none
  | .cpuRingEnableWrite _ _ _ => none
  | .registerWrite _ _ _ => none
  | .holdoverSpecExpiry => none
  | .bridgedChangeBack _ => none
  | .stopBathFrameDrained _ => none
  | .laneRetryBackoffExpiry _ _ => none
  | .contactSheetSaveDone _ => none

/-- Is a command well formed? -/
def Instr.wf : Instr → Bool
  | .powerOn => true
  | .supplyReset => true
  | .sysRstNAssert => true
  | .sysRstNRelease _ => true
  | .perstNAssert => true
  | .perstNRelease => true
  | .functionLevelReset => true
  | .d3hotEntry => true
  | .d0Return => true
  | .thermalTrip _ => true
  | .thermtripRelease _ => true
  | .resetAfterReply => true
  | .fatalInternalError _ _ _ => true
  | .xoInDetect _ => true
  | .imageVerificationComplete _ _ => true
  | .firmwareAlive => true
  | .fwStartFail => true
  | .supplyWarn _ => true
  | .supplyWarnClear _ => true
  | .nvInhibit _ => true
  | .nvInhibitClear _ => true
  | .supplyCriticalAux _ => true
  | .coreWarn _ => true
  | .coreWarnClear _ => true
  | .coreSag _ => true
  | .rideExit _ => true
  | .supplyCriticalCore _ => true
  | .supplyCriticalClear _ => true
  | .thermalWarn _ => true
  | .thermalWarnClear _ => true
  | .thermalCritical _ => true
  | .thermalCriticalClear _ => true
  | .wakeComplete regions => regions.all (fun x => decide (x.1 < 7) && x.2.all (fun r => r.length == 96))
  | .commandDoorbell _ packets => decide (packets.length ≤ 255) && packets.all (fun b => decide (b.length ≤ 4096))
  | .mbxRplCiWrite _ => true
  | .mbxCtrlEnableWrite _ => true
  | .inbandCommandFrame f => decide (f.payload.length ≤ 9198)
  | .sidebandWriteTransfer _ => true
  | .sidebandReadTransfer => true
  | .sidebandSclTimeout => true
  | .commandStartDeadline t _ => t != .firmware
  | .getStatus g => g.wf
  | .getResetCause g => g.wf
  | .setBootPolicy g => g.wf
  | .enterProvision g => g.wf
  | .commitConfig g => g.wf
  | .enterMaintenance g => g.wf
  | .enterQuiesce g => g.wf
  | .quiesceDrainEnd => true
  | .drainLimitExpiry => true
  | .returnService g => g.wf
  | .resetDevice g => g.wf
  | .setPowerState g => g.wf
  | .avsConfig g => g.wf
  | .deviceConfig g => g.wf
  | .getSecurityStatus g => g.wf
  | .takeOwnership g => g.wf
  | .installKey g => g.wf
  | .revokeKey g => g.wf
  | .setOwnerPolicy g => g.wf
  | .lockDevice g => g.wf
  | .setMinVersion g => g.wf
  | .retireDevice g => g.wf
  | .debugChallenge g => g.wf
  | .debugUnlock g => g.wf
  | .debugClose g => g.wf
  | .debugChallengeExpiry => true
  | .debugSessionExpiry => true
  | .portConfig g => g.wf
  | .portSetState g => g.wf
  | .portStatus g => g.wf
  | .laneMap g => g.wf
  | .laneTxEq g => g.wf
  | .laneRxEq g => g.wf
  | .laneStatus g => g.wf
  | .laneTest g => g.wf
  | .laneTestResult g => g.wf
  | .laneTestDurationExpiry _ => true
  | .dlkConfig g => g.wf
  | .dlkDelay g => g.wf
  | .dlkStatus g => g.wf
  | .classMap g => g.wf
  | .flowControl g => g.wf
  | .portDelay g => g.wf
  | .losslessBudget g => g.wf
  | .ecnConfig g => g.wf
  | .losslessStatus g => g.wf
  | .moduleRead g => g.wf
  | .moduleWrite g => g.wf
  | .moduleControl g => g.wf
  | .moduleBus g => g.wf
  | .xoConfig g => g.wf
  | .refConfig g => g.wf
  | .dpllConfig g => g.wf
  | .esmcConfig g => g.wf
  | .jumpResolve g => g.wf
  | .refStatus g => g.wf
  | .dpllStatus g => g.wf
  | .synBandTable g => g.wf
  | .synConfig g => g.wf
  | .outConfig g => g.wf
  | .ppsConfig g => g.wf
  | .todConfig g => g.wf
  | .clockStatus g => g.wf
  | .ptpClockConfig g => g.wf
  | .ptpPortConfig g => g.wf
  | .timeProperties g => g.wf
  | .stepTime g => g.wf
  | .timeStatus g => g.wf
  | .timePortStatus g => g.wf
  | .traceReport g => g.wf
  | .traceRead g => g.wf
  | .tdePin g => g.wf
  | .tdeSource g => g.wf
  | .evConfig g => g.wf
  | .intervalMeasure g => g.wf
  | .statsRun g => g.wf
  | .statsRead g => g.wf
  | .tdeStatus g => g.wf
  | .poolConfig g => g.wf
  | .bufThreshold g => g.wf
  | .poolStatus g => g.wf
  | .stopBath g => g.wf
  | .stopBathHoldExpiry _ => true
  | .egressSched g => g.wf
  | .deadlockConfig g => g.wf
  | .deadlockStatus g => g.wf
  | .sliceAssign g => g.wf
  | .sliceReturn g => g.wf
  | .sliceStatus g => g.wf
  | .mcastGroup g => g.wf
  | .mcastConfig g => g.wf
  | .tableBulkLoad g => g.wf
  | .fence g => g.wf
  | .fenceLimitExpiry _ => true
  | .tableShadow g => g.wf
  | .learnConfig g => g.wf
  | .l2PortConfig g => g.wf
  | .fdbFlush g => g.wf
  | .tcamRebuild g => g.wf
  | .tableStatus g => g.wf
  | .negStatus g => g.wf
  | .negRead g => g.wf
  | .negExport g => g.wf
  | .calSweep g => g.wf
  | .calStatus g => g.wf
  | .contactRestore g => g.wf
  | .contactStatus g => g.wf
  | .fwStatus g => g.wf
  | .fwUpdate g => g.wf
  | .fwData g => g.wf
  | .fwDataWaitExpiry _ => true
  | .fwSectorWritten _ _ _ => true
  | .opQuery g => g.wf
  | .opSuspend g => g.wf
  | .opResume g => g.wf
  | .opCancel g => g.wf
  | .opCancelOutcome _ => true
  | .opUnrecoverableError _ _ => true
  | .bulkRecordCommitted _ _ => true
  | .exportRecordCopied _ => true
  | .tracePortRecordBuilt _ => true
  | .idcode => true
  | .bypass => true
  | .sample _ => true
  | .preload _ => true
  | .extest => true
  | .dbgTrace _ => true
  | .dbgRead _ => true
  | .dbgWrite _ _ => true
  | .dbgReset => true
  | .factoryTest _ => true
  | .testLogicReset => true
  | .losAssert _ => true
  | .losClear _ => true
  | .lolAssert _ => true
  | .lolClear _ => true
  | .rxAdaptUpdate _ _ _ _ _ _ => true
  | .ethModuleReady _ => true
  | .anComplete _ => true
  | .ethTrainingComplete _ _ => true
  | .maxWaitTimerExpiry _ => true
  | .adaptConverged _ => true
  | .adaptTimeout _ => true
  | .alignLock _ _ => true
  | .alignTimeout _ => true
  | .moduleRemoved _ => true
  | .alignLoss _ => true
  | .hiBer _ => true
  | .faultReceived _ => true
  | .faultEnd _ => true
  | .ethBackoffExpiry _ => true
  | .dlkModuleReady _ => true
  | .dlkTrainingComplete _ => true
  | .dlkTrainTimeout _ _ => true
  | .dlkLanesLocked _ _ => true
  | .dlkLockTimeout _ _ => true
  | .dlkExchangeTimeout _ => true
  | .dlkBackoffExpiry _ => true
  | .dlkSlot _ _ => true
  | .dlkCapExchangeTx _ => true
  | .shutterMarkArrival _ _ _ _ => true
  | .tileLost _ _ _ _ _ _ => true
  | .dlkDataTileRx _ t => t.wf
  | .dlkIdleTileRx _ t => t.wf
  | .dlkCreditTileRx _ t => t.wf
  | .dlkAbortTileRx _ t => t.wf
  | .dlkTimeTileRx _ t => t.wf
  | .dlkTrainTileRx _ t _ _ _ => t.wf
  | .dlkCapExchangeRx _ t => t.wf
  | .dlkCapLaneStateRx _ t => t.wf
  | .dlkCapDelayUpdateRx _ t => t.wf
  | .dlkCapLaneTrainRx _ t => t.wf
  | .laneRetry _ _ => true
  | .dlkLaneRelock _ _ => true
  | .sgpioScan _ => true
  | .resetlRelease _ => true
  | .moduleInitComplete _ _ _ => true
  | .moduleIntl _ _ _ _ => true
  | .moduleFlagPoll _ _ _ _ => true
  | .frameGrantPoint _ _ _ => true
  | .cacheRefillDone _ => true
  | .cacheSpillDone _ => true
  | .frameEnd _ _ => true
  | .frameLookup _ _ _ _ => true
  | .qmResultArrival _ _ _ _ => true
  | .crossbarRound _ => true
  | .egressFrameSelect _ => true
  | .pfcFrameRx _ _ times => times.length == 8
  | .pauseFrameRx _ _ => true
  | .rxPauseExpiry _ _ => true
  | .pfcRepeatTimer _ _ => true
  | .trapFrameDelivery _ => true
  | .injectFrameDone _ => true
  | .readIndex _ _ => true
  | .writeIndex _ _ => true
  | .insert _ _ => true
  | .delete _ _ => true
  | .search _ _ => true
  | .clearHit _ _ => true
  | .tawPortGrant _ => true
  | .tawStartLimitExpiry _ => true
  | .ageingSweepVisit _ i => decide (i < 66560)
  | .tcamScrub _ lpm cls => lpm.all (fun i => decide (i < 16384)) && cls.all (fun x => decide (x.1 < 4096))
  | .tcamRebuildDone _ => true
  | .tcamSelftestDone _ failing => failing.all (fun i => decide (i < 16384))
  | .shadowCompareRead _ r => r.length == 96
  | .watchdogWindowEnd _ _ => true
  | .sliceTakeover => true
  | .deadlockSuspect _ _ => true
  | .avsLoopTick _ _ => true
  | .avsbusRetry _ => true
  | .xoLost => true
  | .xoRestored => true
  | .xoRdyChange _ => true
  | .warmHoldExpiry _ => true
  | .refActivityFailure _ => true
  | .freqMonitorUpdate _ _ _ _ => true
  | .driftClearExpiry _ => true
  | .qualificationTimerExpiry _ => true
  | .selectionTick _ _ => true
  | .dpllLockDwellExpiry _ => true
  | .dpllUnlock _ => true
  | .bandwidthNarrowStep _ => true
  | .frequencyLock _ => true
  | .slewComplete => true
  | .ppsinPulse _ _ => true
  | .todRxMessage _ _ => true
  | .esmcPduRx _ _ _ => true
  | .esmcTimeout _ => true
  | .esmcInfoTx _ => true
  | .ptpSyncRx _ _ => true
  | .ptpFollowUpRx _ _ => true
  | .ptpDelayReqRx _ _ => true
  | .ptpDelayRespRx _ _ => true
  | .ptpAnnounceRx _ _ _ => true
  | .ptpPdelayReqRx _ _ _ => true
  | .ptpPdelayRespRx _ _ => true
  | .ptpPdelayRespFollowUpRx _ _ => true
  | .l1SyncTlvRx _ _ _ _ => true
  | .ptpUnsupportedRx _ => true
  | .ptpSyncTx _ _ => true
  | .ptpAnnounceTx _ => true
  | .ptpDelayReqTx _ _ => true
  | .ptpPdelayReqTx _ _ => true
  | .announceReceiptTimeout _ => true
  | .syncReceiptTimeout _ => true
  | .delayRespTimeout _ => true
  | .offsetPairTimeout _ => true
  | .announceBlockRewrite _ => true
  | .stepConfirmExpiry => true
  | .withdrawalEnd _ => true
  | .ppsSecondBoundary _ _ => true
  | .ppsWidthEnd _ => true
  | .todTxStart => true
  | .rebandCheck _ => true
  | .synthLockLoss _ => true
  | .sourceSettled _ => true
  | .tdeVisitSlot _ _ _ => true
  | .tdeEdge _ _ _ _ => true
  | .tdeClaimGrant _ => true
  | .measurementWindowClose _ => true
  | .statsStartWaitExpiry _ => true
  | .calStep _ _ ws => ws.all (fun x => decide (x.2 < 2 ^ 32))
  | .calNoGapExpiry _ => true
  | .delayPublication => true
  | .calApply _ => true
  | .calRestart _ => true
  | .statPeriod => true
  | .statSnap => true
  | .tsuSnap => true
  | .irqCauseWrite _ _ => true
  | .irqHoldoffExpiry _ => true
  | .irqEvqCiWrite _ => true
  | .irqEvqArm => true
  | .irqEvqLostRead => true
  | .pacDropsLoRead _ => true
  | .trapHostIdxWrite _ _ _ => true
  | .injectHostIdxWrite _ _ _ => true
  | .cpuRingEnableWrite _ _ _ => true
  | .registerWrite _ _ _ => true
  | .holdoverSpecExpiry => true
  | .bridgedChangeBack _ => true
  | .stopBathFrameDrained _ => true
  | .laneRetryBackoffExpiry _ _ => true
  | .contactSheetSaveDone _ => true

end Sys2Proof
end

