-- ==== Sys2Proof/Tests/Slice0.lean ====
section
/-! SUPPORT. Tests: ill-formed commands are refused by `Instr.wf`; the hypotheses of the statements are met by concrete states and operands; small facts that the spec gives. Expected values come from the spec or from the published algorithms. -/

namespace Sys2Proof.Tests

open Sys2Proof Sys2Proof.Machine

set_option maxRecDepth 100000
set_option Elab.async false

/-! ### States and packets to test with -/

/-- After reset, in a mode and a lifecycle, with the mailbox enabled. -/
def at_ (m : Mode) (l : Lifecycle) : State :=
  let s := State.reset
  { s with sys := { s.sys with mode := m }, nv := { s.nv with lifecycle := l }, mbx := { s.mbx with enable := true } }

/-- In RUN, BLANK. -/
def sRun : State := at_ .run .blank

/-- A plain packet over the command ring with these parameters. -/
def pkt (params : Bytes) : Gcp :=
  { origin := .pcie, version := 4, flags := 0, sequence := 1, paramLen := BitVec.ofNat 16 params.length, keySlot := 0,
    reserved := 0, handle := 0, counter := 0, timeout := 0, paramCrc := BitVec.ofNat 32 (crc32 params), params := params, tag := [] }

/-- A key to test with. -/
def k0 : Bytes := List.replicate 32 0x5A

/-- A packet tagged under it. -/
def tagged (op : Nat) (params : Bytes) : Gcp :=
  let g : Gcp := { pkt params with flags := 1, counter := 1048576 }
  { g with tag := Crypto.tag16 k0 (gcpBytes op g) }

/-- The same states with the key in slot 0. -/
def owned (m : Mode) (l : Lifecycle) : State := let s := at_ m l; { s with nv := { s.nv with keys := [(0, k0)] } }

/-- The operands of a port configured for 800GBASE-R. -/
def cfg63 : PortCfg :=
  { configured := true, dalom := false, speed := 5, lanes := 4, fec := 2, media := 0, an := false, mgmt := true, maxFrame := 9216 }

/-- A port configured, in a state. -/
def onPort (p : Nat) (st : PortSt) (s : State) : State := modPort p (fun r => { r with cfg := cfg63, st := st }) s

/-- A Dalom port in a state. -/
def onDlk (p : Nat) (st : PortSt) (s : State) : State := modPort p (fun r => { r with cfg := { cfg63 with dalom := true }, st := st }) s

/-- A state with one operation, of handle 7. -/
def withOp (typ : Nat) (st : OpState) (w : Work) (s : State) : State :=
  { s with ops := [{ handle := 7, typ := typ, state := st, progress := 0, finalStatus := 0, reason := .none, transport := .pcie, origin := some .pcie,
                     tagKey := none, elapsed := 0, since := 0, units := 1, nvWrite := false, work := w }] }

/-- A firmware update over FW_DATA. -/
def workFw (source size written : Nat) (buffer : Bytes) : Work :=
  .fw { target := 2, source := source, size := size, addr := 0, crc := 0, accepted := 0, buffer := buffer, written := written, crcNow := 0,
        lastData := 0, version := 0 }

/-- A small image, valid. -/
def factsOk : ImageFacts := { header := true, version := 1, size := 65536, vendorOk := true, ownerKey := none }

/-! ### Ill-formed commands, one for each check -/

theorem wf_params : Instr.wf (.getStatus { pkt [] with params := zeros 4049 }) = false := by decide +kernel
theorem wf_tag : Instr.wf (.opCancel { pkt [] with tag := zeros 15 }) = false := by decide +kernel
theorem wf_tile : Instr.wf (.dlkDataTileRx 0 ⟨0, 0, 0, false, 0, zeros 639, 0, [], 0⟩) = false := by decide +kernel
theorem wf_train_tile : Instr.wf (.dlkTrainTileRx 0 ⟨0, 0, 0, false, 0, zeros 641, 0, [], 0⟩ true 0 0) = false := by decide +kernel
theorem wf_wake_table : Instr.wf (.wakeComplete [(7, [])]) = false := by decide +kernel
theorem wf_wake_record : Instr.wf (.wakeComplete [(6, [zeros 95])]) = false := by decide +kernel
theorem wf_doorbell_count : Instr.wf (.commandDoorbell 1 (List.replicate 256 [])) = false := by decide +kernel
theorem wf_doorbell_entry : Instr.wf (.commandDoorbell 1 [zeros 4097]) = false := by decide +kernel
theorem wf_inband : Instr.wf (.inbandCommandFrame { port := 0, dst := 0, src := 0, vlan := none, payload := zeros 9199 }) = false := by decide +kernel
theorem wf_deadline : Instr.wf (.commandStartDeadline .firmware 0) = false := by decide +kernel
theorem wf_pfc : Instr.wf (.pfcFrameRx 0 0xFF (List.replicate 7 0)) = false := by decide +kernel
theorem wf_ageing : Instr.wf (.ageingSweepVisit 0 66560) = false := by decide +kernel
theorem wf_scrub_lpm : Instr.wf (.tcamScrub 0 [16384] []) = false := by decide +kernel
theorem wf_scrub_cls : Instr.wf (.tcamScrub 0 [] [(4096, [])]) = false := by decide +kernel
theorem wf_selftest : Instr.wf (.tcamSelftestDone 0 [16384]) = false := by decide +kernel
theorem wf_shadow : Instr.wf (.shadowCompareRead 0 (zeros 95)) = false := by decide +kernel
theorem wf_cal : Instr.wf (.calStep 0 true [(0, 2 ^ 32)]) = false := by decide +kernel
theorem wf_accepts : Instr.wf (.getStatus (pkt (zeros 4048))) = true ∧ Instr.wf (.ageingSweepVisit 0 66559) = true ∧
    Instr.wf (.calStep 0 true [(0, 2 ^ 32 - 1)]) = true := by decide +kernel

/-! ### The machine and the protocol -/

/-- A device whose reset pin is low. -/
def sDown : State := { sRun with sys := { sRun.sys with sysRst := true } }

theorem witness_StepRunsTheFrontCommand : (sRun.push .powerOn).pending = [Instr.powerOn] := by decide +kernel

theorem witness_EmptyQueuePassesOnePeriod :
    (sDown.pending = [] ∧ sDown.held = true) ∧
    (sRun.pending = [] ∧ sRun.held = false ∧ (sRun.dpll 0).steer = 0 ∧ (sRun.dpll 0).slew = none) := by decide +kernel

theorem witness_NoCommandTouchesTheQueue : exec .xoLost (sRun.push .powerOn) = .next (sRun.push .powerOn) := rfl

theorem witness_KeysFitTheLifecycleAlways : KeysFit State.reset ∧ ∃ t, step State.reset = .next t := ⟨rfl, _, rfl⟩

theorem witness_LifecycleNeverGoesBack : ∃ t, step (owned .run .locked) = .next t := ⟨_, rfl⟩

theorem witness_OnlyPacketsReachTheOwnersPart :
    opcodeOf .xoLost = none ∧ runsOthers .xoLost = false ∧ exec .xoLost sRun = .next sRun := ⟨rfl, rfl, rfl⟩

/-- Port P63 up and enabled for management, with a device MAC. -/
def sMgmt : State :=
  let s := onPort 63 .up sRun
  { s with sys := { s.sys with deviceMac := 0x020000000001, mgmtVid := 4094 } }

/-- A packet in a frame on P63 with the management VID. -/
def inPkt : Gcp := { pkt [] with origin := .inband 63 0x020000000002 (some 4094) }

/-- A packet over the sideband. -/
def sbPkt : Gcp := { pkt [] with origin := .sideband }

/-- What `Arrives` asks for, as a test. -/
def canArrive (op : Nat) (g : Gcp) (s : State) : Bool :=
  let u := (landed op g s).2
  !s.held && (landed op g s).1 && u.gcp.pcie.waiting.isEmpty && u.gcp.inband.waiting.isEmpty && u.gcp.sideband.waiting.isEmpty &&
  u.core.poolsHold.isNone && (u.gcp.chan (via g.origin)).due.isNone &&
  (match g.origin with
   | .pcie => !u.sys.perst && !u.sys.d3hot && u.mbx.enable && u.mbx.held.isEmpty && u.mbx.replyRoom
   | .inband p src vlan =>
     let f : InbandFrame := { port := p, dst := s.sys.deviceMac, src := src, vlan := vlan, payload := gcpBytes op g }
     isCommandFrame f u && !inbandDiscards f (rateTick p.val u).1 (rateTick p.val u).2
   | .sideband => decide (32 ≤ (gcpBytes op g).length ∧ (gcpBytes op g).length ≤ 4096))

theorem arrives_of {op : Nat} {g : Gcp} {s : State} (h : canArrive op g s = true) : Arrives op g s := by
  unfold canArrive at h
  unfold Arrives
  simp only [Bool.and_eq_true, Option.isNone_iff_eq_none, List.isEmpty_iff, Bool.not_eq_true', and_assoc] at h
  obtain ⟨h1, h2, h3, h4, h5, h6, h7, h8⟩ := h
  refine ⟨h1, h2, h3, h4, h5, h6, h7, ?_⟩
  cases ho : g.origin <;> simp only [ho] at h8 ⊢ <;> simpa [and_assoc] using h8

/-- What `Accepted` asks for, as a test. -/
def passes (d : OpDef) (c : Cmd) (s : State) : Bool :=
  [s.gcp.failing.isNone, (early (some d) c).isNone, (cached? c s).isNone, (authFail d c s).isNone, (midFail d c s).isNone,
   (d.check c s).isNone].all (· == true)

theorem accepted_of {d : OpDef} {c : Cmd} {s : State} (h : passes d c s = true) : Accepted d c s := by
  simpa [passes, Accepted] using h

theorem witness_arrives_pcie : Arrives 0x0100 (pkt []) sRun := arrives_of (by decide +kernel)

theorem witness_arrives_inband : Arrives 0x0100 inPkt sMgmt := arrives_of (by decide +kernel)

theorem witness_arrives_sideband : Arrives 0x0100 sbPkt sRun := arrives_of (by decide +kernel)

theorem witness_ArrivingPacketIsJudgedAtOnce :
    opcodeOf (.getStatus (pkt [])) = some (0x0100, pkt []) ∧ (1 : Byte).toNat = (sRun.mbx.cmdPi + 1) % 256 := by decide +kernel

/-- A command as the ring brings it. -/
def cmd (op : Nat) (g : Gcp) : Cmd := arrivedCmd op g

/-- A packet under a slot, with a counter and a tag that does not verify. -/
def badTag : Gcp := { pkt [] with flags := 1, counter := 1, tag := zeros 16 }

theorem witness_JudgedInTheOrderOfTheSteps :
    ((cmd 0x0100 { pkt [] with version := 3 }).version ≠ 4) ∧
    (let c := cmd 0x0100 { pkt [] with paramLen := 4049 }; c.version = 4 ∧ 4048 < c.len) ∧
    (let c : Cmd := ⟨.sideband, gcpBytes 0x0100 { pkt [] with paramLen := 1 }⟩; c.version = 4 ∧ c.len ≤ 4048 ∧ c.pkt.length < c.needs) ∧
    (let c := cmd 0x0100 { pkt [] with paramCrc := 1 }; c.version = 4 ∧ c.len ≤ 4048 ∧ c.needs ≤ c.pkt.length ∧ crc32 c.params ≠ c.crc) ∧
    (let c := cmd 0x0201 { pkt [] with origin := .inband 0 0 none }
     c.version = 4 ∧ c.len ≤ 4048 ∧ c.needs ≤ c.pkt.length ∧ crc32 c.params = c.crc ∧ transportOk opTakeOwnership c.origin = false) ∧
    (let c := cmd 0x0100 (pkt [0])
     c.version = 4 ∧ c.len ≤ 4048 ∧ c.needs ≤ c.pkt.length ∧ crc32 c.params = c.crc ∧ transportOk opGetStatus c.origin = true ∧ opGetStatus.lenOk c.len = false) ∧
    (let c := cmd 0x0100 { pkt [] with reserved := 1 }
     c.version = 4 ∧ c.len ≤ 4048 ∧ c.needs ≤ c.pkt.length ∧ crc32 c.params = c.crc ∧ transportOk opGetStatus c.origin = true ∧
       opGetStatus.lenOk c.len = true ∧ fieldsOk opGetStatus c = false) ∧
    (let c := cmd 0x0107 (pkt [2]); let s := owned .maintenance .owned
     early (some opReturnService) c = none ∧ cached? c s = none ∧ c.auth = false ∧ authNeeded opReturnService c s = true) ∧
    (let c := cmd 0x0100 badTag
     early (some opGetStatus) c = none ∧ cached? c sRun = none ∧ c.auth = true ∧ keyOf sRun c.slot = none) ∧
    (let c := cmd 0x0100 badTag; let s := owned .run .owned
     early (some opGetStatus) c = none ∧ cached? c s = none ∧ c.auth = true ∧ keyOf s c.slot = some k0 ∧
       Crypto.tag16 k0 (c.pkt.take (32 + c.len)) ≠ c.tag) ∧
    (let c := cmd 0x0107 (pkt [2])
     early (some opReturnService) c = none ∧ cached? c sRun = none ∧ authFail opReturnService c sRun = none ∧
       midFail opReturnService c sRun = some (0x0300, [])) ∧
    (let c := cmd 0x0107 (pkt [3]); let s := at_ .maintenance .blank
     early (some opReturnService) c = none ∧ cached? c s = none ∧ authFail opReturnService c s = none ∧ midFail opReturnService c s = none ∧
       opReturnService.check c s = some (0x0103, [])) := by decide +kernel

/-- A command that passes steps 1 to 13 or stops at one of 9 to 13. -/
def stepsOf (d : OpDef) (c : Cmd) (s : State) : List Bool :=
  [(c.auth || d.nMark) && s.pwr.nvInhibit,
   c.auth && !(decide (lastCounter s c.slot < c.counter) && decide (c.counter ≤ lastCounter s c.slot + 2 ^ 20)),
   d.lifeOk c s, d.modeOk c s, sleepRefuses d c s, d.long && decide (16 ≤ liveOps s), d.free c s]

theorem witness_MiddleStepsInOrder :
    (stepsOf opStepTime (cmd 0x050F (pkt [])) { sRun with pwr := { sRun.pwr with nvInhibit := true } }).head? = some true ∧
    (let c := cmd 0x0100 { badTag with counter := 1048577 }
     stepsOf opGetStatus c sRun = [false, true, true, true, false, false, true]) ∧
    stepsOf opReturnService (cmd 0x0107 (pkt [2])) (at_ .maintenance .retired) = [false, false, false, true, false, false, true] ∧
    stepsOf opReturnService (cmd 0x0107 (pkt [2])) sRun = [false, false, true, false, false, false, true] ∧
    stepsOf opPortStatus (cmd 0x0302 (pkt [0])) { sRun with pwr := { sRun.pwr with state := .sleep } } = [false, false, true, true, true, false, true] ∧
    stepsOf opFence (cmd 0x0701 (pkt [])) { sRun with ops := (List.range 16).flatMap (fun _ => (withOp 9 .running (.fence [] 0 0) sRun).ops) } =
      [false, false, true, true, false, true, true] ∧
    stepsOf opTraceReport (cmd 0x0413 (pkt [])) (withOp 8 .running (.trace { built := [], key := [] }) sRun) =
      [false, false, true, true, false, false, false] ∧
    stepsOf opGetStatus (cmd 0x0100 { badTag with counter := 1048576 }) sRun = [false, false, true, true, false, false, true] := by decide +kernel

/-! ### Accepted packets of every opcode -/

/-- Does a row's packet arrive over the command ring and pass steps 1 to 14? -/
def ready (i : Instr) (s : State) : Bool :=
  match opcodeOf i with
  | none => false
  | some (op, g) =>
    match defOf op with
    | none => false
    | some d =>
      g.origin == .pcie && canArrive op g s && passes d (arrivedCmd op g) (arrivedState op g s)

/-- A row that is ready meets the hypotheses of `Carries`. -/
theorem ready_sound (i : Instr) (s : State) (h : ready i s = true) :
    ∃ op g d, opcodeOf i = some (op, g) ∧ defOf op = some d ∧ Arrives op g s ∧ Accepted d (arrivedCmd op g) (arrivedState op g s) := by
  unfold ready at h
  split at h
  · cases h
  · rename_i op g ho
    split at h
    · cases h
    · rename_i d hd
      simp only [Bool.and_eq_true] at h
      exact ⟨op, g, d, ho, hd, arrives_of h.1.2, accepted_of h.2⟩

/-- In SAFE, verification ended, image B valid, XO_IN there. -/
def sValid : State := let s := at_ .safe .blank; { s with sys := { s.sys with verifying := false, imgB := { s.sys.imgB with state := 1 } }, tim := { s.tim with xo := { s.tim.xo with present := true } } }
/-- Port P63 configured. -/
def sPort : State := modPort 63 (fun r => { r with cfg := cfg63 }) (sRun)
/-- In MAINTENANCE with forwarding paused. -/
def sPaused : State := let s := at_ .maintenance .blank; { s with sys := { s.sys with paused := true } }
/-- Port P00 a Dalom port. -/
def sDlk : State := modPort 0 (fun r => { r with cfg := { cfg63 with dalom := true } }) (sRun)
/-- A JUMP pending. -/
def sJump : State := modDpll 0 (fun q => { q with jump := some 65536 }) (at_ .coast .blank)
/-- SYN-O0 with a host band table. -/
def sBand : State := modSyn 5 (fun y => { y with table := some [{ code := 0, valid := true, tempco := 0, minK := 2400000, maxK := 2600000 }] }) (sRun)
/-- A grandmaster. -/
def sGm : State := modTime (fun t => { t with clockType := 0 }) (sRun)
/-- Time of day set. -/
def sTod : State := let s := sRun; { s with clk := { s.clk with todSet := true } }
/-- A key in slot 1. -/
def sKey1 : State := let s := sRun; { s with nv := { s.nv with keys := [(1, zeros 32)] } }
/-- A report built. -/
def sReport : State := modTime (fun t => { t with report := some (zeros 14416) }) (sRun)
/-- Slice 16 dead, no spare. -/
def sDead : State := modSlice 16 (fun x => { x with st := .dead }) (let s := at_ .maintenance .blank; { s with core := { s.core with spare := none } })

theorem witness_SystemOpcodesDoWhatTheySay : ([
    (.getStatus (pkt (zeros 0)), sRun),
    (.getResetCause (pkt (zeros 0)), sRun),
    (.setBootPolicy (pkt (zeros 2)), at_ .safe .blank),
    (.enterProvision (pkt ([0])), sValid),
    (.commitConfig (tagged 0x104 []), owned .provision .owned),
    (.enterMaintenance (pkt (zeros 1)), sRun),
    (.enterQuiesce (pkt (zeros 8)), sRun),
    (.returnService (pkt (zeros 1)), at_ .maintenance .blank),
    (.resetDevice (pkt (zeros 1)), sRun),
    (.setPowerState (pkt (zeros 44)), sRun),
    (.avsConfig (pkt (le 2 700 ++ le 2 850 ++ zeros 4)), sRun),
    (.deviceConfig (pkt ([2, 0, 0, 0, 0, 1] ++ le 2 4094)), at_ .provision .blank)] : List (Instr × State)).all (fun x => ready x.1 x.2) = true := by decide +kernel

theorem witness_SecurityOpcodesDoWhatTheySay : ([
    (.getSecurityStatus (pkt (zeros 0)), sRun),
    (.takeOwnership (pkt (zeros 84)), at_ .safe .blank),
    (.revokeKey (tagged 0x203 [3, 0, 0, 0]), owned .maintenance .locked),
    (.setOwnerPolicy (tagged 0x204 (zeros 52)), owned .provision .owned),
    (.lockDevice (tagged 0x205 []), owned .provision .owned),
    (.setMinVersion (tagged 0x206 (le 4 0)), owned .provision .locked),
    (.retireDevice (pkt (zeros 0)), at_ .safe .blank),
    (.debugChallenge (pkt ([3])), at_ .provision .blank),
    (.debugClose (pkt (zeros 0)), sRun)] : List (Instr × State)).all (fun x => ready x.1 x.2) = true := by decide +kernel

theorem witness_PortAndLaneOpcodesDoWhatTheySay : ([
    (.portConfig (pkt ([63, 0, 5, 4, 2, 0, 0, 0] ++ le 2 9216 ++ zeros 2)), sRun),
    (.portSetState (pkt (zeros 2)), sRun),
    (.portStatus (pkt (zeros 1)), sRun),
    (.laneMap (pkt ([63, 0, 3, 2, 1, 0, 3, 2, 1, 0, 15, 0])), sRun),
    (.laneTxEq (pkt (le 2 255 ++ [1, 0, 0, 127, 0, 0])), sPort),
    (.laneRxEq (pkt (le 2 255 ++ [3, 0, 0] ++ zeros 15)), sPort),
    (.laneStatus (pkt (zeros 2)), sRun),
    (.laneTest (pkt ([63, 2, 0, 0] ++ le 4 3600000)), sPaused),
    (.laneTestResult (pkt (zeros 1)), at_ .maintenance .blank)] : List (Instr × State)).all (fun x => ready x.1 x.2) = true := by decide +kernel

theorem witness_LinkAndModuleOpcodesDoWhatTheySay : ([
    (.dlkConfig (pkt ([0, 4, 3, 0])), sDlk),
    (.dlkDelay (pkt ([0, 0, 0, 0] ++ leInt 4 10000000 ++ zeros 8)), sDlk),
    (.dlkStatus (pkt (zeros 1)), sRun),
    (.classMap (pkt (zeros 84)), sRun),
    (.flowControl (pkt ([63, 1, 0, 0, 0, 1, 2, 3, 4, 5, 6, 7] ++ le 4 2048)), sPort),
    (.portDelay (pkt (zeros 8)), sRun),
    (.losslessBudget (pkt (zeros 16)), at_ .provision .blank),
    (.ecnConfig (pkt (zeros 20)), sRun),
    (.losslessStatus (pkt (zeros 1)), sRun),
    (.moduleControl (pkt (zeros 4)), sRun),
    (.moduleBus (pkt ([0x77, 1, 0x70, 0, 0x70, 0, 0x70, 0, 0x70, 0, 0x70, 0, 0x70, 0, 0x70, 0])), at_ .provision .blank)] : List (Instr × State)).all (fun x => ready x.1 x.2) = true := by decide +kernel

theorem witness_ClockOpcodesDoWhatTheySay : ([
    (.xoConfig (pkt (zeros 12)), sRun),
    (.refConfig (pkt ([0, 1, 0, 0] ++ le 4 1000 ++ [8, 15] ++ le 2 3600 ++ zeros 20)), sRun),
    (.dpllConfig (pkt (zeros 48)), sRun),
    (.esmcConfig (pkt (zeros 4)), sRun),
    (.jumpResolve (pkt ([])), sJump),
    (.refStatus (pkt (zeros 1)), sRun),
    (.dpllStatus (pkt (zeros 1)), sRun),
    (.synBandTable (pkt ([5, 1] ++ zeros 6 ++ [0, 1, 0, 0] ++ le 4 2400000 ++ le 4 2600000 ++ zeros 4)), sRun),
    (.synConfig (pkt ([5, 0, 0, 0] ++ le 4 2500000000 ++ zeros 4)), sBand),
    (.outConfig (pkt ([7, 1, 5, 0] ++ le 4 20 ++ zeros 12)), sRun),
    (.ppsConfig (pkt (zeros 12)), sRun),
    (.todConfig (pkt (zeros 8)), sRun),
    (.clockStatus (pkt (zeros 0)), sRun)] : List (Instr × State)).all (fun x => ready x.1 x.2) = true := by decide +kernel

theorem witness_TimeOpcodesDoWhatTheySay : ([
    (.ptpClockConfig (pkt (zeros 32)), at_ .provision .blank),
    (.ptpPortConfig (pkt ([63, 33, 0, 0, 0x7F, 0x7F, 0x7F, 0x7F, 10] ++ zeros 11 ++ leInt 4 (-10000000) ++ zeros 8)), sRun),
    (.timeProperties (pkt (zeros 8)), sGm),
    (.stepTime (pkt ([1, 0, 0, 0] ++ le 8 1 ++ zeros 4)), sTod),
    (.timeStatus (pkt (zeros 0)), sRun),
    (.timePortStatus (pkt (zeros 1)), sRun),
    (.traceReport (pkt ([])), sKey1),
    (.traceRead (pkt (le 4 10384 ++ le 2 4032 ++ zeros 2)), sReport)] : List (Instr × State)).all (fun x => ready x.1 x.2) = true := by decide +kernel

theorem witness_MeasurementOpcodesDoWhatTheySay : ([
    (.tdePin (pkt (zeros 8)), sRun),
    (.tdeSource (pkt (zeros 8)), sRun),
    (.evConfig (pkt (zeros 8)), sRun),
    (.intervalMeasure (pkt ([7, 0xFE, 81, 16] ++ le 4 0 ++ le 4 100000 ++ le 2 10000 ++ zeros 2)), sRun),
    (.statsRun (pkt ([0xFF, 0xFE, 68, 1] ++ le 4 0 ++ zeros 8 ++ le 4 16777216)), sRun),
    (.statsRead (pkt (le 4 7)), withOp 6 .running (.fence [] 0 0) sRun),
    (.tdeStatus (pkt (zeros 0)), sRun)] : List (Instr × State)).all (fun x => ready x.1 x.2) = true := by decide +kernel

theorem witness_CoreOpcodesDoWhatTheySay : ([
    (.poolConfig (pkt (zeros 24)), at_ .provision .blank),
    (.bufThreshold (pkt (zeros 36)), sRun),
    (.poolStatus (pkt (zeros 0)), sRun),
    (.stopBath (pkt ([1, 0xFF, 63, 0xFF] ++ le 4 60000 ++ zeros 4)), sRun),
    (.egressSched (pkt (zeros 24)), sRun),
    (.deadlockConfig (pkt (zeros 4)), sRun),
    (.deadlockStatus (pkt (zeros 0)), sRun),
    (.sliceAssign (pkt ([1, 0, 2, 3, 4, 5, 6, 7, 8, 9, 10, 11, 12, 13, 14, 15, 0xFF, 0, 0, 0])), at_ .provision .blank),
    (.sliceReturn (pkt ([16, 0, 0, 0])), sDead),
    (.sliceStatus (pkt (zeros 1)), sRun),
    (.mcastGroup (pkt (zeros 8)), sRun),
    (.mcastConfig (pkt (zeros 4)), sRun)] : List (Instr × State)).all (fun x => ready x.1 x.2) = true := by decide +kernel

theorem witness_TableOpcodesDoWhatTheySay : ([
    (.tableBulkLoad (pkt ([6, 4, 0, 0] ++ le 4 1 ++ zeros 16 ++ zeros 96)), sRun),
    (.fence (pkt (zeros 4)), sRun),
    (.tableShadow (pkt (zeros 24)), sRun),
    (.learnConfig (pkt (zeros 12)), sRun),
    (.l2PortConfig (pkt ([63, 1] ++ le 2 4094 ++ zeros 4)), sRun),
    (.fdbFlush (pkt (zeros 4)), sRun),
    (.tcamRebuild (pkt (zeros 4)), at_ .provision .blank),
    (.tableStatus (pkt (zeros 1)), sRun)] : List (Instr × State)).all (fun x => ready x.1 x.2) = true := by decide +kernel

theorem witness_NegativeAndCalibrationOpcodes : ([
    (.negStatus (pkt (zeros 0)), sRun),
    (.negRead (pkt (zeros 4 ++ le 2 62 ++ zeros 2)), sRun),
    (.negExport (pkt (zeros 24)), sRun),
    (.calSweep (pkt (le 2 355 ++ le 2 1 ++ zeros 4)), sRun),
    (.calStatus (pkt (zeros 4)), sRun),
    (.contactStatus (pkt (zeros 0)), sRun)] : List (Instr × State)).all (fun x => ready x.1 x.2) = true := by decide +kernel

theorem witness_FirmwareAndOperationOpcodes : ([
    (.fwStatus (pkt (zeros 0)), sRun),
    (.fwUpdate (pkt ([2, 0, 0, 0] ++ le 4 65536 ++ zeros 16)), sRun),
    (.fwData (pkt (le 4 7 ++ le 4 0 ++ [0xAB])), withOp 1 .running (workFw 1 1 0 []) sRun),
    (.opQuery ({ pkt [] with handle := 7 }), withOp 9 .running (.fence [] 0 0) sRun),
    (.opSuspend ({ pkt [] with handle := 7 }), withOp 1 .running (workFw 1 1 0 []) sRun),
    (.opResume ({ pkt [] with handle := 7 }), withOp 9 .running (.fence [] 0 0) sRun),
    (.opCancel ({ pkt [] with handle := 7 }), withOp 9 .running (.fence [] 0 0) sRun)] : List (Instr × State)).all (fun x => ready x.1 x.2) = true := by decide +kernel


/-! ### A key wrapped under K0 (R104), its AES evaluated by tables that the kernel checks first -/

/-- Entry `b` of a table of bytes held in one number. -/
def look (t : Nat) (b : Byte) : Byte := BitVec.ofNat 8 (t >>> (8 * b.toNat))

/-- The inverse S-box, and multiplication by 9, 11, 13 and 14. -/
def tabI : Nat :=
  0x7d0c2155631469e126d677ba7e042b17619953833cbbebc8b0f52aae4d3be0a0ef9cc9939f7ae52d0d4ab519a97f51605fec8027591012b131c7078833a8dd1ff45acd78fec0db9a2079d2c64b3e56fc1bbe18aa0e62b76f89c5291d711af1476edf751ce837f9e28535ade72274ac9673e6b4f0cecff297eadc674f4111913a6b8a130103bdafc1020f3fca8f1e2cd00645b3b80558e4f70ad3bc8c00abd890849d8da75746155edab9edfd5048706c92b6655dcc5ca4d41698688664f6f87225d18b6d49a25b76b224d92866a12e084ec3fa420b954cee3d23c2a632947b54cbe9dec444438e3487ff2f9b8239e37cfbd7f3819ea340bf38a53630d56a0952
def tab9 : Nat :=
  0x464f545d626b70790e071c152a233831d6dfc4cdf2fbe0e99e978c85bab3a8a17d746f6659504b42353c272e1118030aede4fff6c9c0dbd2a5acb7be8188939a3039222b141d060f78716a635c554e47a0a9b2bb848d969fe8e1faf3ccc5ded70b0219102f263d34434a5158676e757c9b928980bfb6ada4d3dac1c8f7fee5ecaaa3b8b18e879c95e2ebf0f9c6cfd4dd3a3328211e170c05727b6069565f444d9198838ab5bca7aed9d0cbc2fdf4efe60108131a252c373e49405b526d647f76dcd5cec7f8f1eae3949d868fb0b9a2ab4c455e5768617a73040d161f2029323be7eef5fcc3cad1d8afa6bdb48b829990777e656c535a41483f362d241b120900
def tab11 : Nat :=
  0xa3a8b5be8f849992fbf0ede6d7dcc1ca1318050e3f3429224b405d56676c717ad8d3cec5f4ffe2e9808b969daca7bab168637e75444f5259303b262d1c170a01555e434879726f640d061b10212a373ce5eef3f8c9c2dfd4bdb6aba0919a878c2e2538330209141f767d606b5a514c479e958883b2b9a4afc6cdd0dbeae1fcf7545f424978736e650c071a11202b363de4eff2f9c8c3ded5bcb7aaa1909b868d2f2439320308151e777c616a5b504d469f948982b3b8a5aec7ccd1daebe0fdf6a2a9b4bf8e859893faf1ece7d6ddc0cb1219040f3e3528234a415c57666d707bd9d2cfc4f5fee3e8818a979cada6bbb069627f74454e5358313a272c1d160b00
def tab13 : Nat :=
  0x979a8d80a3aeb9b4fff2e5e8cbc6d1dc474a5d50737e69642f2235381b16010c2c21363b1815020f44495e53707d6a67fcf1e6ebc8c5d2df94998e83a0adbab7faf7e0edcec3d4d9929f8885a6abbcb12a27303d1e130409424f5855767b6c61414c5b5675786f622924333e1d10070a919c8b86a5a8bfb2f9f4e3eecdc0d7da4d40575a7974636e25283f32111c0b069d90878aa9a4b3bef5f8efe2c1ccdbd6f6fbece1c2cfd8d59e938489aaa7b0bd262b3c31121f08054e4354597a77606d202d3a3714190e034845525f7c71666bf0fdeae7c4c9ded39895828faca1b6bb9b96818cafa2b5b8f3fee9e4c7caddd04b46515c7f726568232e3934171a0d00
def tab14 : Nat :=
  0x8d83919fb5bba9a7fdf3e1efc5cbd9d76d63717f555b49471d13010f252b393756584a446e60727c26283a341e10020cb6b8aaa48e80929cc6c8dad4fef0e2ec202e3c321816040a505e4c426866747ac0cedcd2f8f6e4eab0beaca28886949afbf5e7e9c3cddfd18b859799b3bdafa11b150709232d3f316b657779535d4f41ccc2d0def4fae8e6bcb2a0ae848a98962c22303e141a08065c52404e646a787617190b052f21333d67697b755f51434df7f9ebe5cfc1d3dd87899b95bfb1a3ad616f7d735957454b111f0d032927353b818f9d93b9b7a5abf1ffede3c9c7d5dbbab4a6a8828c9e90cac4d6d8f2fceee05a544648626c7e702a243638121c0e00

theorem look_I (b : Byte) : Crypto.invSbox b = look tabI b := by revert b; decide +kernel
theorem look_9 (b : Byte) : Crypto.gmul b 9 = look tab9 b := by revert b; decide +kernel
theorem look_11 (b : Byte) : Crypto.gmul b 11 = look tab11 b := by revert b; decide +kernel
theorem look_13 (b : Byte) : Crypto.gmul b 13 = look tab13 b := by revert b; decide +kernel
theorem look_14 (b : Byte) : Crypto.gmul b 14 = look tab14 b := by revert b; decide +kernel

/-- The inverse of MixColumns by the tables. -/
def mixT (c : Bytes) : Bytes :=
  let a := byteAt c
  [look tab14 (a 0) ^^^ look tab11 (a 1) ^^^ look tab13 (a 2) ^^^ look tab9 (a 3),
   look tab9 (a 0) ^^^ look tab14 (a 1) ^^^ look tab11 (a 2) ^^^ look tab13 (a 3),
   look tab13 (a 0) ^^^ look tab9 (a 1) ^^^ look tab14 (a 2) ^^^ look tab11 (a 3),
   look tab11 (a 0) ^^^ look tab13 (a 1) ^^^ look tab9 (a 2) ^^^ look tab14 (a 3)]

theorem mixT_eq (c : Bytes) : Crypto.invMixColumn c = mixT c := by
  simp only [Crypto.invMixColumn, mixT, look_9, look_11, look_13, look_14]

/-- The inverse cipher by the tables, from its round keys. -/
def decT (ks : List Bytes) (block : Bytes) : Bytes :=
  let s := (List.range 13).foldl (fun s r =>
    (List.range 4).flatMap (fun c => mixT (slice (Crypto.xorB ((Crypto.invShiftRows s).map (look tabI)) (ks.getD (13 - r) [])) (4 * c) 4)))
      (Crypto.xorB block (ks.getD 14 []))
  Crypto.xorB ((Crypto.invShiftRows s).map (look tabI)) (ks.getD 0 [])

theorem decT_eq (k b : Bytes) : Crypto.aesDec k b = decT (Crypto.roundKeys k) b := by
  simp only [Crypto.aesDec, decT, Crypto.invMixColumns, mixT_eq, show Crypto.invSbox = look tabI from funext look_I]

/-- AES-256 decrypts the published example block. -/
theorem test_aes : Crypto.aesDec ((List.range 32).map (BitVec.ofNat 8))
    [0x8E, 0xA2, 0xB7, 0xCA, 0x51, 0x67, 0x45, 0xBF, 0xEA, 0xFC, 0x49, 0x90, 0x4B, 0x49, 0x60, 0x89] =
    [0x00, 0x11, 0x22, 0x33, 0x44, 0x55, 0x66, 0x77, 0x88, 0x99, 0xAA, 0xBB, 0xCC, 0xDD, 0xEE, 0xFF] := by rw [decT_eq]; decide +kernel

/-- The key that wraps a key for slot 1 under `k0`, and its round keys. -/
def kek : Bytes :=
  [0x93, 0x68, 0x4F, 0x8D, 0x15, 0xD1, 0x46, 0x99, 0x83, 0x4B, 0x7C, 0xFC, 0xDC, 0x6E, 0x2D, 0x3D, 0x44, 0x75, 0x18, 0x6A, 0x0A, 0x59, 0x8E, 0xB5, 0x2F, 0xA3, 0xDD, 0xB0, 0x4A, 0xCB, 0x19, 0x63]
def kekRounds : List Bytes := [
  [0x93, 0x68, 0x4F, 0x8D, 0x15, 0xD1, 0x46, 0x99, 0x83, 0x4B, 0x7C, 0xFC, 0xDC, 0x6E, 0x2D, 0x3D],
  [0x44, 0x75, 0x18, 0x6A, 0x0A, 0x59, 0x8E, 0xB5, 0x2F, 0xA3, 0xDD, 0xB0, 0x4A, 0xCB, 0x19, 0x63],
  [0x8D, 0xBC, 0xB4, 0x5B, 0x98, 0x6D, 0xF2, 0xC2, 0x1B, 0x26, 0x8E, 0x3E, 0xC7, 0x48, 0xA3, 0x03],
  [0x82, 0x27, 0x12, 0x11, 0x88, 0x7E, 0x9C, 0xA4, 0xA7, 0xDD, 0x41, 0x14, 0xED, 0x16, 0x58, 0x77],
  [0xC8, 0xD6, 0x41, 0x0E, 0x50, 0xBB, 0xB3, 0xCC, 0x4B, 0x9D, 0x3D, 0xF2, 0x8C, 0xD5, 0x9E, 0xF1],
  [0xE6, 0x24, 0x19, 0xB0, 0x6E, 0x5A, 0x85, 0x14, 0xC9, 0x87, 0xC4, 0x00, 0x24, 0x91, 0x9C, 0x77],
  [0x4D, 0x08, 0xB4, 0x38, 0x1D, 0xB3, 0x07, 0xF4, 0x56, 0x2E, 0x3A, 0x06, 0xDA, 0xFB, 0xA4, 0xF7],
  [0xB1, 0x2B, 0x50, 0xD8, 0xDF, 0x71, 0xD5, 0xCC, 0x16, 0xF6, 0x11, 0xCC, 0x32, 0x67, 0x8D, 0xBB],
  [0xC0, 0x55, 0x5E, 0x1B, 0xDD, 0xE6, 0x59, 0xEF, 0x8B, 0xC8, 0x63, 0xE9, 0x51, 0x33, 0xC7, 0x1E],
  [0x60, 0xE8, 0x96, 0xAA, 0xBF, 0x99, 0x43, 0x66, 0xA9, 0x6F, 0x52, 0xAA, 0x9B, 0x08, 0xDF, 0x11],
  [0xE0, 0xCB, 0xDC, 0x0F, 0x3D, 0x2D, 0x85, 0xE0, 0xB6, 0xE5, 0xE6, 0x09, 0xE7, 0xD6, 0x21, 0x17],
  [0xF4, 0x1E, 0x6B, 0x5A, 0x4B, 0x87, 0x28, 0x3C, 0xE2, 0xE8, 0x7A, 0x96, 0x79, 0xE0, 0xA5, 0x87],
  [0x21, 0xCD, 0xCB, 0xB9, 0x1C, 0xE0, 0x4E, 0x59, 0xAA, 0x05, 0xA8, 0x50, 0x4D, 0xD3, 0x89, 0x47],
  [0x17, 0x78, 0xCC, 0xFA, 0x5C, 0xFF, 0xE4, 0xC6, 0xBE, 0x17, 0x9E, 0x50, 0xC7, 0xF7, 0x3B, 0xD7],
  [0x09, 0x2F, 0xC5, 0x7F, 0x15, 0xCF, 0x8B, 0x26, 0xBF, 0xCA, 0x23, 0x76, 0xF2, 0x19, 0xAA, 0x31]]

theorem kek_eq : wrapKey k0 1 = kek := by decide +kernel
theorem kekRounds_eq : Crypto.roundKeys kek = kekRounds := by decide +kernel

/-- The bytes 0 to 31 as a key, wrapped for slot 1 under `k0` by an implementation of RFC 3394 of our own. -/
def wrapped : Bytes :=
  [0xD3, 0xB0, 0xF1, 0xB7, 0x44, 0x6C, 0xFC, 0x1C, 0xC2, 0x70, 0xE3, 0x42, 0x1E, 0xC8, 0x9B, 0x79, 0xAB, 0xFF, 0xA4, 0xFF, 0x30, 0x0A, 0x17, 0x47, 0xA8, 0xDD, 0x7A, 0x26, 0x53, 0x92, 0x9D, 0x7F, 0xDA, 0xD6, 0x91, 0x7A, 0x43, 0x8B, 0x4E, 0x45]

theorem wrapped_unwraps : (Crypto.unwrap kek wrapped).isSome = true := by
  simp only [Crypto.unwrap, Crypto.unwrapStep, decT_eq, kekRounds_eq]
  decide +kernel

/-! ### Accepted packets whose parameters hold opaque values -/

/-- The parameters of a DEBUG_UNLOCK of level 1 for a device. -/
def unlockParams (id : Bytes) : Bytes := [1, 0, 0, 0] ++ List.replicate 32 7 ++ id

/-- In MAINTENANCE, OWNED, with a challenge of level 1. -/
def sChallenge : State :=
  let s := owned .maintenance .owned
  { s with dbg := { s.dbg with challenge := some { level := 1, nonce := List.replicate 32 7, deadline := 1 } } }

/-- The packet with any CRC and tag. -/
def rawUnlock (id : Bytes) (crc : BitVec 32) (tag : Bytes) : Gcp :=
  { pkt (unlockParams id) with flags := 1, counter := 1, paramCrc := crc, tag := tag }

theorem eight (b : Bytes) (h : b.length = 8) : ∃ b0 b1 b2 b3 b4 b5 b6 b7, b = [b0, b1, b2, b3, b4, b5, b6, b7] := by
  match b, h with
  | [b0, b1, b2, b3, b4, b5, b6, b7], _ => exact ⟨b0, b1, b2, b3, b4, b5, b6, b7, rfl⟩

theorem sixteen (b : Bytes) (h : b.length = 16) : ∃ x y, b = x ++ y ∧ x.length = 8 ∧ y.length = 8 :=
  ⟨b.take 8, b.drop 8, (List.take_append_drop 8 b).symm, by simp [h], by simp [h]⟩

/-- The first 28 bytes of that packet. -/
def unlockHead : Bytes := [4, 1, 9, 2, 1, 0, 0, 0, 44, 0, 0, 0, 0, 0, 0, 0, 1, 0, 0, 0, 0, 0, 0, 0, 0, 0, 0, 0]

/-- The same packet written out, in a ring entry. -/
def unlockBytes (id crc tag z : Bytes) : Bytes := unlockHead ++ (crc ++ (unlockParams id ++ (tag ++ z)))

theorem unlock_gcp (id : Bytes) (hi : id.length = 8) (crc : BitVec 32) (tag : Bytes) :
    gcpBytes 0x209 (rawUnlock id crc tag) = unlockBytes id (le 4 crc.toNat) tag [] := by
  have hp : (BitVec.ofNat 16 (unlockParams id).length).toNat = 44 := by simp [unlockParams, hi]
  have hh : [(4 : Byte), 1] ++ le 2 0x209 ++ le 4 (1 : BitVec 32).toNat ++ le 2 44 ++ [0, 0] ++ le 4 (0 : BitVec 32).toNat ++
      le 8 (1 : BitVec 64).toNat ++ le 4 (0 : BitVec 32).toNat = unlockHead := by decide
  simp only [gcpBytes, rawUnlock, pkt, hp, unlockBytes, List.append_nil, ← hh, List.append_assoc]

theorem unlockBytes_eq (id : Bytes) (hi : id.length = 8) (crc : BitVec 32) (tag : Bytes) (ht : tag.length = 16) :
    arrivedCmd 0x209 (rawUnlock id crc tag) = ⟨.pcie, unlockBytes id (le 4 crc.toNat) tag (zeros 4004)⟩ := by
  have hl : (unlockBytes id (le 4 crc.toNat) tag []).length = 92 := by simp [unlockBytes, unlockHead, unlockParams, hi, ht, le_length]
  show Cmd.mk .pcie (toLen 4096 (gcpBytes 0x209 (rawUnlock id crc tag))) = _
  rw [unlock_gcp id hi, toLen, List.take_of_length_le (by omega), hl]
  simp [unlockBytes]

theorem unlockBytes_fields (id crc tag z : Bytes) (hi : id.length = 8) (hc : crc.length = 4) (ht : tag.length = 16) :
    let c : Cmd := ⟨.pcie, unlockBytes id crc tag z⟩
    c.len = 44 ∧ c.params = unlockParams id ∧ c.tag = tag ∧ c.flags = 1 ∧ c.slot = 0 ∧ c.counter = 1 ∧ c.handle = 0 ∧
    c.pkt.take 76 = unlockBytes id crc [] [] ∧ c.version = 4 ∧ byteAt c.pkt 11 = 0 ∧
    c.opcode = 0x209 ∧ c.crc = leNat crc ∧ slice c.params 36 8 = id := by
  intro c
  have hp : (unlockParams id).length = 44 := by simp [unlockParams, hi]
  have f (off n : Nat) (h : off + n ≤ 28) : field c.pkt off n = field unlockHead off n := by
    show leNat (((unlockHead ++ _).drop off).take n) = leNat ((unlockHead.drop off).take n)
    rw [List.drop_append_of_le_length (by show off ≤ 28; omega), List.take_append_of_le_length]
    rw [List.length_drop]; show n ≤ 28 - off; omega
  have hd : c.pkt.drop 28 = crc ++ (unlockParams id ++ (tag ++ z)) := rfl
  have hlen : c.len = 44 := by show field c.pkt 8 2 = 44; rw [f 8 2 (by omega)]; decide
  have h32 : c.pkt.drop 32 = unlockParams id ++ (tag ++ z) := by
    rw [show (32 : Nat) = 28 + 4 from rfl, ← List.drop_drop, hd, List.drop_left' hc]
  have hpar : c.params = unlockParams id := by
    show (c.pkt.drop 32).take c.len = _
    rw [h32, hlen, List.take_left' hp]
  refine ⟨hlen, hpar, ?_, ?_, ?_, ?_, ?_, ?_, ?_, ?_, ?_, ?_, ?_⟩
  · show (c.pkt.drop (32 + c.len)).take 16 = tag
    rw [← List.drop_drop, h32, hlen, List.drop_left' hp, List.take_left' ht]
  · show field c.pkt 1 1 = 1; rw [f 1 1 (by omega)]; decide
  · show field c.pkt 10 1 = 0; rw [f 10 1 (by omega)]; decide
  · show field c.pkt 16 8 = 1; rw [f 16 8 (by omega)]; decide
  · show field c.pkt 12 4 = 0; rw [f 12 4 (by omega)]; decide
  · show (unlockHead ++ (crc ++ (unlockParams id ++ (tag ++ z)))).take 76 = unlockHead ++ (crc ++ (unlockParams id ++ ([] ++ [])))
    rw [show unlockHead ++ (crc ++ (unlockParams id ++ (tag ++ z))) = (unlockHead ++ (crc ++ unlockParams id)) ++ (tag ++ z) by simp,
      List.take_left' (by simp [hp, hc, unlockHead])]
    simp
  · show field c.pkt 0 1 = 4; rw [f 0 1 (by omega)]; decide
  · rfl
  · show field c.pkt 2 2 = 0x209; rw [f 2 2 (by omega)]; decide
  · show leNat ((c.pkt.drop 28).take 4) = _; rw [hd, List.take_left' hc]
  · rw [hpar]
    show ((unlockParams id).drop 36).take 8 = id
    rw [unlockParams, List.drop_left' (by rfl), List.take_of_length_le (by omega)]

theorem witness_DebugUnlock : ∃ g, Arrives 0x209 g sChallenge ∧ Accepted opDebugUnlock (arrivedCmd 0x209 g) (arrivedState 0x209 g sChallenge) := by
  let id := le 8 Config.deviceId.toNat
  have hi : id.length = 8 := le_length ..
  let crc := BitVec.ofNat 32 (crc32 (unlockParams id))
  let tag := Crypto.tag16 k0 (unlockBytes id (le 4 crc.toNat) [] [])
  have ht : tag.length = 16 := tag16_length ..
  have hcrc : leNat (le 4 crc.toNat) = crc32 (unlockParams id) := by
    rw [leNat_le, BitVec.toNat_ofNat]
    have : crc32 (unlockParams id) < 2 ^ 32 := BitVec.isLt _
    omega
  obtain ⟨h1, h2, h3, h4, h5, h6, h7, h8, h9, h10, h11, h12, h13⟩ := unlockBytes_fields id (le 4 crc.toNat) tag (zeros 4004) hi (le_length ..) ht
  refine ⟨rawUnlock id crc tag, arrives_of (by decide +kernel), ?_⟩
  rw [unlockBytes_eq id hi crc tag ht]
  generalize hc : (⟨.pcie, unlockBytes id (le 4 crc.toNat) tag (zeros 4004)⟩ : Cmd) = c at *
  have ho : c.origin = .pcie := by rw [← hc]
  have hl : c.pkt.length = 4096 := by rw [← hc]; simp [unlockBytes, unlockHead, unlockParams, hi, ht, le_length, zeros]
  have ha : c.auth = true := by unfold Cmd.auth; rw [h4]; rfl
  have hp0 : field c.params 0 1 = 1 := by rw [h2]; rfl
  have hp2 : field c.params 2 2 = 0 := by rw [h2]; rfl
  have hst : arrivedState 0x209 (rawUnlock id crc tag) sChallenge = arrivedState 0x209 (pkt []) sChallenge := rfl
  rw [hst]
  refine ⟨rfl, ?_, ?_, ?_, ?_, ?_⟩
  · unfold early
    rw [if_neg (by simp [h9]), if_neg (by simp [h1, hl, Cmd.needs, ha]), if_neg (by rw [h2, h12, hcrc]; simp)]
    have e2 : opDebugUnlock.resv (unlockParams id) = true := rfl
    simp [transportOk, ho, h1, show opDebugUnlock.lenOk 44 = true from rfl, fieldsOk, h4, h10, ha, h5, h7, h2, e2, Cmd.control, h11]
  · simp only [cached?, ha, if_true, via, ho]; rfl
  · unfold authFail
    rw [ha, h5, show keyOf (arrivedState 0x209 (pkt []) sChallenge) 0 = some k0 by decide +kernel, h1, h8, h3]
    simp [tag]
  · unfold midFail
    simp only [ha, h5, h6, sleepRefuses, h11]
    rw [show opDebugUnlock.lifeOk c (arrivedState 0x209 (pkt []) sChallenge) = levelLife (field c.params 0 1) (arrivedState 0x209 (pkt []) sChallenge) from rfl,
      show opDebugUnlock.modeOk c (arrivedState 0x209 (pkt []) sChallenge) = levelMode (field c.params 0 1) (arrivedState 0x209 (pkt []) sChallenge) from rfl,
      hp0, show opDebugUnlock.free c (arrivedState 0x209 (pkt []) sChallenge) = true from rfl]
    decide +kernel
  · show unlockCheck c (arrivedState 0x209 (pkt []) sChallenge) = none
    have hn : slice c.params 4 32 = List.replicate 32 7 := by rw [h2]; rfl
    simp only [unlockCheck, hp0, hp2, hn, h13, h1, levelSlot, ha, h5]
    simp only [id, beq_self_eq_true, show ((1 : Nat) != 3) = true from rfl, Bool.true_or]
    decide +kernel

/-- A slot of the Contact sheet with a header for this device and nothing archived. -/
def sheet : Bytes := [1, 0] ++ zeros 14 ++ (le 8 Config.deviceId.toNat ++ (zeros 36 ++ [0x3C, 0x5A, 0xC3, 0xA5]))

/-- In PROVISION, BLANK, with that sheet in slot B. -/
def sSheet : State := let s := at_ .provision .blank; { s with nv := { s.nv with contact := [(2, ⟨sheet⟩)] } }

theorem witness_ContactRestore :
    Arrives 0x902 (pkt [2, 105, 0, 0]) sSheet ∧ Accepted opContactRestore (arrivedCmd 0x902 (pkt [2, 105, 0, 0])) (arrivedState 0x902 (pkt [2, 105, 0, 0]) sSheet) := by
  have hb : contactBytes (arrivedState 0x902 (pkt [2, 105, 0, 0]) sSheet) 2 = sheet := rfl
  have hd : sheet.drop 16 = le 8 Config.deviceId.toNat ++ (zeros 36 ++ [0x3C, 0x5A, 0xC3, 0xA5]) := rfl
  have h8 : (le 8 Config.deviceId.toNat).length = 8 := le_length ..
  have h24 : sheet.drop 24 = zeros 36 ++ [0x3C, 0x5A, 0xC3, 0xA5] := by
    rw [show (24 : Nat) = 16 + 8 from rfl, ← List.drop_drop, hd, List.drop_left' h8]
  have hlen : sheet.length = 64 := by simp [sheet, h8, zeros]
  have hv : contactValid (arrivedState 0x902 (pkt [2, 105, 0, 0]) sSheet) 2 = true := by
    have f0 : field sheet 0 2 = 1 := rfl
    have f12 : field sheet 12 4 = 0 := rfl
    have f60 : field sheet 60 4 = 0xA5C35A3C := by
      show leNat ((sheet.drop 60).take 4) = _
      rw [show (60 : Nat) = 24 + 36 from rfl, ← List.drop_drop, h24]; decide
    have c0 : slice sheet 64 57568 = [] := by
      show (sheet.drop 64).take 57568 = []
      rw [List.drop_eq_nil_of_le (by omega)]; rfl
    have id16 : slice sheet 16 8 = le 8 Config.deviceId.toNat := by
      show (sheet.drop 16).take 8 = _
      rw [hd, List.take_left' h8]
    simp only [contactValid, hb, f0, f12, f60, c0, id16, beq_self_eq_true, show crc32 [] = 0 from rfl, Bool.and_true]
  refine ⟨arrives_of (by decide +kernel), ?_⟩
  unfold Accepted
  and_intros
  iterate 5 decide +kernel
  have hp : (arrivedCmd 0x902 (pkt [2, 105, 0, 0])).params = [2, 105, 0, 0] := by decide +kernel
  show bad (decide (field _ 0 1 ≤ 2) && decide (field _ 1 1 ≤ 105) && restoreSlot _ _ != 0) = none
  rw [hp]
  simp only [restoreSlot, show field [(2 : Byte), 105, 0, 0] 0 1 = 2 from rfl, hv]
  decide

/-- The packet of an INSTALL_KEY that carries the wrapped key for slot 1. -/
def installPkt : Gcp := tagged 0x202 ([1, 0, 0, 0] ++ wrapped)

theorem carriedKey_of (p : Bytes) (t : State) (k kk w : Bytes) (h1 : keyOf t 0 = some k) (h2 : field p 0 1 = 1) (h3 : slice p 4 40 = w)
    (h4 : wrapKey k 1 = kk) : carriedKey p t = Crypto.unwrap kk w := by
  subst h3 h4
  rw [carriedKey, h1, h2]
  rfl

theorem witness_InstallKey :
    Arrives 0x202 installPkt (owned .maintenance .owned) ∧
    Accepted opInstallKey (arrivedCmd 0x202 installPkt) (arrivedState 0x202 installPkt (owned .maintenance .owned)) := by
  refine ⟨arrives_of (by decide +kernel), ?_⟩
  unfold Accepted
  and_intros
  iterate 5 decide +kernel
  have hp : (arrivedCmd 0x202 installPkt).params = [1, 0, 0, 0] ++ wrapped := by decide +kernel
  have hk : (arrivedCmd 0x202 installPkt).k0 = true := by decide +kernel
  have e1 : keyOf (arrivedState 0x202 installPkt (owned .maintenance .owned)) 0 = some k0 := by decide +kernel
  have e2 : field ([(1 : Byte), 0, 0, 0] ++ wrapped) 0 1 = 1 := by decide +kernel
  have e3 : slice ([(1 : Byte), 0, 0, 0] ++ wrapped) 4 40 = wrapped := by decide +kernel
  have hc := (congrArg Option.isSome (carriedKey_of _ _ _ _ _ e1 e2 e3 kek_eq)).trans wrapped_unwraps
  have ok (c : Cmd) (t : State) (p : Bytes) (hk : c.k0 = true) (hp : c.params = p) (e : field p 0 1 = 1) (hs : (carriedKey p t).isSome = true) :
      opInstallKey.check c t = none := by
    subst hp
    show bad (c.k0 && (decide (field c.params 0 1 ≤ 3) && (carriedKey c.params t).isSome)) = none
    rw [hk, e, hs]
    rfl
  exact ok _ _ _ hk hp e2 hc
theorem witness_module_transfers :
    (let op := 0x0312; let g := pkt ([0, 0xA0, 0, 0] ++ le 2 128 ++ zeros 2); let c := arrivedCmd op g; let u := arrivedState op g sRun
     early (some opModuleRead) c = none ∧ cached? c u = none ∧ authFail opModuleRead c u = none ∧ midFail opModuleRead c u = none ∧
       spanOk c.params = true) ∧
    (let op := 0x0313; let g := pkt ([63, 0xA0, 0, 128] ++ le 2 1 ++ zeros 2 ++ [7]); let c := arrivedCmd op g; let u := arrivedState op g sRun
     early (some opModuleWrite) c = none ∧ cached? c u = none ∧ authFail opModuleWrite c u = none ∧ midFail opModuleWrite c u = none ∧
       writeOk c.params = true) := by decide +kernel

/-- A state that holds the cached reply to a tagged packet. -/
def sCached : State :=
  { sRun with gcp := { sRun.gcp with pcie := { sRun.gcp.pcie with cache :=
      [{ header := (cmd 0x0100 badTag).header, tag := zeros 16, reply := zeros 32, key := none }] } } }

theorem witness_RefusedCommandLeavesOnlyItsReply :
    (early (some opGetStatus) (cmd 0x0100 { pkt [] with version := 3 }) ≠ none) ∧
    (cached? (cmd 0x0100 badTag) sRun = none ∧ authFail opGetStatus (cmd 0x0100 badTag) sRun = some 0x0203) ∧
    (cached? (cmd 0x0107 (pkt [2])) sRun = none ∧ midFail opReturnService (cmd 0x0107 (pkt [2])) sRun ≠ none) ∧
    (cached? (cmd 0x0107 (pkt [3])) sRun = none ∧ opReturnService.check (cmd 0x0107 (pkt [3])) sRun ≠ none) := by decide +kernel

theorem witness_refusal_leaves_no_trace : opReturnService.trace (cmd 0x0107 (pkt [3])) sRun = sRun := rfl

theorem witness_RepeatedPacketGetsTheCachedReply :
    early (some opGetStatus) (cmd 0x0100 badTag) = none ∧ (cached? (cmd 0x0100 badTag) sCached).isSome = true ∧
    (cmd 0x0100 badTag).auth = true ∧ via (cmd 0x0100 badTag).origin = .pcie := by decide +kernel

theorem witness_CounterWindowAndPersist :
    (let c := cmd 0x0100 badTag; c.auth = true ∧ midFail opGetStatus c sRun = none) ∧ (cmd 0x0100 (pkt [])).auth = false ∧ (0 : Nat) ≠ 3 := by
  decide +kernel

theorem witness_accepted : Accepted opGetStatus (cmd 0x0100 (pkt [])) sRun := accepted_of (by decide +kernel)

theorem witness_ReplyPacketLayout : (255 : Nat) < 256 ∧ (65535 : Nat) < 65536 ∧ 2 ^ 32 - 1 < 2 ^ 32 ∧ 2 ^ 64 - 1 < 2 ^ 64 ∧
    (zeros 4048).length < 65536 ∧ sRun.nv.timeGen < 65536 := by decide +kernel

/-- A reply waits for room in the ring. -/
def sHeld : State := { sRun with mbx := { sRun.mbx with held := [zeros 32] } }

/-- An in-band command with a TIMEOUT of 1 ms that waits. -/
def wIn : Waiting := { pkt := gcpBytes 0x0100 { pkt [] with timeout := 1 }, origin := .inband 0 0 none, received := 0, expired := false }

/-- The state in which it waits, its deadline reached. -/
def sWaits : State :=
  { sRun with clk := { sRun.clk with now := msTicks }, gcp := { sRun.gcp with inband := { sRun.gcp.inband with
      waiting := [wIn] } } }

theorem witness_TransportRowsComplete :
    (sRun.held = false ∧ sRun.sys.perst = false ∧ sRun.mbx.held = [] ∧ sRun.gcp.pcie.waiting = [] ∧ sRun.gcp.inband.waiting = [] ∧
      sRun.gcp.sideband.waiting = []) ∧
    (sHeld.held = false ∧ sHeld.sys.perst = false ∧ sHeld.sys.d3hot = false ∧ sHeld.mbx.enable = true ∧ sHeld.mbx.held = [zeros 32] ∧
      sHeld.gcp.pcie.waiting = [] ∧ (sHeld.mbx.rplPi + 1) % 256 ≠ (255 : Byte).toNat) ∧
    ((0 : BitVec 32).getLsbD 0 = false ∧ (1 : BitVec 32).getLsbD 0 = true ∧ State.reset.mbx.enable = false ∧ State.reset.mbx.held = []) ∧
    (sWaits.held = false ∧ (sWaits.gcp.chan .inband).waiting = [wIn] ∧ sWaits.gcp.sideband.waiting = [] ∧ sWaits.gcp.pcie.waiting = [] ∧
      wIn.expired = false ∧ (Cmd.mk wIn.origin wIn.pkt).timeout = 1 ∧ via wIn.origin = .inband ∧
      sWaits.clk.now = wIn.received + (Cmd.mk wIn.origin wIn.pkt).timeout * msTicks) := by decide +kernel

theorem witness_RetirementErasesAndKeepsRk :
    (let s : State := { sRun with nv := { sRun.nv with retiring := true } }
     s.held = false ∧ s.nv.retiring = true ∧ s.pwr.nvInhibit = false) ∧ sRun.nv.retiring = false := by decide +kernel

/-! ### Resets, boot, the endpoint and power -/

theorem witness_WhatADeviceResetLeaves : sRun.nv.retiring = false ∧ (2 : Nat) ≠ 1 := by decide +kernel

/-- Reset low or tripped or down. -/
def sysWith (f : Sys → Sys) : State := { sRun with sys := f sRun.sys }

theorem witness_ResetSourcesLatchTheirCause :
    sRun.sys.auxDown = false ∧ (sysWith (fun y => { y with auxDown := true })).sys.auxDown = true ∧ sDown.sys.sysRst = true ∧
    sRun.sys.sysRst = false ∧ sRun.sys.thermTrip = false ∧
    (let s := sysWith (fun y => { y with thermTrip := true, resetCode := 5 }); s.sys.thermTrip = true ∧ s.sys.resetCode = 5) ∧
    (let s := sysWith (fun y => { y with thermTrip := true, resetCode := 2 }); s.sys.thermTrip = true ∧ s.sys.resetCode ≠ 5) ∧
    (let s := sysWith (fun y => { y with resetDue := some 3 }); s.held = false ∧ s.sys.resetDue = some 3) ∧
    sRun.held = false ∧ sRun.sys.resetDue = none := by decide +kernel

theorem witness_FatalErrorRecordsAndResets :
    State.reset.held = false ∧ State.reset.sys.mode = .safe ∧ sRun.sys.mode ≠ .safe ∧ sRun.pwr.nvInhibit = false ∧
    ({ sRun with pwr := { sRun.pwr with nvInhibit := true } } : State).pwr.nvInhibit = true := by decide +kernel

theorem witness_HeldDeviceStandsStill : sDown.held = true ∧ actsWhileHeld .xoLost = false := by decide +kernel

theorem witness_EndpointResetsOnlyTheHostDomain :
    sRun.held = false ∧ sRun.sys.perst = false ∧ (sysWith (fun y => { y with perst := true })).sys.perst = true ∧
    (sysWith (fun y => { y with d3hot := true })).sys.d3hot = true ∧ sRun.sys.d3hot = false := by decide +kernel

/-- Firmware starting from image A, with B to try or none. -/
def sStart (rest : List Nat) : State :=
  { State.reset with sys := { State.reset.sys with start := some { image := 1, rest := rest, asked := none }, imgB := { state := 1, facts := none, torn := false } } }

theorem witness_BootRomStartsFirmware :
    (State.reset.held = false ∧ State.reset.sys.mode = .safe ∧ State.reset.tim.xo.present = false ∧ 1 ≤ (5 : XoCode).val ∧ (5 : XoCode).val ≤ 5 ∧
      State.reset.sys.autoWaits = false ∧ State.reset.gcp.pcie.waiting = [] ∧ State.reset.gcp.inband.waiting = [] ∧
      State.reset.gcp.sideband.waiting = [] ∧ State.reset.core.poolsHold = none) ∧
    sRun.sys.mode ≠ .safe ∧ (0 : XoCode).val = 0 ∧ 5 < (6 : XoCode).val ∧ State.reset.sys.verifying = true ∧
    ({ State.reset with sys := { State.reset.sys with verifying := false } } : State).sys.verifying = false ∧
    ((sStart []).held = false ∧ (sStart []).sys.start = some { image := 1, rest := [], asked := none }) ∧
    ((sStart [2]).sys.start = some { image := 1, rest := [2], asked := none } ∧ imageValid (sStart [2]) 2 = true) := by decide +kernel

theorem witness_ImageStatesAndAutoStart :
    (∃ i : Img, i.facts = some { factsOk with header := false }) ∧
    (factsOk.header = true ∧ factsOk.vendorOk = true ∧ State.reset.nv.ownerPolicy = false) ∧
    (sRun.sys.mode ≠ .safe) ∧
    (let s : State := { State.reset with sys := { State.reset.sys with verifying := false, imgA := { state := 1, facts := none, torn := false } },
                                         tim := { State.reset.tim with xo := { State.reset.tim.xo with present := true } } }
     autoMay s = true ∧ s.tim.xo.missing = false ∧ imageValid s s.nv.preferred = true) :=
  ⟨⟨{ state := 0, facts := _, torn := false }, rfl⟩, by decide +kernel⟩

/-- A power part changed. -/
def pwrWith (f : Power → Power) : State := { sRun with pwr := f sRun.pwr }

theorem witness_SupplyThresholdsAct :
    sRun.held = false ∧ sRun.pwr.coreSag = false ∧ sRun.pwr.state ≠ .ride ∧
    (let s := pwrWith (fun q => { q with state := .ride }); s.pwr.coreSag = false ∧ s.pwr.state = .ride) ∧
    (let s := pwrWith (fun q => { q with state := .ride, coreSag := true }); s.pwr.coreSag = true ∧ s.pwr.state = .ride) ∧
    sRun.pwr.state = .full ∧ sRun.dbg.session = none ∧ (pwrWith (fun q => { q with state := .sleep })).pwr.state = .sleep := by decide +kernel

theorem witness_ThermalWakeAndDrainRowsAct :
    sRun.held = false ∧ sRun.pwr.waking = false ∧
    (let s := pwrWith (fun q => { q with waking := true }); s.pwr.waking = true ∧ s.pwr.auxWarn = false ∧ s.pwr.coreSag = false) ∧
    (let s := sysWith (fun y => { y with draining := true, drainEnd := 0 }); s.sys.draining = true ∧ s.clk.now = s.sys.drainEnd) ∧
    sRun.sys.draining = false ∧
    (let s : State := { sRun with dbg := { sRun.dbg with challenge := some { level := 1, nonce := [], deadline := 0 } } }
     s.dbg.challenge = some { level := 1, nonce := [], deadline := 0 } ∧ s.clk.now = 0) ∧
    sRun.dbg.challenge = none ∧
    (let s : State := { sRun with dbg := { sRun.dbg with session := some { level := 1, slot := 0, lifetime := 600, deadline := 0 } } }
     s.dbg.session = some { level := 1, slot := 0, lifetime := 600, deadline := 0 } ∧ s.clk.now = 0) ∧ sRun.dbg.session = none := by decide +kernel

/-! ### Lanes, ports, modules and Dalom links -/

/-- A lane changed. -/
def laneWith (l : Nat) (f : LaneRec → LaneRec) : State := modLane l f (onPort 63 .up sRun)

theorem witness_LaneDetectorsAndAdaptation :
    (laneWith 255 (fun r => { r with los := true })).held = false ∧ ((laneWith 255 (fun r => { r with los := true })).lane 255).los = true ∧
    (let s := laneWith 255 (fun r => { r with lol := true }); (s.lane 255).los = false ∧ (s.lane 255).lol = true) ∧
    (let s := laneWith 255 id; (s.lane 255).los = false ∧ (s.lane 255).lol = false ∧ (s.lane 255).dfeFrozen = false) ∧
    (laneWith 0 id |>.port 0).rxLanes.contains 0 = false ∧
    adapts (laneWith 255 id) 255 = true ∧ adapts sRun 255 = false ∧
    ((laneWith 255 (fun r => { r with dfeFrozen := true })).lane 255).dfeFrozen = true := by decide +kernel

/-- Port P63 in a state with all its lanes. -/
def eth (st : PortSt) : State := onPort 63 st sRun

/-- A lane test that runs on P63. -/
def sTest : State :=
  { modPort 63 (fun r => { r with test := { r.test with state := 1, duration := 1 } }) (eth .up) with clk := { sRun.clk with now := msTicks } }

theorem witness_EthernetBringUpMovesInOrder :
    (eth .up).held = false ∧ ethIn (eth .up) 63 .train = false ∧ ethIn (eth .train) 63 .train = true ∧
    3 ∈ ((eth .train).port 63).usedLanes ∧
    (ethIn (eth .adapt) 63 .adapt = true ∧ lolLanes (eth .adapt) 63 = []) ∧ 3 ∈ ((eth .adapt).port 63).rxLanes ∧
    ethIn (eth .up) 63 .adapt = false ∧ lolLanes (modLane 252 (fun r => { r with lol := true }) (eth .adapt)) 63 ≠ [] ∧
    ((sTest.port 63).test.state = 1 ∧ (sTest.port 63).test.duration ≠ 0 ∧
      sTest.clk.now = (sTest.port 63).test.started + (sTest.port 63).test.duration * msTicks) ∧
    ((eth .up).port 63).test.state ≠ 1 := by decide +kernel

theorem witness_PortMovesCountAndReport : ((eth .up).port 63).isUp = true ∧ 9 ≤ (9 : Nat) ∧ (0 : Nat) ≠ 63 := by decide +kernel

/-- Port P00's module changed. -/
def modWith (f : Module → Module) : State := modModule 0 f sRun

theorem witness_ModuleRowsAct :
    sRun.held = false ∧
    (let m := (sRun.port 0).module; m.scans = 0 ∧ m.seen = m.present ∧ (3 : Nat).testBit 0 = !m.present ∧ (3 : Nat).testBit 1 = !m.intL ∧ m.intL = false) ∧
    (let s := modWith (fun m => { m with present := true, releaseDue := true })
     s.sys.mode ≠ .safe ∧ (s.port 0).module.present = true ∧ (s.port 0).module.releaseDue = true) ∧
    (sRun.port 0).module.present = false ∧ State.reset.sys.mode = .safe ∧
    (let s := modWith (fun m => { m with present := true, resetLow := false, lpMode := false })
     s.sys.mode ≠ .safe ∧ (s.port 0).module.present = true ∧ (s.port 0).module.drivesReset = false) ∧
    (modWith (fun m => { m with resetLow := true, resetPolicy := 1 }) |>.port 0).module.drivesReset = true ∧
    (let s := modWith (fun m => { m with present := true, initDone := true, ready := true }); let m := (s.port 0).module
     s.sys.mode ≠ .safe ∧ m.present = true ∧ m.flags ≠ (1 : BitVec 32).toNat) := by decide +kernel

/-- Dalom port P63 in a state, its link changed. -/
def dal (st : PortSt) (f : Dlk → Dlk) : State := modDlk 63 f (onDlk 63 st sRun)

/-- All four lanes trained. -/
def trainedAll (d : Dlk) : Dlk := { d with trains := (List.range 4).map (fun l => (l, { DlkTrain.reset with complete := true, rxReady := true })) }

/-- All four lanes trained and locked: eight good codewords in a row, a mark on each, the last lane's 150 ns after the others'. -/
def lockedAll (d : Dlk) : Dlk :=
  { trainedAll d with trains := (List.range 4).map (fun l => (l, { DlkTrain.reset with complete := true, rxReady := true, run8 := 8, marked := true })),
                      marksRx := [⟨5, 0, 0, false⟩, ⟨5, 1, 0, false⟩, ⟨5, 2, 0, false⟩, ⟨5, 3, 150 * 65536, false⟩] }

theorem witness_DalomBringUpMovesInOrder :
    (dal .active id).held = false ∧ ((dal .active id).port 63).st ≠ .dlkTrain ∧ ((dal .active id).port 63).st ≠ .lock ∧
    (let s := dal .dlkTrain trainedAll
     (s.port 63).st = .dlkTrain ∧ trainedMask s 63 = losClear s 63 ∧ trainedMask s 63 ≠ 0 ∧ (s.dlk 63).minLanes ≤ popcount 4 (trainedMask s 63)) ∧
    (let s := dal .dlkTrain id; (s.port 63).st = .dlkTrain ∧ trainedMask s 63 ≠ losClear s 63 ∧ popcount 4 (trainedMask s 63) < (s.dlk 63).minLanes) ∧
    (let s := dal .lock (fun d => { lockedAll d with trained := 15 })
     (s.port 63).st = .lock ∧ lockedMask s 63 15 = (s.dlk 63).trained ∧ lockedMask s 63 15 ≠ 0 ∧ (s.dlk 63).minLanes ≤ popcount 4 (lockedMask s 63 15)) ∧
    (let s := dal .lock (fun d => { d with trained := 15 }); lockedMask s 63 0 ≠ (s.dlk 63).trained ∧ popcount 4 (lockedMask s 63 0) < (s.dlk 63).minLanes) ∧
    ((dal .exchange id).port 63).st = .exchange ∧ ((dal .active id).port 63).st ≠ .exchange ∧
    (((dal .backoff id).port 63).st = .backoff ∧ ((dal .backoff id).port 63).cfg.dalom = true) ∧
    (sRun.port 63).cfg.dalom = false ∧ (3 : Nat) ≠ 63 ∧
    ((dal .active (fun d => { d with rxGood := 15 })).dlk 63).rxGood.testBit 3 = true ∧
    ((dal .active (fun d => { d with bgState := [(3, 2)] })).dlk 63).bgState.get 1 3 = 2 ∧
    (let s := dal .active (fun d => { d with rxGood := 7 })
     (s.port 63).st = .active ∧ (s.dlk 63).rxGood.testBit 3 = false ∧ (s.dlk 63).bgState.get 1 3 ≠ 2 ∧ (s.dlk 63).bgState.get 0 3 ≠ 2 ∧
       ((s.dlk 63).train 3).complete = false) ∧
    (let s := dal .active (fun d => { lockedAll d with rxGood := 7 }); let d := s.dlk 63
     stripes (s.port 63) = true ∧ d.rxGood.testBit 3 = false ∧ d.bgState.get 0 3 ≠ 2 ∧ (d.train 3).complete = true ∧ (s.lane (rxLaneOf s 63 3)).lol = false ∧
       8 ≤ (d.train 3).run8 ∧ (d.train 3).marked = true ∧ ∀ k, k < 4 → d.rxGood.testBit k = true → skewOk s 63 3 k = true) ∧
    ((dal .exchange (fun d => { d with bgState := [(3, 2)] })).dlk 63).bgState.get 0 3 = 2 ∧ stripes ((dal .lock id).port 63) = false := by
  decide +kernel

/-- A tile on a lane with a number. -/
def tileOf (lane : Fin 4) (lseq : Fin 16) : DlkTile :=
  { lane := lane, pos := 256, credit := 0xFF, mark := true, lseq := lseq, payload := zeros 640, start := 0, stuffAt := [10, 1250], stuffBad := 1 }

/-- Slot 256 in turn on P63, in a state. -/
def turn (st : PortSt) (f : Dlk → Dlk) : State := dal st (fun d => f { d with rxGood := 15, rxAt := 256 })

theorem witness_StripedTilesAreTakenInOrder :
    (dal .active id).held = false ∧ sendsTiles ((dal .backoff id).port 63) = false ∧
    (let s := dal .dlkTrain id; sendsTiles (s.port 63) = true ∧ (s.port 63).st ≠ .lock ∧ (s.port 63).st ≠ .exchange ∧ (s.port 63).st ≠ .active) ∧
    (let s := dal .lock id; sendsTiles (s.port 63) = true ∧ (s.port 63).st = .lock ∧ stripes (s.port 63) = false) ∧
    (∀ st, st ∈ [PortSt.exchange, .active] →
      (let s := turn st (fun d => { d with rxAt := 257 }); let d := (rxLine 63 3 256 2 1 false true s).dlk 63
       sendsTiles (s.port 63) = true ∧ stripes (s.port 63) = true ∧ 512 ≤ slotAhead 256 d.rxAt) ∧
      (let s := turn st (fun d => { d with rxDone := 8 }); let d := (rxLine 63 3 256 2 1 true true s).dlk 63
       slotAhead 256 d.rxAt = 0 ∧ d.rxDone.testBit 3 = true) ∧
      (let s := turn st (fun d => { d with rxDone := 7 }); let d := (rxLine 63 3 256 2 1 false true s).dlk 63
       sendsTiles (s.port 63) = true ∧ stripes (s.port 63) = true ∧ d.rxBuf = [] ∧ (tileOf 3 15).pos.val = d.rxAt ∧ d.rxDone.testBit 3 = false ∧
         slotAhead 256 d.rxAt < 512 ∧ ∀ k, k < 3 → d.rxDone.testBit k = true) ∧
      (let s := turn st (fun d => { d with rxAt := 769 }); slotAhead 256 ((rxLine 63 3 256 2 1 true true s).dlk 63).rxAt = 511)) ∧
    sRun.gcp.arrived = [] ∧
    ((turn .active (fun d => { d with rxGood := 7 })).dlk 63).rxGood.testBit 3 = false ∧
    (let d := (turn .active (fun d => { d with rxTileNo := 15, slotBase := 16 })).dlk 63
     d.rxGood.testBit 3 = true ∧ d.rxTileNo < 16 ∧ d.rxTileNo ≠ (tileOf 3 0).lseq.val ∧ d.slotBase ≠ (tileOf 3 0).lseq.val ∧
       d.rxTileNo = (tileOf 3 15).lseq.val) ∧
    16 ≤ ((turn .active (fun d => { d with rxTileNo := 16 })).dlk 63).rxTileNo ∧
    (lostTile 3 256 true 2 1).lane = 3 ∧
    (((dal .active (fun d => { d with returnsSeen := [(7, 2 ^ 32 - 1)] })).dlk 63).returnsSeen.get 0 7) < 2 ^ 32 := by decide +kernel

theorem witness_MarksTimesAndTraining :
    (dal .active id).held = false ∧ sendsTiles ((dal .backoff id).port 63) = false ∧ sendsTiles ((dal .active id).port 63) = true ∧
    (let s := dal .dlkTrain id; sendsTiles (s.port 63) = true ∧ stripes (s.port 63) = false) ∧
    (let s := turn .active (fun d => { d with rxAt := 257 })
     stripes (s.port 63) = true ∧ 512 ≤ slotAhead 256 ((rxLine 63 3 256 2 1 false true s).dlk 63).rxAt) ∧
    (let d := (rxLine 63 3 256 2 1 false true (turn .active id)).dlk 63; slotAhead 256 d.rxAt = 0 ∧ d.rxDone.testBit 3 = false) ∧
    (let s := dal .active (fun d => { d with rxGood := 8, striped := true, trains := [(3, { DlkTrain.reset with trainRun := 7 })] })
     let u := headerCredit 63 255 (modDlk 63 (fun d => { d with rxStripe := clearBit d.rxStripe 3 }) (modTrain 63 3 (fun x => { x with trainRun := x.trainRun + 1 }) s))
     stripes (s.port 63) = true ∧ (u.port 63).st = .active ∧ (u.dlk 63).striped = true ∧ (u.dlk 63).rxGood = 8 ∧ 8 ≤ ((u.dlk 63).train 3).trainRun) ∧
    (let s := dal .lock (fun d => { d with trained := 8, striped := true, trains := [(3, { DlkTrain.reset with trainRun := 8 })] })
     (s.port 63).st = .lock ∧ stripes (s.port 63) = false ∧ (s.dlk 63).striped = true ∧ 8 ≤ ((s.dlk 63).train 3).trainRun) ∧
    (let s := dal .dlkTrain id; (s.port 63).st = .dlkTrain ∧ stripes (s.port 63) = false) ∧
    (let s := dal .active (fun d => { d with rxGood := 7 })
     stripes (s.port 63) = true ∧ (s.dlk 63).rxGood.testBit 3 = false ∧ (s.dlk 63).bgState.get 0 3 ≠ 2 ∧ (s.dlk 63).striped = false) ∧
    (let s := dal .active (fun d => { d with rxGood := 15 }); (s.dlk 63).striped = false ∧ (s.dlk 63).rxGood.testBit 3 = true) := by decide +kernel

/-! ### Frames, the crossbar, egress, rings and slices -/

theorem witness_TheLedgerGuardsEveryBuffer :
    (31 : Nat) < 32 ∧ (3 : Nat) < 4 ∧
    (let v := (setLedger 5 (ledgerByte 16 1) sRun).ledgerOf 5; evenParity v = true ∧ ledgerOwner v = 16 ∧ ledgerState v = 1 ∧ ledgerState v ≠ 0) ∧
    ledgerState (sRun.ledgerOf 5) = 0 ∧ evenParity (sRun.ledgerOf 5) = true ∧
    evenParity ((setLedger 5 (ledgerByte 16 1 + 1) sRun).ledgerOf 5) = false := by decide +kernel

/-- A frame of P00 of these bytes, complete or not, in a buffer or not. -/
def frameOf (complete buffered : Bool) (result : Option Result) (b : Bytes) : Frame :=
  { newFrame sRun 0 0 0 b 64 0 with complete := complete, buffered := buffered, result := result, bufBytes := if buffered then 256 else 0 }

/-- P00 up with a frame. -/
def withFrame (f : Frame) : State := modCore (fun c => { c with frames := [f] }) (onPort 0 .up sRun)

/-- 64 bytes with a good FCS, and with a bad one. -/
def good64 : Bytes := zeros 60 ++ le 4 (crc32 (zeros 60))
def bad64 : Bytes := zeros 64
def good72 : Bytes := zeros 68 ++ le 4 (crc32 (zeros 68))

/-- A result to P01. -/
def toP1 : Result := { dest := .port 1, tc := 0, vid := 1, tagged := false, egressTag := none, rewrite := none, epoch := 0, slice := 0, excess := false }

theorem witness_FramesAreJudged_grant :
    (onPort 0 .up sRun).held = false ∧ ((onPort 0 .fault sRun).port 0).st ≠ .up ∧
    (receivingOn (withFrame (frameOf false false none [])) 0).isSome = true ∧
    (let s := onPort 0 .up sRun
     (s.port 0).st = .up ∧ receivingOn s 0 = none ∧ ownTraffic s (zeros 64) = false ∧ quadLost s 0 = false ∧ s.pausedMode = false ∧
       s.sys.mode ≠ .provision ∧ s.sys.mode ≠ .quiesce ∧ s.sys.mode ≠ .safe) ∧
    ownTraffic sRun (zeros 12 ++ [0x88, 0x08] ++ zeros 50) = true ∧ ownTraffic sRun (zeros 12 ++ [0x88, 0x09] ++ zeros 50) = true ∧
    (∀ m, m ∈ [Mode.provision, .quiesce, .safe] →
      let s := onPort 0 .up (at_ m .blank); (s.port 0).st = .up ∧ receivingOn s 0 = none ∧ ownTraffic s (zeros 64) = false ∧ s.sys.mode = m) ∧
    (let s := onPort 0 .up { (at_ .maintenance .blank) with sys := { (at_ .maintenance .blank).sys with paused := true } }
     s.pausedMode = true ∧ s.lossless 0 7 = false ∧ s.sys.mode = .maintenance) ∧
    quadLost (modSlice 0 (fun r => { r with st := .dead }) sRun) 0 = true := by decide +kernel

theorem witness_no_upsets : upset [] sRun = sRun := rfl

theorem witness_FramesAreJudged_end :
    (let f := frameOf false true none []; let s := withFrame f
     receivingOn s 0 = some f ∧ s.frame? f.id = some f ∧ (s.port 0).st = .up) ∧
    receivingOn (onPort 0 .up sRun) 0 = none ∧ ((onPort 0 .fault sRun).port 0).st ≠ .up ∧
    sRun.gcp.arrived = [] ∧ sRun.gcp.pcie.waiting = [] ∧ sRun.gcp.inband.waiting = [] ∧ sRun.gcp.sideband.waiting = [] ∧ sRun.core.poolsHold = none ∧
    (zeros 63).length < 64 ∧
    (let f := { frameOf false false none [] with accepted := true }; f.accepted = true ∧ f.result = none) ∧
    ((frameOf false false none []).accepted = false ∧ (frameOf false false none []).buffered = false) ∧
    ((frameOf false true none []).buffered = true ∧ good64.length ≤ (frameOf false true none []).bufBytes) ∧
    (let f := { frameOf false true none [] with bufBytes := 64 }; f.accepted = false ∧ f.buffered = true ∧ f.bufBytes < good72.length) := by
  decide +kernel

theorem witness_FramesAreJudged_end_long : cfg63.maxFrame < (zeros 9217).length := by simp [zeros, cfg63]

theorem witness_FramesAreJudged_end_bad : 64 ≤ bad64.length ∧ bad64.length ≤ cfg63.maxFrame ∧ fcsGood bad64 = false := by decide +kernel

theorem witness_FramesAreJudged_end_good : 64 ≤ good64.length ∧ fcsGood good64 = true := by decide +kernel

theorem witness_FramesAreJudged_end_overrun : fcsGood good72 = true := by decide +kernel

/-- A frame to P01 that is still arriving; P01 is up at the same rate and cuts class 0 through. -/
def cutting (b : Bytes) : State :=
  modEg 1 (fun e => { e with express := some 0 }) (onPort 1 .up (withFrame (frameOf false true (some toP1) b)))

theorem witness_FramesAreJudged_lookup :
    awaitingLookup sRun 0 = none ∧
    (let f := frameOf true true none good64; let s := withFrame f; awaitingLookup s 0 = some f ∧ quadLost s 0 = false) ∧
    quadLost (modSlice 0 (fun r => { r with st := .dead }) sRun) 0 = true ∧
    awaitingResult sRun 0 = none ∧
    (let f := frameOf true true (some toP1) good64; let s := withFrame f
     awaitingResult s 0 = some f ∧ f.result = some toP1 ∧ f.complete = true ∧ (0 : Fin 16).val = s.epoch (quadOf 0) ∧ (15 : Fin 16).val ≠ s.epoch (quadOf 0) ∧
       toP1.slice = 0 ∧ s.quadSlice (quadOf 0) = 0 ∧ toP1.slice ≠ 16 ∧ (s.slice 0).st ≠ .dead ∧ (s.slice 0).st ≠ .quarantine ∧ cutsThrough s f toP1 = false) ∧
    (∀ n, n ∈ [255, 256] →
      let s := cutting (zeros n); let f := frameOf false true (some toP1) (zeros n)
      awaitingResult s 0 = some f ∧ f.complete = false ∧ f.good = true ∧ cutsThrough s f toP1 = true ∧ f.len = n) ∧
    ((modSlice 0 (fun r => { r with st := .dead }) sRun).slice 0).st = .dead ∧
    ((modSlice 0 (fun r => { r with st := .quarantine }) sRun).slice 0).st = .quarantine := by decide +kernel

theorem witness_FramesAreJudged_pools :
    ((modPool 5 (fun q => { q with refill := some [300] }) sRun).pool 5).refill = some [300] ∧ (sRun.pool 5).refill = none ∧
    ((modPool 5 (fun q => { q with spill := some [7] }) sRun).pool 5).spill = some [7] ∧ (sRun.pool 5).spill = none := by decide +kernel

theorem witness_CrossbarPairsAreAMatching :
    sRun.held = false ∧ ∀ r, r ∈ [(⟨63, 63, 7, false⟩ : Req), ⟨0, 0, 0, true⟩] → r.i < 64 ∧ r.j < 64 ∧ r.c < 8 := by decide +kernel

/-- A stored frame of P01, started or not. -/
def entry (started : Bool) : StoreEntry :=
  { frame := 0, size := 64, arrived := 64, bytes := good64, copies := [(0, false)], started := started, result := none, inPort := 1, stamp := 0, inject := none, fw := none }

/-- P00 up with a stored frame in a class, its egress changed. -/
def stored (c : Nat) (e : StoreEntry) (f : Egress → Egress) : State :=
  modEg 0 f (modCore (fun k => { k with store := k.store.set c [e] }) (onPort 0 .up sRun))

/-- A Stop bath that discards. -/
def bath (discard : Bool) (emptyAt : Option Nat) : BathWork :=
  { discard := discard, classMask := 0xFF, inPort := 0xFF, outPort := 0xFF, holdMs := 1, mc := false, emptyAt := emptyAt, left := 1 }

/-- What a port prepares before it chooses a frame, and the started frame it would finish. -/
def prepared (s : State) : State := fillShapers 0 (fwAdmit 0 (s.core.fwQueue.get [] 0).length s)
def startedOn (t : State) : Option (Nat × StoreEntry) :=
  (List.range 8).findSome? (fun c => if segBusy t 0 c then none else ((t.storeOf 0 c).find? (fun e => e.started)).map (fun e => (c, e)))

theorem witness_Egress_select :
    sRun.held = false ∧ (sRun.port 0).isUp = false ∧ (onPort 0 .up sRun).moves = true ∧ ((onPort 0 .up sRun).port 0).isUp = true ∧
    startedOn (prepared (stored 5 (entry true) id)) = some (5, entry true) ∧
    (let fw := { entry false with inPort := 65 }
     let t := prepared { (stored 7 fw id) with sys := (at_ .provision .blank).sys }
     startedOn t = none ∧ t.moves = false ∧ fwReady t 0 = some fw) ∧
    (let t := prepared { (stored 7 (entry false) id) with sys := (at_ .provision .blank).sys }
     startedOn t = none ∧ t.moves = false ∧ fwReady t 0 = none) ∧
    (let t := prepared (stored 7 (entry false) id)
     startedOn t = none ∧ t.moves = true ∧ 0 ≤ (t.eg 0).bucket7.level ∧ classReady t 0 7 = some (entry false)) ∧
    (let t := prepared (stored 6 (entry false) id)
     startedOn t = none ∧ t.moves = true ∧ classReady t 0 7 = none ∧ (t.eg 0).permil6 = 0 ∧ classReady t 0 6 = some (entry false)) ∧
    (let t := prepared (stored 6 (entry false) (fun e => { e with permil6 := 1 }))
     startedOn t = none ∧ (t.eg 0).permil6 ≠ 0 ∧ 0 ≤ (t.eg 0).bucket6.level ∧ classReady t 0 6 = some (entry false)) ∧
    (let t := prepared (onPort 0 .up sRun); startedOn t = none ∧ t.moves = true ∧ ∀ c, c < 8 → classReady t 0 c = none) ∧
    dwrr [(0, 276)] [1, 1, 1, 1, 1, 1] 100 5 [20, 0, 0, 0, 0, 0] = some (0, [276, 0, 0, 0, 0, 0]) := by decide +kernel

theorem witness_Egress_pauses :
    ((onPort 0 .fault sRun).port 0).st ≠ .up ∧ ((onPort 0 .up sRun).port 0).st = .up ∧ (sRun.flow 0).mode ≠ 2 ∧ (sRun.flow 0).mode ≠ 1 ∧
    ((modFlow 0 (fun f => { f with mode := 2 }) sRun).flow 0).mode = 2 ∧ ((modFlow 0 (fun f => { f with mode := 1 }) sRun).flow 0).mode = 1 ∧
    (0x80 : Byte).toNat.testBit 7 = true ∧ (0x7F : Byte).toNat.testBit 7 = false ∧ (0xFFFF : BitVec 16) ≠ 0 ∧
    (sRun.fc 0 7).paused = false ∧ ((modFc 0 7 (fun q => { q with paused := true }) sRun).fc 0 7).paused = true ∧
    (let s := modFc 0 7 (fun q => { q with xoff := true }) (modFlow 0 (fun f => { f with lossless := 0x80 }) (onPort 0 .up sRun))
     s.lossless 0 7 = true ∧ (s.fc 0 7).xoff = true ∧ (s.port 0).isUp = true) ∧
    sRun.lossless 0 7 = false ∧ (sRun.fc 0 7).xoff = false := by decide +kernel

/-- A frame that waits in a VOQ towards P01. -/
def queued : Frame := { frameOf true true (some toP1) good64 with accepted := true, stage := .queued, queueKey := voqKey 0 1 0, handle := 5 }

/-- The head a DISCARD bath may take. -/
def bathHead (s : State) : Option Frame :=
  s.core.queues.findSome? (fun (_, ids) => ((ids.head?).bind s.frame?).filter (fun f => (bath true none).selects f && !f.inFlight))

theorem witness_Egress_baths :
    (bathCheck sRun).op? 7 = none ∧
    (let u := bathCheck (withOp 4 .running (.bath { bath true (some 0) with left := 0 }) sRun)
     ((u.op? 7).map (fun o => (o.work, o.state))) = some (.bath { bath true (some 0) with left := 0 }, .running)) ∧
    (let u := bathCheck (withOp 4 .running (.bath (bath true none)) (withFrame queued))
     ((u.op? 7).map (·.work)) = some (.bath (bath true none))) ∧
    sRun.op? 7 = none ∧
    (let s := withOp 4 .suspended (.bath (bath true none)) sRun; ((s.op? 7).map (·.working)) = some false) ∧
    (let s := withOp 4 .running (.bath (bath true none)) sRun
     ((s.op? 7).map (fun o => (o.work, o.working))) = some (.bath (bath true none), true) ∧ bathHead s = none) ∧
    (let k := modCore (fun c => { c with queues := [(voqKey 0 1 0, [0])] })
     let s := withOp 4 .running (.bath (bath true none)) (k (withFrame queued))
     bathHead s = some queued ∧ bathHead (k (withFrame { queued with inFlight := true })) = none) ∧
    (let w := bath false none; let v := withOp 4 .running (.bath w) sRun
     (v.ops.map (fun o => (o.handle, o.work, o.working))) = [(7, .bath w, true)] ∧ (v.core.frames.filter w.selects).length = 0 ∧ w.left = 1) := by decide +kernel

/-- A trap ring that is live with one descriptor. -/
def sTrap : State := { sRun with trap := [(7, { CpuRing.reset with enable := true, posted := [(zeros 32, [])] })] }

/-- The same for an inject ring, its descriptor done or not. -/
def sInj (fin : Option Bytes) : State :=
  { sRun with inject := [(7, { CpuRing.reset with enable := true, posted := [(zeros 32, [])], taken := fin.isSome, fin := fin })] }

/-- A descriptor of a length, a port and a class. -/
def desc (len : Nat) (port tc : Byte) : Bytes := zeros 8 ++ le 2 len ++ [port, tc] ++ zeros 20

theorem witness_CpuRingsServeTheHost :
    sRun.held = false ∧
    (let s := modCore (fun c => { c with frames := [queued], queues := [(trapKey 0 7, [0])] }) sTrap
     (s.trapRing 7).enable = true ∧ s.dma = true ∧ (s.trapRing 7).posted = [(zeros 32, [])] ∧ nextTrap s 7 = some queued) ∧
    (sRun.trapRing 7).enable = false ∧ (sTrap.trapRing 7).enable = true ∧ nextTrap sTrap 7 = none ∧
    (let s := sInj (some (zeros 9)); (s.injRing 7).enable = true ∧ s.dma = true ∧ (s.injRing 7).posted = [(zeros 32, [])] ∧ (s.injRing 7).fin = some (zeros 9)) ∧
    (sRun.injRing 7).enable = false ∧
    (let t := sInj none; (t.injRing 7).enable = true ∧ t.dma = true ∧ (t.injRing 7).taken = false ∧ (t.injRing 7).posted = [(zeros 32, [])] ∧
       injectRefusal t (zeros 32) = some 3) ∧
    field (desc 59 0 0) 8 2 < 60 ∧ 9212 < field (desc 9213 0 0) 8 2 ∧ 7 < (byteAt (desc 60 0 8) 11).toNat ∧
    (let d := desc 9212 63 7; 60 ≤ field d 8 2 ∧ field d 8 2 ≤ 9212 ∧ (byteAt d 11).toNat ≤ 7 ∧ sRun.moves = true ∧ (at_ .provision .blank).moves = false) ∧
    (sysWith (fun y => { y with perst := true })).sys.perst = true ∧ sRun.sys.perst = false ∧
    sRun.barServed = true ∧ statLive sRun = true ∧ ({ sRun with stat := { sRun.stat with enable := true } } : State).stat.enable = true := by decide +kernel

/-- Slice 3's record changed. -/
def sliceWith (f : SliceRec → SliceRec) : State := modSlice 3 f sRun

theorem witness_SlicesFailOverAndTheVoltageFollows :
    sRun.held = false ∧ sliceQuad sRun 16 = none ∧ sliceQuad sRun 3 = some 3 ∧ (sRun.slice 3).st = .active ∧
    (let s := sliceWith (fun r => { r with st := .suspect, stalled := 1 }); sliceQuad s 3 = some 3 ∧ (s.slice 3).st = .suspect ∧ (s.slice 3).stalled < 2) ∧
    (let s := sliceWith (fun r => { r with st := .suspect, stalled := 2 }); (s.slice 3).st = .suspect ∧ 2 ≤ (s.slice 3).stalled ∧ s.core.spare = some 16) ∧
    (modCore (fun c => { c with spare := none }) sRun).core.spare = none ∧
    (let s := sliceWith (fun r => { r with st := .quarantine }); (s.slice 3).st ≠ .active ∧ (s.slice 3).st ≠ .suspect) ∧
    sRun.core.taking = [] ∧ (modCore (fun c => { c with taking := [(16, 3), (2, 0)] }) sRun).core.taking = [(16, 3), (2, 0)] ∧
    (modCore (fun c => { c with dlTime := 0 }) sRun).core.dlTime = 0 ∧ pausedUntil sRun 0 7 (pausedFrom sRun 0 7 + sRun.core.dlTime * msTicks) = false ∧
    (let s := modFc 0 7 (fun q => { q with paused := true, pausedSince := some 0, lastMoved := 5, pauseEnd := 5 + sRun.core.dlTime * msTicks }) sRun
     s.core.dlTime ≠ 0 ∧ pausedFrom s 0 7 = 5 ∧ pausedUntil s 0 7 (5 + s.core.dlTime * msTicks) = true ∧
       s.core.deadlocks.any (fun d => d.port == 0 && d.tc == 7) = false) ∧
    sRun.core.avs.fault = false ∧ (modCore (fun c => { c with avs := { c.avs with fault := true } }) sRun).core.avs.fault = true ∧
    (modCore (fun c => { c with avs := { c.avs with fails := 1 } }) sRun).core.avs.fails + 1 < 3 ∧
    3 ≤ (modCore (fun c => { c with avs := { c.avs with fails := 2 } }) sRun).core.avs.fails + 1 ∧
    (pwrWith (fun q => { q with state := .sleep })).pwr.state = .sleep ∧ sRun.pwr.state ≠ .sleep ∧
    (let a := (modCore (fun c => { c with avs := { c.avs with vmax := 749 } }) sRun).core.avs; a.vmax < a.target) ∧
    sRun.core.avs.target ≤ sRun.core.avs.vmax ∧ sRun.core.avs.vmin ≤ sRun.core.avs.target := by decide +kernel

/-- One run of the loop's reading, with slice 0's rate and the runs above so far. -/
def avsAt (rate above : Nat) : State :=
  readExtra ([(0, rate, rate)].foldl notePace (modCore (fun c => { c with avs := { c.avs with above := above } }) (onPort 0 .up sRun)))

theorem witness_VoltageFollowsTheMargin :
    (let w := avsAt 1 0; let a := w.core.avs
     leastOf (margin w) (avsSlices w) = some 0 ∧ a.hold = false ∧ a.target < a.vmax ∧ margin w 0 < a.margin) ∧
    (let w := avsAt 1000000 99; let a := w.core.avs
     leastOf (margin w) (avsSlices w) = some 0 ∧ a.target ≤ a.vmax ∧ a.margin + 50 < margin w 0 ∧ a.vmin < a.target ∧ 99 ≤ a.above ∧ a.above ≤ 100) ∧
    (let w := avsAt 1000000 98; let a := w.core.avs; a.margin ≤ margin w 0 ∧ a.above < 99) := by decide +kernel

/-! ### Tables, operations and calibration -/

/-- A table access window changed. -/
def winWith (w : Nat) (f : Window → Window) (s : State) : State := modWin w f s

theorem witness_WindowOperationsAnswerInTheirWindow :
    sRun.held = false ∧ State.reset.barServed = false ∧ (sRun.barServed = true ∧ (sRun.win 17).busy = false) ∧
    (let s := winWith 17 (fun q => { q with busy := true }) sRun; s.barServed = true ∧ (s.win 17).busy = true) ∧
    (6 < (7 : Nat)) ∧ writesDenied (at_ .run .retired) = true ∧ writesDenied (pwrWith (fun q => { q with state := .sleep })) = true ∧
    ((modSlice 16 (fun r => { r with st := .dead }) sRun).slice 16).st = .dead ∧
    dataOk 3 [2 ^ 21 - 2, 2 ^ 32 - 1, 65535] = true ∧ dataOk 4 [64, 0, 0] = true ∧ dataOk 5 [65535, 0, 0] = true ∧ (sRun.tab 16).ecc.wf = true ∧
    (sRun.tab 16).nh.wf = true := by decide +kernel

theorem witness_WindowOperationsTakeTurns :
    portAhead 16 6 sRun = [] ∧
    (let s := winWith 16 (fun q => { q with busy := true }) sRun
     portAhead 16 6 s = [16] ∧ s.tables.turns.get 0 16 = 0 ∧ (s.win 16).busy = true) ∧
    (let s := { winWith 17 (fun q => { q with busy := true }) sRun with tables := { (winWith 17 (fun q => { q with busy := true }) sRun).tables with turns := [(16, 1)] } }
     s.tables.turns.get 0 16 = 1 ∧ (s.win 17).busy = true ∧ 17 ∈ portAhead 16 6 s) := by decide +kernel

/-- Slice 16's tables changed. -/
def tabWith (f : SliceTab → SliceTab) : State := modTab 16 f sRun

/-- A learned entry of the FDB. -/
def fdbEntry (dyn hit : Bool) : SliceTab → SliceTab := fun T => { T with fdb := [(66559, .entry { key := zeros 8, data := 0, dyn := dyn, hit := hit })] }

/-- A shadow region. -/
def shadow (seen : List (Nat × Nat × Nat)) (s : State) : State :=
  { s with tables := { s.tables with shadows := [(6, { addr := 0, count := 1, rate := 1, next := 0, seen := seen })] } }

/-- A bulk load that is at a record, and a FENCE with a limit. -/
def workBulk (source next : Nat) : Work := .bulk { table := 3, op := 2, source := source, count := 2, addr := 0, firstIndex := 0, records := [zeros 96, zeros 96], next := next }
def workFence (lim : Nat) : Work := .fence [1] 1 lim

/-- A learned entry found by its key, and a longest-prefix search outside the TCAM. -/
theorem witness_WindowOperationsFindEntries :
    (let e : KEntry := { key := xKey 0 5, data := 0, dyn := true, hit := false }
     let s := tabWith (fun T => { T with fdb := [(4 * bucket1 0 e.key, .entry e)] })
     xFind ((s.tab 16).x 0) (xKey 0 5) = some (4 * bucket1 0 e.key, e)) ∧
    lpmLen 0xFF00 = 0xFF ∧ ((tabWith (fun T => { T with mode := .rebuild })).tab 16).mode ≠ .tcam := by decide +kernel

/-- A slice whose routes no longer fit. -/
def fullSlice (T : SliceTab) : SliceTab :=
  { T with mode := .selftest, badSlots := List.range 16383,
           lpm := [(0, { v6 := true, len := 128, pfx := 0, data := 0, hit := false, bad := false }),
                   (2, { v6 := false, len := 32, pfx := 0, data := 0, hit := false, bad := false })] }

theorem witness_TablesLookAfterThemselves_rows :
    sRun.held = false ∧ sRun.tables.ageOn = true ∧ sRun.pwr.state ≠ .sleep ∧ (pwrWith (fun q => { q with state := .sleep })).pwr.state = .sleep ∧
    ({ sRun with tables := { sRun.tables with ageOn := false } } : State).tables.ageOn = false ∧
    xAt ((portGrant 16 4 sRun).tab 16).fdb 66559 = none ∧
    xAt ((portGrant 16 4 (tabWith (fdbEntry false true))).tab 16).fdb 66559 = some { key := zeros 8, data := 0, dyn := false, hit := true } ∧
    xAt ((portGrant 16 4 (tabWith (fdbEntry true true))).tab 16).fdb 66559 = some { key := zeros 8, data := 0, dyn := true, hit := true } ∧
    xAt ((portGrant 16 4 (tabWith (fdbEntry true false))).tab 16).fdb 66559 = some { key := zeros 8, data := 0, dyn := true, hit := false } ∧
    (pwrWith (fun q => { q with state := .ride })).pwr.state = .ride ∧ sRun.pwr.state ≠ .ride ∧
    ((tabWith (fun T => { T with deletes := 4095 })).tab 16).deletes < 4096 ∧ 4096 ≤ ((tabWith (fun T => { T with deletes := 4096 })).tab 16).deletes ∧
    ((tabWith (fun T => { T with mode := .tcam })).tab 16).mode = .tcam ∧
    rebuildOp sRun 16 = none ∧
    (let s := withOp 3 .running (.rebuild 16 false) (tabWith (fun T => { T with mode := .rebuild }))
     ((rebuildOp s 16).map (·.state)) = some .running ∧ (s.tab 16).mode = .rebuild) ∧
    (let s := withOp 3 .suspended (.rebuild 16 false) (tabWith (fun T => { T with mode := .rebuild }))
     ((rebuildOp s 16).map (·.state)) = some .suspended) ∧
    (sRun.tab 16).mode ≠ .selftest ∧
    (let s := tabWith (fun T => { T with mode := .selftest }); (s.tab 16).mode = .selftest ∧ (s.tab 16).fits [] = true) := by decide +kernel

theorem witness_TablesLookAfterThemselves_selftest :
    (let s := tabWith fullSlice
     (s.tab 16).mode = .selftest ∧ (s.tab 16).fits [] = false ∧ rebuildOp s 16 = none ∧
     (rebuildOp (withOp 3 .running (.rebuild 16 true) s) 16).isSome = true) := by decide +kernel

theorem witness_TablesLookAfterThemselves_shadow :
    sRun.tables.shadows.find? 6 = none ∧
    (let s := shadow [] sRun
     s.tables.shadows.find? 6 = some { addr := 0, count := 1, rate := 1, next := 0, seen := [] } ∧ s.dma = true ∧ s.pwr.state ≠ .ride ∧ s.pwr.state ≠ .sleep) ∧
    (let s := { sRun with tables := { sRun.tables with shadows := [(2, { addr := 0, count := 0, rate := 1, next := 0, seen := [] })] } }
     s.tables.shadows.find? 2 = some { addr := 0, count := 0, rate := 1, next := 0, seen := [] }) ∧
    (let s := { shadow [] sRun with sys := { sRun.sys with d3hot := true } }; s.dma = false) ∧
    (let u := shadow [(16, 5, 0)] sRun; u.clk.now < 0 + 10 * msTicks) ∧
    (let u := { shadow [(16, 5, 0)] sRun with clk := { sRun.clk with now := 10 * msTicks } }; 0 + 10 * msTicks ≤ u.clk.now) := by decide +kernel

theorem witness_TablesLookAfterThemselves_operations :
    sRun.op? 7 = none ∧
    (let s := withOp 2 .running (workBulk 0 1) sRun; ((s.op? 7).map (fun o => (o.work, o.working))) = some (workBulk 0 1, true)) ∧
    (let s := withOp 2 .suspended (workBulk 0 1) sRun; ((s.op? 7).map (·.working)) = some false) ∧
    (let x := bulkRecord 3 2 (zeros 96) 1 sRun; x.1 = 0) ∧ (bulkRecord 3 2 (zeros 95 ++ [1]) 1 sRun).1 ≠ 0 ∧
    (let s := withOp 6 .running (workFence 1) sRun; ((s.op? 7).map (fun o => (o.work, o.state))) = some (workFence 1, .running)) := by decide +kernel

theorem witness_OperationsWorkStepByStep_fw :
    sRun.held = false ∧ sRun.op? 7 = none ∧ sRun.pwr.nvInhibit = false ∧ sRun.dma = true ∧ (7 : Nat) ≠ 0 ∧
    (let s := withOp 1 .cancelling (workFw 1 65536 0 []) sRun; ((s.op? 7).map (·.state)) = some .cancelling) ∧
    (let s := withOp 1 .running (workFw 1 65536 65536 []) sRun
     ((s.op? 7).map (fun o => (o.working, o.state))) = some (true, .running)) ∧
    (∃ w, workFw 1 65536 65536 [] = .fw w ∧ w.size ≤ w.written) ∧
    (∃ w, workFw 1 65536 0 [] = .fw w ∧ w.written < w.size ∧ w.waits = true) ∧
    (∃ w, workFw 0 65537 65536 [] = .fw w ∧ w.written < w.size ∧ w.waits = false ∧ w.size ≤ w.written + min 65536 (w.size - w.written)) ∧
    (∃ w, workFw 0 65537 0 [] = .fw w ∧ w.waits = false ∧ w.written + min 65536 (w.size - w.written) < w.size) := by
  refine ⟨?_, ?_, ?_, ?_, ?_, ?_, ?_, ⟨_, rfl, ?_⟩, ⟨_, rfl, ?_⟩, ⟨_, rfl, ?_⟩, ⟨_, rfl, ?_⟩⟩ <;> decide +kernel

/-- An export of records 1 to 2, at a record. -/
def expW (next : Nat) : ExportWork :=
  { first := 1, last := 2, upto := 3, key := none, next := next, addr := 0, lifecycle := 0, copied := [], count := 0, missing := 0, prevChain := none,
    todSec := 0, todNs := 0, timeGen := 0 }

/-- One record in the Negative, with SEQ 1. -/
def sNeg : State := { sRun with nv := { sRun.nv with slots := [(0, le 4 1 ++ zeros 60)], nextSeq := 3 } }

theorem witness_OperationsWorkStepByStep_copies :
    exportNext (expW 2) (withOp 8 .running (.negExport (expW 2)) sNeg) = none ∧
    exportNext (expW 1) (withOp 8 .running (.negExport (expW 1)) sNeg) = some (1, le 4 1 ++ zeros 60) ∧
    (let s := withOp 8 .running (.negExport (expW 1)) sNeg
     ((s.op? 7).map (fun o => (o.work, o.working, o.state))) = some (.negExport (expW 1), true, .running)) ∧
    (let s := withOp 9 .running (.trace { built := [], key := [] }) sRun
     ((s.op? 7).map (fun o => (o.work, o.working, decide (o.units < 64)))) = some (.trace { built := [], key := [] }, true, true)) := by
  decide +kernel

/-- A sweep of block 355 that saves. -/
def sweepW (saving : Option (Nat × Bytes)) : SweepWork := { first := 355, count := 1, save := true, before := [], saving := saving }

/-- Block 355 converged. -/
def sConv : State := modCal 355 (fun b => { b with converged := true }) sRun

theorem witness_OperationsWorkStepByStep_sweep :
    (let s := withOp 7 .running (.sweep (sweepW none)) sConv
     ((s.op? 7).map (fun o => (o.work, o.state))) = some (.sweep (sweepW none), .running) ∧ s.pwr.nvInhibit = false ∧
       ∀ i, 355 ≤ i → i < 355 + 1 → (s.cal i).converged = true) ∧
    (let s := withOp 7 .running (.sweep (sweepW (some (1, zeros 64)))) sConv
     ((s.op? 7).map (·.work)) = some (.sweep (sweepW (some (1, zeros 64))))) ∧
    (let s := withOp 7 .running (.sweep (sweepW none)) sRun; (s.cal 355).converged = false) := by
  refine ⟨⟨by decide +kernel, by decide +kernel, ?_⟩, by decide +kernel, by decide +kernel⟩
  intro i h1 h2
  obtain rfl : i = 355 := by omega
  decide +kernel

/-- A measurement between channels 68 and 69. -/
def meterW (granted : Bool) (startStamp : Option Int) : Meter :=
  { start := 68, stop := 69, stops := 1, window := 1000, lookback := 0, waitMs := 1, granted := granted, armedAt := 0, startStamp := startStamp,
    startTs := [], found := [], early := false, lastEnd := none, lastStart := none, queued := none, n := 1, accepted := 0, order := 0, noStop := 0, coincident := 0,
    skipped := 0, spacing := 0, sum := 0, sumSq := 0, minV := 0, maxV := 0 }

/-- Engine 7 claimed. -/
def claimedBy (h : Nat) (m : Meter) (s : State) : State := modEngine 7 (fun e => { e with role := .claimed 68 69 h, meter := some m }) s

theorem witness_OperationsWorkStepByStep_windows :
    (sRun.engine 7).meter = none ∧ (sRun.engine 7).role = .rotating ∧
    (∀ h, h ∈ [0, 7] → ∀ m, m ∈ [meterW true none, meterW true (some 0), meterW false none] →
      let s := claimedBy h m (withOp 10 .running (.stats 7 none) sRun)
      (s.engine 7).role = .claimed 68 69 h ∧ (s.engine 7).meter = some m ∧ ((s.op? 7).map (·.state)) = some .running) ∧
    (meterW true none).granted = true ∧ (meterW true none).startStamp = none ∧ (meterW true (some 0)).startStamp ≠ none := by decide +kernel

theorem witness_CalibrationTakesItsSteps :
    sRun.held = false ∧ calSteps? State.reset 355 = false ∧
    (∃ i : Fin 356, calSteps? sRun i = true ∧ sweepOf sRun i = none ∧ (sRun.cal i).applied ≠ some sRun.clk.now) ∧
    (∃ i : Fin 356, calSteps? (withOp 7 .running (.sweep { first := 352, count := 4, save := true, before := [], saving := none }) sRun) i = true ∧
      (sweepOf (withOp 7 .running (.sweep { first := 352, count := 4, save := true, before := [], saving := none }) sRun) i).isSome = true) ∧
    ((modCal 355 (fun b => { b with applied := some 0 }) sRun).cal 355).applied = some sRun.clk.now ∧
    sRun.tim.calDirty = [] ∧ ({ sRun with tim := { sRun.tim with calDirty := [255], pubAt := some 0 } } : State).tim.calDirty ≠ [] ∧
    (let s := dal .active id; stripes (s.port 63) = true ∧ (s.port 63).cfg.dalom = true) ∧ sRun.barServed = true ∧ State.reset.barServed = false :=
  by refine ⟨?_, ?_, ⟨355, ?_⟩, ⟨355, ?_⟩, ?_⟩ <;> decide +kernel

theorem witness_a_step_is_accepted_or_dropped :
    (∃ i : Fin 356, calSteps? sRun i = true ∧ calAssumed sRun i (List.replicate 16 0) = true) ∧
    (∃ i : Fin 356, calSteps? sRun i = true ∧ calAssumed sRun i (List.replicate 16 0) = false) :=
  ⟨⟨355, by decide +kernel⟩, ⟨0, by decide +kernel⟩⟩

/-! ### The host's registers and the test port -/

/-- The IRQ part changed. -/
def irqWith (f : Irq → Irq) : State := { sRun with irq := f sRun.irq }

theorem witness_InterruptsRecordsAndRegisters :
    (127 : Nat) < 128 ∧ unqueued 24 = false ∧ unqueued 23 = true ∧ sRun.irq.held = [] ∧ sRun.irq.evqRoom = false ∧
    (irqWith (fun q => { q with evqEnable := true })).irq.evqRoom = true ∧ sRun.dma = true ∧
    256 ≤ (irqWith (fun q => { q with held := List.replicate 256 [] })).irq.held.length ∧
    (pwrWith (fun q => { q with nvInhibit := true })).pwr.nvInhibit = true ∧
    sRun.held = false ∧ sRun.sys.perst = false ∧ (sysWith (fun y => { y with perst := true })).sys.perst = true ∧
    (sRun.irq.pendingMsg.getLsbD 63 = false) ∧ ((irqWith (fun q => { q with pendingMsg := 1#64 <<< 63 })).irq.pendingMsg.getLsbD 63 = true) ∧
    sRun.barServed = true ∧ State.reset.barServed = false ∧ State.reset.sys.mode = .safe ∧
    statLive sRun = true ∧ statLive (pwrWith (fun q => { q with state := .sleep })) = false ∧
    ({ sRun with stat := { sRun.stat with enable := true } } : State).stat.enable = true ∧ sRun.mbx.enable = true ∧
    ((winWith 17 (fun q => { q with busy := true }) sRun).win ((0x111010 - 0x100000) / 0x1000)).busy = true ∧ (0x111010 % 0x1000 : Nat) < 0x14 ∧
    (sTrap.trapRing (0x1D0 / 0x40)).enable = true ∧ (0x1D0 % 0x40 : Nat) ≠ 0x14 ∧ sRun.sys.mode ≠ .safe ∧ (0x30000 : Nat) % 4 = 0 ∧
    sRun.regRead true 0x1FF0 = some 0 ∧ sRun.regRead false 0x2A = none := by decide +kernel

theorem witness_IrqHoldoff :
    (let s := irqWith (fun q => { q with pendingMsg := 1#64 <<< 63, msix := [(63 * 4 + 3, 0)] })
     s.irq.pendingMsg.getLsbD 63 = true ∧ s.irq.masked 63 = false ∧ s.dma = true) := by decide +kernel

/-- A debug session at a level. -/
def dbgAt (l : Nat) : State := { sRun with dbg := { sRun.dbg with session := some { level := l, slot := 0, lifetime := 600, deadline := secTicks } } }

theorem witness_TestPortActsAtItsLevel :
    sRun.sys.auxDown = false ∧ (sysWith (fun y => { y with auxDown := true })).sys.auxDown = true ∧
    debugLevel sRun = 0 ∧ debugLevel (dbgAt 1) = 1 ∧ debugLevel (dbgAt 2) = 2 ∧ debugLevel (dbgAt 3) = 3 := by decide +kernel

/-! ### Timing -/

/-- The oscillator, a reference, or a loop changed. -/
def xoWith (f : Xo → Xo) : State := modXo f sRun
def refWith (r : Nat) (f : Ref → Ref) : State := modRef r f sRun
def dpllWith (d : Nat) (f : Dpll → Dpll) : State := modDpll d f sRun

theorem witness_OscillatorReferencesAndLoops_xo :
    sRun.held = false ∧ sRun.tim.xo.present = false ∧ sRun.tim.xo.lost = false ∧ sRun.tim.xo.ready = false ∧
    (let s := xoWith (fun x => { x with present := true }); s.tim.xo.present = true ∧ s.tim.xo.lost = false ∧ s.tim.xo.missing = false) ∧
    (xoWith (fun x => { x with present := true, lost := true })).tim.xo.lost = true ∧
    (let s := xoWith (fun x => { x with present := true, noPin := true })
     s.tim.xo.ready = true ∧ s.tim.xo.missing = false ∧ 10000 ≤ s.tim.xo.wander * 1000 ∧ s.tim.xo.wander * 1000 < 10001) := by decide +kernel

theorem witness_OscillatorReferencesAndLoops_refs :
    State.reset.sys.mode = .safe ∧ sRun.sys.mode ≠ .safe ∧ (sRun.ref 13).st = .disabled ∧
    (let s := refWith 4 (fun f => { f with st := .unqualified, activity := true })
     (s.ref 4).st ≠ .disabled ∧ activeNow s 4 true = true ∧ activeNow s 4 false = false ∧ (s.ref 4).activity = true) ∧
    (let s := refWith 4 (fun f => { f with st := .unqualified }); activeNow s 4 false = false ∧ (s.ref 4).activity = false) ∧
    (∀ st, st ∈ [RefSt.unqualified, .qualifying, .qualified] → ∀ o, o ∈ [(4000000 : Int), 4000001, -9200000] →
      let t := modRef 13 (fun f => { f with st := st, offset := o }) (xoWith (fun x => { x with present := true }))
      t.tim.xo.missing = false ∧ (t.ref 13).st = st ∧ mag (t.ref 13).offset ≤ (t.ref 13).reject * 1000 ∧
        (mag (t.ref 13).offset ≤ (t.ref 13).accept * 1000 ↔ o = 4000000)) ∧
    (let s := modRef 15 (fun f => { f with drift := true, offset := 4600000 }) (xoWith (fun x => { x with present := true }))
     (s.ref 15).drift = true ∧ mag (s.ref 15).offset ≤ softLimit (s.ref 15) ∧ s.tim.xo.missing = false) ∧
    softLimit (Ref.reset 15) < mag 4600001 ∧
    (let s := modRef 15 (fun f => { f with st := .qualifying, measured := true }) (xoWith (fun x => { x with present := true }))
     (s.ref 15).st = .qualifying ∧ s.tim.xo.missing = false ∧ (s.ref 15).measured = true) := by decide +kernel

theorem witness_OscillatorReferencesAndLoops_loops :
    (let q := (dpllWith 3 (fun q => { q with st := .acquire, phase := 655359 })).dpll 3
     q.st = .acquire ∧ q.lossAt = none ∧ q.freqOnly = false ∧ q.jump = none ∧ q.slew = none ∧ mag q.phase * 1000 < q.thresh * 65536) ∧
    (let q := (dpllWith 3 (fun q => { q with st := .locked, phase := 5242881 })).dpll 3
     q.st = .locked ∧ q.lossAt = none ∧ 8 * q.thresh * 65536 < mag q.phase * 1000) ∧
    (let q := (dpllWith 3 (fun q => { q with st := .locked, bw := 10000001 })).dpll 3
     q.st = .locked ∧ mag q.phase * 1000 < q.thresh * 65536 ∧ q.trackBw < q.bw) ∧
    (let s := dpllWith 0 (fun q => { q with st := .acquire, freqOnly := true }); let q := s.dpll 0
     q.st = .acquire ∧ q.freqOnly = true ∧ q.lossAt = none ∧ q.jump = none ∧ mag 655360 * 1000 ≤ q.stepLimit * 65536 ∧
       q.stepLimit * 65536 < mag (-655361) * 1000) ∧
    (sRun.dpll 0).slew = none ∧
    (let s := dpllWith 0 (fun q => { q with slew := some (-1) }); (s.dpll 0).slew = some (-1) ∧ 0 < (s.dpll 0).slope) ∧
    ((dpllWith 0 (fun q => { q with ho := true })).dpll 0).ho = true ∧
    (let s := modEsmc 63 (fun e => { e with enable := true, got := some 0 }) (eth .up)
     (s.esmc 63).enable = true ∧ (s.port 63).st = .up ∧ s.sys.mode ≠ .safe ∧ (s.port 63).cfg.dalom = false ∧ (s.esmc 63).got = some 0) ∧
    (sRun.port 63).isUp = false ∧ ((eth .up).port 63).isUp = true ∧
    (sRun.esmc 63).got = none := by decide +kernel

/-- A band of synthesizer 6, and the synthesizer with a table, a frequency and a band in force or none. -/
def band6 : Band := { code := 0, valid := true, tempco := 0, minK := 2000000, maxK := 3000000 }
def synWith (b : Option Band) (freq : Nat) : State :=
  modSyn 6 (fun y => { y with band := 0, freq := freq, table := some [band6], inForce := b }) sRun

theorem witness_OutputsLinesAndEngines_clocks :
    sRun.held = false ∧ State.reset.sys.mode = .safe ∧ sRun.sys.mode ≠ .safe ∧
    (let y := (synWith (some band6) 2500000000).syn 6; y.inForce = some band6 ∧ band6.serves 6 y.freq 0 = true) ∧
    (let y := (synWith none 2500000000).syn 6; y.inForce = none ∧ pickBand (y.bands 6) 6 y.freq sRun.pwr.tj = some 0) ∧
    (let y := (synWith (some band6) 4000000000).syn 6; band6.serves 6 y.freq sRun.pwr.tj = false ∧ pickBand (y.bands 6) 6 y.freq sRun.pwr.tj = none) ∧
    (let s := modSyn 6 (fun y => { y with st := 1 }) (modCko 7 (fun o => { o with st := .bridged, source := 6 }) sRun)
     (s.cko 7).st = .bridged) ∧
    (∃ src, sourceSettled (modSyn 6 (fun y => { y with st := 1 }) sRun) src = true) :=
  by refine ⟨?_, ?_, ?_, ?_, ?_, ?_, ?_, ⟨1, ?_⟩⟩ <;> decide +kernel

/-- A TOD message that is right: second 1,000,000,000, UTC offset +037, no leap second, class 006, accuracy 0x21, locked. -/
def todGood : Bytes :=
  let b : Bytes := [69, 84, 79, 68, 44, 48, 48, 48, 48, 48, 49, 48, 48, 48, 48, 48, 48, 48, 48, 48, 44, 43, 48, 51, 55, 44, 48, 44, 48, 48, 54, 44, 50, 49,
    44, 48, 48, 48, 48, 48, 44, 76]
  b ++ [42, 48 + BitVec.ofNat 8 ((xorAll b).toNat / 16), 48 + BitVec.ofNat 8 ((xorAll b).toNat % 16), 13, 10]

theorem witness_OutputsLinesAndEngines_lines :
    sRun.clk.todSet = false ∧ sTod.clk.todSet = true ∧ ppsOpen sRun 1 = false ∧
    (let u := modPps 1 (fun p => { p with gate := 1 }) sTod; ppsOpen u 1 = true ∧ (u.pps 1).lastRise = none) ∧
    (let u := modPps 1 (fun p => { p with gate := 1, lastRise := some 0 }) sTod; ppsOpen u 1 = true ∧ (u.pps 1).lastRise = some 0 ∧ u.clk.now < 0 + secTicks / 2) ∧
    (sRun.pps 1).high = false ∧ ((modPps 1 (fun p => { p with high := true }) sRun).pps 1).high = true ∧
    (let s := modTod (fun t => { t with tx := true, rx := true, pps := 1 }) sTod
     s.tim.tod.tx = true ∧ s.tim.tod.rx = true ∧ s.tim.tod.pps = (1 : Fin 2).val ∧ s.sys.mode ≠ .safe) ∧
    todParse [] = none ∧ (todParse todGood).isSome = true ∧ sRun.tim.tod.rx = false ∧
    (let s := modRef 5 (fun f => { f with st := .unqualified }) (modTod (fun t => { t with rx := true, pps := 1, msg := todParse todGood }) sRun)
     s.tim.tod.msg.isSome = true ∧ (s.ref (4 + 1)).st ≠ .disabled) ∧
    (sRun.ref 5).st = .disabled := by decide +kernel

/-- Two rotating sources of equal weight, some visited in the round in progress. -/
def rounds (visited : List Nat) : State :=
  modTde (fun t => { t with visited := visited, sources := [(80, { enable := true, weight := 1, prescale := 0 }), (81, { enable := true, weight := 1, prescale := 0 })] }) sRun

theorem witness_OutputsLinesAndEngines_engines :
    presents sRun 63 = false ∧
    (let s := modTde (fun t => { t with passed := [(73, 0)] }) (modTde (fun t => { t with sources := [(73, { enable := true, weight := 1, prescale := 2 })] }) sRun)
     presents s 73 = true ∧ prescale s 73 = 2 ∧ s.tim.tde.passed.get 0 73 + 1 < prescale s 73 ∧ enginePinned s 73 = none) ∧
    (let s := modTde (fun t => { t with passed := [(73, 1)], sources := [(73, { enable := true, weight := 1, prescale := 2 })], rings := [(73, [0])] }) sRun
     presents s 73 = true ∧ prescale s 73 ≤ s.tim.tde.passed.get 0 73 + 1 ∧ (s.tim.tde.rings.get [] 73).head? = some 0 ∧
       (104857599 : Int) - 0 < 104857600 ∧ ¬ ((104857600 : Int) - 0 < 104857600) ∧ enginePinned s 73 = none) ∧
    (rotatingSources sRun).contains 63 = false ∧ isRotating sRun 7 = true ∧ isRotating (claimedBy 0 (meterW true none) sRun) 7 = false ∧
    (let s := modTde (fun t => { t with sources := [(81, { enable := true, weight := 1, prescale := 0 })] }) sRun
     isRotating s 7 = true ∧ (rotatingSources s).contains 81 = true ∧ (roundFor 81 s).isSome = true ∧ s.clk.now < roundEnd s ∧ 81 ∉ s.tim.tde.visited) ∧
    (let s := rounds [81, 80]; isRotating s 7 = true ∧ visitDue s 81 = false ∧ roundServed s = true) ∧
    (let s := rounds [81]; (rotatingSources s).contains 81 = true ∧ visitDue s 81 = false ∧ roundServed s = false ∧ roundFor 81 s = none) ∧
    (let s := { rounds [81] with clk := { sRun.clk with now := roundEnd (rounds [81]) } }; roundEnd s ≤ s.clk.now) ∧
    (let s := claimedBy 0 (meterW false none) sRun
     (s.engine 7).role = .claimed 68 69 0 ∧ (s.engine 7).meter = some (meterW false none) ∧ (meterW false none).granted = false) := by decide +kernel

/-- Port P63 runs PTP, in a state, its clock identity 1. -/
def ptpAt (st : PtpSt) (f : PtpPort → PtpPort) : State :=
  modPtp 63 f (modPtp 63 (fun q => { q with enable := true, st := st, got := some ⟨128, 248, 0xFE, 0xFFFF, 128, 0xA0, 0, 0, 0, 9, 0, [], false, 0, 0, true, 9, 1⟩ })
    (modTime (fun t => { t with clockIdSet := 1 }) (eth .up)))

/-- A message of domain 24 from port 1 of clock 9, its response for this device's P63. -/
def msgOf (seq : BitVec 16) (two : Bool) : PtpMsg :=
  { domain := 24, sender := 9, senderPort := 1, seq := seq, twoStep := two, corr := 0, stamp := 0, reqId := 1, reqPort := 64, capture := 0 }

/-- An Announce. -/
def annOf (steps : BitVec 16) (path : List (BitVec 64)) : PtpAnnounce :=
  { prio1 := 128, cls := 6, acc := 0x21, oslv := 0x4E5D, prio2 := 128, gm := 9, steps := steps, source := 0x20, utc := 37, flags := 0, path := path }

/-- A PTP message of a length meets its buffer on P63. -/
def meets (n : Nat) (z : State) : Bool × State := passBuffer (z.quadSlice (quadOf 63)) (max 64 ((ptpLead z 63).length + n + 4)) z

/-- The same while a POOL_CONFIG waits for buffers (R292). -/
def noBuffers : State := modCore (fun c => { c with poolsHold := some 1 }) (eth .up)

theorem witness_ReceivedPtpMessagesAct_buffers :
    ((eth .up).port 63).isUp = true ∧ (sRun.port 63).isUp = false ∧
    (∀ n, n ∈ [44, 54, 60, 76] → (meets n (eth .up)).1 = true ∧ (meets n noBuffers).1 = false) := by decide +kernel

theorem witness_ReceivedPtpMessagesAct :
    (ptpAt .slave id).held = false ∧
    (let s := (meets 44 (ptpAt .slave id)).2; let m := msgOf 65535 true
     ptpTakes s 63 m = true ∧ fromMaster s 63 m = true ∧ m.twoStep = true ∧ (msgOf 0 false).twoStep = false ∧ (s.ptp 63).sync = none ∧
       respMine s 63 m = true ∧ (s.ptp 63).req = none ∧ (s.ptp 63).pReq = none ∧ (s.ptp 63).pResp = none ∧ ptpLive s 63 = true ∧ ptpMine s m = true) ∧
    fromMaster (meets 44 (ptpAt .master id)).2 63 (msgOf 0 true) = false ∧ ptpTakes sRun 63 (msgOf 0 true) = false ∧
    ((meets 44 (ptpAt .slave (fun q => { q with sync := some (65535, 0, 0) }))).2.ptp 63).sync = some (65535, 0, 0) ∧
    (let q := (meets 54 (ptpAt .slave (fun q => { q with req := some (65535, 0), ms := some 0 }))).2.ptp 63; q.req = some (65535, 0) ∧ q.ms = some 0) ∧
    (let s := (meets 44 { ptpAt .master id with clk := sTod.clk }).2; ptpTakes s 63 (msgOf 0 false) = true ∧ (s.ptp 63).st = .master ∧ s.clk.todSet = true) ∧
    (let s := modTime (fun t => { t with parent := some 63 }) (ptpAt .slave (fun q => { q with delayKnown := true }))
     s.tim.time.parent = some 63 ∧ (s.ptp 63).delayKnown = true) ∧
    annAdmits (meets 76 (ptpAt .slave id)).2 (annOfMsg (msgOf 0 false) (annOf 254 [9])) = true ∧
    annAdmits (ptpAt .slave id) (annOfMsg (msgOf 0 false) (annOf 255 [9])) = false ∧
    annAdmits (ptpAt .slave id) (annOfMsg (msgOf 0 false) (annOf 0 [1])) = false ∧
    ((meets 54 (ptpAt .slave (fun q => { q with linkDelay := true }))).2.ptp 63).linkDelay = true ∧
    (let q := (meets 54 (ptpAt .slave (fun q => { q with pReq := some (65535, 0), pResp := some (65535, 0, 0, 0) }))).2.ptp 63
     q.pReq = some (65535, 0) ∧ q.pResp = some (65535, 0, 0, 0)) ∧
    (let u := modFlow 63 (fun f => { f with exchanges := List.replicate 16 5 }) sRun; (u.flow 63).exchanges.length ≤ 16 ∧ 3 ≤ (u.flow 63).exchanges.length) ∧
    (let s := (meets 60 (modTime (fun t => { t with profile := 1 }) (ptpAt .slave (fun q => { q with l1sync := true })))).2
     s.tim.time.profile = 1 ∧ (s.ptp 63).l1sync = true ∧ ptpLive s 63 = true) := by decide +kernel

theorem witness_SentPtpMessagesAndTimeouts :
    (ptpAt .slave id).held = false ∧ ptpLive sRun 63 = false ∧ (sRun.port 63).isUp = false ∧ ((eth .up).port 63).isUp = true ∧
    (let s := { ptpAt .master (fun q => { q with oneStep := true, linkDelay := true }) with clk := sTod.clk }
     ptpLive s 63 = true ∧ (s.ptp 63).st = .master ∧ s.clk.todSet = true ∧ (s.ptp 63).oneStep = true ∧ (s.ptp 63).linkDelay = true ∧ isTransparent s = false) ∧
    ((ptpAt .master id).ptp 63).oneStep = false ∧ ((ptpAt .slave id).ptp 63).st = .slave ∧ ptpLive (ptpAt .slave id) 63 = true ∧
    isTransparent (modTime (fun t => { t with clockType := 2 }) sRun) = true ∧
    (let q := (ptpAt .slave (fun q => { q with syncAt := some 0, respAt := some 0, pairAt := some 0 })).ptp 63
     q.syncAt = some 0 ∧ q.respAt = some 0 ∧ q.pairAt = some 0) ∧
    (let q := (ptpAt .slave id).ptp 63; q.syncAt = none ∧ q.respAt = none ∧ q.pairAt = none) ∧
    (sRun.port 63).cfg.dalom = false ∧ (let s := dal .active id; (s.port 63).cfg.dalom = true ∧ s.sys.mode ≠ .safe) ∧
    sRun.tim.time.run = none ∧
    (modTime (fun t => { t with run := some { source := 101, since := 0, sample := 0 } }) sRun).tim.time.run = some { source := 101, since := 0, sample := 0 } ∧
    (sRun.ref 15).absentUntil = none ∧ ((modRef 15 (fun f => { f with absentUntil := some 0 }) sRun).ref 15).absentUntil = some 0 := by decide +kernel

/-! ### Values the spec and the published algorithms give -/

/-- The packet of the spec's worked example of the command protocol, without its tag. -/
theorem test_worked_packet :
    gcpBytes 0x0105 { pkt [0] with flags := 1, sequence := 42, keySlot := 1, counter := 8000, timeout := 250 } =
    [4, 1, 5, 1, 42, 0, 0, 0, 1, 0, 1, 0, 0, 0, 0, 0, 64, 31, 0, 0, 0, 0, 0, 0, 250, 0, 0, 0, 0x8D, 0xEF, 0x02, 0xD2, 0] := by decide +kernel

/-- The CRC-32 of one zero byte, from the same example, and the check values of the two CRC-32s and of the CRC-8 over "123456789". -/
theorem test_crcs :
    let nine : Bytes := [0x31, 0x32, 0x33, 0x34, 0x35, 0x36, 0x37, 0x38, 0x39]
    crc32 [0] = 0xD202EF8D ∧ crc32 nine = 0xCBF43926 ∧ crc32c nine = 0xE3069283 ∧ crc8 nine = 0xF4 := by decide +kernel

/-- SHA-256 of "abc", as published. -/
theorem test_sha256 : Crypto.sha256 [0x61, 0x62, 0x63] =
    [0xBA, 0x78, 0x16, 0xBF, 0x8F, 0x01, 0xCF, 0xEA, 0x41, 0x41, 0x40, 0xDE, 0x5D, 0xAE, 0x22, 0x23, 0xB0, 0x03, 0x61, 0xA3, 0x96, 0x17, 0x7A,
     0x9C, 0xB4, 0x10, 0xFF, 0x61, 0xF2, 0x00, 0x15, 0xAD] := by decide +kernel

/-- The TOD message of the spec's example. -/
theorem test_tod_message : todParse [69, 84, 79, 68, 44, 48, 48, 48, 48, 48, 49, 55, 48, 48, 48, 48, 48, 48, 51, 55, 44, 43, 48, 51, 55, 44, 48, 44,
    48, 48, 54, 44, 50, 49, 44, 48, 48, 48, 48, 51, 44, 76, 42, 54, 49, 13, 10] =
    some { sec := 1700000037, utc := 37, leap := 0, cls := 6, acc := 0x21 } := by decide +kernel

/-- The headroom of the example of a 10 km link at 400 Gbit/s, and after its delay is measured again. -/
theorem test_headroom : headroomBytes 50000000000 (49000 * ns16) = 4968432 ∧ headroomBytes 50000000000 (49600 * ns16) = 5028432 := by decide +kernel

/-- The VOQ limit of the example of the dynamic threshold, α 1/8, in both tiers. -/
theorem test_voq_limit : alphaLimit 3 33554432 = 4194304 ∧ alphaLimit 3 2684354560 = 335544320 := by decide +kernel

/-- The bands of the example of SYN-O0 at 92 °C: entry 0 no longer serves, entry 1 does. -/
theorem test_band_shift :
    let t : List Band := [⟨0x1C, true, -1200, 2300000, 2520000⟩, ⟨0x1D, true, -1200, 2510000, 2740000⟩]
    pickBand t 5 2500000000 (45 * 16) = some 0 ∧ Band.serves ⟨0x1C, true, -1200, 2300000, 2520000⟩ 5 2500000000 (92 * 16) = false ∧
    pickBand t 5 2500000000 (92 * 16) = some 1 := by decide +kernel

/-- The table gives no bits: a word spells no command, and the queue stays. -/
theorem test_no_words (n w : Nat) : decodeTableWord n w = none ∧ State.reset.withFetchWord n w = State.reset := ⟨rfl, rfl⟩

/-- The state a step answers, if it does. -/
def next? (s : State) : Option State := match Machine.step s with
  | .next t => some t
  | _ => none

/-- A command from the queue: a read of the lost count; and an empty queue passes one period of the timebase. -/
theorem test_queue :
    (next? { sRun with pending := [.irqEvqLostRead, .synthLockLoss 0] }).map (fun t => (t.pending, t.out, t.clk.now)) =
      some ([.synthLockLoss 0], [.readData 0], 0) ∧
    (next? sRun).map (fun t => (t.pending, t.clk.now)) = some ([], 1) := by decide +kernel

end Sys2Proof.Tests
end

section
/-! SUPPORT. The clock in one idle period (R416), and EmptyQueuePassesOnePeriod. -/

namespace Sys2Proof.Machine

/-! ### The passing of time -/

@[simp] theorem passTicks_core (n : Nat) (s : State) : (passTicks n s).core = s.core := by rw [passTicks_frame]

theorem passTicks_now (n : Nat) (s : State) : (passTicks n s).clk.now = s.clk.now + n := by
  unfold passTicks; dsimp only
  cases (s.tim.dplls.get (Dpll.reset 0) 0).slew <;> rfl

/-- Where DPLL-T neither steers nor slews, the TS counter gains 0.8 ns in each period (R416). -/
theorem passTicks_unsteered (n : Nat) {s : State} (hsteer : (s.dpll 0).steer = 0) (hslew : (s.dpll 0).slew = none) :
    passTicks n s = { s with clk := { s.clk with now := s.clk.now + n, acc := s.clk.acc + n * 524288 * 10 ^ 12 } } := by
  unfold State.dpll at hsteer hslew
  have hacc : ((s.clk.acc : Int) + (n * 524288 : Nat) * (1000000000000 + 0)).toNat = s.clk.acc + n * 524288 * 10 ^ 12 := by omega
  simp only [passTicks, hslew, hsteer, hacc]

/-! ### A step of an empty queue -/

theorem step_of_empty {s : State} (h : s.pending = []) : step s = live s idleTick := by
  unfold step; rw [h]

theorem idleTick_of_no_hold {s : State} (h : s.core.poolsHold = none) : idleTick s = passTicks 1 s := by
  simp [idleTick, h]

theorem idleTick_of_hold {s : State} (h : s.core.poolsHold.isSome = true) : idleTick s = pump (passTicks 1 s) := by
  simp [idleTick, h]

/-- Settles O2, by the three cases of a step on an empty queue: held in reset, no POOL_CONFIG waiting, and one that waits. -/
theorem emptyQueuePassesOnePeriod : Obligations.EmptyQueuePassesOnePeriod := by
  refine ⟨fun s hq hheld => ?_, fun s hq hheld hhold => ?_, fun s hq hheld hhold => ?_⟩
  · rw [step_of_empty hq, live_held hheld]
  · have hstep : step s = .next (passTicks 1 s) := by
      rw [step_of_empty hq, live_next hheld, idleTick_of_no_hold hhold]
    exact ⟨passTicks 1 s, hstep, passTicks_now 1 s, passTicks_frame 1 s, passTicks_unsteered 1⟩
  · rw [step_of_empty hq, live_next hheld, idleTick_of_hold hhold]

end Sys2Proof.Machine
end

section
/-! SUPPORT. What the CPU port's rings do (R540 to R545): one rule per operation and case. -/

namespace Sys2Proof.Machine

/-! ### A ring read after a write -/

@[simp] theorem trapRing_modTrap_same (c : Nat) (f : CpuRing → CpuRing) (s : State) : (modTrap c f s).trapRing c = f (s.trapRing c) :=
  tab_get_modify_same _ _ _ _

@[simp] theorem injRing_modInj_same (c : Nat) (f : CpuRing → CpuRing) (s : State) : (modInj c f s).injRing c = f (s.injRing c) :=
  tab_get_modify_same _ _ _ _

@[simp] theorem trapRing_send (c : Nat) (o : Out) (s : State) : (s.send o).trapRing c = s.trapRing c := rfl

theorem ringLive_iff {s : State} {r : CpuRing} : ringLive s r = true ↔ r.enable = true ∧ s.dma = true := by
  simp [ringLive]

/-! ### Trap rings -/

/-- The descriptor that the delivery of frame `f` on ring `c` writes over the posted descriptor `d` (R541). -/
def trapDescriptor (c : Nat) (d : Bytes) (f : Frame) : Bytes :=
  slice d 0 10 ++ le 2 f.len ++ b1 f.inPort ++ b1 c ++ b1 (trapCode f) ++
    b1 (bitsNat [true, decide (min f.len (field d 8 2) < f.len), (f.result.map (fun (x : Result) => x.tagged)).getD false]) ++
    le 2 ((f.result.map (fun (x : Result) => x.vid)).getD 0) ++ le 2 (f.stamp.toNat % 65536) ++
    le 4 (f.stamp.toNat / 65536 % 2 ^ 32) ++ le 2 f.gen ++ zeros 2 ++ le 4 f.handle

/-- The state in which frame `f` and then its descriptor are written to the host, and ring `c` is past it (R542). -/
def trapWritten (c : Nat) (d : Bytes) (f : Frame) (s : State) : State :=
  modTrap c CpuRing.pop ((s.send (.hostWrite (field d 0 8) (f.bytes.take (min f.len (field d 8 2))))).send
    (.hostWrite (s.trapRing c).slot (trapDescriptor c d f)))

theorem trapWritten_trapRing (c : Nat) (d : Bytes) (f : Frame) (s : State) :
    (trapWritten c d f s).trapRing c = (s.trapRing c).pop := by
  simp [trapWritten]

theorem trapDeliver_frame {c : Nat} {s : State} {d b : Bytes} {rest : List (Bytes × Bytes)} {f : Frame}
    (hlive : ringLive s (s.trapRing c) = true) (hposted : (s.trapRing c).posted = (d, b) :: rest) (hnext : nextTrap s c = some f) :
    trapDeliver c s = settle (dropFrame f.id (raise (8 + c) 0 []
      (modCore (fun k => { k with trapRr := k.trapRr.set c ((f.inPort + 1) % 65) }) (trapWritten c d f s)))) := by
  unfold trapDeliver
  simp only [hlive, hposted, hnext]
  rfl

theorem trapDeliver_idle {c : Nat} {s : State}
    (h : (s.trapRing c).enable = false ∨ s.dma = false ∨ (s.trapRing c).posted = [] ∨ nextTrap s c = none) :
    trapDeliver c s = s := by
  unfold trapDeliver; dsimp only
  split
  next _ _ d b rest f hlive hposted hnext =>
    obtain ⟨hen, hdma⟩ := ringLive_iff.mp hlive
    simp [hen, hdma, hposted, hnext] at h
  next => rfl

/-! ### Inject rings -/

theorem injectDone_writeBack {c : Nat} {s : State} {d b w : Bytes} {rest : List (Bytes × Bytes)}
    (hlive : ringLive s (s.injRing c) = true) (hposted : (s.injRing c).posted = (d, b) :: rest) (hfin : (s.injRing c).fin = some w) :
    injectDone c s = injectTake c (raise (16 + c) 0 [] (modInj c CpuRing.pop
      (s.send (.hostWrite (s.injRing c).slot (d.take 12 ++ [byteAt d 12 ||| 1] ++ w ++ zeros 2 ++ slice d 24 8))))) := by
  unfold injectDone
  simp only [hlive, hposted, hfin]

theorem injectDone_idle {c : Nat} {s : State}
    (h : (s.injRing c).enable = false ∨ s.dma = false ∨ (s.injRing c).posted = [] ∨ (s.injRing c).fin = none) :
    injectDone c s = injectTake c s := by
  unfold injectDone; dsimp only
  split
  next _ _ d b rest w hlive hposted hfin =>
    obtain ⟨hen, hdma⟩ := ringLive_iff.mp hlive
    simp [hen, hdma, hposted, hfin] at h
  next => rfl

/-- A refused descriptor is done at once with its status and no handle (R543). -/
theorem injectTake_refused {c k : Nat} {s : State} {d b : Bytes} {rest : List (Bytes × Bytes)}
    (hlive : ringLive s (s.injRing c) = true) (htaken : (s.injRing c).taken = false)
    (hposted : (s.injRing c).posted = (d, b) :: rest) (hk : injectRefusal s d = some k) :
    injectTake c s = modInj c (fun r => { r with
      taken := true, posted := (d.take 24 ++ le 4 0 ++ d.drop 28, b) :: rest, fin := some (b1 k ++ zeros 8) }) s := by
  unfold injectTake
  simp only [hlive, htaken, hposted, hk, Bool.not_false, Bool.and_self]

theorem injectRefusal_length {s : State} {d : Bytes} (h : field d 8 2 < 60 ∨ 9212 < field d 8 2 ∨ 7 < (byteAt d 11).toNat) :
    injectRefusal s d = some 3 := if_pos h

/-- A descriptor of good length and class is judged by forwarding, and then by its port (R543). -/
theorem injectRefusal_fits {s : State} {d : Bytes} (hmin : 60 ≤ field d 8 2) (hmax : field d 8 2 ≤ 9212) (hclass : (byteAt d 11).toNat ≤ 7) :
    injectRefusal s d = if s.moves = false then some 4
      else if 63 < (byteAt d 10).toNat ∨ (s.port (byteAt d 10).toNat).isUp = false then some 1 else none := by
  have hfits : ¬ (field d 8 2 < 60 ∨ 9212 < field d 8 2 ∨ 7 < (byteAt d 11).toNat) := by omega
  simp [injectRefusal, hfits]

/-! ### Arming and disarming (R545) -/

theorem ringEnable_arm (r : CpuRing) : ringEnable true r = if r.enable then r else
    { r with enable := true, devIdx := r.hostIdx % r.size, posted := [], taken := false, fin := none } := by
  cases h : r.enable <;> simp [ringEnable, h]

theorem ringEnable_disarm (r : CpuRing) : ringEnable false r = { r with enable := false, posted := [], taken := false, fin := none } := rfl

theorem ringControl_perst {s : State} (h : s.sys.perst = true) (trap : Bool) (c : Nat) (en : Bool) : ringControl trap c en s = s := by
  simp [ringControl, h]

theorem ringControl_trap {s : State} (h : s.sys.perst = false) (c : Nat) (en : Bool) : ringControl true c en s = modTrap c (ringEnable en) s := by
  simp [ringControl, h]

theorem ringControl_inject_arm {s : State} (h : s.sys.perst = false) (c : Nat) : ringControl false c true s = modInj c (ringEnable true) s := by
  simp [ringControl, h]

theorem ringControl_inject_disarm {s : State} (h : s.sys.perst = false) (c : Nat) :
    ringControl false c false s = forgetInject c (modInj c (ringEnable false) s) := by
  simp [ringControl, h]

theorem forgetInject_frame (c : Nat) (s : State) :
    forgetInject c s = { s with core := (forgetInject c s).core, dlks := (forgetInject c s).dlks } := rfl

@[simp] theorem injRing_forgetInject (c j : Nat) (s : State) : (forgetInject c s).injRing j = s.injRing j := rfl

/-- No frame that waits in the egress store owes a write-back to a ring that is forgotten. -/
theorem forgetInject_store {c k : Nat} {s : State} {q : List StoreEntry} {e : StoreEntry} (hq : (k, q) ∈ (forgetInject c s).core.store)
    (he : e ∈ q) (b : Bool) : e.inject ≠ some (c, b) := by
  simp only [forgetInject, modCore, List.mem_map, Prod.mk.injEq] at hq
  obtain ⟨x, -, -, rfl⟩ := hq
  obtain ⟨e', -, rfl⟩ := List.mem_map.mp he
  rcases hi : e'.inject with _ | ⟨r, b'⟩
  · simp [hi]
  · by_cases hr : r = c <;> simp [hr, hi]

/-- No frame in segments of a DALOM link owes a write-back to a ring that is forgotten. -/
theorem forgetInject_segTx {c p k : Nat} {s : State} {d : Dlk} {x : SegTx} (hd : (p, d) ∈ (forgetInject c s).dlks)
    (hx : (k, x) ∈ d.segTx) (b : Bool) : x.inject ≠ some (c, b) := by
  simp only [forgetInject, modCore, List.mem_map, Prod.mk.injEq, Prod.exists] at hd
  obtain ⟨p', d', -, -, rfl⟩ := hd
  simp only [List.mem_map, Prod.mk.injEq, Prod.exists] at hx
  obtain ⟨k', x', -, -, rfl⟩ := hx
  rcases hi : x'.inject with _ | ⟨r, b'⟩
  · simp [hi]
  · by_cases hr : r = c <;> simp [hr, hi]

end Sys2Proof.Machine
end

section
/-! SUPPORT. What the registers of BAR0 do while it is served (R417, R464, R531 to R537), and CpuRingsServeTheHost. -/

namespace Sys2Proof.Machine

theorem perst_of_barServed {s : State} (h : s.barServed = true) : s.sys.perst = false := by
  simp only [State.barServed, Bool.and_eq_true, Bool.not_eq_true'] at h
  exact h.1

/-! ### Interrupts -/

@[simp] theorem message_cause (v : Nat) (s : State) : (message v s).irq.cause = s.irq.cause := by
  unfold message; dsimp only; split_ifs <;> rfl

theorem messages_cause (vs : List Nat) (s : State) : (vs.foldl (fun s x => message x s) s).irq.cause = s.irq.cause := by
  induction vs generalizing s with
  | nil => rfl
  | cons v vs ih => rw [List.foldl_cons, ih, message_cause]

theorem causeWrite_cause {s : State} (h : s.sys.perst = false) (w : Nat) (v : BitVec 32) :
    (causeWrite w v s).irq.cause = s.irq.cause &&& ~~~(v.setWidth 128 <<< (32 * w)) := by
  simp [causeWrite, h, messages_cause]

theorem holdoffEnd_cause (v : Nat) (s : State) : (holdoffEnd v s).irq.cause = s.irq.cause := by
  unfold holdoffEnd
  split
  · split <;> simp
  · rfl

/-! ### Counts and statistics -/

theorem dropsRead_dropsHi {s : State} (h : s.barServed = true) (sl : Nat) :
    ((dropsRead sl s).slice sl).dropsHi = (s.slice sl).paceDrops / 2 ^ 32 := by
  have hread : dropsRead sl s = (modSlice sl (fun r => { r with dropsHi := (s.slice sl).paceDrops / 2 ^ 32 }) s).send
      (.readData ((s.slice sl).paceDrops % 2 ^ 32)) := if_neg (by simp [h])
  rw [hread]
  exact congrArg SliceRec.dropsHi (slice_modSlice_same ..)

theorem statWrite_pi (snap final : Bool) (s : State) : (statWrite snap final s).stat.pi = (s.stat.pi + 1) % s.stat.count := by
  simp [statWrite, StatBlk.count]

/-! ### Calibration blocks -/

@[simp] theorem cal_modCal_same (i : Nat) (f : CalBlk → CalBlk) (s : State) : (modCal i f s).cal i = f (s.cal i) :=
  tab_get_modify_same _ _ _ _

@[simp] theorem cal_calTouch (i j : Nat) (s : State) : (calTouch i s).cal j = s.cal j := by
  unfold calTouch; split <;> rfl

theorem calApplyStaged_staged {s : State} (h : s.barServed = true) (i : Nat) : ((calApplyStaged i s).cal i).staged = [] := by
  simp [calApplyStaged, h]

theorem calRestart_live {s : State} (h : s.barServed = true) (i : Nat) : ((calRestart i s).cal i).live = [] := by
  simp [calRestart, calReload, h]

/-! ### The obligation -/

/-- Settles O49, clause by clause: each row is `live` of its operation, and the operation's rule above says what it does. -/
theorem cpuRingsServeTheHost : Obligations.CpuRingsServeTheHost := by
  intro c s hheld
  refine ⟨?trapDelivery, ?trapIdle, ?injectDone, ?injectIdle, ?injectTake, ?perst, ?trapPost, ?injectPost,
    ?trapArm, ?trapDisarm, ?injectArm, ?injectDisarm, ?bar0⟩
  case trapDelivery =>
    intro d b rest f r hen hdma hposted hnext
    have hring := trapWritten_trapRing c.val d f s
    refine ⟨?_, congrArg CpuRing.devIdx hring, (congrArg CpuRing.posted hring).trans (congrArg (List.drop 1) hposted)⟩
    exact (live_next hheld _).trans (congrArg _ (trapDeliver_frame (ringLive_iff.mpr ⟨hen, hdma⟩) hposted hnext))
  case trapIdle =>
    exact fun h => (live_next hheld _).trans (congrArg _ (trapDeliver_idle h))
  case injectDone =>
    exact fun d b w rest hen hdma hposted hfin =>
      (live_next hheld _).trans (congrArg _ (injectDone_writeBack (ringLive_iff.mpr ⟨hen, hdma⟩) hposted hfin))
  case injectIdle =>
    exact fun h => (live_next hheld _).trans (congrArg _ (injectDone_idle h))
  case injectTake =>
    intro d b rest k t hen hdma htaken hposted
    refine ⟨fun hk => ?_, injectRefusal_length, fun hmin hmax hclass hstop => ?_, fun hmin hmax hclass hmoves => ?_⟩
    · simp [injectTake_refused (ringLive_iff.mpr ⟨hen, hdma⟩) htaken hposted hk]
    · simp [injectRefusal_fits hmin hmax hclass, hstop]
    · simp [injectRefusal_fits hmin hmax hclass, hmoves]
  case perst =>
    intro hperst idx ds fs trap en
    refine ⟨(live_next hheld _).trans ?_, (live_next hheld _).trans ?_, (live_next hheld _).trans ?_⟩
    · simp [trapPost, hperst]
    · simp [injectPost, hperst]
    · simp [ringControl_perst hperst]
  case trapPost =>
    exact fun hperst idx ds => ⟨_, (live_next hheld _).trans (congrArg _ (if_neg (by simp [hperst]))), rfl, trapRing_modTrap_same ..⟩
  case injectPost =>
    exact fun hperst idx fs => (live_next hheld _).trans (congrArg _ (if_neg (by simp [hperst])))
  case trapArm =>
    intro hperst
    refine ⟨_, (live_next hheld _).trans (congrArg _ (ringControl_trap hperst c.val true)), rfl, ?_⟩
    rw [trapRing_modTrap_same, ringEnable_arm]
  case trapDisarm =>
    intro hperst
    refine ⟨_, (live_next hheld _).trans (congrArg _ (ringControl_trap hperst c.val false)), rfl, ?_⟩
    rw [trapRing_modTrap_same, ringEnable_disarm]
  case injectArm =>
    intro hperst
    refine ⟨_, (live_next hheld _).trans (congrArg _ (ringControl_inject_arm hperst c.val)), rfl, ?_⟩
    rw [injRing_modInj_same, ringEnable_arm]
  case injectDisarm =>
    intro hperst
    refine ⟨_, (live_next hheld _).trans (congrArg _ (ringControl_inject_disarm hperst c.val)), rfl, ?_,
      fun k q e => forgetInject_store, fun p d k x => forgetInject_segTx⟩
    rw [injRing_forgetInject, injRing_modInj_same, ringEnable_disarm]
  case bar0 =>
    intro hserved
    have hperst := perst_of_barServed hserved
    refine ⟨fun w v => ⟨live_next hheld _, causeWrite_cause hperst w.val v⟩,
      fun v => ⟨live_next hheld _, holdoffEnd_cause v.val s⟩,
      fun ci => live_next hheld _, live_next hheld _, ⟨live_next hheld _, ?lost⟩,
      fun sl => ⟨live_next hheld _, dropsRead_dropsHi hserved sl.val⟩,
      ⟨live_next hheld _, ?period⟩, ⟨live_next hheld _, ?snap⟩, ⟨live_next hheld _, ?time⟩,
      fun i => ⟨live_next hheld _, calApplyStaged_staged hserved i.val⟩,
      fun i => ⟨live_next hheld _, calRestart_live hserved i.val⟩,
      fun bar2 off v => live_next hheld _⟩
    case lost => simp [lostRead, hperst]
    case period => intro hen hlive; simp [statPeriod, hen, hlive, statWrite_pi]
    case snap => intro hlive; simp [statSnap, hlive, statWrite_pi]
    case time => simp [tsuSnap, hserved]

end Sys2Proof.Machine
end

section
/-! SUPPORT. Every command keeps the queue: the rows that carry or start no packet keep the owner's part too, the others go forward (`Forward`). And StepRunsTheFrontCommand, NoCommandTouchesTheQueue. -/

namespace Sys2Proof.Machine

/-- A row that carries no packet and starts none keeps the queue and the owner's part. -/
theorem exec_kept_of_quiet {c : Instr} {s t : State} (hop : opcodeOf c = none) (hruns : runsOthers c = false)
    (h : exec c s = .next t) : t.kept = s.kept := by
  cases c with
  | perstNAssert => exact execPerstNAssert_kept _ _ h
  | perstNRelease => exact execPerstNRelease_kept _ _ h
  | functionLevelReset => exact execFunctionLevelReset_kept _ _ h
  | d3hotEntry => exact execD3hotEntry_kept _ _ h
  | d0Return => exact execD0Return_kept _ _ h
  | thermtripRelease => exact execThermtripRelease_kept _ _ _ h
  | imageVerificationComplete => exact execImageVerificationComplete_kept _ _ _ _ h
  | supplyWarn => exact execSupplyWarn_kept _ _ _ h
  | supplyWarnClear => exact execSupplyWarnClear_kept _ _ _ h
  | nvInhibit => exact execNvInhibit_kept _ _ _ h
  | supplyCriticalAux => exact execSupplyCriticalAux_kept _ _ _ h
  | coreWarn => exact execCoreWarn_kept _ _ _ h
  | coreWarnClear => exact execCoreWarnClear_kept _ _ _ h
  | coreSag => exact execCoreSag_kept _ _ _ h
  | rideExit => exact execRideExit_kept _ _ _ h
  | supplyCriticalCore => exact execSupplyCriticalCore_kept _ _ _ h
  | supplyCriticalClear => exact execSupplyCriticalClear_kept _ _ _ h
  | thermalWarn => exact execThermalWarn_kept _ _ _ h
  | thermalWarnClear => exact execThermalWarnClear_kept _ _ _ h
  | thermalCritical => exact execThermalCritical_kept _ _ _ h
  | thermalCriticalClear => exact execThermalCriticalClear_kept _ _ _ h
  | sidebandReadTransfer => exact execSidebandReadTransfer_kept _ _ h
  | sidebandSclTimeout => exact execSidebandSclTimeout_kept _ _ h
  | quiesceDrainEnd => exact execQuiesceDrainEnd_kept _ _ h
  | drainLimitExpiry => exact execDrainLimitExpiry_kept _ _ h
  | debugChallengeExpiry => exact execDebugChallengeExpiry_kept _ _ h
  | debugSessionExpiry => exact execDebugSessionExpiry_kept _ _ h
  | laneTestDurationExpiry => exact execLaneTestDurationExpiry_kept _ _ _ h
  | stopBathHoldExpiry => exact execStopBathHoldExpiry_kept _ _ _ h
  | fenceLimitExpiry => exact execFenceLimitExpiry_kept _ _ _ h
  | fwDataWaitExpiry => exact execFwDataWaitExpiry_kept _ _ _ h
  | fwSectorWritten => exact execFwSectorWritten_kept _ _ _ _ _ h
  | opCancelOutcome => exact execOpCancelOutcome_kept _ _ _ h
  | opUnrecoverableError => exact execOpUnrecoverableError_kept _ _ _ _ h
  | bulkRecordCommitted => exact execBulkRecordCommitted_kept _ _ _ _ h
  | exportRecordCopied => exact execExportRecordCopied_kept _ _ _ h
  | tracePortRecordBuilt => exact execTracePortRecordBuilt_kept _ _ _ h
  | idcode => exact execIdcode_kept _ _ h
  | bypass => exact execBypass_kept _ _ h
  | sample => exact execSample_kept _ _ _ h
  | preload => exact execPreload_kept _ _ _ h
  | extest => exact execExtest_kept _ _ h
  | dbgTrace => exact execDbgTrace_kept _ _ _ h
  | dbgRead => exact execDbgRead_kept _ _ _ h
  | dbgWrite addr data => exact execDbgWrite_kept addr data _ _ h
  | factoryTest c => exact execFactoryTest_kept c _ _ h
  | testLogicReset => exact execTestLogicReset_kept _ _ h
  | losAssert => exact execLosAssert_kept _ _ _ h
  | losClear => exact execLosClear_kept _ _ _ h
  | lolAssert => exact execLolAssert_kept _ _ _ h
  | lolClear => exact execLolClear_kept _ _ _ h
  | rxAdaptUpdate => exact execRxAdaptUpdate_kept _ _ _ _ _ _ _ _ h
  | ethModuleReady => exact execEthModuleReady_kept _ _ _ h
  | anComplete => exact execAnComplete_kept _ _ _ h
  | ethTrainingComplete => exact execEthTrainingComplete_kept _ _ _ _ h
  | maxWaitTimerExpiry => exact execMaxWaitTimerExpiry_kept _ _ _ h
  | adaptConverged => exact execAdaptConverged_kept _ _ _ h
  | adaptTimeout => exact execAdaptTimeout_kept _ _ _ h
  | alignLock => exact execAlignLock_kept _ _ _ _ h
  | alignTimeout => exact execAlignTimeout_kept _ _ _ h
  | moduleRemoved => exact execModuleRemoved_kept _ _ _ h
  | alignLoss => exact execAlignLoss_kept _ _ _ h
  | hiBer => exact execHiBer_kept _ _ _ h
  | faultReceived => exact execFaultReceived_kept _ _ _ h
  | faultEnd => exact execFaultEnd_kept _ _ _ h
  | ethBackoffExpiry => exact execEthBackoffExpiry_kept _ _ _ h
  | dlkModuleReady => exact execDlkModuleReady_kept _ _ _ h
  | dlkTrainingComplete => exact execDlkTrainingComplete_kept _ _ _ h
  | dlkTrainTimeout => exact execDlkTrainTimeout_kept _ _ _ _ h
  | dlkLanesLocked => exact execDlkLanesLocked_kept _ _ _ _ h
  | dlkLockTimeout => exact execDlkLockTimeout_kept _ _ _ _ h
  | dlkExchangeTimeout => exact execDlkExchangeTimeout_kept _ _ _ h
  | dlkBackoffExpiry => exact execDlkBackoffExpiry_kept _ _ _ h
  | dlkSlot => exact execDlkSlot_kept _ _ _ _ h
  | dlkCapExchangeTx => exact execDlkCapExchangeTx_kept _ _ _ h
  | shutterMarkArrival => exact execShutterMarkArrival_kept _ _ _ _ _ _ h
  | laneRetry => exact execLaneRetry_kept _ _ _ _ h
  | dlkLaneRelock => exact execDlkLaneRelock_kept _ _ _ _ h
  | sgpioScan => exact execSgpioScan_kept _ _ _ h
  | resetlRelease => exact execResetlRelease_kept _ _ _ h
  | moduleInitComplete => exact execModuleInitComplete_kept _ _ _ _ _ h
  | moduleIntl => exact execModuleIntl_kept _ _ _ _ _ _ h
  | moduleFlagPoll => exact execModuleFlagPoll_kept _ _ _ _ _ _ h
  | frameGrantPoint => exact execFrameGrantPoint_kept _ _ _ _ _ h
  | cacheRefillDone => exact execCacheRefillDone_kept _ _ _ h
  | cacheSpillDone => exact execCacheSpillDone_kept _ _ _ h
  | frameLookup => exact execFrameLookup_kept _ _ _ _ _ _ h
  | qmResultArrival => exact execQmResultArrival_kept _ _ _ _ _ _ h
  | crossbarRound => exact execCrossbarRound_kept _ _ _ h
  | egressFrameSelect => exact execEgressFrameSelect_kept _ _ _ h
  | pfcFrameRx => exact execPfcFrameRx_kept _ _ _ _ _ h
  | pauseFrameRx => exact execPauseFrameRx_kept _ _ _ _ h
  | rxPauseExpiry => exact execRxPauseExpiry_kept _ _ _ _ h
  | pfcRepeatTimer => exact execPfcRepeatTimer_kept _ _ _ _ h
  | trapFrameDelivery => exact execTrapFrameDelivery_kept _ _ _ h
  | injectFrameDone => exact execInjectFrameDone_kept _ _ _ h
  | readIndex => exact execReadIndex_kept _ _ _ _ h
  | writeIndex => exact execWriteIndex_kept _ _ _ _ h
  | insert => exact execInsert_kept _ _ _ _ h
  | delete => exact execDelete_kept _ _ _ _ h
  | search => exact execSearch_kept _ _ _ _ h
  | clearHit => exact execClearHit_kept _ _ _ _ h
  | tawPortGrant => exact execTawPortGrant_kept _ _ _ h
  | tawStartLimitExpiry => exact execTawStartLimitExpiry_kept _ _ _ h
  | ageingSweepVisit => exact execAgeingSweepVisit_kept _ _ _ _ h
  | tcamScrub => exact execTcamScrub_kept _ _ _ _ _ h
  | tcamRebuildDone => exact execTcamRebuildDone_kept _ _ _ h
  | tcamSelftestDone => exact execTcamSelftestDone_kept _ _ _ _ h
  | shadowCompareRead => exact execShadowCompareRead_kept _ _ _ _ h
  | watchdogWindowEnd => exact execWatchdogWindowEnd_kept _ _ _ _ h
  | sliceTakeover => exact execSliceTakeover_kept _ _ h
  | deadlockSuspect => exact execDeadlockSuspect_kept _ _ _ _ h
  | avsLoopTick => exact execAvsLoopTick_kept _ _ _ _ h
  | avsbusRetry => exact execAvsbusRetry_kept _ _ _ h
  | xoLost => exact execXoLost_kept _ _ h
  | xoRestored => exact execXoRestored_kept _ _ h
  | xoRdyChange => exact execXoRdyChange_kept _ _ _ h
  | warmHoldExpiry => exact execWarmHoldExpiry_kept _ _ _ h
  | refActivityFailure => exact execRefActivityFailure_kept _ _ _ h
  | freqMonitorUpdate => exact execFreqMonitorUpdate_kept _ _ _ _ _ _ h
  | driftClearExpiry => exact execDriftClearExpiry_kept _ _ _ h
  | qualificationTimerExpiry => exact execQualificationTimerExpiry_kept _ _ _ h
  | selectionTick => exact execSelectionTick_kept _ _ _ _ h
  | dpllLockDwellExpiry => exact execDpllLockDwellExpiry_kept _ _ _ h
  | dpllUnlock => exact execDpllUnlock_kept _ _ _ h
  | bandwidthNarrowStep => exact execBandwidthNarrowStep_kept _ _ _ h
  | frequencyLock => exact execFrequencyLock_kept _ _ _ h
  | slewComplete => exact execSlewComplete_kept _ _ h
  | ppsinPulse => exact execPpsinPulse_kept _ _ _ _ h
  | todRxMessage => exact execTodRxMessage_kept _ _ _ _ h
  | esmcPduRx => exact execEsmcPduRx_kept _ _ _ _ _ h
  | esmcTimeout => exact execEsmcTimeout_kept _ _ _ h
  | esmcInfoTx => exact execEsmcInfoTx_kept _ _ _ h
  | ptpSyncRx => exact execPtpSyncRx_kept _ _ _ _ h
  | ptpFollowUpRx => exact execPtpFollowUpRx_kept _ _ _ _ h
  | ptpDelayReqRx => exact execPtpDelayReqRx_kept _ _ _ _ h
  | ptpDelayRespRx => exact execPtpDelayRespRx_kept _ _ _ _ h
  | ptpAnnounceRx => exact execPtpAnnounceRx_kept _ _ _ _ _ h
  | ptpPdelayReqRx => exact execPtpPdelayReqRx_kept _ _ _ _ _ h
  | ptpPdelayRespRx => exact execPtpPdelayRespRx_kept _ _ _ _ h
  | ptpPdelayRespFollowUpRx => exact execPtpPdelayRespFollowUpRx_kept _ _ _ _ h
  | l1SyncTlvRx => exact execL1SyncTlvRx_kept _ _ _ _ _ _ h
  | ptpUnsupportedRx => exact execPtpUnsupportedRx_kept _ _ _ h
  | ptpSyncTx => exact execPtpSyncTx_kept _ _ _ _ h
  | ptpAnnounceTx => exact execPtpAnnounceTx_kept _ _ _ h
  | ptpDelayReqTx => exact execPtpDelayReqTx_kept _ _ _ _ h
  | ptpPdelayReqTx => exact execPtpPdelayReqTx_kept _ _ _ _ h
  | announceReceiptTimeout => exact execAnnounceReceiptTimeout_kept _ _ _ h
  | syncReceiptTimeout => exact execSyncReceiptTimeout_kept _ _ _ h
  | delayRespTimeout => exact execDelayRespTimeout_kept _ _ _ h
  | offsetPairTimeout => exact execOffsetPairTimeout_kept _ _ _ h
  | announceBlockRewrite => exact execAnnounceBlockRewrite_kept _ _ _ h
  | stepConfirmExpiry => exact execStepConfirmExpiry_kept _ _ h
  | withdrawalEnd => exact execWithdrawalEnd_kept _ _ _ h
  | ppsSecondBoundary => exact execPpsSecondBoundary_kept _ _ _ _ h
  | ppsWidthEnd => exact execPpsWidthEnd_kept _ _ _ h
  | todTxStart => exact execTodTxStart_kept _ _ h
  | rebandCheck => exact execRebandCheck_kept _ _ _ h
  | synthLockLoss => exact execSynthLockLoss_kept _ _ _ h
  | sourceSettled => exact execSourceSettled_kept _ _ _ h
  | tdeVisitSlot => exact execTdeVisitSlot_kept _ _ _ _ _ h
  | tdeEdge => exact execTdeEdge_kept _ _ _ _ _ _ h
  | tdeClaimGrant => exact execTdeClaimGrant_kept _ _ _ h
  | calStep => exact execCalStep_kept _ _ _ _ _ h
  | calNoGapExpiry => exact execCalNoGapExpiry_kept _ _ _ h
  | delayPublication => exact execDelayPublication_kept _ _ h
  | calApply => exact execCalApply_kept _ _ _ h
  | calRestart => exact execCalRestart_kept _ _ _ h
  | statPeriod => exact execStatPeriod_kept _ _ h
  | statSnap => exact execStatSnap_kept _ _ h
  | tsuSnap => exact execTsuSnap_kept _ _ h
  | irqCauseWrite => exact execIrqCauseWrite_kept _ _ _ _ h
  | irqHoldoffExpiry => exact execIrqHoldoffExpiry_kept _ _ _ h
  | irqEvqCiWrite => exact execIrqEvqCiWrite_kept _ _ _ h
  | irqEvqArm => exact execIrqEvqArm_kept _ _ h
  | irqEvqLostRead => exact execIrqEvqLostRead_kept _ _ h
  | pacDropsLoRead => exact execPacDropsLoRead_kept _ _ _ h
  | trapHostIdxWrite => exact execTrapHostIdxWrite_kept _ _ _ _ _ h
  | injectHostIdxWrite => exact execInjectHostIdxWrite_kept _ _ _ _ _ h
  | cpuRingEnableWrite => exact execCpuRingEnableWrite_kept _ _ _ _ _ h
  | registerWrite => exact execRegisterWrite_kept _ _ _ _ _ h
  | holdoverSpecExpiry => exact execHoldoverSpecExpiry_kept _ _ h
  | bridgedChangeBack => exact execBridgedChangeBack_kept _ _ _ h
  | stopBathFrameDrained => exact execStopBathFrameDrained_kept _ _ _ h
  | laneRetryBackoffExpiry => exact execLaneRetryBackoffExpiry_kept _ _ _ _ h
  | contactSheetSaveDone => exact execContactSheetSaveDone_kept _ _ _ h
  | _ => contradiction

theorem crossing_forward (m : Meas) (moves : State → Bool) {f : State → State} (hf : ∀ s, Forward s (f s)) (s : State) :
    Forward s (crossing m moves f s) := by
  unfold crossing; dsimp only; split
  · exact then_forward (measure_kept m s) (hf _)
  · exact forward_of_kept (measure_kept m s)

theorem dbgReset_forward (s : State) : Forward s (tapAt 2 0x19 (fun s => deviceReset 7 (debugLevel s) s) s) := by
  unfold tapAt; split
  · exact then_forward (tapSelect_kept 0x19 s) (deviceReset_forward ..)
  · exact forward_of_kept (tapSelect_kept 0xFF s)

theorem tap_forward {f : State → State} {s t : State} (h : tap s f = .next t) (hf : ∀ s, Forward s (f s)) : Forward s t := by
  obtain rfl : (if s.sys.auxDown then s else f s) = t := Host.Outcome.next.inj h
  split
  · exact forward_refl s
  · exact hf s

/-- The rows that start waiting commands or run the boot ROM go forward. -/
theorem exec_forward_of_runs {c : Instr} {s t : State} (hruns : runsOthers c = true) (h : exec c s = .next t) : Forward s t := by
  cases c with
  | powerOn => exact Host.Outcome.next.inj h ▸ powerOn_forward s
  | supplyReset => exact Host.Outcome.next.inj h ▸ supplyReset_forward s
  | sysRstNAssert => exact Host.Outcome.next.inj h ▸ pinAssert_forward s
  | sysRstNRelease straps => exact Host.Outcome.next.inj h ▸ pinRelease_forward straps s
  | thermalTrip tj => exact Host.Outcome.next.inj h ▸ thermalTrip_forward tj s
  | resetAfterReply => exact live_forward h resetAfterReply_forward
  | fatalInternalError => exact live_forward h (fatal_forward _ _ _)
  | xoInDetect freq => exact live_forward (f := fun s => pump (xoDetect freq.val s)) h (fun s => then_forward (xoDetect_kept freq.val s) (pump_forward _))
  | firmwareAlive => exact live_forward (f := fun s => pump (alive s)) h (fun s => then_forward (alive_kept s) (pump_forward _))
  | fwStartFail => exact live_forward (f := fun s => pump (startFails s)) h (fun s => then_forward (startFails_kept s) (pump_forward _))
  | nvInhibitClear m => exact live_forward h (crossing_forward m _ nvInhibitClear_forward)
  | wakeComplete regions => exact live_forward h (wake_forward regions)
  | commandDoorbell => exact live_forward h (doorbell_forward _ _)
  | mbxRplCiWrite => exact live_forward h (repliesFreed_forward _)
  | mbxCtrlEnableWrite => exact live_forward h (ringsArm_forward _)
  | inbandCommandFrame f => exact live_forward h (inbandArrives_forward f)
  | sidebandWriteTransfer b => exact live_forward h (sbWrite_forward b)
  | commandStartDeadline t idx => exact live_forward h (deadline_forward t idx)
  | dbgReset => exact tap_forward h dbgReset_forward
  | tileLost => exact tileRow_forward h
  | dlkDataTileRx => exact tileRow_forward h
  | dlkIdleTileRx => exact tileRow_forward h
  | dlkCreditTileRx => exact tileRow_forward h
  | dlkAbortTileRx => exact tileRow_forward h
  | dlkTimeTileRx => exact tileRow_forward h
  | dlkTrainTileRx => exact tileRow_forward h
  | dlkCapExchangeRx => exact tileRow_forward h
  | dlkCapLaneStateRx => exact tileRow_forward h
  | dlkCapDelayUpdateRx => exact tileRow_forward h
  | dlkCapLaneTrainRx => exact tileRow_forward h
  | frameEnd => exact live_forward h (frameEnd_forward _ _)
  | measurementWindowClose => exact live_forward h (windowClose_forward _)
  | statsStartWaitExpiry => exact live_forward h (startExpire_forward _)
  | _ => contradiction

/-- A command that answers a next state keeps the queue and takes the owner's part forward only. -/
theorem exec_forward {c : Instr} {s t : State} (h : exec c s = .next t) : Forward s t := by
  cases hop : opcodeOf c with
  | some packet =>
    obtain ⟨op, g⟩ := packet
    exact live_forward ((exec_opcode hop).symm.trans h) (present_forward op g)
  | none =>
    cases hruns : runsOthers c with
    | false => exact forward_of_kept (exec_kept_of_quiet hop hruns h)
    | true => exact exec_forward_of_runs hruns h

/-- Settles O3, by the three kinds of command: those that carry a packet, those that start waiting ones, and all others. -/
theorem noCommandTouchesTheQueue : Obligations.NoCommandTouchesTheQueue :=
  fun _ _ _ h => (exec_forward h).1

/-- Settles O1: the queue has a first command, and `step` takes it. -/
theorem stepRunsTheFrontCommand : Obligations.StepRunsTheFrontCommand := by
  have hstep : ∀ (c : Instr) (s : State) (rest : List Instr), s.pending = c :: rest → step s = exec c { s with pending := rest } := by
    intro c s rest h
    unfold step; rw [h]
  exact ⟨hstep, fun c s => hstep c (s.push c) s.pending rfl⟩

end Sys2Proof.Machine
end

section
/-! SUPPORT. What a threshold's crossing, RIDE and a fatal error do (R16, R116, R120, R486), and SupplyThresholdsAct, FatalErrorRecordsAndResets. -/

namespace Sys2Proof.Machine

/-- A row on a device that reset does not hold answers what its operation gives. -/
theorem live_eq {s t : State} {f : State → State} (hheld : s.held = false) (h : f s = t) : live s f = .next t := by
  rw [live_next hheld, h]

/-! ### Thresholds (R120) -/

/-- A threshold row on a running device: the measurement is taken, and a crossing `p` acts. -/
theorem live_crossing {m : Meas} {moves : State → Bool} {f : State → State} {s : State} (hheld : s.held = false) (p : Prop) [Decidable p]
    (hmoves : moves (measure m s) = true ↔ p) :
    live s (crossing m moves f) = .next (if p then f (measure m s) else measure m s) :=
  live_eq hheld (by simp only [crossing, hmoves])

theorem coreAtMost_eq_true {s : State} {n : Nat} : coreAtMost s n = true ↔ 100 * s.pwr.coreMv ≤ n * s.core.avs.target := by
  simp [coreAtMost]

theorem coreAtMost_eq_false {s : State} {n : Nat} : coreAtMost s n = false ↔ n * s.core.avs.target < 100 * s.pwr.coreMv := by
  simp [coreAtMost]

/-- RIDE_EXIT's crossing clears CORE_SAG where it stands, and leaves RIDE for the state it remembers (R116). -/
theorem rideExit_eq (s : State) :
    let t := if s.pwr.coreSag then supplyClear 4 { s with pwr := { s.pwr with coreSag := false } } else s
    rideExit s = if s.pwr.state = .ride then { t with pwr := { t.pwr with state := s.pwr.remembered } } else t := by
  cases hsag : s.pwr.coreSag <;> simp [rideExit, hsag, supplyClear, modPwr]

/-! ### RIDE (R116, R123, R124) -/

theorem dbgClose_pwr (reason : Nat) (s : State) : (dbgClose reason s).pwr = s.pwr := by
  unfold dbgClose; split <;> simp

theorem dbgClose_session (reason : Nat) (s : State) : (dbgClose reason s).dbg.session = none := by
  unfold dbgClose; split
  next h => exact h
  next => simp

theorem dbgClose_of_closed (reason : Nat) {s : State} (h : s.dbg.session = none) : dbgClose reason s = s := by
  unfold dbgClose; rw [h]

theorem rideEnter_of_awake {s : State} (h : s.pwr.state = .full ∨ s.pwr.state = .trim) :
    rideEnter s = dbgClose 2 { s with pwr := { s.pwr with state := .ride, remembered := s.pwr.state } } :=
  if_pos h

theorem rideEnter_of_low {s : State} (h : s.pwr.state = .ride ∨ s.pwr.state = .sleep) : rideEnter s = s :=
  if_neg (by rcases h with h | h <;> simp [h])

/-! ### SupplyThresholdsAct -/

/-- Settles O36, row by row: each is a crossing of its own flag and threshold (`live_crossing`). -/
theorem supplyThresholdsAct : Obligations.SupplyThresholdsAct := by
  refine ⟨fun m s hheld => ?rows, fun s => ⟨fun h => ?enter, fun h => rideEnter_of_low h⟩⟩
  case enter =>
    rw [rideEnter_of_awake h]
    exact ⟨dbgClose_pwr .., dbgClose_session .., fun hclosed => dbgClose_of_closed _ hclosed⟩
  case rows =>
    refine ⟨live_crossing hheld _ ?_, live_crossing hheld _ ?_, live_crossing hheld _ ?_, live_crossing hheld _ ?_,
      live_crossing hheld _ ?_, live_crossing hheld _ ?_, live_crossing hheld _ ?_, live_crossing hheld _ ?_,
      live_crossing hheld _ ?_, live_crossing hheld _ ?_, ?ride⟩
    case ride =>
      have hrow := live_crossing (m := m) (moves := fun s => !coreAtMost s 95 && decide (1160 ≤ s.pwr.auxMv)) (f := rideExit) hheld
        (95 * s.core.avs.target < 100 * m.coreMv ∧ 1160 ≤ m.auxMv)
        (by simp only [Bool.and_eq_true, Bool.not_eq_true', coreAtMost_eq_false, decide_eq_true_eq]; rfl)
      refine ⟨fun hbad => ?_, fun hgood hstate => ?_, fun hgood hstate => ?_⟩
      · exact hrow.trans (by rw [if_neg hbad]; rfl)
      · rw [if_pos hgood, rideExit_eq] at hrow
        exact hrow.trans (congrArg _ (if_neg hstate))
      · rw [if_pos hgood, rideExit_eq] at hrow
        exact hrow.trans (congrArg _ (if_pos hstate))
    all_goals
      simp only [Bool.and_eq_true, Bool.not_eq_true', coreAtMost_eq_true, coreAtMost_eq_false, decide_eq_true_eq]
      rfl

/-! ### A fatal error (R16, R486), and FatalErrorRecordsAndResets -/

theorem negPut_nextSeq {s : State} (h : s.pwr.nvInhibit = false) (r : NegRec) : (negPut r s).nv.nextSeq = s.nv.nextSeq + 1 := by
  simp [negPut, h, negStore]

/-- A record whose cause has no limit is written, under the next sequence number. -/
theorem negWrite_nextSeq {cause : Nat} {data : Bytes} {s : State} (hlimit : negSubject cause data = none) (h : s.pwr.nvInhibit = false) :
    (negWrite cause data s).nv.nextSeq = s.nv.nextSeq + 1 := by
  unfold negWrite; rw [hlimit]
  exact negPut_nextSeq h _

theorem negWrite_attempts (cause : Nat) (data : Bytes) (s : State) : (negWrite cause data s).nv.attempts = s.nv.attempts := by
  rw [negWrite_frame]

theorem countAttempt_of_inhibit {s : State} (h : s.pwr.nvInhibit = true) : countAttempt s = s := if_pos h

theorem countAttempt_of_writable {s : State} (h : s.pwr.nvInhibit = false) :
    countAttempt s = { s with nv := { s.nv with attempts := s.nv.attempts + 1 } } := if_neg (by simp [h])

/-- Settles O31, by the mode and then by NV-inhibit. -/
theorem fatalErrorRecordsAndResets : Obligations.FatalErrorRecordsAndResets := by
  intro proc code addr s hheld
  refine ⟨fun hsafe => live_eq hheld (if_pos hsafe), fun hsafe hinhibit => ?_, fun hsafe hwritable => ⟨?_, ?_⟩⟩
  · refine live_eq hheld ((if_neg hsafe).trans ?_)
    simp only [hinhibit, if_true, countAttempt_of_inhibit]
  · refine live_eq hheld ((if_neg hsafe).trans ?_)
    simp only [hwritable, Bool.false_eq_true, if_false]
    rw [countAttempt_of_writable (by simpa using hwritable), negWrite_attempts]
  · exact negWrite_nextSeq rfl hwritable

end Sys2Proof.Machine
end

section
/-! SUPPORT. What PTP ports send, their receipt timeouts and withdrawals (R401, R402, R407, R408, R411, R412, R421), and SentPtpMessagesAndTimeouts. -/

namespace Sys2Proof.Machine

/-! ### Reads and lengths -/

@[simp] theorem ptp_modPtp_same (p : Nat) (f : PtpPort → PtpPort) (s : State) : (modPtp p f s).ptp p = f (s.ptp p) :=
  tab_get_modify_same _ _ _ _

theorem be_length (n v : Nat) : (be n v).length = n := by
  rw [be, List.length_reverse, le_length]

theorem leInt_length (n : Nat) (v : Int) : (leInt n v).length = n := le_length ..

theorem zeros_length (n : Nat) : (zeros n).length = n := List.length_replicate

theorem b1_length (v : Nat) : (b1 v).length = 1 := rfl

theorem ptpHeader_length (s : State) (p kind len flags : Nat) (corr : Int) (seq : Nat) (log : Int) :
    (ptpHeader s p kind len flags corr seq log).length = 34 := by
  simp only [ptpHeader, List.length_append, List.length_reverse, be_length, leInt_length, zeros_length, b1_length]

/-! ### Sending (R306, R401) -/

theorem fwSend_down {p : Nat} {s : State} (h : (s.port p).isUp = false) (tc : Nat) (b : Bytes) (note : Option Out) : fwSend p tc b note s = s :=
  if_neg (ne_true_of_eq_false h)

theorem fwSend_up {p : Nat} {s : State} (h : (s.port p).isUp = true) (tc : Nat) (b : Bytes) (note : Option Out) :
    fwSend p tc b note s =
      { s with core := { s.core with fwQueue := s.core.fwQueue.modify [] p (· ++ [{ tc := tc, bytes := b, note := note }]) } } :=
  if_pos h

theorem ptpSend_up {p : Nat} {s : State} (h : (s.port p).isUp = true) (k : Nat) (b : Bytes) :
    let t := ptpSend p k b s
    t = { s with core := { s.core with fwQueue := t.core.fwQueue } } ∧
    t.core.fwQueue.get [] p = s.core.fwQueue.get [] p ++ [{ tc := 7, bytes := ptpLead s p ++ b, note := some (.ptp p k b) }] := by
  unfold ptpSend; rw [fwSend_up h]
  exact ⟨rfl, by simp only [tab_get_modify_same]⟩

/-! ### SentPtpMessagesAndTimeouts -/

/-- Settles O60, clause by clause. -/
theorem sentPtpMessagesAndTimeouts : Obligations.SentPtpMessagesAndTimeouts := by
  intro p s hheld
  refine ⟨?send, ?tx, ?announceIdle, ?announce, ?annTimeoutIdle, ?annTimeout, ?syncIdle, ?syncTimeout, ?respIdle, ?respTimeout,
    ?pairIdle, ?pairTimeout, ?blockIdle, ?block, ?runIdle, ?run, ?withdrawal⟩
  case send =>
    exact fun k b u => ⟨fun hdown => fwSend_down hdown .., fun hup => ptpSend_up hup k b⟩
  case tx =>
    intro txc
    refine ⟨fun h => ?_, fun hlive hst hset hone => ?_, fun hlive hst hset hone => ?_, fun h => ?_, fun hlive hst => ?_, fun h => ?_, fun hlive hpeer => ?_⟩
    · refine live_eq hheld (if_neg ?_)
      rcases h with h | h | h <;> simp [h]
    · refine live_eq hheld ((if_pos ?_).trans (if_pos hone))
      simp [hlive, hst, hset]
    · refine live_eq hheld ((if_pos ?_).trans (if_neg (ne_true_of_eq_false hone)))
      simp [hlive, hst, hset]
    · refine live_eq hheld (if_neg ?_)
      rcases h with h | h <;> simp [h]
    · refine ⟨_, _, live_eq hheld (if_pos ?_), rfl, ptp_modPtp_same .., ?_⟩
      · simp [hlive, hst]
      · rw [List.length_append, ptpHeader_length, zeros_length]
    · refine live_eq hheld (if_neg ?_)
      rcases h with h | h <;> simp [h]
    · refine ⟨_, _, live_eq hheld (if_pos ?_), rfl, ptp_modPtp_same .., ?_⟩
      · simp [hlive, hpeer]
      · rw [List.length_append, ptpHeader_length, zeros_length]
  case announceIdle =>
    intro h
    refine live_eq hheld (if_neg ?_)
    rcases h with h | h | h <;> simp [h]
  case announce =>
    intro hlive hst htc
    refine ⟨_, _, live_eq hheld (if_pos ?_), rfl, ptp_modPtp_same .., ptpHeader_length ..⟩
    simp [hlive, hst, htc]
  case annTimeoutIdle =>
    exact fun h => live_eq hheld (if_pos (by simp [h]))
  case annTimeout =>
    intro hlive
    refine live_eq hheld ((if_neg (by simp [hlive])).trans ?_)
    simp only [takeBest, List.isEmpty_iff]
  case syncIdle => 
    exact fun h => live_eq hheld (by simp only [syncTimeout, h])
  case syncTimeout =>
    exact fun t h => live_eq hheld (by simp only [syncTimeout, h])
  case respIdle => 
    exact fun h => live_eq hheld (by simp only [respTimeout, h])
  case respTimeout =>
    exact fun t h => live_eq hheld (by simp only [respTimeout, h])
  case pairIdle => 
    exact fun h => live_eq hheld (by simp only [pairTimeout, h])
  case pairTimeout =>
    exact fun t h => live_eq hheld (by simp only [pairTimeout, h])
  case blockIdle =>
    intro h
    refine live_eq hheld (if_pos ?_)
    rcases h with h | h <;> simp [h, timingRuns]
  case block =>
    intro hdalom hsafe
    refine live_eq hheld ((if_neg (by simp [hdalom, timingRuns, hsafe])).trans ?_)
    by_cases h : (s.port p).st = .active ∧ annAdmits s (annOfBlock (s.dlk p).partnerAnnounce
        (((s.dlk p).partner.map (fun (r : CapRec) => r.clockId.toNat)).getD 0)) = true
    · simp [h]
    · simp [h]
  case runIdle =>
    exact fun h => live_eq hheld (by simp only [stepConfirm, h])
  case run =>
    exact fun r h => live_eq hheld (by simp only [stepConfirm, h])
  case withdrawal =>
    intro k
    rw [exec_withdrawalEnd, execWithdrawalEnd, live_next hheld]
    refine ⟨fun h => ?_, fun t h => ?_⟩ <;> dsimp only at h ⊢ <;> rw [h]

end Sys2Proof.Machine
end

section
/-! SUPPORT. What synthesizers, outputs, PPS and the TOD lines do (R379, R384, R388 to R392, R409, R432): reads after a write, and one rule per operation and case. -/

namespace Sys2Proof.Machine

/-! ### Reads after a write -/

@[simp] theorem syn_modSyn_same (i : Nat) (f : Syn → Syn) (s : State) : (modSyn i f s).syn i = f (s.syn i) :=
  tab_get_modify_same _ _ _ _

@[simp] theorem cko_modSyn (i n : Nat) (f : Syn → Syn) (s : State) : (modSyn i f s).cko n = s.cko n := rfl

@[simp] theorem cko_modCko_same (n : Nat) (f : CkOut → CkOut) (s : State) : (modCko n f s).cko n = f (s.cko n) :=
  tab_get_modify_same _ _ _ _

theorem cko_modCko_other {n j : Nat} (h : j ≠ n) (f : CkOut → CkOut) (s : State) : (modCko n f s).cko j = s.cko j :=
  tab_get_modify_other _ _ _ h

@[simp] theorem pps_modPps_same (n : Nat) (f : PpsOut → PpsOut) (s : State) : (modPps n f s).pps n = f (s.pps n) :=
  tab_get_modify_same _ _ _ _

@[simp] theorem pps_send (n : Nat) (o : Out) (s : State) : (s.send o).pps n = s.pps n := rfl

@[simp] theorem modTod_tod (f : TodBlk → TodBlk) (s : State) : (modTod f s).tim.tod = f s.tim.tod := rfl

@[simp] theorem modTod_ref (f : TodBlk → TodBlk) (r : Nat) (s : State) : (modTod f s).ref r = s.ref r := rfl

@[simp] theorem modTod_tde (f : TodBlk → TodBlk) (s : State) : (modTod f s).tim.tde = s.tim.tde := rfl

@[simp] theorem modTde_tod (f : TdeBlk → TdeBlk) (s : State) : (modTde f s).tim.tod = s.tim.tod := rfl

@[simp] theorem modTde_ref (f : TdeBlk → TdeBlk) (r : Nat) (s : State) : (modTde f s).ref r = s.ref r := rfl

theorem timingRuns_iff {s : State} : timingRuns s = true ↔ s.sys.mode ≠ .safe := by
  simp [timingRuns]

/-! ### Bands and relocks (R379, R384) -/

/-- The band in force of synthesizer `i` serves its frequency at the junction's temperature. -/
def BandCovers (i : Nat) (s : State) : Prop := ∃ b, (s.syn i).inForce = some b ∧ b.serves i (s.syn i).freq s.pwr.tj = true

theorem rebandCheck_safe {i : Nat} {s : State} (h : s.sys.mode = .safe) : rebandCheck i s = s :=
  if_pos (by simp [timingRuns, h])

theorem rebandCheck_covered {i : Nat} {s : State} (h : BandCovers i s) : rebandCheck i s = s := by
  obtain ⟨b, hforce, hserves⟩ := h
  simp [rebandCheck, hforce, hserves]

theorem not_serves_of_not_bandCovers {i : Nat} {s : State} (h : ¬ BandCovers i s) {b : Band} (hforce : (s.syn i).inForce = some b) :
    b.serves i (s.syn i).freq s.pwr.tj = false := by
  by_contra hserves
  exact h ⟨b, hforce, by simpa using hserves⟩

theorem rebandCheck_unserved {i : Nat} {s : State} (hmode : s.sys.mode ≠ .safe) (h : ¬ BandCovers i s)
    (hpick : pickBand ((s.syn i).bands i) i (s.syn i).freq s.pwr.tj = none) : rebandCheck i s = s := by
  have hruns := timingRuns_iff.mpr hmode
  cases hforce : (s.syn i).inForce with
  | none => simp [rebandCheck, hforce, hruns, hpick]
  | some b => simp [rebandCheck, hforce, hruns, hpick, not_serves_of_not_bandCovers h hforce]

/-- Out of the range of its band, a SYN-O takes the one that serves, and relocks (R379). -/
theorem rebandCheck_reband {i k : Nat} {s : State} (hmode : s.sys.mode ≠ .safe) (h : ¬ BandCovers i s)
    (hpick : pickBand ((s.syn i).bands i) i (s.syn i).freq s.pwr.tj = some k) :
    rebandCheck i s = synRelock i (raise 109 i (b1 k) (modSyn i (fun y => { y with shifted := true }) (takeBand i k s))) := by
  have hruns := timingRuns_iff.mpr hmode
  cases hforce : (s.syn i).inForce with
  | none => simp [rebandCheck, hforce, hruns, hpick]
  | some b => simp [rebandCheck, hforce, hruns, hpick, not_serves_of_not_bandCovers h hforce]

/-! ### Settled sources (R384) -/

/-- An output after its source `i` has settled. -/
def CkOut.settled (i : Nat) (m : Mode) (o : CkOut) : CkOut :=
  if sourceSyn o.source = i ∧ o.st = .squelched ∧ o.fmt ≠ 0 ∧ m ≠ .safe then
    { o with st := .run, relocks := if o.relock then satAdd 16 o.relocks 1 else o.relocks, relock := false }
  else o

/-- What a settled source `i` does to output `n`. -/
def settleFed (i : Nat) (s : State) (n : Nat) : State := if sourceSyn (s.cko n).source = i then outSettled n s else s

theorem settleFed_frame (i : Nat) (s : State) (n : Nat) :
    settleFed i s n = { s with tim := { s.tim with outs := (settleFed i s n).tim.outs } } := by
  unfold settleFed outSettled; dsimp only; split_ifs <;> rfl

theorem settleFed_cko (i : Nat) (s : State) (n j : Nat) :
    (settleFed i s n).cko j = if j = n then (s.cko n).settled i s.sys.mode else s.cko j := by
  unfold settleFed outSettled CkOut.settled
  simp only [timingRuns_iff]
  by_cases hj : j = n
  · subst hj; split_ifs <;> simp_all
  · split_ifs <;> simp [cko_modCko_other hj]

/-- A settled source changes no part of the state but the outputs' table. -/
theorem settleFed_foldl_frame (i : Nat) (l : List Nat) (s : State) :
    l.foldl (settleFed i) s = { s with tim := { s.tim with outs := (l.foldl (settleFed i) s).tim.outs } } := by
  induction l generalizing s with
  | nil => rfl
  | cons n l ih => rw [List.foldl_cons, ih, settleFed_frame]

theorem settleFed_foldl_syn (i : Nat) (l : List Nat) (s : State) (j : Nat) : (l.foldl (settleFed i) s).syn j = s.syn j := by
  rw [State.syn, settleFed_foldl_frame, State.syn]

theorem settleFed_foldl_cko (i : Nat) (s : State) (k j : Nat) :
    ((List.range k).foldl (settleFed i) s).cko j = if j < k then (s.cko j).settled i s.sys.mode else s.cko j := by
  induction k generalizing j with
  | zero => simp
  | succ k ih =>
    rw [List.range_succ, List.foldl_append, List.foldl_cons, List.foldl_nil, settleFed_cko]
    have hsys : ((List.range k).foldl (settleFed i) s).sys = s.sys := by rw [settleFed_foldl_frame]
    rw [hsys, ih, ih]
    by_cases hj : j = k
    · simp [hj]
    · have hlt : j < k + 1 ↔ j < k := by omega
      simp only [hj, if_false, hlt]

theorem sourceSettles_eq (i : Nat) (s : State) :
    sourceSettles i s = (List.range 8).foldl (settleFed i) (modSyn i (fun y => { y with st := 1 }) s) := rfl

theorem sourceSettles_frame (i : Nat) (s : State) : sourceSettles i s = { s with tim := (sourceSettles i s).tim } := by
  rw [sourceSettles_eq, settleFed_foldl_frame]; rfl

theorem sourceSettles_st (i : Nat) (s : State) : ((sourceSettles i s).syn i).st = 1 := by
  rw [sourceSettles_eq, settleFed_foldl_syn, syn_modSyn_same]

theorem sourceSettles_cko (i : Nat) (s : State) {n : Nat} (h : n < 8) : (sourceSettles i s).cko n = (s.cko n).settled i s.sys.mode := by
  rw [sourceSettles_eq, settleFed_foldl_cko, if_pos h]; rfl

/-! ### PPS outputs (R388, R389) -/

/-- A last rise of PPS output `n` lies less than half a second back. -/
def RoseLately (n : Nat) (s : State) : Prop := ∃ t, (s.pps n).lastRise = some t ∧ s.clk.now < t + secTicks / 2

theorem ppsRise_closed {n : Nat} {s : State} (h : ppsOpen s n = false) (meas : Int) : ppsRise meas s n = s :=
  if_pos (by simp [h])

theorem ppsRise_skipped {n : Nat} {s : State} (hopen : ppsOpen s n = true) (h : RoseLately n s) (meas : Int) :
    ppsRise meas s n = modPps n (fun p => { p with skipped := satAdd 16 p.skipped 1 }) s := by
  obtain ⟨t, hrise, hnear⟩ := h
  simp [ppsRise, hopen, hrise, hnear]

theorem ppsRise_rises {n : Nat} {s : State} (hopen : ppsOpen s n = true) (h : ¬ RoseLately n s) (meas : Int) :
    ppsRise meas s n =
      (modPps n (fun p => { p with high := true, pulse := p.width, lastRise := some s.clk.now, phaseMeas := clampInt 32 meas }) s).send
        (.pps n true) := by
  cases hrise : (s.pps n).lastRise with
  | none => simp [ppsRise, hopen, hrise]
  | some t =>
    have hfar : t + secTicks / 2 ≤ s.clk.now := by
      by_contra hnear
      exact h ⟨t, hrise, by omega⟩
    simp [ppsRise, hopen, hrise, hfar]

/-! ### TOD lines (R391, R392, R409, R432) -/

/-- The line takes messages: it is on, and the device not in SAFE. -/
theorem todMessageRx_off {s : State} (h : ¬ (s.tim.tod.rx = true ∧ s.sys.mode ≠ .safe)) (b : Bytes) (late : Bool) : todMessageRx b late s = s := by
  rw [← timingRuns_iff] at h
  refine if_pos ?_
  cases hrx : s.tim.tod.rx <;> simp_all

theorem todMessageRx_bad {s : State} {b : Bytes} (hon : s.tim.tod.rx = true ∧ s.sys.mode ≠ .safe) (h : todParse b = none) (late : Bool) :
    todMessageRx b late s = modTod (fun t => { t with bad := satAdd 32 t.bad 1 }) s := by
  simp [todMessageRx, hon.1, timingRuns_iff.mpr hon.2, h]

theorem todMessageRx_late {s : State} {b : Bytes} {m : TodMsg} (hon : s.tim.tod.rx = true ∧ s.sys.mode ≠ .safe) (h : todParse b = some m) :
    todMessageRx b true s = modTod (fun t => { t with late := satAdd 16 t.late 1 }) s := by
  simp [todMessageRx, hon.1, timingRuns_iff.mpr hon.2, h]

theorem todMessageRx_valid {s : State} {b : Bytes} {m : TodMsg} (hon : s.tim.tod.rx = true ∧ s.sys.mode ≠ .safe) (h : todParse b = some m) :
    todMessageRx b false s = fromTod m (modTod (fun t =>
      { t with valid := satAdd 32 t.valid 1, extra := if t.msg.isSome then satAdd 16 t.extra 1 else t.extra, msg := some m }) s) := by
  simp [todMessageRx, hon.1, timingRuns_iff.mpr hon.2, h]

/-- A message changes the time properties at most. -/
theorem fromTod_frame (m : TodMsg) (s : State) : fromTod m s = { s with tim := { s.tim with time := (fromTod m s).tim.time } } := by
  unfold fromTod; split <;> rfl

theorem fromTod_time {s : State} (h : s.tim.time.fromTod = false) (m : TodMsg) : (fromTod m s).tim.time = s.tim.time := by
  simp [fromTod, h]

theorem fromTod_utc {s : State} (h : s.tim.time.fromTod = true) (m : TodMsg) : (fromTod m s).tim.time.utc = m.utc := by
  simp [fromTod, h, modTime]

theorem fromTod_tod (m : TodMsg) (s : State) : (fromTod m s).tim.tod = s.tim.tod := by
  rw [fromTod_frame]

/-- The state in which a PPSIN edge has closed the pairing and dropped its refined stamp. -/
def pulsePaired (i : Nat) (s : State) : State :=
  modTde (fun t => { t with pulses := t.pulses.erase i }) (modTod (fun t => { t with
    paired := t.msg, msg := none, lastHad := t.msg.isSome, missing := if t.msg.isSome then t.missing else satAdd 16 t.missing 1 }) s)

/-- The line takes the pulses of PPSIN `i`. -/
def PulseTaken (i : Nat) (s : State) : Prop := s.tim.tod.rx = true ∧ s.tim.tod.pps = i ∧ s.sys.mode ≠ .safe

theorem ppsinPulse_off {i : Nat} {s : State} (h : ¬ PulseTaken i s) (capture : Int) : ppsinPulse i capture s = s := by
  refine if_pos ?_
  unfold PulseTaken at h
  rw [← timingRuns_iff] at h
  cases hrx : s.tim.tod.rx <;> by_cases hpps : s.tim.tod.pps = i <;> simp_all

theorem ppsinPulse_alone {i : Nat} {s : State} (hon : PulseTaken i s) (h : s.tim.tod.msg = none) (capture : Int) :
    ppsinPulse i capture s = pulsePaired i s := by
  obtain ⟨hrx, hpps, hmode⟩ := hon
  have hruns := timingRuns_iff.mpr hmode
  simp [ppsinPulse, hrx, hpps, hruns, h, pulsePaired]

theorem ppsinPulse_disabled {i : Nat} {s : State} (hon : PulseTaken i s) (h : (s.ref (4 + i)).st = .disabled) (capture : Int) :
    ppsinPulse i capture s = pulsePaired i s := by
  obtain ⟨hrx, hpps, hmode⟩ := hon
  have hruns := timingRuns_iff.mpr hmode
  cases hmsg : s.tim.tod.msg <;> simp [ppsinPulse, hrx, hpps, hruns, hmsg, h, pulsePaired]

theorem ppsinPulse_paired {i : Nat} {s : State} {m : TodMsg} (hon : PulseTaken i s) (h : s.tim.tod.msg = some m)
    (hst : (s.ref (4 + i)).st ≠ .disabled) (capture : Int) :
    ppsinPulse i capture s =
      takeSample (100 + i) (asTod (pulsePaired i s) (capture + s.tim.tde.pulses.get 0 i / 1000) - ppsDelay16 (pulsePaired i s) -
        (m.sec : Int) * sec16) (pulsePaired i s) := by
  obtain ⟨hrx, hpps, hmode⟩ := hon
  have hruns := timingRuns_iff.mpr hmode
  simp [ppsinPulse, hrx, hpps, hruns, h, hst, pulsePaired]

end Sys2Proof.Machine
end

section
/-! SUPPORT. What edges and visits of the time-interval engines do (R436 to R445, R451), and OutputsLinesAndEngines. -/

namespace Sys2Proof.Machine

@[simp] theorem engine_modEngine_same (e : Nat) (f : Engine → Engine) (s : State) : (modEngine e f s).engine e = f (s.engine e) :=
  tab_get_modify_same _ _ _ _

/-! ### Edges (R436, R440) -/

/-- The last stamp kept of input `c` lies less than 1.6 ns before `stamp` (R440). -/
def StampNear (c : Nat) (stamp : Int) (s : State) : Prop :=
  64 ≤ c ∧ ∃ x, (s.tim.tde.rings.get [] c).head? = some x ∧ stamp - x < 104857600 ∧ x ≤ stamp

/-- The state in which an edge has passed the prescaler of its source. -/
def passedOn (c : Nat) (s : State) : State := modTde (fun t => { t with passed := t.passed.erase c }) s

theorem edge_absent {c : Nat} {s : State} (h : presents s c = false) (stamp coarse : Int) (tx : Bool) : edge c stamp coarse tx s = s :=
  if_pos (by simp [h])

theorem edge_prescaled {c : Nat} {s : State} (hsource : presents s c = true) (h : s.tim.tde.passed.get 0 c + 1 < prescale s c)
    (stamp coarse : Int) (tx : Bool) :
    edge c stamp coarse tx s = modTde (fun t => { t with passed := t.passed.set c (s.tim.tde.passed.get 0 c + 1) }) s := by
  have hn : ¬ prescale s c ≤ s.tim.tde.passed.get 0 c + 1 := by omega
  simp [edge, hsource, passesPrescaler, hn]

theorem passesPrescaler_pass {c : Nat} {s : State} (h : prescale s c ≤ s.tim.tde.passed.get 0 c + 1) :
    passesPrescaler c s = (true, passedOn c s) := if_pos h

@[simp] theorem passedOn_rings (c : Nat) (s : State) : (passedOn c s).tim.tde.rings = s.tim.tde.rings := rfl

theorem edge_near {c : Nat} {s : State} (hsource : presents s c = true) (hpass : prescale s c ≤ s.tim.tde.passed.get 0 c + 1)
    {stamp : Int} (h : StampNear c stamp s) (coarse : Int) (tx : Bool) : edge c stamp coarse tx s = countSpacing c (passedOn c s) := by
  obtain ⟨hinput, x, hlast, hspace, hbefore⟩ := h
  simp [edge, hsource, passesPrescaler_pass hpass, hlast, hinput, hspace, hbefore]

/-- An edge that is spaced, on a source that is no output's feedback and is pinned to no engine, is stamped and metered. -/
theorem edge_metered {c : Nat} {s : State} (hsource : presents s c = true) (hpass : prescale s c ≤ s.tim.tde.passed.get 0 c + 1)
    {stamp : Int} (h : ¬ StampNear c stamp s) (hc : c < 74) (hpin : enginePinned s c = none) (coarse : Int) (tx : Bool) :
    edge c stamp coarse tx s =
      meterEdge c stamp (modTde (fun t => { t with rings := t.rings.set c ((stamp :: s.tim.tde.rings.get [] c).take 16) }) (passedOn c s)) := by
  have hpinned : ∀ r, enginePinned (modTde (fun t => { t with rings := t.rings.set c r }) (passedOn c s)) c = none := fun _ => hpin
  have hout : ∀ u, coarsePhase c coarse u = u := fun u => if_neg (by omega)
  cases hlast : (s.tim.tde.rings.get [] c).head? with
  | none => simp [edge, hsource, passesPrescaler_pass hpass, hlast, hout, hpinned]
  | some x =>
    have hfar : ¬ (64 ≤ c ∧ stamp - x < 104857600 ∧ x ≤ stamp) := fun hnear => h ⟨hnear.1, x, hlast, hnear.2⟩
    simp only [edge, hsource, passesPrescaler_pass hpass, passedOn_rings, hlast, hfar, hout, hpinned, decide_false, Bool.not_true,
      Bool.false_eq_true, if_false]

/-! ### Rounds and visits (R24, R25, R444) -/

theorem visit_idle {e c : Nat} {s : State} (h : isRotating s e = false ∨ (rotatingSources s).contains c = false)
    (found : List (Int × Int × Bool)) : visit e c found s = s := by
  refine if_pos ?_
  rcases h with h | h <;> simp only [h, Bool.not_false, Bool.or_true, Bool.true_or]

theorem visit_unowed {e c : Nat} {s : State} (h : roundFor c s = none) (found : List (Int × Int × Bool)) : visit e c found s = s := by
  simp only [visit, h, ite_self]

theorem visit_owed {e c : Nat} {s u : State} (hrot : isRotating s e = true) (hsource : (rotatingSources s).contains c = true)
    (h : roundFor c s = some u) (found : List (Int × Int × Bool)) :
    visit e c found s =
      (if c < 64 then (found.filter (fun x => x.2.2)).take 1 ++ (found.filter (fun x => !x.2.2)).take 1 else found.take 1).foldl
        (fun s x => refine e c x.2.2 x.1 x.2.1 s) (modEngine e (fun x => { x with visits := wrapAdd 32 x.visits 1 })
          (modTde (fun t => { t with visited := c :: t.visited }) u)) := by
  simp only [visit, hrot, hsource, h, Bool.not_true, Bool.or_self, Bool.false_eq_true, if_false]

/-- The round in progress, or the next one where the clock has ended it. -/
def roundNow (s : State) : State := if roundEnd s ≤ s.clk.now then roundStart s else s

theorem roundFor_eq (c : Nat) (s : State) :
    roundFor c s = if visitDue (roundNow s) c then some (roundNow s)
      else if roundServed (roundNow s) then some (roundStart (advanceTo (roundEnd (roundNow s)) (roundNow s))) else none := rfl

theorem visitDue_of_unvisited {s : State} {c : Nat} (h : c ∉ s.tim.tde.visited) : visitDue s c = true := by
  have hcount : s.tim.tde.visited.countP (· == c) = 0 := by
    rw [List.countP_eq_zero]
    intro x hx hxc
    exact h (by simpa [eq_of_beq hxc] using hx)
  simp [visitDue, hcount]

theorem visitDue_of_slow {s : State} {c : Nat} (h : slowSource s c = true) : visitDue s c = true := by
  simp [visitDue, h]

/-! ### Claims (R451) -/

theorem claimGrant_unmetered {e : Nat} {s : State} (h : (s.engine e).meter = none) : claimGrant e s = s := by
  simp [claimGrant, h]

theorem claimGrant_granted {e : Nat} {m : Meter} {s : State} (hmeter : (s.engine e).meter = some m) (hg : m.granted = true) :
    claimGrant e s = s := by
  unfold claimGrant
  split
  next hm => rw [hmeter] at hm; cases hm; exact if_pos hg
  next => rfl

/-- The stamps of source `b` that lie within the last 100 ns, oldest first (R451). -/
def lookBack (b : Nat) (s : State) : List Int :=
  ((s.tim.tde.rings.get [] b).filter (fun x => decide (baseStamp s - 100 * ns16ps ≤ x))).reverse

theorem claimGrant_grants {e a b h : Nat} {m : Meter} {s : State} (hrole : (s.engine e).role = .claimed a b h)
    (hmeter : (s.engine e).meter = some m) (hg : m.granted = false) :
    claimGrant e s = modEngine e (fun x => { x with meter := some { m with granted := true, armedAt := s.clk.now, found := lookBack b s } }) s := by
  simp [claimGrant, hrole, hmeter, hg, lookBack]

theorem mem_lookBack {b : Nat} {s : State} {x : Int} :
    x ∈ lookBack b s ↔ x ∈ s.tim.tde.rings.get [] b ∧ baseStamp s - 100 * ns16ps ≤ x := by
  simp [lookBack]

/-! ### OutputsLinesAndEngines -/

/-- Settles O58, row by row: each is `live` of its operation, and the operation's rule above says what it does. -/
theorem outputsLinesAndEngines : Obligations.OutputsLinesAndEngines := by
  intro s hheld
  refine ⟨?reband, ?settled, ?bridged, ?secondUnset, ?second, ?rise, ?width, ?todTx, ?todRx, ?ppsin, ?edge, ?visit, ?round, ?claim⟩
  case reband =>
    intro i
    refine ⟨fun h => live_eq hheld ?_, fun hmode hcov hpick => live_eq hheld (rebandCheck_unserved hmode hcov hpick),
      fun b hmode hcov hpick => live_eq hheld (rebandCheck_reband hmode hcov hpick)⟩
    rcases h with h | h
    · exact rebandCheck_safe h
    · exact rebandCheck_covered h
  case settled =>
    intro i
    refine ⟨live_next hheld _, sourceSettles i s, live_next hheld _, sourceSettles_frame i s, sourceSettles_st i s,
      fun n hn => sourceSettles_cko i s hn⟩
  case bridged =>
    exact fun n => live_eq hheld (by simp)
  case secondUnset =>
    exact fun m0 m1 h => live_eq hheld (if_pos (by simp [h]))
  case second =>
    exact fun m0 m1 h => live_eq hheld (if_neg (by simp [h]))
  case rise =>
    intro meas n u
    refine ⟨fun h => ppsRise_closed h meas, fun hopen hnear => ppsRise_skipped hopen hnear meas, fun hopen hfar => ?_⟩
    rw [ppsRise_rises hopen hfar meas, pps_send, pps_modPps_same]
    exact ⟨rfl, rfl, rfl, rfl⟩
  case width =>
    refine fun n => ⟨fun h => live_eq hheld (if_neg (by simp [h])), fun h => ⟨_, live_eq hheld (if_pos h), ?_, ?_⟩⟩
    · rw [pps_send, pps_modPps_same]
    · simp [modPps]
  case todTx =>
    exact live_eq hheld (by simp [timingRuns_iff, and_assoc])
  case todRx =>
    intro b late
    refine ⟨fun h => live_eq hheld (todMessageRx_off h b late), fun hon h => live_eq hheld (todMessageRx_bad hon h late),
      fun m hon h hlate => live_eq hheld (hlate ▸ todMessageRx_late hon h), fun m hon h hlate => ?_⟩
    subst hlate
    refine ⟨_, live_eq hheld (todMessageRx_valid hon h), ?_, ?_, ?_, ?_, fun hoff => ?_, fun hfrom => fromTod_utc (s := modTod _ s) hfrom m⟩
    · rw [fromTod_frame]; rfl
    · rw [fromTod_tod]; rfl
    · rw [fromTod_tod]; rfl
    · rw [fromTod_tod]; rfl
    · exact fromTod_time (s := modTod _ s) hoff m
  case ppsin =>
    intro i capture
    refine ⟨fun h => live_eq hheld (ppsinPulse_off h capture), fun hon h => live_eq hheld ?_, fun m hon h hst => live_eq hheld ?_⟩
    · rcases h with h | h
      · exact ppsinPulse_alone hon h capture
      · exact ppsinPulse_disabled hon h capture
    · exact ppsinPulse_paired hon h hst capture
  case edge =>
    intro c stamp coarse tx
    exact ⟨fun h => live_eq hheld (edge_absent h stamp coarse tx), fun h hk => live_eq hheld (edge_prescaled h hk stamp coarse tx),
      fun h hk hnear => live_eq hheld (edge_near h hk hnear coarse tx),
      fun h hk hfar hc hpin => live_eq hheld (edge_metered h hk hfar hc hpin coarse tx)⟩
  case visit =>
    intro e c found
    exact ⟨fun h => live_eq hheld (visit_idle h found), fun _ _ h => live_eq hheld (visit_unowed h found),
      fun u hrot hsource h => live_eq hheld (visit_owed hrot hsource h found)⟩
  case round =>
    intro c u
    refine ⟨fun hover => ?_, fun h => ?_, fun hdue hserved => ?_, fun hdue hserved => ?_⟩
    · rw [if_pos hover]; exact ⟨rfl, rfl⟩
    · refine (roundFor_eq c u).trans (if_pos ?_)
      rcases h with h | h
      · exact visitDue_of_unvisited h
      · exact visitDue_of_slow h
    · exact (roundFor_eq c u).trans ((if_neg (ne_true_of_eq_false hdue)).trans (if_neg (ne_true_of_eq_false hserved)))
    · exact (roundFor_eq c u).trans ((if_neg (ne_true_of_eq_false hdue)).trans (if_pos hserved))
  case claim =>
    intro e
    refine ⟨fun h => live_eq hheld (claimGrant_unmetered h), fun m a b h hrole hmeter => ⟨fun hg => live_eq hheld (claimGrant_granted hmeter hg), fun hg => ?_⟩⟩
    refine ⟨_, lookBack b s, live_eq hheld (claimGrant_grants hrole hmeter hg), rfl, ?_, fun x => mem_lookBack.mp⟩
    rw [engine_modEngine_same]

end Sys2Proof.Machine
end

section
/-! SUPPORT. What the buffer pools' operations and the release of frames leave of the core: the pools and the ledger are all that a grant or a free touches (R270 to R282), and no release of a frame changes which slice serves a quad (R279, R318). -/

namespace Sys2Proof.Machine

/-! ### Grants and frees touch the pools and the ledger -/

/-- The core but for its pools and its ledger. -/
def Core.besidePools (c : Core) : Core := { c with pools := [], ledger := [] }

@[simp] theorem modPool_besidePools (p : Nat) (f : Pool → Pool) (s : State) : (modPool p f s).core.besidePools = s.core.besidePools := rfl

@[simp] theorem setLedger_besidePools (h v : Nat) (s : State) : (setLedger h v s).core.besidePools = s.core.besidePools := rfl

@[simp] theorem served_besidePools (p a : Nat) (s : State) : (served p a s).core.besidePools = s.core.besidePools := rfl

@[simp] theorem poolWatch_besidePools (p : Nat) (s : State) : (poolWatch p s).core.besidePools = s.core.besidePools := by
  unfold poolWatch; dsimp only
  split
  · rw [raise_core]; rfl
  · split <;> rfl

@[simp] theorem refillStart_besidePools (p : Nat) (s : State) : (refillStart p s).core.besidePools = s.core.besidePools := by
  unfold refillStart; dsimp only; split <;> rfl

@[simp] theorem spillStart_besidePools (p : Nat) (s : State) : (spillStart p s).core.besidePools = s.core.besidePools := by
  unfold spillStart; dsimp only; split <;> rfl

@[simp] theorem ledgerParity_besidePools (h owner : Nat) (s : State) : (ledgerParity h owner s).core.besidePools = s.core.besidePools := by
  rw [ledgerParity, negWrite_core, raise_core, modPool_besidePools]

@[simp] theorem ledgerReject_besidePools (h owner expect kind : Nat) (s : State) :
    (ledgerReject h owner expect kind s).core.besidePools = s.core.besidePools := by
  rw [ledgerReject, negWrite_core, raise_core, modPool_besidePools]

@[simp] theorem grantLoop_besidePools (p owner n : Nat) (s : State) : (grantLoop p owner n s).2.core.besidePools = s.core.besidePools := by
  induction n generalizing s with
  | zero => rfl
  | succ n ih =>
    unfold grantLoop
    split
    · rfl
    · dsimp only; split
      · rfl
      · rw [ih, modPool_besidePools, ledgerParity_besidePools, modPool_besidePools]

@[simp] theorem poolGrant_besidePools (p owner : Nat) (s : State) : (poolGrant p owner s).2.core.besidePools = s.core.besidePools := by
  simp [poolGrant]

@[simp] theorem tryPools_besidePools (owner : Nat) (l : List Nat) (s : State) :
    (tryPools owner l s).2.core.besidePools = s.core.besidePools := by
  induction l generalizing s with
  | nil => rfl
  | cons p ps ih =>
    have hgrant := poolGrant_besidePools p owner s
    unfold tryPools
    split
    next heq => rwa [heq] at hgrant
    next heq =>
      rw [heq] at hgrant
      rw [ih]
      split
      · exact hgrant
      · exact hgrant

@[simp] theorem poolDrop_besidePools (p : Nat) (s : State) : (poolDrop p s).core.besidePools = s.core.besidePools := by
  unfold poolDrop; dsimp only
  split_ifs
  · rfl
  · rw [raise_core]; rfl

@[simp] theorem allocate_besidePools (owner size : Nat) (tiers : List Bool) (s : State) :
    (allocate owner size tiers s).2.core.besidePools = s.core.besidePools := by
  have htry := tryPools_besidePools owner (tiers.flatMap (fun d => poolsFor d size)) s
  unfold allocate; dsimp only
  split
  next heq => rwa [heq] at htry
  next heq =>
    rw [heq] at htry
    rw [poolDrop_besidePools, htry]

@[simp] theorem freeHandle_besidePools (h owner expect : Nat) (s : State) :
    (freeHandle h owner expect s).core.besidePools = s.core.besidePools := by
  unfold freeHandle; dsimp only
  split
  · rw [modPool_besidePools, ledgerParity_besidePools, served_besidePools]
  · rw [ledgerReject_besidePools, served_besidePools]
  · rw [poolWatch_besidePools, spillStart_besidePools, modPool_besidePools, setLedger_besidePools, served_besidePools]

/-! ### Flow control touches the ports, the links and what is sent -/

@[simp] theorem modFc_core (p c : Nat) (f : FlowClass → FlowClass) (s : State) : (modFc p c f s).core = s.core := rfl

@[simp] theorem sendPause_core (p c quanta : Nat) (s : State) : (sendPause p c quanta s).core = s.core := by
  unfold sendPause; dsimp only; split_ifs <;> rfl

@[simp] theorem assertXoff_core (p c : Nat) (s : State) : (assertXoff p c s).core = s.core := by
  unfold assertXoff; dsimp only; split_ifs <;> simp

@[simp] theorem endXoff_core (p c : Nat) (s : State) : (endXoff p c s).core = s.core := by
  unfold endXoff; dsimp only; split_ifs <;> simp

@[simp] theorem xonCheck_core (p c : Nat) (s : State) : (xonCheck p c s).core = s.core := by
  unfold xonCheck; dsimp only; split_ifs <;> simp

theorem foldl_core {α : Type} (f : State → α → State) (h : ∀ s a, (f s a).core = s.core) (l : List α) (s : State) :
    (l.foldl f s).core = s.core := by
  induction l generalizing s with
  | nil => rfl
  | cons a l ih => rw [List.foldl_cons, ih, h]

@[simp] theorem xonAll_core (s : State) : (xonAll s).core = s.core := by
  unfold xonAll
  exact foldl_core _ (fun s (x : Nat × Nat) => xonCheck_core x.1 x.2 s) _ s

@[simp] theorem releaseCheck_core (p c : Nat) (s : State) : (releaseCheck p c s).core = s.core := by
  unfold releaseCheck; dsimp only; split_ifs <;> rfl

@[simp] theorem afterFree_core (p c : Nat) (s : State) : (afterFree p c s).core = s.core := by
  rw [afterFree, xonAll_core, releaseCheck_core]

@[simp] theorem creditReturn_core (p c n : Nat) (s : State) : (creditReturn p c n s).core = s.core := by
  unfold creditReturn; split_ifs <;> rfl

/-! ### No release of a frame changes the service of a quad -/

/-- Which slices serve: their states, the epochs, the takeovers in progress and the spare. -/
def Core.service (c : Core) : (Nat → SliceSt) × Tab Nat × List (Nat × Nat) × Option Nat :=
  (fun i => (c.slices.get (SliceRec.reset i) i).st, c.epochs, c.taking, c.spare)

theorem service_of_besidePools {c d : Core} (h : c.besidePools = d.besidePools) : c.service = d.service :=
  show c.besidePools.service = d.besidePools.service from congrArg Core.service h

theorem foldl_service {α : Type} (f : State → α → State) (h : ∀ s a, (f s a).core.service = s.core.service) (l : List α) (s : State) :
    (l.foldl f s).core.service = s.core.service := by
  induction l generalizing s with
  | nil => rfl
  | cons a l ih => rw [List.foldl_cons, ih, h]

@[simp] theorem freeHandle_service (h owner expect : Nat) (s : State) : (freeHandle h owner expect s).core.service = s.core.service :=
  service_of_besidePools (freeHandle_besidePools h owner expect s)

@[simp] theorem unqueue_service (key id : Nat) (s : State) : (unqueue key id s).core.service = s.core.service := rfl

@[simp] theorem setFrame_service (f : Frame) (s : State) : (setFrame f s).core.service = s.core.service := rfl

@[simp] theorem freeBuffer_service (f : Frame) (s : State) : (freeBuffer f s).2.core.service = s.core.service := by
  unfold freeBuffer
  split
  · rfl
  · split
    · exact freeHandle_service ..
    · exact freeHandle_service ..

@[simp] theorem releaseFrame_service (id : Nat) (s : State) : (releaseFrame id s).core.service = s.core.service := by
  unfold releaseFrame
  split
  · rfl
  next f _ =>
    dsimp only
    rw [afterFree_core]
    split
    · rw [creditReturn_core]; exact freeBuffer_service f s
    · exact freeBuffer_service f s

@[simp] theorem dropFrame_service (id : Nat) (s : State) : (dropFrame id s).core.service = s.core.service := by
  unfold dropFrame; split
  · rfl
  · rw [releaseFrame_service, unqueue_service]

@[simp] theorem giveUp_service (id : Nat) (s : State) : (giveUp id s).core.service = s.core.service := by
  unfold giveUp
  split
  · rfl
  · split
    · exact dropFrame_service id s
    · dsimp only
      rw [afterFree_core, setFrame_service, freeBuffer_service, unqueue_service]

@[simp] theorem mbxDrain_core (n : Nat) (s : State) : (mbxDrain n s).core = s.core := by
  induction n generalizing s with
  | zero => rfl
  | succ n ih =>
    unfold mbxDrain; split
    · rfl
    · split_ifs
      · rw [ih, mbxPost_frame]
      · rfl

@[simp] theorem suspendPoint_service (h : Nat) (s : State) : (suspendPoint h s).core.service = s.core.service := by
  unfold suspendPoint; split
  · split_ifs <;> rfl
  · rfl

@[simp] theorem notify_service (o : Origin) (b : Bytes) (s : State) : (notify o b s).core.service = s.core.service := by
  unfold notify; split
  · rw [mbxNotice, mbxDrain_core]
  · rw [deliver_frame]; rfl

@[simp] theorem opFinish_service (h : Nat) (st : OpState) (status : Nat) (s : State) :
    (opFinish h st status s).core.service = s.core.service := by
  unfold opFinish; split
  · rfl
  next o _ =>
    dsimp only
    generalize (if (st == .done) = true then 10000 else (o.progress : Nat)) = progress
    split
    on_goal 1 => rw [raise_core]
    on_goal 3 => rw [notify_service]
    all_goals
      split
      · split_ifs
        · rfl
        · rw [negWrite_core]; rfl
      · rfl

@[simp] theorem bathCheck_service (s : State) : (bathCheck s).core.service = s.core.service := by
  unfold bathCheck
  refine foldl_service _ (fun s o => ?_) _ s
  split
  · dsimp only
    split_ifs <;> simp only [suspendPoint_service, setOp_core]
  · rfl

@[simp] theorem fenceCheck_service (s : State) : (fenceCheck s).core.service = s.core.service := by
  unfold fenceCheck
  refine foldl_service _ (fun s o => ?_) _ s
  split
  · dsimp only
    split_ifs <;> simp only [opFinish_service, setOp_core]
  · rfl

@[simp] theorem shortsCheck_service (s : State) : (shortsCheck s).core.service = s.core.service := by
  unfold shortsCheck
  refine foldl_service _ (fun s x => ?_) _ s
  dsimp only
  split
  · split_ifs <;> rfl
  · split_ifs <;> rfl

@[simp] theorem settle_service (s : State) : (settle s).core.service = s.core.service := by
  rw [settle, shortsCheck_service, fenceCheck_service, bathCheck_service]

@[simp] theorem shed_service (f : Frame) (s : State) : (shed f s).core.service = s.core.service := by
  rw [shed, settle_service, giveUp_service]

end Sys2Proof.Machine
end

section
/-! SUPPORT. Stall windows and takeovers (R323 to R326), the deadlock detector (R316, R317), and the AVS loop's target (R322, R548). -/

namespace Sys2Proof.Machine

/-! ### A slice that is declared dead (R324, R325) -/

theorem modSlice_service (i : Nat) (f : SliceRec → SliceRec) (hst : ∀ r, (f r).st = r.st) (s : State) :
    (modSlice i f s).core.service = s.core.service := by
  have hstates : (fun j => ((modSlice i f s).slice j).st) = fun j => (s.slice j).st := by
    funext j
    by_cases hj : j = i
    · subst hj; rw [slice_modSlice_same, hst]
    · rw [slice_modSlice_other s hj]
  exact congrArg (·, s.core.epochs, s.core.taking, s.core.spare) hstates

@[simp] theorem takeoverDrop_service (p tc : Nat) (s : State) : (takeoverDrop p tc s).core.service = s.core.service :=
  modSlice_service _ (fun r => { r with takeoverDrops := satAdd 32 r.takeoverDrops 1 }) (fun _ => rfl) _

/-- The frames of a quad that are judged at its slice or still to be: they hold a buffer and no result is accepted (R324). -/
def lostWith (q : Nat) (s : State) : List Frame :=
  s.core.frames.filter (fun f => quadOf f.inPort == q && decide (f.inPort < 64) && !f.accepted && f.buffered)

/-- A slice declared dead and its quad's epoch raised. -/
def markDead (sl q : Nat) (s : State) : State := bumpEpoch q (modSlice sl (fun r => { r with st := .dead }) s)

/-- A slice declared dead, with the event, the record and the discards of its quad, before a spare takes over (R324, R325). -/
def sliceDies (sl q : Nat) (s : State) : State :=
  let taker := s.core.spare.getD 0xFF
  let u := raise 80 sl (sliceData (markDead sl q s) q taker) (markDead sl q s)
  let v := negWrite 0x0020 (b1 sl ++ b1 q ++ b1 (u.epoch q) ++ b1 taker) u
  let w := (lostWith q v).foldl (fun s f => shed f (takeoverDrop f.inPort f.tc s)) v
  if (w.win sl).busy then tawFinish sl (TawOut.bare 5) w else w

theorem declareDead_of_spare {sl q t : Nat} {s : State} (hspare : s.core.spare = some t) :
    declareDead sl q s = modCore (fun c => { c with taking := c.taking ++ [(t, q)], spare := none }) (sliceDies sl q s) := by
  have hmarked : (markDead sl q s).core.spare = some t := hspare
  unfold declareDead sliceDies
  dsimp only
  rw [← markDead, hmarked, hspare]
  rfl

theorem declareDead_of_no_spare {sl q : Nat} {s : State} (hspare : s.core.spare = none) :
    declareDead sl q s = raise 82 sl (sliceData (modCore (fun c => { c with unserved := c.unserved.set q true }) (sliceDies sl q s)) q 0xFF)
      (modCore (fun c => { c with unserved := c.unserved.set q true }) (sliceDies sl q s)) := by
  have hmarked : (markDead sl q s).core.spare = none := hspare
  unfold declareDead sliceDies
  dsimp only
  rw [← markDead, hmarked, hspare]
  rfl

/-- The discards of a quad whose slice dies change no slice's service. -/
theorem shedAll_service (l : List Frame) (s : State) :
    (l.foldl (fun s f => shed f (takeoverDrop f.inPort f.tc s)) s).core.service = s.core.service :=
  foldl_service _ (fun s f => by rw [shed_service, takeoverDrop_service]) l s

theorem sliceDies_service (sl q : Nat) (s : State) : (sliceDies sl q s).core.service = (markDead sl q s).core.service := by
  unfold sliceDies; dsimp only
  split_ifs
  · rw [tawFinish, modWin_core, shedAll_service, negWrite_core, raise_core]
  · rw [shedAll_service, negWrite_core, raise_core]

@[simp] theorem slice_markDead (sl q : Nat) (s : State) : ((markDead sl q s).slice sl).st = .dead :=
  congrArg SliceRec.st (slice_modSlice_same s sl (fun r => { r with st := .dead }))

@[simp] theorem epoch_markDead (sl q : Nat) (s : State) : (markDead sl q s).epoch q = (s.epoch q + 1) % 16 :=
  tab_get_set_same ..

theorem declareDead_service (sl q : Nat) (s : State) :
    ((declareDead sl q s).slice sl).st = .dead ∧ (declareDead sl q s).epoch q = (s.epoch q + 1) % 16 ∧
      (∀ t, s.core.spare = some t → (declareDead sl q s).core.taking = s.core.taking ++ [(t, q)] ∧ (declareDead sl q s).core.spare = none) ∧
      (s.core.spare = none → (declareDead sl q s).quadDown q = true) := by
  have hdies := sliceDies_service sl q s
  obtain ⟨hstates, hepochs, htaking, -⟩ : (_ = _ ∧ _ = _ ∧ _ = _ ∧ _ = _) := by simpa only [Core.service, Prod.mk.injEq] using hdies
  have hdead : ((sliceDies sl q s).slice sl).st = .dead := (congrFun hstates sl).trans (slice_markDead sl q s)
  have hepoch : (sliceDies sl q s).epoch q = (s.epoch q + 1) % 16 := (congrArg (Tab.get 0 · q) hepochs).trans (epoch_markDead sl q s)
  cases hspare : s.core.spare with
  | some t =>
    rw [declareDead_of_spare hspare]
    refine ⟨hdead, hepoch, fun t' ht => ⟨?_, rfl⟩, nofun⟩
    cases ht
    exact congrArg (· ++ [(t, q)]) htaking
  | none =>
    rw [declareDead_of_no_spare hspare]
    refine ⟨?_, ?_, nofun, fun _ => ?_⟩
    · rw [State.slice, raise_core]; exact hdead
    · rw [State.epoch, raise_core]; exact hepoch
    · rw [State.quadDown, raise_core]; exact tab_get_set_same ..

/-! ### Stall windows (R323, R324) -/

section
variable {sl q : Nat} {s : State} (hawake : s.pwr.state ≠ .sleep) (hquad : sliceQuad s sl = some q)
include hawake hquad

theorem windowEnd_stall (hst : (s.slice sl).st = .active) :
    windowEnd sl true s = raise 79 sl (sliceData s q 0xFF)
      (modSlice sl (fun r => { r with st := .suspect, stalled := 1, suspects := satAdd 32 r.suspects 1 }) s) := by
  simp only [windowEnd, hawake, if_false, hquad, hst]; rfl

theorem windowEnd_progress (hst : (s.slice sl).st = .active) : windowEnd sl false s = s := by
  simp only [windowEnd, hawake, if_false, hquad, hst]

theorem windowEnd_clears (hst : (s.slice sl).st = .suspect) :
    windowEnd sl false s = modSlice sl (fun r => { r with st := .active, stalled := 0 }) s := by
  simp only [windowEnd, hawake, if_false, hquad, hst]

theorem windowEnd_suspect (hst : (s.slice sl).st = .suspect) :
    windowEnd sl true s =
      if (s.slice sl).stalled < 2 then modSlice sl (fun r => { r with stalled := 2 }) s else declareDead sl q s := by
  simp only [windowEnd, hawake, if_false, hquad, hst]

theorem windowEnd_off (hactive : (s.slice sl).st ≠ .active) (hsuspect : (s.slice sl).st ≠ .suspect) (stalled : Bool) :
    windowEnd sl stalled s = s := by
  simp only [windowEnd, hawake, if_false, hquad]
  split
  next h => exact absurd h hactive
  next h => exact absurd h hsuspect
  next h => exact absurd h hsuspect
  next => rfl

end

theorem windowEnd_no_window {sl : Nat} {s : State} (h : s.pwr.state = .sleep ∨ sliceQuad s sl = none) (stalled : Bool) :
    windowEnd sl stalled s = s := by
  by_cases hsleep : s.pwr.state = .sleep
  · simp only [windowEnd, hsleep, if_true]
  · simp only [windowEnd, hsleep, if_false, h.resolve_left hsleep]

/-! ### Takeovers (R325) -/

/-- A slice's tables once the takeover that its spare completes has ended: what `forget` leaves. -/
theorem tab_takeover {t q : Nat} {rest : List (Nat × Nat)} {s : State} (htaking : s.core.taking = (t, q) :: rest) :
    (takeover s).tab t = (forget t s).tab t := by
  simp only [takeover, htaking, State.tab, raise_tables]
  rfl

theorem fdb_forget {t : Nat} {s : State} {i : Nat} {e : _} (h : (i, KSlot.entry e) ∈ ((forget t s).tab t).fdb) : e.dyn = false := by
  rw [forget, tab_modTab_same] at h
  simpa using (List.mem_filter.mp h).2

theorem core_takeover {t q : Nat} {rest : List (Nat × Nat)} {s : State} (htaking : s.core.taking = (t, q) :: rest) :
    (takeover s).core = { (modSlice t (fun r => { r with st := .active, stalled := 0 }) (forget t s)).core with
      quads := s.core.quads.set q t, taking := rest } := by
  simp only [takeover, htaking, raise_core]
  rfl

/-! ### The deadlock detector (R316, R317) -/

theorem advanceTo_now (t : Nat) (s : State) : (advanceTo t s).clk.now = max s.clk.now t := by
  unfold advanceTo
  split_ifs with hlt
  · rw [passTicks_now]; omega
  · omega

theorem port_advanceTo (t : Nat) (s : State) (p : Nat) : (advanceTo t s).port p = s.port p := by
  rw [State.port, advanceTo_ports, State.port]

/-- The record that a suspected deadlock leaves (R317). -/
def suspectRecord (s : State) (since p c : Nat) : Deadlock :=
  { port := p, tc := c, since := since, xoffMask := xoffMask s p,
    mac := if (s.port p).cfg.dalom then ((s.dlk p).partner.map (fun (r : CapRec) => r.mac)).getD 0 else 0,
    dalom := (s.port p).cfg.dalom, cycle := (xoffMask s p).testBit p }

theorem suspectRecord_fields (s : State) (since p c : Nat) :
    let d := suspectRecord s since p c
    d.port = p ∧ d.tc = c ∧ d.xoffMask = xoffMask s p ∧ d.cycle = (xoffMask s p).testBit p ∧ d.dalom = (s.port p).cfg.dalom ∧ d.since = since :=
  ⟨rfl, rfl, rfl, rfl, rfl, rfl⟩

section
variable {p c : Nat} {s : State}

theorem deadlockSuspect_idle (h : s.core.dlTime = 0 ∨ pausedUntil s p c (pausedFrom s p c + s.core.dlTime * msTicks) = false ∨
    s.core.deadlocks.any (fun d => d.port == p && d.tc == c) = true) : deadlockSuspect p c s = s := by
  simp only [deadlockSuspect]
  rw [if_pos (by simpa [or_assoc] using h)]

theorem deadlockSuspect_records (hon : s.core.dlTime ≠ 0) (hdue : pausedUntil s p c (pausedFrom s p c + s.core.dlTime * msTicks) = true)
    (hnew : s.core.deadlocks.any (fun d => d.port == p && d.tc == c) = false) :
    let u := advanceTo (pausedFrom s p c + s.core.dlTime * msTicks) s
    deadlockSuspect p c s = raise 74 p (b1 c ++ b1 (bitsNat [(xoffMask u p).testBit p, (u.port p).cfg.dalom]))
      (modCore (fun q => { q with deadlocks := q.deadlocks ++ [suspectRecord u (pausedFrom s p c) p c] }) u) := by
  simp only [deadlockSuspect]
  rw [if_neg (by simp [hon, hdue, hnew])]
  rfl

end

/-! ### The voltage loop (R320 to R322, R548) -/

theorem avsBus_ok (s : State) : avsBus true s = modCore (fun c => { c with avs := { s.core.avs with fault := false, fails := 0 } }) s := rfl

theorem avsBus_fails {s : State} (hsound : s.core.avs.fault = false) (hfew : s.core.avs.fails + 1 < 3) :
    avsBus false s = modCore (fun c => { c with avs := { s.core.avs with fails := s.core.avs.fails + 1 } }) s := by
  simp [avsBus, hsound, hfew]

theorem avsBus_third_fail {s : State} (hsound : s.core.avs.fault = false) (hthird : 3 ≤ s.core.avs.fails + 1) :
    avsBus false s = raise 5 0 (le 2 s.core.avs.target) (modCore (fun c => { c with avs := { s.core.avs with fault := true, fails := 3 } }) s) := by
  simp [avsBus, hsound, Nat.not_lt.mpr hthird]

theorem avsBus_faulty {s : State} (hfault : s.core.avs.fault = true) : avsBus false s = s := by
  simp [avsBus, hfault]

/-- The pace monitor's values of one run of the loop. -/
def paced (pace : List (Nat × Nat × Nat)) (s : State) : State := readExtra (pace.foldl notePace s)

/-- How many runs in a row the lowest margin has been high by, up to 100 (R322). -/
def Avs.countHigh (a : Avs) (m : Nat) : Nat := if a.margin + 50 < m then min 100 (a.above + 1) else 0

/-- The target after a run whose lowest margin is `m` (R322, R329). -/
def Avs.next (a : Avs) (m : Nat) : Nat :=
  if a.vmax < a.target then max a.vmax (a.target - 5)
  else if a.hold then a.target
  else if m < a.margin ∧ a.target < a.vmax then min a.vmax (a.target + 5)
  else if a.countHigh m = 100 ∧ a.vmin < a.target then max a.vmin (a.target - 5)
  else a.target

theorem avsLoop_idle {pace : List (Nat × Nat × Nat)} {s : State}
    (h : (paced pace s).pwr.state = .sleep ∨ (paced pace s).core.avs.fault = true) : avsLoop pace s = paced pace s := by
  unfold avsLoop
  dsimp only
  rw [← paced, if_pos h]

theorem avsLoop_target_unmeasured {pace : List (Nat × Nat × Nat)} {s : State}
    (hruns : ¬ ((paced pace s).pwr.state = .sleep ∨ (paced pace s).core.avs.fault = true))
    (hleast : leastOf (margin (paced pace s)) (avsSlices (paced pace s)) = none) :
    (avsLoop pace s).core.avs.target =
      if (paced pace s).core.avs.vmax < (paced pace s).core.avs.target
      then max (paced pace s).core.avs.vmax ((paced pace s).core.avs.target - 5) else (paced pace s).core.avs.target := by
  unfold avsLoop
  dsimp only
  rw [← paced, if_neg hruns, hleast]
  dsimp only
  split_ifs <;> rfl

/-- Pointing out a short margin leaves the target (R322). -/
theorem pointShort_target (P : Prop) [Decidable P] (c sl : Nat) (data : Bytes) (t : Option Nat) (s : State) :
    (if P then raise c sl data (modCore (fun k => { k with avs := { k.avs with lastShort := t } }) s) else s).core.avs.target =
      s.core.avs.target := by
  split_ifs
  · rw [raise_core]; rfl
  · rfl

theorem avsLoop_target {pace : List (Nat × Nat × Nat)} {s : State} {sl : Nat}
    (hruns : ¬ ((paced pace s).pwr.state = .sleep ∨ (paced pace s).core.avs.fault = true))
    (hleast : leastOf (margin (paced pace s)) (avsSlices (paced pace s)) = some sl) :
    (avsLoop pace s).core.avs.target = (paced pace s).core.avs.next (margin (paced pace s) sl) := by
  unfold avsLoop
  dsimp only
  rw [← paced, if_neg hruns, hleast]
  dsimp only
  rw [← Avs.countHigh, Avs.next]
  split
  · rfl
  split
  · rfl
  rw [pointShort_target]
  split_ifs <;> rfl

section
variable {a : Avs} {m : Nat}

theorem Avs.next_near (hlow : a.vmin ≤ a.target) (hhigh : a.target ≤ a.vmax) :
    a.vmin ≤ a.next m ∧ a.next m ≤ a.vmax ∧ a.next m ≤ a.target + 5 ∧ a.target ≤ a.next m + 5 := by
  unfold Avs.next; split_ifs <;> omega

theorem Avs.next_above (habove : a.vmax < a.target) : a.next m = max a.vmax (a.target - 5) := if_pos habove

theorem Avs.next_held (hhigh : a.target ≤ a.vmax) (hhold : a.hold = true) : a.next m = a.target := by
  rw [Avs.next, if_neg (Nat.not_lt.mpr hhigh), if_pos hhold]

theorem Avs.next_low (hfree : a.hold = false) (hroom : a.target < a.vmax) (hm : m < a.margin) :
    a.next m = min a.vmax (a.target + 5) := by
  rw [Avs.next, if_neg (by omega), if_neg (by simp [hfree]), if_pos ⟨hm, hroom⟩]

theorem Avs.next_high (hfree : a.hold = false) (hhigh : a.target ≤ a.vmax) (hm : a.margin + 50 < m) (hroom : a.vmin < a.target)
    (hcount : 99 ≤ a.above) : a.next m = max a.vmin (a.target - 5) := by
  have hfull : a.countHigh m = 100 := by rw [Avs.countHigh, if_pos hm]; omega
  rw [Avs.next, if_neg (by omega), if_neg (by simp [hfree]), if_neg (by omega), if_pos ⟨hfull, hroom⟩]

theorem Avs.next_stays (hhigh : a.target ≤ a.vmax) (hm : a.margin ≤ m) (hcount : a.above < 99) : a.next m = a.target := by
  have hpartial : a.countHigh m ≠ 100 := by unfold Avs.countHigh; split_ifs <;> omega
  unfold Avs.next
  split_ifs <;> omega

end

/-- What a run of the loop, whatever it measures, may do to the target within its limits (R322). -/
theorem avsLoop_target_near (pace : List (Nat × Nat × Nat)) (s : State)
    (hhigh : (paced pace s).core.avs.target ≤ (paced pace s).core.avs.vmax) :
    (avsLoop pace s).core.avs.target = (paced pace s).core.avs.target ∨
      ∃ m, (avsLoop pace s).core.avs.target = (paced pace s).core.avs.next m := by
  by_cases hruns : (paced pace s).pwr.state = .sleep ∨ (paced pace s).core.avs.fault = true
  · exact .inl (by rw [avsLoop_idle hruns])
  · cases hleast : leastOf (margin (paced pace s)) (avsSlices (paced pace s)) with
    | none => exact .inl (by rw [avsLoop_target_unmeasured hruns hleast, if_neg (Nat.not_lt.mpr hhigh)])
    | some sl => exact .inr ⟨_, avsLoop_target hruns hleast⟩

theorem avsLoop_target_above {pace : List (Nat × Nat × Nat)} {s : State}
    (hruns : ¬ ((paced pace s).pwr.state = .sleep ∨ (paced pace s).core.avs.fault = true))
    (habove : (paced pace s).core.avs.vmax < (paced pace s).core.avs.target) :
    (avsLoop pace s).core.avs.target = max (paced pace s).core.avs.vmax ((paced pace s).core.avs.target - 5) := by
  cases hleast : leastOf (margin (paced pace s)) (avsSlices (paced pace s)) with
  | none => rw [avsLoop_target_unmeasured hruns hleast, if_pos habove]
  | some sl => rw [avsLoop_target hruns hleast, Avs.next_above habove]

end Sys2Proof.Machine
end

section
/-! LAW. Slices fail over and the voltage follows its margin (R256, R316 to R326, R548). -/

namespace Sys2Proof.Machine

section
variable {s : State} (hheld : s.held = false)
include hheld

theorem watchdogWindowEnd_acts (sl : Slice) (stalled : Bool) :
    let go := exec (.watchdogWindowEnd sl stalled) s
    (s.pwr.state = .sleep ∨ sliceQuad s sl = none → go = .next s) ∧
    (∀ q, s.pwr.state ≠ .sleep → sliceQuad s sl = some q →
      ((s.slice sl).st = .active → stalled = true → go = .next (raise 79 sl (b1 q ++ b1 (s.epoch q) ++ b1 0xFF)
        (modSlice sl (fun r => { r with st := .suspect, stalled := 1, suspects := satAdd 32 r.suspects 1 }) s))) ∧
      ((s.slice sl).st = .active → stalled = false → go = .next s) ∧
      ((s.slice sl).st = .suspect → stalled = false → go = .next (modSlice sl (fun r => { r with st := .active, stalled := 0 }) s)) ∧
      ((s.slice sl).st = .suspect → stalled = true → (s.slice sl).stalled < 2 → go = .next (modSlice sl (fun r => { r with stalled := 2 }) s)) ∧
      ((s.slice sl).st = .suspect → stalled = true → 2 ≤ (s.slice sl).stalled → go = .next (declareDead sl q s) ∧
        ((declareDead sl q s).slice sl).st = .dead ∧ (declareDead sl q s).epoch q = (s.epoch q + 1) % 16 ∧
        (∀ t, s.core.spare = some t → (declareDead sl q s).core.taking = s.core.taking ++ [(t, q)] ∧ (declareDead sl q s).core.spare = none) ∧
        (s.core.spare = none → (declareDead sl q s).quadDown q = true)) ∧
      ((s.slice sl).st ≠ .active → (s.slice sl).st ≠ .suspect → go = .next s)) := by
  refine ⟨fun h => live_eq hheld (windowEnd_no_window h stalled), fun q hawake hquad => ⟨?_, ?_, ?_, ?_, ?_, ?_⟩⟩
  · rintro hst rfl; exact live_eq hheld (windowEnd_stall hawake hquad hst)
  · rintro hst rfl; exact live_eq hheld (windowEnd_progress hawake hquad hst)
  · rintro hst rfl; exact live_eq hheld (windowEnd_clears hawake hquad hst)
  · rintro hst rfl hfirst; exact live_eq hheld ((windowEnd_suspect hawake hquad hst).trans (if_pos hfirst))
  · rintro hst rfl hthird
    exact ⟨live_eq hheld ((windowEnd_suspect hawake hquad hst).trans (if_neg (Nat.not_lt.mpr hthird))), declareDead_service sl q s⟩
  · exact fun hactive hsuspect => live_eq hheld (windowEnd_off hawake hquad hactive hsuspect stalled)

theorem sliceTakeover_acts :
    (s.core.taking = [] → exec .sliceTakeover s = .next s) ∧
    (∀ t q rest, s.core.taking = (t, q) :: rest → ∃ u, exec .sliceTakeover s = .next u ∧ u.quadSlice q = t ∧ u.core.taking = rest ∧
      (u.slice t).st = .active ∧ (u.slice t).stalled = 0 ∧ ∀ i e, (i, KSlot.entry e) ∈ (u.tab t).fdb → e.dyn = false) := by
  constructor
  · intro htaking
    exact live_eq hheld (by simp only [takeover, htaking])
  · intro t q rest htaking
    have hcore := core_takeover htaking
    have hslice : (takeover s).slice t = { (forget t s).slice t with st := .active, stalled := 0 } := by
      rw [State.slice, hcore]
      exact slice_modSlice_same (forget t s) t (fun r => { r with st := .active, stalled := 0 })
    refine ⟨takeover s, live_eq hheld rfl, ?_, ?_, ?_, ?_, fun i e hmem => ?_⟩
    · rw [State.quadSlice, hcore]; exact tab_get_set_same ..
    · rw [hcore]
    · rw [hslice]
    · rw [hslice]
    · rw [tab_takeover htaking] at hmem
      exact fdb_forget hmem

theorem deadlockSuspect_acts (p : Port) (c : TC) {due : Nat} (hend : pausedFrom s p c + s.core.dlTime * msTicks = due) :
    let known := s.core.deadlocks.any (fun d => d.port == p.val && d.tc == c.val)
    let u := advanceTo due s
    let mask := xoffMask u p
    (s.core.dlTime = 0 ∨ pausedUntil s p c due = false ∨ known = true → exec (.deadlockSuspect p c) s = .next s) ∧
    (s.core.dlTime ≠ 0 → pausedUntil s p c due = true → known = false → u.clk.now = max s.clk.now due ∧ ∃ d, d.port = p.val ∧ d.tc = c.val ∧ d.xoffMask = mask ∧
      d.cycle = mask.testBit p ∧ d.dalom = (s.port p).cfg.dalom ∧ d.since = pausedFrom s p c ∧
      exec (.deadlockSuspect p c) s = .next (raise 74 p (b1 c ++ b1 (bitsNat [mask.testBit p, (s.port p).cfg.dalom]))
        (modCore (fun q => { q with deadlocks := q.deadlocks ++ [d] }) u))) := by
  intro known u mask
  constructor
  · intro h
    rw [← hend] at h
    exact live_eq hheld (deadlockSuspect_idle h)
  · intro hon hdue hnew
    rw [← hend] at hdue
    have hrecords := deadlockSuspect_records hon hdue hnew
    obtain ⟨hport, hclass, hmask, hcycle, hdalom, hsince⟩ := suspectRecord_fields u (pausedFrom s p c) p c
    dsimp only at hrecords
    rw [hend, port_advanceTo] at hrecords
    rw [port_advanceTo] at hdalom
    exact ⟨advanceTo_now due s, _, hport, hclass, hmask, hcycle, hdalom, hsince, live_eq hheld hrecords⟩

theorem avsbusRetry_acts (ok : Bool) :
    (s.core.avs.fault = false → exec (.avsbusRetry ok) s = .next s) ∧
    (s.core.avs.fault = true → exec (.avsbusRetry ok) s =
      .next (if ok then modCore (fun c => { c with avs := { s.core.avs with fault := false, fails := 0 } }) s else s)) := by
  refine ⟨fun hsound => live_eq hheld (by rw [hsound]; rfl), fun hfault => live_eq hheld ?_⟩
  rw [hfault, if_pos rfl]
  cases ok with
  | true => exact avsBus_ok s
  | false => exact avsBus_faulty hfault

theorem avsLoopTick_acts (pace : List (Nat × Nat × Nat)) (ok : Bool) :
    let u := if s.core.avs.fault then s else avsBus ok s
    let w := readExtra (pace.foldl notePace u)
    let a := w.core.avs
    let r := (avsLoop pace u).core.avs.target
    exec (.avsLoopTick ok pace) s = .next (avsLoop pace u) ∧
    (s.core.avs.fault = false → ok = true → u.core.avs = { s.core.avs with fault := false, fails := 0 }) ∧
    (s.core.avs.fault = false → ok = false → s.core.avs.fails + 1 < 3 →
      u = modCore (fun c => { c with avs := { s.core.avs with fails := s.core.avs.fails + 1 } }) s) ∧
    (s.core.avs.fault = false → ok = false → 3 ≤ s.core.avs.fails + 1 →
      u = raise 5 0 (le 2 s.core.avs.target) (modCore (fun c => { c with avs := { s.core.avs with fault := true, fails := 3 } }) s)) ∧
    (w.pwr.state = .sleep ∨ w.core.avs.fault = true → avsLoop pace u = w) ∧
    (w.pwr.state ≠ .sleep → a.fault = false → a.vmax < a.target → r = max a.vmax (a.target - 5)) ∧
    (a.target ≤ a.vmax → a.vmin ≤ a.target → a.vmin ≤ r ∧ r ≤ a.vmax ∧ r ≤ a.target + 5 ∧ a.target ≤ r + 5) ∧
    (a.target ≤ a.vmax → a.hold = true → r = a.target) ∧
    (w.pwr.state ≠ .sleep → a.fault = false → a.hold = false → ∀ sl, leastOf (margin w) (avsSlices w) = some sl →
      (a.target < a.vmax → margin w sl < a.margin → r = min a.vmax (a.target + 5)) ∧
      (a.target ≤ a.vmax → a.margin + 50 < margin w sl → a.vmin < a.target → 99 ≤ a.above → a.above ≤ 100 → r = max a.vmin (a.target - 5)) ∧
      (a.target ≤ a.vmax → a.margin ≤ margin w sl → a.above < 99 → r = a.target)) := by
  intro u w a r
  have hruns (hawake : w.pwr.state ≠ .sleep) (hsound : a.fault = false) :
      ¬ ((paced pace u).pwr.state = .sleep ∨ (paced pace u).core.avs.fault = true) := by
    rintro (h | h)
    · exact hawake h
    · exact absurd h (by rw [show (paced pace u).core.avs.fault = false from hsound]; decide)
  refine ⟨by rw [exec_avsLoopTick, execAvsLoopTick, live_next hheld], ?_, ?_, ?_, avsLoop_idle, ?_, ?_, ?_, ?_⟩
  · rintro hsound rfl
    simp only [u, hsound, avsBus_ok]; rfl
  · rintro hsound rfl hfew
    exact (if_neg (by simp [hsound])).trans (avsBus_fails hsound hfew)
  · rintro hsound rfl hthird
    exact (if_neg (by simp [hsound])).trans (avsBus_third_fail hsound hthird)
  · exact fun hawake hsound habove => avsLoop_target_above (hruns hawake hsound) habove
  · intro hhigh hlow
    obtain hsame | ⟨m, hm⟩ := avsLoop_target_near pace u hhigh
    · change r = a.target at hsame
      omega
    · rw [show r = a.next m from hm]
      exact Avs.next_near hlow hhigh
  · intro hhigh hhold
    obtain hsame | ⟨m, hm⟩ := avsLoop_target_near pace u hhigh
    · exact hsame
    · exact hm.trans (Avs.next_held hhigh hhold)
  · intro hawake hsound hfree sl hleast
    have htarget : r = a.next (margin w sl) := avsLoop_target (hruns hawake hsound) hleast
    exact ⟨fun hroom hm => htarget.trans (Avs.next_low hfree hroom hm),
      fun hhigh hm hroom hcount _ => htarget.trans (Avs.next_high hfree hhigh hm hroom hcount),
      fun hhigh hm hcount => htarget.trans (Avs.next_stays hhigh hm hcount)⟩

end

/-- Settles O50: a clause per row, the slice that dies by what its discards leave of the service, the voltage by the loop's next target. -/
theorem slicesFailOverAndTheVoltageFollows : Obligations.SlicesFailOverAndTheVoltageFollows := by
  intro s hheld
  exact ⟨watchdogWindowEnd_acts hheld, (sliceTakeover_acts hheld).1, (sliceTakeover_acts hheld).2, fun p c => deadlockSuspect_acts hheld p c rfl,
    avsbusRetry_acts hheld, avsLoopTick_acts hheld⟩

end Sys2Proof.Machine
end

section
/-! SUPPORT. A frame's grant, end, lookup and result, case by case (R9, R142, R221, R271 to R274, R298, R324). -/

namespace Sys2Proof.Machine

/-! ### Buffers under a frame (R273, R287) -/

theorem admitHeadroom_core (p tc size : Nat) (s : State) : (admitHeadroom p tc size s).2.core = s.core := by
  unfold admitHeadroom; dsimp only
  split_ifs
  · exact raise_core ..
  · rfl

theorem admission_core (p tc size : Nat) (dest : Dest) (s : State) : (admission p tc size dest s).2.core = s.core := by
  unfold admission; dsimp only
  split_ifs <;> simp only [admitHeadroom_core, assertXoff_core]

/-- A frame as the grant point has it, under the buffer it was granted. -/
def Frame.withBuffer (f g : Frame) : Frame :=
  { f with handle := g.handle, buffered := g.buffered, charge := g.charge, deep := g.deep, chargeBytes := g.chargeBytes,
           bufBytes := g.bufBytes, resv := g.resv, voq := g.voq }

theorem frames_of_besidePools {c d : Core} (h : c.besidePools = d.besidePools) : c.frames = d.frames ∧ c.nextFrame = d.nextFrame :=
  ⟨show c.besidePools.frames = d.besidePools.frames from congrArg Core.frames h,
    show c.besidePools.nextFrame = d.besidePools.nextFrame from congrArg Core.nextFrame h⟩

theorem buffer_besidePools (f : Frame) (dest : Dest) (s : State) : (buffer f dest s).2.core.besidePools = s.core.besidePools := by
  have hadmit := admission_core f.inPort f.tc f.size dest s
  unfold buffer
  split
  next h =>
    rw [h] at hadmit
    exact congrArg Core.besidePools hadmit
  next c tiers head u h =>
    rw [h] at hadmit
    have halloc := allocate_besidePools f.owner f.size tiers u
    rw [show u.core = s.core from hadmit] at halloc
    split
    next heq => rw [heq] at halloc; exact halloc
    next heq => rw [heq] at halloc; exact halloc

theorem buffer_frame (f : Frame) (dest : Dest) (s : State) :
    (buffer f dest s).1 = f.withBuffer (buffer f dest s).1 ∧ ((buffer f dest s).1.buffered = false → (buffer f dest s).1 = f) := by
  unfold buffer
  split
  · exact ⟨rfl, fun _ => rfl⟩
  · split
    · exact ⟨rfl, fun _ => rfl⟩
    · exact ⟨rfl, nofun⟩

theorem upset_besidePools (l : List (Nat × Byte)) (s : State) : (upset l s).core.besidePools = s.core.besidePools := by
  unfold upset
  induction l generalizing s with
  | nil => rfl
  | cons x l ih => rw [List.foldl_cons, ih, setLedger_besidePools]

/-! ### The grant point (R271) -/

/-- A frame joins the frames of the device. -/
def addFrame (f : Frame) (s : State) : State :=
  modCore (fun c => { c with frames := c.frames ++ [f], nextFrame := c.nextFrame + 1 }) s

/-- A frame as its grant point sees it, before a buffer is looked for. -/
def arriving (u : State) (p : Nat) (head : Bytes) : Frame :=
  newFrame u p 0 (lookup (u.quadSlice (quadOf p)) p 0 head u).1.tc head
    (grantSize (u.port p).cfg.maxFrame head (decide (head.length < 128))) (rxStamp u p u.ts16)

/-- Where a frame goes as its grant point sees it. -/
def arrivingDest (u : State) (p : Nat) (head : Bytes) : Dest := (lookup (u.quadSlice (quadOf p)) p 0 head u).1.dest

/-- The grant point of a frame of an Ethernet port. -/
def granted (u : State) (p : Nat) (head : Bytes) : State :=
  (grantPoint p 0 head (decide (head.length < 128)) (rxStamp u p u.ts16) u).2

theorem frameStart_busy {p : Nat} {ups : List (Nat × Byte)} {s : State} (head : Bytes)
    (h : ((upset ups s).port p).st ≠ .up ∨ (receivingOn (upset ups s) p).isSome = true) : frameStart p head ups s = upset ups s :=
  if_pos h

theorem frameStart_grants {p : Nat} {ups : List (Nat × Byte)} {s : State} (head : Bytes)
    (hup : ((upset ups s).port p).st = .up) (hfree : receivingOn (upset ups s) p = none) :
    frameStart p head ups s = granted (upset ups s) p head :=
  if_neg (by simp [hup, hfree])

section
variable {u : State} {p : Nat} {head : Bytes}

theorem granted_own (hown : ownTraffic u head = true) :
    granted u p head = addFrame (ownBuffer { arriving u p head with accepted := true } u).1
      (ownBuffer { arriving u p head with accepted := true } u).2 := by
  simp only [granted, grantPoint, hown, if_true]
  rfl

variable (hown : ownTraffic u head = false)
include hown

theorem granted_stopped (hmode : u.sys.mode = .provision ∨ u.sys.mode = .quiesce ∨ u.sys.mode = .safe) :
    granted u p head = addFrame (arriving u p head) (cntPort p 8 1 u) := by
  simp only [granted, grantPoint, hown, Bool.false_eq_true, if_false, if_pos hmode]
  rfl

variable (hruns : ¬ (u.sys.mode = .provision ∨ u.sys.mode = .quiesce ∨ u.sys.mode = .safe))
include hruns

theorem granted_paused (hpause : u.pausedMode = true ∧ u.lossless p (arriving u p head).tc = false) :
    granted u p head = addFrame (arriving u p head) (cntClass p (arriving u p head).tc 4 1 u) := by
  obtain ⟨hmode, hlossy⟩ := hpause
  change u.lossless p (lookup (u.quadSlice (quadOf p)) p 0 head u).1.tc = false at hlossy
  simp only [granted, grantPoint, hown, Bool.false_eq_true, if_false, if_neg hruns, hmode, hlossy, Bool.not_false, Bool.and_self, if_true]
  rfl

theorem granted_unpaused (hgoes : ¬ (u.pausedMode = true ∧ u.lossless p (arriving u p head).tc = false)) :
    granted u p head =
      if quadLost u p then addFrame (arriving u p head) (takeoverDrop p (arriving u p head).tc u)
      else addFrame (buffer (arriving u p head) (arrivingDest u p head) u).1 (buffer (arriving u p head) (arrivingDest u p head) u).2 := by
  change ¬ (_ ∧ u.lossless p (lookup (u.quadSlice (quadOf p)) p 0 head u).1.tc = false) at hgoes
  have hgoes' : (u.pausedMode && !u.lossless p (lookup (u.quadSlice (quadOf p)) p 0 head u).1.tc) = false := by
    simpa using hgoes
  simp only [granted, grantPoint, hown, Bool.false_eq_true, if_false, if_neg hruns, hgoes']
  split_ifs <;> rfl

end

/-! ### The end of a frame (R142, R272) -/

/-- A frame of a port whose last byte has arrived. -/
def Frame.ended (f : Frame) (s : State) (p : Nat) (b : Bytes) : Frame :=
  { f with bytes := b, len := b.length, complete := true, overrun := f.buffered && decide (f.bufBytes < b.length),
           chargeBytes := if f.charge = .headroom then headroomCharge (s.port p).cfg.dalom b.length else 0 }

/-- The count of a frame that outgrew its buffer. -/
def countOverrun (f : Frame) (p : Nat) (b : Bytes) (s : State) : State :=
  if f.buffered && decide (f.bufBytes < b.length) then cntClass p f.tc 7 1 s else s

/-- The counts of a frame that ended well. -/
def countGood (f : Frame) (p : Nat) (b : Bytes) (s : State) : State :=
  cntClass p f.tc 0 1 (cntClass p f.tc 1 b.length (cntPort p 0 1 (cntPort p 1 b.length (setFrame (f.ended s p b) (countOverrun f p b s)))))

theorem port_countOverrun (f : Frame) (p : Nat) (b : Bytes) (s : State) (j : Nat) : (countOverrun f p b s).port j = s.port j := by
  unfold countOverrun; split_ifs <;> rfl

theorem endFault_short (m : Nat) {b : Bytes} (h : b.length < 64) : endFault m b = some 6 := if_pos h

theorem endFault_long {m : Nat} {b : Bytes} (h : 64 ≤ b.length) (hlong : m < b.length) : endFault m b = some 7 := by
  rw [endFault, if_neg (Nat.not_lt.mpr h), if_pos hlong]

theorem endFault_fcs {m : Nat} {b : Bytes} (h : 64 ≤ b.length) (hfits : b.length ≤ m) (hfcs : fcsGood b = false) : endFault m b = some 4 := by
  rw [endFault, if_neg (Nat.not_lt.mpr h), if_neg (Nat.not_lt.mpr hfits), hfcs]; rfl

theorem endFault_none {m : Nat} {b : Bytes} (h : 64 ≤ b.length) (hfits : b.length ≤ m) (hfcs : fcsGood b = true) : endFault m b = none := by
  rw [endFault, if_neg (Nat.not_lt.mpr h), if_neg (Nat.not_lt.mpr hfits), hfcs]; rfl

section
variable {f : Frame} {p : Nat} {b rest : Bytes} {s : State} (hf : s.frame? f.id = some f) (hport : f.inPort = p) (hb : f.bytes ++ rest = b)
include hf hport hb

theorem endFrame_fault {k : Nat} (hfault : endFault (s.port p).cfg.maxFrame b = some k) :
    endFrame f.id rest s = endBad f.id (if (f.buffered && decide (f.bufBytes < b.length)) || k == 7 then 1 else 0)
      (cntPort p k 1 (setFrame { f.ended s p b with good := false } (countOverrun f p b s))) := by
  subst hport hb
  unfold endFrame
  rw [hf]
  dsimp only
  rw [← countOverrun, port_countOverrun, hfault]
  rfl

theorem endFrame_good (hfault : endFault (s.port p).cfg.maxFrame b = none) :
    endFrame f.id rest s =
      if f.accepted && f.result.isNone then endBad f.id 0 (ownEnd (f.ended s p b) b (countGood f p b s))
      else if !f.buffered then endBad f.id 0 (countGood f p b s)
      else if f.buffered && decide (f.bufBytes < b.length) then
        endBad f.id 1 (setFrame { f.ended s p b with good := false } (countGood f p b s))
      else settle (eligible f.id (countGood f p b s)) := by
  subst hport hb
  unfold endFrame
  rw [hf]
  dsimp only
  rw [← countOverrun, port_countOverrun, hfault]
  rfl

theorem endFrame_own (hfault : endFault (s.port p).cfg.maxFrame b = none) (hown : f.accepted = true ∧ f.result = none) :
    endFrame f.id rest s = endBad f.id 0 (ownEnd (f.ended s p b) b (countGood f p b s)) := by
  rw [endFrame_good hf hport hb hfault, if_pos (by simp [hown])]

variable (hfault : endFault (s.port p).cfg.maxFrame b = none) (hswitched : ¬ (f.accepted = true ∧ f.result = none))
include hfault hswitched

theorem endFrame_switched :
    endFrame f.id rest s =
      if !f.buffered then endBad f.id 0 (countGood f p b s)
      else if f.buffered && decide (f.bufBytes < b.length) then
        endBad f.id 1 (setFrame { f.ended s p b with good := false } (countGood f p b s))
      else settle (eligible f.id (countGood f p b s)) := by
  rw [endFrame_good hf hport hb hfault, if_neg (by simpa using hswitched)]

theorem endFrame_unbuffered (hbare : f.buffered = false) : endFrame f.id rest s = endBad f.id 0 (countGood f p b s) := by
  rw [endFrame_switched hf hport hb hfault hswitched, hbare]; rfl

theorem endFrame_overrun (hbuffered : f.buffered = true) (hover : f.bufBytes < b.length) :
    endFrame f.id rest s = endBad f.id 1 (setFrame { f.ended s p b with good := false } (countGood f p b s)) := by
  rw [endFrame_switched hf hport hb hfault hswitched, if_neg (by simp [hbuffered]), if_pos (by simp [hbuffered, hover])]

theorem endFrame_eligible (hbuffered : f.buffered = true) (hfits : b.length ≤ f.bufBytes) :
    endFrame f.id rest s = settle (eligible f.id (countGood f p b s)) := by
  rw [endFrame_switched hf hport hb hfault hswitched, if_neg (by simp [hbuffered]), if_neg (by simp [hfits])]

end

/-! ### Command frames that have arrived (R71) -/

theorem arrivedDrain_none {s : State} (h : s.gcp.arrived = []) : arrivedDrain s = s := by
  rw [arrivedDrain, h, List.foldl_nil, ← h]

theorem frameStop_idle {p : Nat} {s : State} (rest : Bytes) (h : receivingOn s p = none ∨ (s.port p).st ≠ .up) :
    frameStop p rest s = s := by
  unfold frameStop
  split
  next f hf => exact if_neg (h.resolve_left (by simp [hf]))
  next => rfl

theorem frameStop_ends {p : Nat} {f : Frame} {s : State} (rest : Bytes) (hf : receivingOn s p = some f) (hup : (s.port p).st = .up) :
    frameStop p rest s = endFrame f.id rest s := by
  simp only [frameStop, hf, if_pos hup]

theorem inPort_of_receivingOn {p : Nat} {f : Frame} {s : State} (h : receivingOn s p = some f) : f.inPort = p := by
  have hport := List.find?_some h
  simp only [Bool.and_eq_true, beq_iff_eq] at hport
  exact hport.1

/-! ### Lookup and result (R221, R298, R324) -/

theorem sliceLookup_idle {p : Nat} {s : State} (h : awaitingLookup s p = none ∨ quadLost s p = true) (tokens : Nat)
    (faults : List (Nat × Nat)) (n : Nat) : sliceLookup p tokens faults n s = s := by
  unfold sliceLookup
  split
  · rfl
  next f hf => exact if_pos (h.resolve_left (by simp [hf]))

/-- A slice's tables at a lookup: the uncorrectable entries noted and the corrected errors counted. -/
def lookupFaults (sl : Nat) (faults : List (Nat × Nat)) (n : Nat) (s : State) : State :=
  modTab sl (fun T => { T with eccCorrected := satAdd 32 T.eccCorrected n }) (faults.foldl (noteFault sl) s)

theorem sliceLookup_frame {p : Nat} {f : Frame} {s : State} (hf : awaitingLookup s p = some f) (hserved : quadLost s p = false)
    (tokens : Nat) (faults : List (Nat × Nat)) (n : Nat) :
    let sl := s.quadSlice (quadOf p)
    let u := lookupFaults sl faults n s
    let r := lookup sl p f.rxTc f.bytes u
    sliceLookup p tokens faults n s =
      if tokens < r.2.1 then shed f (modSlice sl (fun q => { q with paceDrops := satAdd 64 q.paceDrops 1 }) r.2.2)
      else setFrame { f with result := some r.1, tc := r.1.tc, voq := ((queueOf u p r.1.tc r.1.dest).map (·.1)).getD noKey } r.2.2 := by
  simp only [sliceLookup, hf, hserved, Bool.false_eq_true, if_false]
  rfl

theorem sliceOut_iff {s : State} {i : Nat} : sliceOut s i = true ↔ (s.slice i).st = .dead ∨ (s.slice i).st = .quarantine := by
  simp [sliceOut]

theorem resultArrival_ghost {sl p epoch : Nat} {s : State} (hout : (s.slice sl).st = .dead ∨ (s.slice sl).st = .quarantine)
    (hstale : epoch ≠ s.epoch (quadOf p)) (more : Bytes) : resultArrival sl p epoch more s = ghost sl (quadOf p) epoch s := by
  simp only [resultArrival, sliceOut_iff.mpr hout, if_true, if_pos hstale]

theorem resultArrival_refused {sl p epoch : Nat} {s : State} (hout : (s.slice sl).st = .dead ∨ (s.slice sl).st = .quarantine)
    (hfresh : epoch = s.epoch (quadOf p)) (more : Bytes) : resultArrival sl p epoch more s = s := by
  simp only [resultArrival, sliceOut_iff.mpr hout, if_true, if_neg (not_not.mpr hfresh)]

theorem ghost_dead {sl q stale : Nat} {s : State} (hdead : (s.slice sl).st = .dead) :
    ghost sl q stale s = modSlice sl (fun r => { r with st := .quarantine })
      (negWrite 0x0021 (b1 sl ++ b1 q ++ b1 stale ++ b1 (s.epoch q)) (modSlice sl (fun r => { r with ghosts := satAdd 32 r.ghosts 1 }) s)) :=
  if_pos (by rw [slice_modSlice_same]; exact hdead)

theorem ghost_quarantine {sl q stale : Nat} {s : State} (hst : (s.slice sl).st = .quarantine) :
    ghost sl q stale s = modSlice sl (fun r => { r with ghosts := satAdd 32 r.ghosts 1 }) s :=
  if_neg (by rw [slice_modSlice_same]; simp [hst])

/-- A frame with the bytes that have arrived since its grant point. -/
def Frame.grown (f : Frame) (more : Bytes) : Frame :=
  if f.complete then f else { f with bytes := f.bytes ++ more, len := f.bytes.length + more.length }

theorem Frame.grown_complete (f : Frame) (more : Bytes) : (f.grown more).complete = f.complete := by
  unfold Frame.grown; split_ifs <;> rfl

theorem Frame.grown_id (f : Frame) (more : Bytes) : (f.grown more).id = f.id := by
  unfold Frame.grown; split_ifs <;> rfl

section
variable {sl p : Nat} {s : State} (hin : ¬ ((s.slice sl).st = .dead ∨ (s.slice sl).st = .quarantine))
include hin

theorem resultArrival_none (h : awaitingResult s p = none) (epoch : Nat) (more : Bytes) : resultArrival sl p epoch more s = s := by
  simp only [resultArrival, sliceOut_iff, if_neg hin, h]

variable {f : Frame} {r : Result} (hf : awaitingResult s p = some f) (hr : f.result = some r)
include hf hr

theorem resultArrival_foreign (hother : r.slice ≠ sl) (epoch : Nat) (more : Bytes) : resultArrival sl p epoch more s = s := by
  simp only [resultArrival, sliceOut_iff, if_neg hin, hf, hr, if_pos hother]

theorem resultArrival_own (hown : r.slice = sl) (epoch : Nat) (more : Bytes) :
    resultArrival sl p epoch more s =
      if epoch ≠ s.epoch (quadOf p) ∨ sl ≠ s.quadSlice (quadOf p) then shed f (takeoverDrop p f.tc s)
      else acceptResult (f.grown more) r s := by
  simp only [resultArrival, sliceOut_iff, if_neg hin, hf, hr, if_neg (not_not.mpr hown), Frame.grown]

end

/-- A frame as the queue manager accepts it. -/
def Frame.accept (f : Frame) (s : State) (r : Result) : Frame := { f with accepted := true, express := cutsThrough s f r && f.good }

theorem acceptResult_whole {f : Frame} {r : Result} {s : State} (h : (cutsThrough s f r && f.good) = false ∨ f.complete = true) :
    acceptResult f r s = settle (eligible f.id (setFrame (f.accept s r) s)) := by
  refine if_neg ?_
  obtain h | h := h
  · rw [h]; simp
  · change ¬ ((_ && !f.complete) = true)
    rw [h]; simp

theorem acceptResult_through {f : Frame} {r : Result} {s : State} (hcuts : (cutsThrough s f r && f.good) = true) (hpart : f.complete = false) :
    acceptResult f r s = if 256 ≤ f.len then settle (dispose (f.accept s r) r (setFrame (f.accept s r) s)) else setFrame (f.accept s r) s := by
  refine if_pos ?_
  change (_ && !f.complete) = true
  rw [hcuts, hpart]; rfl

/-! ### Refills and spills of a pool (R274) -/

theorem modPool_congr {p : Nat} {f g : Pool → Pool} {s : State} (h : f (s.pool p) = g (s.pool p)) : modPool p f s = modPool p g s := by
  simp only [modPool, Tab.modify]
  rw [show f (Tab.get (Pool.reset p) s.core.pools p) = _ from h]
  rfl

theorem refillDone_some {p : Nat} {l : List Nat} {s : State} (h : (s.pool p).refill = some l) :
    refillDone p s = poolWatch p (modPool p (fun q => { q with cache := q.cache ++ l, refill := none, rr := 21 }) s) := by
  simp only [refillDone, h, served, modPool_modPool]

theorem refillDone_none {p : Nat} {s : State} (h : (s.pool p).refill = none) : refillDone p s = s := by
  simp only [refillDone, h]

theorem spillDone_some {p : Nat} {l : List Nat} {s : State} (h : (s.pool p).spill = some l) :
    spillDone p s = modPool p (fun q => { q with ring := appendRuns (s.pool p).ring l, spill := none, rr := 21 }) s := by
  simp only [spillDone, h, served, modPool_modPool]
  exact modPool_congr rfl

theorem spillDone_none {p : Nat} {s : State} (h : (s.pool p).spill = none) : spillDone p s = s := by
  simp only [spillDone, h]

/-- The handles of a run: a first handle, and how many there are from it on. -/
def runHandles (r : Nat × Nat) : List Nat := (List.range r.2).map (· + r.1)

theorem runHandles_extend (st n : Nat) : runHandles (st, n + 1) = runHandles (st, n) ++ [st + n] := by
  simp [runHandles, List.range_succ, Nat.add_comm]

/-- A step that puts one handle at the end of the runs, latest first, puts a list there one by one. -/
theorem foldl_runHandles (f : List (Nat × Nat) → Nat → List (Nat × Nat))
    (hstep : ∀ acc h, (f acc h).reverse.flatMap runHandles = acc.reverse.flatMap runHandles ++ [h]) (l : List Nat) (acc : List (Nat × Nat)) :
    (l.foldl f acc).reverse.flatMap runHandles = acc.reverse.flatMap runHandles ++ l := by
  induction l generalizing acc with
  | nil => simp
  | cons h l ih => rw [List.foldl_cons, ih, hstep, List.append_assoc, List.singleton_append]

theorem appendRuns_handles (ring : List (Nat × Nat)) (l : List Nat) :
    (appendRuns ring l).flatMap runHandles = ring.flatMap runHandles ++ l := by
  rw [appendRuns, List.flatMap_append, foldl_runHandles]
  · rfl
  · intro acc h
    split
    next st n rest =>
      split_ifs with hnext
      · simp [runHandles_extend, hnext]
      · simp [runHandles]
    next => simp [runHandles]

end Sys2Proof.Machine
end

section
/-! LAW. A frame on its way to a queue (R9, R22, R142, R221, R271 to R274, R298, R324). -/

namespace Sys2Proof.Machine

/-- Settles O46, row by row: the grant point, the end, the lookup, the result, and the pools' refills and spills. -/
theorem framesAreJudgedOnTheirWay : Obligations.FramesAreJudgedOnTheirWay := by
  intro p s hheld
  refine ⟨?_, ?_, ?_, ?_, ?_, ?_, ?_, ?_⟩
  · intro head ups u r f add stopped pausing
    refine ⟨fun h => live_eq hheld (frameStart_busy head h), fun hup hfree => ?_⟩
    have hgo {t : State} (h : granted u p head = t) : exec (.frameGrantPoint p head ups) s = .next t :=
      live_eq hheld ((frameStart_grants head hup hfree).trans h)
    refine ⟨fun hown => hgo (granted_own hown), fun hown hmode => hgo (granted_stopped hown hmode),
      fun hown hruns hpause => hgo (granted_paused hown hruns hpause), fun hown hruns hgoes hlost => ?_, fun hown hruns hgoes hserved => ?_⟩
    · exact hgo ((granted_unpaused hown hruns hgoes).trans (if_pos hlost))
    · have hcore := (buffer_besidePools (arriving u p head) (arrivingDest u p head) u).trans (upset_besidePools ups s)
      have hframe := buffer_frame (arriving u p head) (arrivingDest u p head) u
      exact ⟨_, _, hgo ((granted_unpaused hown hruns hgoes).trans (if_neg (by simp [hserved]))), (frames_of_besidePools hcore).1,
        (frames_of_besidePools hcore).2, hframe.1, hframe.2⟩
  · exact fun rest h => live_eq hheld (congrArg (pump ∘ arrivedDrain) (frameStop_idle rest h))
  · intro harrived hpcie hinband hsideband hpools
    rw [arrivedDrain_none harrived, pump_none s hpcie hinband hsideband hpools]
  · intro rest f hf hid hup b overran g base fault counted own ends
    have hport : f.inPort = p := inPort_of_receivingOn hf
    have hends {v : State} (h : endFrame f.id rest s = v) : ends v :=
      live_eq hheld (congrArg (pump ∘ arrivedDrain) ((frameStop_ends rest hf hup).trans h))
    refine ⟨fun hshort => ?_, fun hlong htoo => ?_, fun hlong hfits hfcs => ?_, fun hlong hfits hfcs => ?_⟩
    · exact hends ((endFrame_fault hid hport rfl (endFault_short _ hshort)).trans (by rw [beq_eq_false_iff_ne.mpr (by decide : 6 ≠ 7), Bool.or_false]; rfl))
    · exact hends ((endFrame_fault hid hport rfl (endFault_long hlong htoo)).trans (by rw [beq_self_eq_true, Bool.or_true]; rfl))
    · exact hends ((endFrame_fault hid hport rfl (endFault_fcs hlong hfits hfcs)).trans (by rw [beq_eq_false_iff_ne.mpr (by decide : 4 ≠ 7), Bool.or_false]; rfl))
    · have hfault : endFault (s.port p).cfg.maxFrame b = none := endFault_none hlong hfits hfcs
      exact ⟨fun hown => hends (endFrame_own hid hport rfl hfault hown),
        fun hswitched hbare => hends (endFrame_unbuffered hid hport rfl hfault hswitched hbare),
        fun hswitched hbuffered hover => hends (endFrame_overrun hid hport rfl hfault hswitched hbuffered hover),
        fun hswitched hbuffered hfits => hends (endFrame_eligible hid hport rfl hfault hswitched hbuffered hfits)⟩
  · exact fun tokens faults n h => live_eq hheld (sliceLookup_idle h tokens faults n)
  · intro tokens faults n f hf hserved sl u r
    have hlookup := sliceLookup_frame hf hserved tokens faults n
    exact ⟨fun hfew => live_eq hheld (hlookup.trans (if_pos hfew)), fun hpaid => live_eq hheld (hlookup.trans (if_neg (Nat.not_lt.mpr hpaid)))⟩
  · intro sl epoch more go now w
    have hgo {t : State} (h : resultArrival sl p epoch more s = t) : go = .next t := live_eq hheld h
    refine ⟨fun hdead hstale => hgo ((resultArrival_ghost (.inl hdead) hstale more).trans (ghost_dead hdead)),
      fun hst hstale => hgo ((resultArrival_ghost (.inr hst) hstale more).trans (ghost_quarantine hst)),
      fun hout hfresh => hgo (resultArrival_refused hout hfresh more), fun hnotDead hnotQuarantined => ?_⟩
    have hin : ¬ ((s.slice sl).st = .dead ∨ (s.slice sl).st = .quarantine) := not_or.mpr ⟨hnotDead, hnotQuarantined⟩
    refine ⟨fun h => hgo (resultArrival_none hin h epoch more), ?_⟩
    intro f r hf hr h cuts g
    refine ⟨fun hother => hgo (resultArrival_foreign hin hf hr hother epoch more),
      fun hown hstale => hgo ((resultArrival_own hin hf hr hown epoch more).trans (if_pos hstale)), fun hown hfresh hserves => ?_⟩
    have haccept : resultArrival sl p epoch more s = acceptResult h r s :=
      (resultArrival_own hin hf hr hown epoch more).trans (if_neg (by simp [now, hfresh, hserves]))
    have hwhole : h.complete = f.complete := Frame.grown_complete f more
    have hid : h.id = f.id := Frame.grown_id f more
    refine ⟨fun hlast => ?_, fun hcuts hpart hfew => ?_, fun hcuts hpart hmany => ?_⟩
    · rw [← hwhole] at hlast
      rw [← hid]
      exact hgo (haccept.trans (acceptResult_whole hlast))
    · exact hgo (haccept.trans ((acceptResult_through hcuts (hwhole.trans hpart)).trans (if_neg (Nat.not_le.mpr hfew))))
    · exact hgo (haccept.trans ((acceptResult_through hcuts (hwhole.trans hpart)).trans (if_pos hmany)))
  · intro k
    refine ⟨fun l hl => live_eq hheld (refillDone_some hl), fun h => live_eq hheld (refillDone_none h),
      fun l hl => ⟨_, live_eq hheld (spillDone_some hl), ?_⟩, fun h => live_eq hheld (spillDone_none h)⟩
    exact appendRuns_handles (s.pool k).ring l

end Sys2Proof.Machine
end

section
/-! SUPPORT. The tables' own work: window operations leave the shadow regions, the compare keeps a region's rate and length, and each row's cases (R232 to R259). -/

namespace Sys2Proof.Machine

/-! ### Window operations leave the shadow regions (R246 to R251) -/

theorem onSlices_shadows (l : List Nat) (f : SliceTab → SliceTab) (s : State) : (onSlices l f s).tables.shadows = s.tables.shadows := by
  unfold onSlices
  induction l generalizing s with
  | nil => rfl
  | cons i l ih => rw [List.foldl_cons, ih]; rfl

theorem tawExact_shadows (w op t key : Nat) (data : List Nat) (i : Nat) (s : State) :
    (tawExact w op t key data i s).2.tables.shadows = s.tables.shadows := by
  unfold tawExact; dsimp only
  split
  · split
    · split_ifs <;> rfl
    · rfl
  · split_ifs
    · rfl
    · exact onSlices_shadows ..
  · split_ifs
    · rfl
    · exact onSlices_shadows ..
  · exact onSlices_shadows ..
  · exact onSlices_shadows ..

theorem tawLpm_shadows (w op key : Nat) (data : List Nat) (i : Nat) (s : State) :
    (tawLpm w op key data i s).2.tables.shadows = s.tables.shadows := by
  unfold tawLpm; dsimp only
  split
  · split <;> rfl
  split
  · rfl
  split
  · split
    · split_ifs <;> rfl
    · rfl
  · split
    · rfl
    · split
      · split_ifs
        · exact onSlices_shadows ..
        · rfl
      · rfl
  · split_ifs
    · rfl
    · exact onSlices_shadows ..
  · exact onSlices_shadows ..
  · exact onSlices_shadows ..

theorem tawIndexed_shadows (w op t key mask : Nat) (data : List Nat) (i : Nat) (s : State) :
    (tawIndexed w op t key mask data i s).2.tables.shadows = s.tables.shadows := by
  unfold tawIndexed; dsimp only
  split
  · rfl
  · split_ifs
    · rfl
    · exact onSlices_shadows ..
  · exact onSlices_shadows ..
  · exact onSlices_shadows ..

theorem ite_shadows {P : Prop} [Decidable P] {x y : TawOut × State} {s : State} (hx : x.2.tables.shadows = s.tables.shadows)
    (hy : y.2.tables.shadows = s.tables.shadows) : (if P then x else y).2.tables.shadows = s.tables.shadows := by
  split_ifs
  · exact hx
  · exact hy

theorem tawExec_shadows (w op t key mask : Nat) (data : List Nat) (i : Nat) (s : State) :
    (tawExec w op t key mask data i s).2.tables.shadows = s.tables.shadows := by
  refine ite_shadows rfl (ite_shadows rfl (ite_shadows rfl (ite_shadows rfl (ite_shadows rfl (ite_shadows rfl (ite_shadows rfl
    (ite_shadows rfl (ite_shadows rfl (ite_shadows rfl (ite_shadows ?_ (ite_shadows ?_ ?_)))))))))))
  · exact tawLpm_shadows ..
  · exact tawExact_shadows ..
  · exact tawIndexed_shadows ..

theorem tawRun_shadows (w : Nat) (s : State) : (tawRun w s).tables.shadows = s.tables.shadows := tawExec_shadows ..

theorem foldl_shadows {α : Type} (f : State → α → State) (h : ∀ s a, (f s a).tables.shadows = s.tables.shadows) (l : List α) (s : State) :
    (l.foldl f s).tables.shadows = s.tables.shadows := by
  induction l generalizing s with
  | nil => rfl
  | cons a l ih => rw [List.foldl_cons, ih, h]

theorem portGrant_shadows (sl k : Nat) (s : State) : (portGrant sl k s).tables.shadows = s.tables.shadows :=
  foldl_shadows (fun s w => tawRun w s) (fun s w => tawRun_shadows w s) _ s

theorem portGrants_shadows (k : Nat) (s : State) : (portGrants k s).tables.shadows = s.tables.shadows :=
  foldl_shadows (fun s sl => portGrant sl k s) (fun s sl => portGrant_shadows sl k s) _ s

/-! ### The ageing sweep (R242) -/

theorem ageVisit_off {sl i : Nat} {s : State} (h : s.pwr.state = .sleep ∨ s.tables.ageOn = false) : ageVisit sl i s = s := if_pos h

section
variable {sl i : Nat} {s : State} (hawake : s.pwr.state ≠ .sleep) (hon : s.tables.ageOn = true)
include hawake hon

theorem ageVisit_none (h : xAt ((portGrant sl 4 s).tab sl).fdb i = none) : ageVisit sl i s = portGrant sl 4 s := by
  simp only [ageVisit, hawake, hon, Bool.true_eq_false, or_self, if_false, h]

theorem ageVisit_some {e : KEntry} (h : xAt ((portGrant sl 4 s).tab sl).fdb i = some e) :
    ageVisit sl i s =
      if !e.dyn then portGrant sl 4 s
      else if e.hit then modTab sl (fun T => { T with fdb := T.fdb.set i (.entry { e with hit := false }) }) (portGrant sl 4 s)
      else modTab sl (fun T => { T.mend 0 i with fdb := T.fdb.erase i, aged := satAdd 32 T.aged 1 }) (portGrant sl 4 s) := by
  simp only [ageVisit, hawake, hon, Bool.true_eq_false, or_self, if_false, h]

end

/-! ### Filters, scrub and rebuild (R232 to R234, R255) -/

/-- The keys of the routes, as a length filter has them. -/
def SliceTab.routeKeys (T : SliceTab) : List (Bool × Nat × Nat) := T.lpm.map (fun x => (x.2.v6, x.2.len, x.2.pfx))

theorem filterRebuild_early {T : SliceTab} (h : T.deletes < 4096) : filterRebuild T = T := if_pos h

theorem filterRebuild_due {T : SliceTab} (h : 4096 ≤ T.deletes) :
    filterRebuild T =
      { T with deletes := 0, bank := !T.bank, filterA := if T.bank then T.routeKeys else T.filterA,
               filterB := if T.bank then T.filterB else T.routeKeys } :=
  if_neg (Nat.not_lt.mpr h)

/-- A bank names every key it lists. -/
theorem named_of_mem {T : SliceTab} {v6 : Bool} {len pfx : Nat} (h : (v6, len, pfx) ∈ (if T.bank then T.filterB else T.filterA)) :
    T.named v6 len pfx = true := by
  rw [SliceTab.named, List.contains_iff_mem.mpr h, Bool.true_or]

theorem filterRebuild_names {T : SliceTab} (h : 4096 ≤ T.deletes) {x : Nat × Route} (hx : x ∈ T.lpm) :
    (filterRebuild T).named x.2.v6 x.2.len x.2.pfx = true := by
  refine named_of_mem ?_
  rw [filterRebuild_due h]
  have hkey : (x.2.v6, x.2.len, x.2.pfx) ∈ T.routeKeys := List.mem_map.mpr ⟨x, hx, rfl⟩
  cases hbank : T.bank <;> exact hkey

theorem tcamParity_tcam {sl : Nat} (slot : Nat) {s : State} (h : (s.tab sl).mode = .tcam) :
    tcamParity sl slot s = (opStart 3 .firmware none none false (.rebuild sl false) (negWrite 0x0024 (b1 sl ++ b1 2 ++ le 2 slot)
      (raise 85 sl (b1 2 ++ zeros 3 ++ le 2 slot) (modTab sl (fun T => { T with mode := .rebuild }) s)))).2 := by
  simp only [tcamParity, h]

theorem rebuildDone_none {sl : Nat} {s : State} (h : rebuildOp s sl = none) : rebuildDone sl s = s := by
  simp only [rebuildDone, h]

theorem rebuildDone_some {sl : Nat} {o : Op} {s : State} (h : rebuildOp s sl = some o) :
    rebuildDone sl s =
      if o.state = .running ∧ (s.tab sl).mode = .rebuild then
        opFinish o.handle .done 0 (setOp { o with units := (s.tab sl).lpm.length } (modTab sl (fun T => { T with mode := .tcam }) s))
      else s := by
  simp only [rebuildDone, h]

/-! ### The self-test (R233) -/

/-- The slots a self-test found to fail are unusable. -/
def slotsFail (sl : Nat) (bad : List Nat) (s : State) : State :=
  modTab sl (fun T => { T with badSlots := (bad.filter (fun b => !T.badSlots.contains b)) ++ T.badSlots }) s

/-- The usable slots no longer hold the content. -/
def slotsFault (sl : Nat) (bad : List Nat) (s : State) : State :=
  raise 86 sl (b1 2 ++ zeros 3 ++ le 2 (bad.headD 0)) (modTab sl (fun T => { T with mode := .fault }) (slotsFail sl bad s))

theorem selftestDone_idle {sl : Nat} (bad : List Nat) {s : State} (h : (s.tab sl).mode ≠ .selftest) : selftestDone sl bad s = s := if_pos h

section
variable {sl : Nat} {bad : List Nat} {s : State} (hmode : (s.tab sl).mode = .selftest)
include hmode

theorem selftestDone_fits (hfits : ((slotsFail sl bad s).tab sl).fits [] = true) :
    selftestDone sl bad s = modTab sl rebuildBegin (slotsFail sl bad s) := by
  unfold selftestDone
  rw [if_neg (not_not.mpr hmode)]
  exact if_pos hfits

variable (hfull : ((slotsFail sl bad s).tab sl).fits [] = false)
include hfull

theorem selftestDone_full_alone (hop : rebuildOp (slotsFault sl bad s) sl = none) : selftestDone sl bad s = slotsFault sl bad s := by
  unfold slotsFault slotsFail at hop ⊢
  unfold slotsFail at hfull
  simp only [selftestDone, hmode, ne_eq, not_true_eq_false, if_false, hfull, Bool.false_eq_true, hop]

theorem selftestDone_full {o : Op} (hop : rebuildOp (slotsFault sl bad s) sl = some o) :
    selftestDone sl bad s = opFinish o.handle .failed stLimit (slotsFault sl bad s) := by
  unfold slotsFault slotsFail at hop ⊢
  unfold slotsFail at hfull
  simp only [selftestDone, hmode, ne_eq, not_true_eq_false, if_false, hfull, Bool.false_eq_true, hop]

end

/-! ### The shadow compare (R256) -/

/-- The shadow region of a table, with its rate and its length. -/
def Shadowed (t rate count : Nat) (s : State) : Prop :=
  ∃ sh, s.tables.shadows.find? t = some sh ∧ sh.rate = rate ∧ sh.count = count

/-- The differences seen once in a region. -/
def setSeen (t : Nat) (sh : Shadow) (x : List (Nat × Nat × Nat)) (s : State) : State :=
  { s with tables := { s.tables with shadows := s.tables.shadows.set t { sh with seen := x } } }

/-- A comparison's other differences seen once. -/
def otherSeen (sh : Shadow) (sl i : Nat) : List (Nat × Nat × Nat) := sh.seen.filter (fun x => !(x.1 == sl && x.2.1 == i))

section
variable {t sl i : Nat} {sh : Shadow} {s : State} (hsh : s.tables.shadows.find? t = some sh)
include hsh

theorem shadowNote_same : shadowNote t sl i false s = setSeen t sh (otherSeen sh sl i) s := by
  simp only [shadowNote, hsh]
  rfl

theorem shadowNote_first (hseen : sh.seen.find? (fun x => x.1 == sl && x.2.1 == i) = none) :
    shadowNote t sl i true s = setSeen t sh (sh.seen ++ [(sl, i, s.clk.now)]) s := by
  simp only [shadowNote, hsh, hseen]
  rfl

variable {x : Nat × Nat × Nat} (hseen : sh.seen.find? (fun x => x.1 == sl && x.2.1 == i) = some x)
include hseen

theorem shadowNote_soon (hsoon : s.clk.now < x.2.2 + 10 * msTicks) : shadowNote t sl i true s = s := by
  simp only [shadowNote, hsh, hseen, if_pos hsoon]

theorem shadowNote_second (hlater : x.2.2 + 10 * msTicks ≤ s.clk.now) :
    shadowNote t sl i true s = negWrite 0x0023 (b1 t ++ b1 sl ++ zeros 2 ++ le 4 i)
      (modTab sl (fun T => { T with shadowMismatch := satAdd 32 T.shadowMismatch 1 })
        (raise 84 sl (b1 t ++ zeros 3 ++ le 4 i) (setSeen t sh (otherSeen sh sl i) s))) := by
  simp only [shadowNote, hsh, hseen, if_neg (Nat.not_lt.mpr hlater)]
  rfl

end

theorem shadowed_setSeen {t : Nat} {sh : Shadow} (x : List (Nat × Nat × Nat)) (s : State) : Shadowed t sh.rate sh.count (setSeen t sh x s) :=
  ⟨_, tab_find_set_same .., rfl, rfl⟩

theorem shadowed_shadowNote {t rate count : Nat} {s : State} (h : Shadowed t rate count s) (sl i : Nat) (differs : Bool) :
    Shadowed t rate count (shadowNote t sl i differs s) := by
  obtain ⟨sh, hsh, rfl, rfl⟩ := h
  cases differs with
  | false => rw [shadowNote_same hsh]; exact shadowed_setSeen _ s
  | true =>
    cases hseen : sh.seen.find? (fun x => x.1 == sl && x.2.1 == i) with
    | none => rw [shadowNote_first hsh hseen]; exact shadowed_setSeen _ s
    | some x =>
      by_cases hsoon : s.clk.now < x.2.2 + 10 * msTicks
      · rw [shadowNote_soon hsh hseen hsoon]; exact ⟨sh, hsh, rfl, rfl⟩
      · rw [shadowNote_second hsh hseen (Nat.not_lt.mp hsoon), Shadowed, negWrite_tables, modTab_tables, raise_tables]
        exact shadowed_setSeen (otherSeen sh sl i) s

theorem shadowed_foldl {α : Type} {t rate count : Nat} {f : State → α → State}
    (hf : ∀ s a, Shadowed t rate count s → Shadowed t rate count (f s a)) (l : List α) {s : State} (h : Shadowed t rate count s) :
    Shadowed t rate count (l.foldl f s) := by
  induction l generalizing s with
  | nil => exact h
  | cons a l ih => exact ih (hf s a h)

theorem shadowed_countCompare {t rate count : Nat} (n : Nat) {s : State} (h : Shadowed t rate count s) :
    Shadowed t rate count (countCompare t n s) :=
  shadowed_foldl (fun _ sl hs => shadowed_shadowNote hs sl _ _) _ h

theorem shadowed_portGrants {t rate count : Nat} (k : Nat) {s : State} (h : Shadowed t rate count s) :
    Shadowed t rate count (portGrants k s) := by
  rw [Shadowed, portGrants_shadows]; exact h

/-- The comparisons of one record with every slice, and after the last one of a keyed region its counts. -/
def recordCompared (t : Nat) (r : Bytes) (sh : Shadow) (s : State) : State :=
  let v := (comparedSlices (portGrants 5 s)).foldl (fun s sl => shadowNote t sl sh.next (shadowDiffers (s.tab sl) t sh.next r) s) (portGrants 5 s)
  if decide (sh.next + 1 = sh.count) && decide (t ≤ 2) then countCompare t sh.count v else v

theorem shadowed_recordCompared {t rate count : Nat} (r : Bytes) (sh : Shadow) {s : State} (h : Shadowed t rate count s) :
    Shadowed t rate count (recordCompared t r sh s) := by
  have hrecord := shadowed_foldl (f := fun s sl => shadowNote t sl sh.next (shadowDiffers (s.tab sl) t sh.next r) s)
    (fun _ sl hs => shadowed_shadowNote hs sl _ _) (comparedSlices (portGrants 5 s)) (shadowed_portGrants 5 h)
  unfold recordCompared; dsimp only
  split_ifs
  · exact shadowed_countCompare _ hrecord
  · exact hrecord

theorem shadowRead_unregistered {t : Nat} {s : State} (h : s.tables.shadows.find? t = none) (r : Bytes) : shadowRead t r s = s := by
  simp only [shadowRead, h]

section
variable {t : Nat} {sh : Shadow} {s : State} (hsh : s.tables.shadows.find? t = some sh) (r : Bytes)
include hsh

theorem shadowRead_paused (h : sh.rate = 0 ∨ s.pwr.state = .ride ∨ s.pwr.state = .sleep ∨ s.dma = false) : shadowRead t r s = s := by
  simp only [shadowRead, hsh, if_pos h]

variable (hruns : ¬ (sh.rate = 0 ∨ s.pwr.state = .ride ∨ s.pwr.state = .sleep ∨ s.dma = false))
include hruns

theorem shadowRead_empty (hcount : sh.count = 0) : shadowRead t r s = if t ≤ 2 then countCompare t 0 (portGrants 5 s) else s := by
  simp only [shadowRead, hsh, if_neg hruns, if_pos hcount]

theorem shadowRead_record (hcount : sh.count ≠ 0) {sh' : Shadow} (hsh' : (recordCompared t r sh s).tables.shadows.find? t = some sh') :
    ((shadowRead t r s).tables.shadows.find? t) = some { sh' with next := if sh.next + 1 = sh.count then 0 else sh.next + 1 } := by
  simp only [shadowRead, hsh, if_neg hruns, if_neg hcount]
  simp only [recordCompared] at hsh'
  simp only [hsh']
  exact tab_find_set_same ..

end

/-! ### Bulk loads and FENCE (R253, R259) -/

section
variable {h : Nat} {o : Op} {s : State}

theorem bulkNext_none (dma : Bytes) (hop : s.op? h = none) : bulkNext h dma s = s := by
  simp only [bulkNext, hop]

theorem fenceExpire_none (hop : s.op? h = none) : fenceExpire h s = s := by
  simp only [fenceExpire, hop]

theorem fenceExpire_fence {ids : List Nat} {total lim : Nat} (hop : s.op? h = some o) (hwork : o.work = .fence ids total lim) :
    fenceExpire h s = if lim = 0 ∨ o.state ≠ .running then s else opFinish h .failed stBusy (advanceTo (o.since + lim * msTicks) s) := by
  simp only [fenceExpire, hop, hwork]

variable {w : BulkWork} (dma : Bytes) (hop : s.op? h = some o) (hwork : o.work = .bulk w)
include hop hwork

theorem bulkNext_idle (hidle : o.working = false ∨ w.count ≤ w.next ∨ (w.source ≠ 0 ∧ s.dma = false)) : bulkNext h dma s = s := by
  simp only [bulkNext, hop, hwork]
  rw [if_pos (by simpa [or_assoc] using hidle)]

/-- The next record of a bulk load as a broadcast operation: its result code, and the tables after it. -/
def bulkStep (w : BulkWork) (dma : Bytes) (s : State) : Nat × State :=
  bulkRecord w.table w.op (if w.source = 0 then w.records.getD w.next [] else dma) (w.firstIndex + w.next) (portGrants 2 s)

variable (hworking : o.working = true) (hmore : w.next < w.count) (hsource : w.source = 0 ∨ s.dma = true)
include hworking hmore hsource

theorem bulkNext_step :
    bulkNext h dma s =
      if (bulkStep w dma s).1 ≠ 0 then opFail h (if (bulkStep w dma s).1 = 2 then stLimit else stBadParam) (bulkStep w dma s).2
      else if w.next + 1 = w.count then
        opComplete h (setOp { o with units := w.next + 1, progress := (w.next + 1) * 10000 / w.count, work := .bulk { w with next := w.next + 1 } }
          (bulkStep w dma s).2)
      else suspendPoint h (setOp { o with units := w.next + 1, progress := (w.next + 1) * 10000 / w.count, work := .bulk { w with next := w.next + 1 } }
          (bulkStep w dma s).2) := by
  simp only [bulkNext, hop, hwork]
  rw [if_neg (by simp [hworking, hmore]; exact fun h => hsource.resolve_left h)]
  rfl

end

end Sys2Proof.Machine
end

section
/-! LAW. The tables look after themselves (R15, R232 to R234, R242, R253, R255, R256, R259). -/

namespace Sys2Proof.Machine

/-- Settles O52, row by row: the sweep, the scrub, the filter banks, the parity of a slot, the rebuild, the self-test, the shadow compare, a bulk load's records and FENCE's limit. -/
theorem tablesLookAfterThemselves : Obligations.TablesLookAfterThemselves := by
  intro s hheld
  refine ⟨?_, ?_, ?_, fun sl slot t h => tcamParity_tcam slot h, ?_, ?_, ?_, ?_, ?_⟩
  · intro sl i u
    refine ⟨fun h => live_eq hheld (ageVisit_off h), fun hawake hon h => live_eq hheld (ageVisit_none hawake hon h), fun e hawake hon h => ?_⟩
    have hvisit := ageVisit_some hawake hon h
    refine ⟨fun hstatic => live_eq hheld ?_, fun hdyn hhit => live_eq hheld ?_, fun hdyn hmiss => live_eq hheld ?_⟩
    · rw [hvisit, hstatic]; rfl
    · rw [hvisit, hdyn, hhit]; rfl
    · rw [hvisit, hdyn, hmiss]; rfl
  · intro sl lpm cls
    exact ⟨fun h => live_eq hheld (if_pos h), fun hride hsleep => live_eq hheld (if_neg (not_or.mpr ⟨hride, hsleep⟩))⟩
  · intro T
    refine ⟨filterRebuild_early, fun hdue => ⟨?_, ?_, ?_, fun x => filterRebuild_names hdue⟩⟩
    all_goals rw [filterRebuild_due hdue]
  · intro sl
    refine ⟨fun h => live_eq hheld (rebuildDone_none h), fun o h hstate hmode => live_eq hheld ((rebuildDone_some h).trans (if_pos ⟨hstate, hmode⟩)),
      fun o h hother => live_eq hheld ((rebuildDone_some h).trans (if_neg (not_and_or.mpr hother)))⟩
  · intro sl bad u f
    exact ⟨fun h => live_eq hheld (selftestDone_idle bad h), fun hmode hfits => live_eq hheld (selftestDone_fits hmode hfits),
      fun hmode hfull hop => live_eq hheld (selftestDone_full_alone hmode hfull hop),
      fun o hmode hfull hop => live_eq hheld (selftestDone_full hmode hfull hop)⟩
  · intro t r
    have hruns {sh : Shadow} (hrate : sh.rate ≠ 0) (hride : s.pwr.state ≠ .ride) (hsleep : s.pwr.state ≠ .sleep) (hdma : s.dma = true) :
        ¬ (sh.rate = 0 ∨ s.pwr.state = .ride ∨ s.pwr.state = .sleep ∨ s.dma = false) := by simp [hrate, hride, hsleep, hdma]
    refine ⟨fun h => live_eq hheld (shadowRead_unregistered h r), fun sh hsh h => live_eq hheld (shadowRead_paused hsh r h),
      fun sh hsh hrate hcount hride hsleep hdma => live_eq hheld (shadowRead_empty hsh r (hruns hrate hride hsleep hdma) hcount),
      fun sh hsh hrate hcount hride hsleep hdma => ?_⟩
    obtain ⟨sh', hsh', hsameRate, hsameCount⟩ := shadowed_recordCompared r sh (t := t) (s := s) ⟨sh, hsh, rfl, rfl⟩
    exact ⟨_, _, live_eq hheld rfl, shadowRead_record hsh r (hruns hrate hride hsleep hdma) hcount hsh', rfl, hsameRate, hsameCount⟩
  · intro t sl i sh u hsh
    refine ⟨fun hseen => ?_, fun x hseen hsoon => shadowNote_soon hsh hseen hsoon, fun x hseen hlater => ?_⟩
    · rw [shadowNote_first hsh hseen]
      exact ⟨rfl, rfl, rfl, rfl⟩
    · rw [shadowNote_second hsh hseen hlater, State.tab, negWrite_tables, ← State.tab, tab_modTab_same]
      rw [State.tab, raise_tables]
      rfl
  · intro h dma
    refine ⟨fun hop => ⟨live_eq hheld (bulkNext_none dma hop), live_eq hheld (fenceExpire_none hop)⟩, fun o w hop hwork => ?_,
      fun o ids total lim hop hwork => ?_⟩
    · refine ⟨fun hidle => live_eq hheld (bulkNext_idle dma hop hwork hidle), fun hworking hmore hsource => ?_⟩
      have hstep := bulkNext_step dma hop hwork hworking hmore hsource
      refine ⟨fun hfull => live_eq hheld (hstep.trans ?_),
        fun hbad hnotFull => live_eq hheld (hstep.trans ((if_pos hbad).trans (congrArg (opFail h · _) (if_neg hnotFull)))),
        fun hok hlast => live_eq hheld (hstep.trans ((if_neg (not_not.mpr hok)).trans (if_pos hlast))),
        fun hok hmore' => live_eq hheld (hstep.trans ((if_neg (not_not.mpr hok)).trans (if_neg hmore')))⟩
      exact (if_pos fun hok => absurd (hfull.symm.trans hok) (by decide)).trans (congrArg (opFail h · _) (if_pos hfull))
    · have hlimit := fenceExpire_fence hop hwork
      exact ⟨fun hidle => live_eq hheld (hlimit.trans (if_pos hidle)),
        fun hlim hrunning => live_eq hheld (hlimit.trans (if_neg (not_or.mpr ⟨hlim, not_not.mpr hrunning⟩)))⟩

end Sys2Proof.Machine
end

section
/-! SUPPORT. What a device reset is where no retirement stands (R40, R52, R54), what the reset sources and a held device do (R52, R55, R567), and WhatADeviceResetLeaves, ResetSourcesLatchTheirCause, HeldDeviceStandsStill. -/

namespace Sys2Proof.Machine

/-! ### The device reset -/

theorem retireResume_of_unmarked {s : State} (h : s.nv.retiring = false) : retireResume s = s := by
  simp [retireResume, h]

/-- The boot ROM changes nothing by itself where no retirement is to go on, held or not. -/
theorem bootStart_of_unmarked {s : State} (h : s.nv.retiring = false) : bootStart s = s := by
  rw [bootStart, retireResume_of_unmarked h, ite_self]

/-- With no retirement to resume, the power part is that of a first reset where the supply is the cause, and else keeps its comparators. -/
theorem deviceReset_pwr (code data : Nat) {s : State} (h : s.nv.retiring = false) :
    (deviceReset code data s).pwr = if code = 1 then Power.reset else s.pwr.afterReset := by
  rw [show deviceReset code data s = _ from bootStart_of_unmarked h]

theorem deviceReset_pwr_of_supply (data : Nat) {s : State} (h : s.nv.retiring = false) : (deviceReset 1 data s).pwr = Power.reset :=
  deviceReset_pwr 1 data h

theorem deviceReset_pwr_of_other {code : Nat} (hcode : code ≠ 1) (data : Nat) {s : State} (h : s.nv.retiring = false) :
    (deviceReset code data s).pwr = s.pwr.afterReset :=
  (deviceReset_pwr code data h).trans (if_neg hcode)

/-- The masks are off after a reset, whatever its cause. -/
theorem deviceReset_masks (code data : Nat) {s : State} (h : s.nv.retiring = false) :
    (deviceReset code data s).pwr.portOff = 0 ∧ (deviceReset code data s).pwr.laneOff = 0 := by
  by_cases hcode : code = 1
  · rw [hcode, deviceReset_pwr_of_supply data h]; exact ⟨rfl, rfl⟩
  · rw [deviceReset_pwr_of_other hcode data h]; exact ⟨rfl, rfl⟩

/-- RIDE is entered again after a reset that is not of the supply while its cause stands (R116). -/
theorem deviceReset_pstate (code data : Nat) {s : State} (h : s.nv.retiring = false) :
    (deviceReset code data s).pwr.state = if code ≠ 1 ∧ (s.pwr.auxWarn || s.pwr.coreSag) = true then .ride else .full := by
  by_cases hcode : code = 1
  · subst hcode; rw [deviceReset_pwr_of_supply data h]; rfl
  · rw [deviceReset_pwr_of_other hcode data h]
    simp only [Power.afterReset, hcode, ne_eq, not_false_eq_true, true_and]

/-- Settles O29: with no retirement to resume the reset is the record that `deviceReset` builds, whose power part depends on whether the supply was the cause. -/
theorem whatADeviceResetLeaves : Obligations.WhatADeviceResetLeaves := by
  intro code data s hunmarked
  obtain ⟨hports, hlanes⟩ := deviceReset_masks code data hunmarked
  have hstate := deviceReset_pstate code data hunmarked
  have hflags : code ≠ 1 → (deviceReset code data s).pwr.auxWarn = s.pwr.auxWarn ∧
      (deviceReset code data s).pwr.nvInhibit = s.pwr.nvInhibit ∧ (deviceReset code data s).pwr.tj = s.pwr.tj := by
    intro hcode
    rw [deviceReset_pwr_of_other hcode data hunmarked]
    exact ⟨rfl, rfl, rfl⟩
  rw [show deviceReset code data s = _ from bootStart_of_unmarked hunmarked] at hports hlanes hstate hflags ⊢
  exact ⟨rfl, rfl, rfl, rfl, rfl, rfl, rfl, rfl, rfl, rfl, rfl, rfl, rfl, rfl, rfl, rfl, rfl, rfl, hports, hlanes, hstate, hflags, rfl, rfl⟩

/-! ### The reset sources -/

theorem powerOn_of_up {s : State} (h : s.sys.auxDown = false) : powerOn s = deviceReset 1 0 s := by
  simp [powerOn, h]

theorem powerOn_of_down {s : State} (h : s.sys.auxDown = true) : powerOn s = bootStart { s with sys := { s.sys with auxDown := false } } := by
  simp [powerOn, h, modSys]

theorem supplyReset_eq (s : State) :
    let down := { s with sys := { s.sys with auxDown := true, tripWait := false } }
    supplyReset s = if s.sys.auxDown = true ∨ s.sys.sysRst = true then down else deviceReset 1 0 down := by
  simp only [supplyReset, Bool.or_eq_true, modSys]

theorem pinRelease_of_high {s : State} (h : s.sys.sysRst = false) (straps : Fin 4) : pinRelease straps s = s := by
  simp [pinRelease, h]

theorem pinRelease_of_low {s : State} (h : s.sys.sysRst = true) (straps : Fin 4) :
    pinRelease straps s =
      bootStart { s with sys := { s.sys with sysRst := false, straps := straps, tripWait := s.sys.tripWait && s.sys.thermTrip } } := by
  simp [pinRelease, h, modSys]

theorem thermalTrip_of_tripped {s : State} (h : s.sys.thermTrip = true) (tj : Int) : thermalTrip tj s = s := by
  simp [thermalTrip, h]

theorem thermalTrip_of_untripped {s : State} (h : s.sys.thermTrip = false) (tj : Int) :
    let trip := { s with sys := { s.sys with thermTrip := true, tripWait := true } }
    thermalTrip tj s = if s.sys.auxDown then trip else deviceReset 5 (wholeDegrees tj) trip := by
  simp [thermalTrip, h, modSys]

theorem tripRelease_of_untripped {s : State} (h : s.sys.thermTrip = false) (peak : Int) : tripRelease peak s = s := by
  simp [tripRelease, h]

/-- THERMTRIP_N released: the peak becomes the cause data only where the trip is the latched cause. -/
theorem tripRelease_of_tripped {s : State} (h : s.sys.thermTrip = true) (peak : Int) :
    tripRelease peak s =
      { s with sys := { s.sys with thermTrip := false, resetData := if s.sys.resetCode = 5 then wholeDegrees peak else s.sys.resetData } } := by
  simp [tripRelease, h, modSys]

theorem resetAfterReply_of_due {s : State} {slot : Nat} (h : s.sys.resetDue = some slot) : resetAfterReply s = deviceReset 3 slot s := by
  simp [resetAfterReply, h]

theorem resetAfterReply_of_none {s : State} (h : s.sys.resetDue = none) : resetAfterReply s = s := by
  simp [resetAfterReply, h]

/-- Settles O30, source by source. -/
theorem resetSourcesLatchTheirCause : Obligations.ResetSourcesLatchTheirCause := by
  intro s
  refine ⟨fun h => ?_, fun h => ?_, ?_, rfl, fun straps h => ?_, fun straps h => ?_, fun tj h => ?_, fun tj h => ?_,
    fun peak h hcause => ?_, fun peak h hcause => ?_, fun peak h => ?_, fun slot hheld h => ?_, fun hheld h => ?_⟩
  · exact congrArg _ (powerOn_of_up h)
  · exact congrArg _ (powerOn_of_down h)
  · exact congrArg _ (supplyReset_eq s)
  · exact congrArg _ (pinRelease_of_low h straps)
  · exact congrArg _ (pinRelease_of_high h straps)
  · exact congrArg _ (thermalTrip_of_untripped h tj)
  · exact congrArg _ (thermalTrip_of_tripped h tj)
  · refine congrArg _ ((tripRelease_of_tripped h peak).trans ?_)
    rw [if_pos hcause]; rfl
  · refine congrArg _ ((tripRelease_of_tripped h peak).trans ?_)
    rw [if_neg hcause]
  · exact congrArg _ (tripRelease_of_untripped h peak)
  · exact live_eq hheld (resetAfterReply_of_due h)
  · exact live_eq hheld (resetAfterReply_of_none h)

/-! ### A held device -/

/-- What a row answers that acts only on a device that reset does not hold (`live`). -/
theorem next_of_held {s t : State} (h : s.held = true) :
    (Host.Outcome.next (if s.held then s else t) : Host.Outcome State Fault Refusal) = .next s := by
  rw [if_pos h]

/-- Settles O32: a command that carries a packet, and every other one that is no reset source, PERST_N or test port row, is a meaning that reset holds back. -/
theorem heldDeviceStandsStill : Obligations.HeldDeviceStandsStill := by
  intro c s hheld hstill
  cases c with
  | powerOn | supplyReset | sysRstNAssert | sysRstNRelease | thermalTrip | thermtripRelease | perstNAssert | perstNRelease
  | idcode | bypass | sample | preload | extest | dbgTrace | dbgRead | dbgWrite | dbgReset | factoryTest | testLogicReset =>
    contradiction
  | _ => exact next_of_held hheld

end Sys2Proof.Machine
end

section
/-! SUPPORT. The endpoint's resets (R53, R525, R545) and EndpointResetsOnlyTheHostDomain. -/

namespace Sys2Proof.Machine

/-- Forgetting the frames of any rings touches the core's stores and the Dalom links, and nothing else. -/
theorem forgetInjects_frame (rings : List Nat) (s : State) :
    let t := rings.foldl (fun s c => forgetInject c s) s
    t = { s with core := t.core, dlks := t.dlks } := by
  induction rings generalizing s with
  | nil => rfl
  | cons c rings ih =>
    rw [List.foldl_cons, ih, forgetInject_frame]

/-- The host-interface reset (R53): the mailbox, the interrupt block, the statistics, the CPU rings and the ring's commands are reset, but for what is held, latched or counted there; of the rest only the stores of frames that owe a ring's write-back change. -/
theorem hostReset_frame (s : State) :
    hostReset s =
      { s with
        core := (hostReset s).core, dlks := (hostReset s).dlks
        mbx := { Mbx.reset with held := s.mbx.held }
        irq := { Irq.reset with cause := s.irq.cause, held := s.irq.held, seq := s.irq.seq, lostSince := s.irq.lostSince }
        stat := { StatBlk.reset with seq := s.stat.seq, restarted := s.stat.restarted }
        trap := [], inject := []
        gcp := { s.gcp with pcie := { s.gcp.pcie with waiting := [], cache := [] } } } := by
  unfold hostReset; dsimp only
  rw [forgetInjects_frame]

theorem flr_of_low {s : State} (h : s.sys.perst = true) : flr s = s := by
  simp [flr, h]

theorem flr_of_high {s : State} (h : s.sys.perst = false) : flr s = perstRelease (perstAssert s) := by
  simp [flr, h]

theorem d3Entry_of_low {s : State} (h : s.sys.perst = true) : d3Entry s = s := by
  simp [d3Entry, h]

theorem d3Entry_of_high {s : State} (h : s.sys.perst = false) : d3Entry s = { s with sys := { s.sys with d3hot := true } } := by
  simp [d3Entry, h, modSys]

theorem d0Return_of_d3hot {s : State} (h : s.sys.d3hot = true) : d0Return s = hostReset { s with sys := { s.sys with d3hot := false } } := by
  simp [d0Return, h, modSys]

theorem d0Return_of_d0 {s : State} (h : s.sys.d3hot = false) : d0Return s = s := by
  simp [d0Return, h]

/-- Settles O33: the host domain by `hostReset_frame`, then row by row. -/
theorem endpointResetsOnlyTheHostDomain : Obligations.EndpointResetsOnlyTheHostDomain := by
  refine ⟨fun s => ?domain, fun s => rfl, fun s => rfl, fun s hheld h => live_eq hheld (flr_of_high h),
    fun s hheld h => ⟨live_eq hheld (flr_of_low h), live_eq hheld (d3Entry_of_low h)⟩,
    fun s hheld h => live_eq hheld (d3Entry_of_high h), fun s hheld h => live_eq hheld (d0Return_of_d3hot h),
    fun s hheld h => live_eq hheld (d0Return_of_d0 h)⟩
  case domain =>
    rw [hostReset_frame]
    exact ⟨rfl, rfl, rfl, rfl, rfl, rfl, rfl, rfl, rfl, rfl, rfl, rfl, rfl, rfl, rfl, rfl, rfl, rfl, rfl, rfl, rfl, rfl⟩

end Sys2Proof.Machine
end

section
/-! SUPPORT. The boot ROM: images, the automatic start, XO_IN, firmware's start and its failure (R56 to R60), and ImageStatesAndAutoStart, BootRomStartsFirmware. -/

namespace Sys2Proof.Machine

/-! ### The rows after which waiting commands may start -/

theorem exec_xoInDetect_live {s : State} (hheld : s.held = false) (freq : XoCode) :
    exec (.xoInDetect freq) s = .next (pump (xoDetect freq.val s)) :=
  live_next hheld fun s => pump (xoDetect freq.val s)

theorem exec_firmwareAlive_live {s : State} (hheld : s.held = false) : exec .firmwareAlive s = .next (pump (alive s)) :=
  live_next hheld fun s => pump (alive s)

theorem exec_fwStartFail_live {s : State} (hheld : s.held = false) : exec .fwStartFail s = .next (pump (startFails s)) :=
  live_next hheld fun s => pump (startFails s)

/-! ### Images (R58, R106, R108) -/

section
variable {s : State} {i : Img} {f : ImageFacts} (hfacts : i.facts = some f)
include hfacts

theorem imageState_headless (hheader : f.header = false) : imageState s i = 0 := by
  simp [imageState, hfacts, hheader]

theorem imageState_bad (hheader : f.header = true)
    (hbad : i.torn = true ∨ f.vendorOk = false ∨ (s.nv.ownerPolicy = true ∧ f.ownerKey ≠ some s.nv.ownerHash)) : imageState s i = 2 := by
  have hguard : (i.torn || !f.vendorOk || (s.nv.ownerPolicy && f.ownerKey != some s.nv.ownerHash)) = true := by
    rcases hbad with h | h | ⟨hpolicy, hkey⟩
    · simp [h]
    · simp [h]
    · simp [hpolicy, hkey]
  simp [imageState, hfacts, hheader, hguard]

theorem imageState_good (hheader : f.header = true) (hwhole : i.torn = false) (hvendor : f.vendorOk = true)
    (howner : s.nv.ownerPolicy = true → f.ownerKey = some s.nv.ownerHash) :
    imageState s i = if s.nv.lifecycle = .locked ∧ f.version.toNat < s.nv.minVersion then 3 else 1 := by
  have hguard : (i.torn || !f.vendorOk || (s.nv.ownerPolicy && f.ownerKey != some s.nv.ownerHash)) = false := by
    simpa [hwhole, hvendor] using howner
  simp [imageState, hfacts, hheader, hguard]

end

/-! ### The automatic start (R40, R59, R60) -/

theorem autoMay_iff (s : State) :
    autoMay s = true ↔ s.sys.mode = .safe ∧ s.sys.verifying = false ∧ s.sys.start = none ∧ s.sys.fwAlive = false ∧ s.nv.hold = false ∧
      s.nv.attempts < 3 := by
  simp [autoMay, bootHold, and_assoc]

theorem autoStart_of_not {s : State} (h : ¬ autoMay s = true) : autoStart s = s := by
  simp [autoStart, h]

theorem tryImages_valid {k : Nat} {s : State} (h : imageValid s k = true) (rest : List Nat) (asked : Option Transport) :
    tryImages (k :: rest) asked s =
      { s with sys := { s.sys with start := some { image := k, rest := rest, asked := asked }, lastStart := k } } :=
  if_pos h

theorem tryImages_none_unasked (s : State) : tryImages [] none s = { s with sys := { s.sys with start := none, noImage := true } } := rfl

theorem autoStart_preferred {s : State} (hmay : autoMay s = true) (hxo : s.tim.xo.missing = false)
    (hvalid : imageValid s s.nv.preferred = true) :
    autoStart s =
      { s with sys := { s.sys with autoWaits := false, lastStart := s.nv.preferred,
                                   start := some { image := s.nv.preferred, rest := [3 - s.nv.preferred], asked := none } } } := by
  have hstart : autoStart s = tryImages [s.nv.preferred, 3 - s.nv.preferred] none { s with sys := { s.sys with autoWaits := false } } := by
    simp [autoStart, hmay, hxo, imageOrder, modSys]
  refine hstart.trans (tryImages_valid ?_ _ _)
  exact hvalid

/-- Settles O35: an image's state by its facts; and an automatic start does nothing where one condition of `autoMay` fails, else starts the preferred image where it is valid. -/
theorem imageStatesAndAutoStart : Obligations.ImageStatesAndAutoStart := by
  refine ⟨fun s i f hfacts => ⟨imageState_headless hfacts, imageState_bad hfacts, imageState_good hfacts⟩,
    fun s => ⟨rfl, rfl, rfl⟩, fun s hstop => autoStart_of_not ?_, fun s => autoStart_preferred⟩
  rw [autoMay_iff]
  rintro ⟨hsafe, hverified, hidle, hdead, hauto, hfew⟩
  rcases hstop with h | h | h | h | h | h
  · exact h hsafe
  · simp [hverified] at h
  · exact h hidle
  · simp [hdead] at h
  · simp [hauto] at h
  · omega

/-! ### XO_IN (R56, R338) -/

/-- XO_IN is not taken outside SAFE, twice, or at a code that is none of the five frequencies. -/
theorem xoDetect_ignored {code : Nat} {s : State}
    (h : s.sys.mode ≠ .safe ∨ s.tim.xo.present = true ∨ code = 0 ∨ 5 < code) : xoDetect code s = s := by
  refine if_pos ?_
  simpa [or_assoc] using h

/-- XO_IN is taken where no AUTO start waits for it. -/
theorem xoDetect_taken {code : Nat} {s : State} (hsafe : s.sys.mode = .safe) (habsent : s.tim.xo.present = false) (hlow : 1 ≤ code)
    (hhigh : code ≤ 5) (hauto : s.sys.autoWaits = false) :
    xoDetect code s =
      modSyn 0 (fun y => { y with st := 1 }) (modXo (fun x => { x with freq := code, present := true, rdyAt := s.clk.now }) s) := by
  have hguard : ¬ (s.sys.mode ≠ .safe || s.tim.xo.present || code = 0 || 5 < code) = true := by
    simpa [hsafe, habsent] using And.intro (Nat.one_le_iff_ne_zero.mp hlow) hhigh
  unfold xoDetect; rw [if_neg hguard]
  exact if_neg (by simp [modSyn, modXo, modTim, hauto])

/-! ### Verification (R58) -/

theorem verified_ignored {s : State} (h : s.sys.mode ≠ .safe ∨ s.sys.verifying = false) (a b : ImageFacts) : verified a b s = s :=
  if_pos (by simpa using h)

theorem verified_both {s : State} (hsafe : s.sys.mode = .safe) (hverifying : s.sys.verifying = true) (a b : ImageFacts) :
    verified a b s =
      autoStart { s with sys := { s.sys with
        verifying := false
        imgA := { s.sys.imgA with facts := some a, state := imageState s { s.sys.imgA with facts := some a } }
        imgB := { s.sys.imgB with facts := some b, state := imageState s { s.sys.imgB with facts := some b } } } } :=
  if_neg (by simp [hsafe, hverifying])

/-! ### Firmware starts or fails to (R59, R60, R120) -/

theorem alive_unasked {f : FwStart} {s : State} (hstart : s.sys.start = some f) (hasked : f.asked = none) :
    let up := { s with sys := { s.sys with start := none, running := f.image, fwAlive := true, noImage := false,
                                           fallback := f.image != s.nv.preferred } }
    alive s = [1, 2, 3, 4, 5, 6].foldl synStart (setMode .provision 0 0xFF 0 0 (startRecords f.image up)) := by
  simp only [alive, hstart, hasked]; rfl

theorem countAttempt_eq (s : State) :
    countAttempt s = { s with nv := { s.nv with attempts := if s.pwr.nvInhibit then s.nv.attempts else s.nv.attempts + 1 } } := by
  cases h : s.pwr.nvInhibit
  · exact countAttempt_of_writable h
  · exact countAttempt_of_inhibit h

/-- A start that failed is the cause kept, counts an attempt, clears SYS_SCRATCH, and the next images are tried. -/
theorem startFails_eq {f : FwStart} {s : State} (hstart : s.sys.start = some f) :
    startFails s =
      tryImages f.rest f.asked
        { s with sys := { s.sys with resetCode := 6, resetData := f.image, scratch := 0 }
                 nv := { s.nv with attempts := if s.pwr.nvInhibit then s.nv.attempts else s.nv.attempts + 1 } } := by
  simp only [startFails, hstart, modSys, countAttempt_eq]

/-- Settles O34: each row is its operation, after which the pump has no command to start. -/
theorem bootRomStartsFirmware : Obligations.BootRomStartsFirmware := by
  refine ⟨?xo, ?xoIgnored, ?verified, ?verifiedIgnored, ?alive, ?failsLast, ?failsNext⟩
  case xo =>
    intro freq s hheld hsafe habsent hlow hhigh hauto hpcie hinband hsideband hpools
    rw [exec_xoInDetect_live hheld, xoDetect_taken hsafe habsent hlow hhigh hauto]
    exact congrArg _ (pump_none _ hpcie hinband hsideband hpools)
  case xoIgnored =>
    intro freq s hheld h hpcie hinband hsideband hpools
    rw [exec_xoInDetect_live hheld, xoDetect_ignored h, pump_none _ hpcie hinband hsideband hpools]
  case verified =>
    intro a b s hheld hsafe hverifying
    exact live_eq hheld (verified_both hsafe hverifying a b)
  case verifiedIgnored =>
    intro a b s hheld h
    exact live_eq hheld (verified_ignored h a b)
  case alive =>
    intro f s hheld hstart hasked _ _ _ _
    rw [exec_firmwareAlive_live hheld, alive_unasked hstart hasked]
  case failsLast =>
    intro f s hheld hstart hasked hrest hpcie hinband hsideband hpools
    rw [exec_fwStartFail_live hheld, startFails_eq hstart, hrest, hasked, tryImages_none_unasked]
    exact congrArg _ (pump_none _ hpcie hinband hsideband hpools)
  case failsNext =>
    intro k f s hheld hstart hrest hvalid hpcie hinband hsideband hpools
    rw [exec_fwStartFail_live hheld, startFails_eq hstart, hrest, tryImages_valid (by exact hvalid)]
    exact congrArg _ (pump_none _ hpcie hinband hsideband hpools)

end Sys2Proof.Machine
end

section
/-! SUPPORT. The opcodes of group 0x01 (R502 to R506): SystemOpcodesDoWhatTheySay. -/

namespace Sys2Proof.Machine

/-- Settles O16: each opcode's row runs the effect of its definition (`carries_row`). -/
theorem systemOpcodesDoWhatTheySay : Obligations.SystemOpcodesDoWhatTheySay := by
  intro g
  exact ⟨carries_row rfl (d := opGetStatus) rfl (by decide) rfl, carries_row rfl (d := opGetResetCause) rfl (by decide) rfl,
    carries_row rfl (d := opSetBootPolicy) rfl (by decide) rfl, carries_row rfl (d := opEnterProvision) rfl (by decide) rfl,
    carries_row rfl (d := opCommitConfig) rfl (by decide) rfl, carries_row rfl (d := opEnterMaintenance) rfl (by decide) rfl,
    carries_row rfl (d := opEnterQuiesce) rfl (by decide) rfl, carries_row rfl (d := opReturnService) rfl (by decide) rfl,
    carries_row rfl (d := opResetDevice) rfl (by decide) rfl, carries_row rfl (d := opSetPowerState) rfl (by decide) rfl,
    carries_row rfl (d := opAvsConfig) rfl (by decide) rfl, carries_row rfl (d := opDeviceConfig) rfl (by decide) rfl⟩

end Sys2Proof.Machine
end

section
/-! SUPPORT. The wake and the debug lifetimes (R111, R114, R119), and ThermalWakeAndDrainRowsAct. -/

namespace Sys2Proof.Machine

theorem wake_of_awake {s : State} (h : s.pwr.waking = false) (regions : List (Nat × List Bytes)) : wake regions s = s := by
  simp [wake, h]

theorem wake_of_waking {s : State} (h : s.pwr.waking = true) (regions : List (Nat × List Bytes)) :
    let t := calWake s (wakePorts (tablesRestore regions (poolsRebuild (countersRestart (wakePower s)))))
    wake regions s = wakeReply (if t.pwr.auxWarn || t.pwr.coreSag then rideEnter t else t) := by
  simp [wake, h]

theorem challengeExpire_of_none {s : State} (h : s.dbg.challenge = none) : challengeExpire s = s := by
  simp [challengeExpire, h]

theorem challengeExpire_of_some {c : Challenge} {s : State} (h : s.dbg.challenge = some c) :
    challengeExpire s = { advanceTo c.deadline s with dbg := { s.dbg with challenge := none } } := by
  simp [challengeExpire, h]

theorem sessionExpire_of_none {s : State} (h : s.dbg.session = none) : sessionExpire s = s := by
  simp [sessionExpire, h]

theorem sessionExpire_of_some {d : DbgSession} {s : State} (h : s.dbg.session = some d) :
    sessionExpire s = dbgClose 1 (advanceTo d.deadline s) := by
  simp [sessionExpire, h]

/-- Settles O37: the temperature rows are crossings (`live_crossing`), the others are taken case by case. -/
theorem thermalWakeAndDrainRowsAct : Obligations.ThermalWakeAndDrainRowsAct := by
  intro s hheld
  refine ⟨fun m => ?thresholds, fun regions h => live_eq hheld (wake_of_awake h regions),
    fun regions h => live_eq hheld (wake_of_waking h regions), live_next hheld (fun s => if framesQueued s then s else drainEnd s), fun h => live_eq hheld (if_pos h),
    fun h => live_eq hheld (if_neg (ne_true_of_eq_false h)), fun c h => live_eq hheld (challengeExpire_of_some h),
    fun h => live_eq hheld (challengeExpire_of_none h), fun d h => live_eq hheld (sessionExpire_of_some h),
    fun h => live_eq hheld (sessionExpire_of_none h)⟩
  case thresholds =>
    refine ⟨live_crossing hheld _ ?_, live_crossing hheld _ ?_, live_crossing hheld _ ?_, live_crossing hheld _ ?_⟩
    all_goals
      simp only [Bool.and_eq_true, Bool.not_eq_true', decide_eq_true_eq]
      rfl

end Sys2Proof.Machine
end

section
/-! SUPPORT. How a packet is judged: each step of R80 that fails names its status, the judgement follows the first that fails, and an accepted command runs; and ArrivingPacketIsJudgedAtOnce, JudgedInTheOrderOfTheSteps, MiddleStepsInOrder. -/

namespace Sys2Proof.Machine

/-! ### Arrival -/

/-- Settles O8: the row of an opcode presents the packet, and each transport row is what presenting does on its transport (`present_judged`). -/
theorem arrivingPacketIsJudgedAtOnce : Obligations.ArrivingPacketIsJudgedAtOnce := by
  refine ⟨fun i op g s hop harr => ?opcode, fun op g s harr => ?transport⟩
  case opcode =>
    rw [exec_opcode hop]
    exact live_eq harr.1 (present_judged op g s harr)
  case transport =>
    have hjudged := present_judged op g s harr
    unfold present at hjudged
    cases horigin : g.origin with
    | pcie =>
      intro pi hpi
      rw [horigin] at hjudged
      exact live_eq harr.1 (hpi ▸ hjudged)
    | inband p src vlan =>
      rw [horigin] at hjudged
      exact live_eq harr.1 hjudged
    | sideband =>
      intro b hb
      rw [horigin] at hjudged
      exact live_eq harr.1 (hb ▸ hjudged)

/-! ### Steps 1 to 5 -/

theorem early_version {c : Cmd} (h : c.version ≠ 4) (d? : Option OpDef) : early d? c = some stBadVersion := by
  simp [early, h]

theorem early_length {c : Cmd} (hv : c.version = 4) (h : 4048 < c.len ∨ c.pkt.length < c.needs) (d? : Option OpDef) :
    early d? c = some stBadLength := by
  simp [early, hv, h]

section
variable {c : Cmd} (hv : c.version = 4) (hlen : c.len ≤ 4048) (hneeds : c.needs ≤ c.pkt.length)
include hv hlen hneeds

theorem early_crc (h : crc32 c.params ≠ c.crc) (d? : Option OpDef) : early d? c = some stBadCrc := by
  simp [early, hv, hlen, hneeds, h]

theorem early_unknown (hcrc : crc32 c.params = c.crc) : early none c = some stBadOpcode := by
  simp [early, hv, hlen, hneeds, hcrc]

/-- A packet that stands as R76 says is judged by its opcode's row. -/
theorem early_row (hcrc : crc32 c.params = c.crc) (d : OpDef) :
    early (some d) c = if transportOk d c.origin = false then some stBadOpcode else if d.lenOk c.len = false then some stBadLength
      else if fieldsOk d c = false then some stBadParam else none := by
  simp [early, hv, hlen, hneeds, hcrc]

end

/-! ### Steps 6 to 8 -/

theorem authFail_plain {d : OpDef} {c : Cmd} {s : State} (hplain : c.auth = false) (h : authNeeded d c s = true) :
    authFail d c s = some stAuthRequired := by
  simp [authFail, hplain, h]

theorem authFail_no_key {c : Cmd} {s : State} (hauth : c.auth = true) (h : keyOf s c.slot = none) (d : OpDef) :
    authFail d c s = some stKeySlotEmpty := by
  simp [authFail, hauth, h]

theorem authFail_tag {c : Cmd} {s : State} {k : Bytes} (hauth : c.auth = true) (hk : keyOf s c.slot = some k)
    (h : Crypto.tag16 k (c.pkt.take (32 + c.len)) ≠ c.tag) (d : OpDef) : authFail d c s = some stAuthFailed := by
  simp [authFail, hauth, hk, h]

/-! ### The judgement -/

theorem judge_of_early {d? : Option OpDef} {c : Cmd} {st : Nat} (h : early d? c = some st) (s : State) :
    judge d? c s = refuse c (replyKey c none s) st [] s := by
  simp only [judge, h]

section
variable {d : OpDef} {c : Cmd} {s : State} (he : early (some d) c = none)
include he

theorem judge_of_cached {e : Cached} (h : cached? c s = some e) : judge (some d) c s = deliver c.origin e.resent s := by
  simp only [judge, he, h]

theorem judge_of_authFail {st : Nat} (hc : cached? c s = none) (h : authFail d c s = some st) :
    judge (some d) c s = refuse c none st [] (if st = stAuthFailed then authRecord c s else s) := by
  simp only [judge, he, hc, h]

theorem judge_of_midFail {st : Nat} {r : Bytes} (hc : cached? c s = none) (ha : authFail d c s = none) (h : midFail d c s = some (st, r)) :
    judge (some d) c s = refuse c (replyKey c (replyTag c s) s) st r s := by
  simp only [judge, he, hc, ha, h, replyTag]

theorem judge_of_check {st : Nat} {r : Bytes} (hc : cached? c s = none) (ha : authFail d c s = none) (hm : midFail d c s = none)
    (h : d.check c s = some (st, r)) : judge (some d) c s = refuse c (replyKey c (replyTag c s) s) st r (d.trace c s) := by
  simp only [judge, he, hc, ha, hm, h, replyTag]

end

theorem judge_of_accepted {d : OpDef} {c : Cmd} {s : State} (h : Accepted d c s) :
    judge (some d) c s = d.after (answer c (replyTag c s) (d.run c (persist c s)).1 (d.run c (persist c s)).2) := by
  obtain ⟨hsound, hearly, hcached, hauth, hmid, hcheck⟩ := h
  simp only [judge, hearly, hcached, hauth, hmid, hcheck, execute, hsound, replyTag]

/-- Settles O9: each clause names the first step that fails, and the judgement is the refusal of that step. -/
theorem judgedInTheOrderOfTheSteps : Obligations.JudgedInTheOrderOfTheSteps := by
  intro d c s
  refine ⟨fun h => judge_of_early (early_version h _) s, fun hv h => judge_of_early (early_length hv h _) s,
    fun hv hl hn h => ⟨judge_of_early (early_crc hv hl hn h _) s, judge_of_early (early_crc hv hl hn h _) s⟩,
    fun hv hl hn hcrc => ⟨judge_of_early (early_unknown hv hl hn hcrc) s, fun ht => ?_, fun ht hlen => ?_, fun ht hlen hf => ?_⟩,
    fun he hc => ⟨fun hplain h => ?_, fun hauth h => ?_, fun k hauth hk h => ?_, fun ha st r h => judge_of_midFail he hc ha h,
      fun ha hm st r h => judge_of_check he hc ha hm h⟩⟩
  · exact judge_of_early ((early_row hv hl hn hcrc d).trans (if_pos ht)) s
  · refine judge_of_early ((early_row hv hl hn hcrc d).trans ?_) s
    rw [if_neg (by simp [ht]), if_pos hlen]; rfl
  · refine judge_of_early ((early_row hv hl hn hcrc d).trans ?_) s
    rw [if_neg (by simp [ht]), if_neg (by simp [hlen]), if_pos hf]; rfl
  · exact judge_of_authFail he hc (authFail_plain hplain h)
  · exact judge_of_authFail he hc (authFail_no_key hauth h d)
  · exact judge_of_authFail he hc (authFail_tag hauth hk h d)

/-- Settles O10: `midFail` takes the steps in their order, so each clause is its branch there. -/
theorem middleStepsInOrder : Obligations.MiddleStepsInOrder := by
  intro d c s supply stale
  have hmid : midFail d c s = if supply then some (stSupplyLow, []) else if stale then some (stCounterStale, [])
      else if !d.lifeOk c s then some (stWrongLifecycle, []) else if !d.modeOk c s then some (stWrongMode, [])
      else if sleepRefuses d c s then some (stBusy, []) else if d.long && decide (16 ≤ liveOps s) then some (stLimit, [])
      else if !d.free c s then some (stBusy, []) else none := rfl
  have hroom : (d.long = true → liveOps s < 16) → (d.long && decide (16 ≤ liveOps s)) = false := by
    intro h
    cases hlong : d.long with
    | false => rfl
    | true => simpa using h hlong
  clear_value supply stale
  rw [hmid]
  refine ⟨fun h => ?_, fun h1 h => ?_, fun h1 h2 h => ?_, fun h1 h2 h3 h => ?_, fun h1 h2 h3 h4 h => ?_,
    fun h1 h2 h3 h4 h5 hlong h => ?_, fun h1 h2 h3 h4 h5 h6 h => ?_, fun h1 h2 h3 h4 h5 h6 h => ?_⟩
  · simp [h, stSupplyLow]
  · simp [h1, h, stCounterStale]
  · simp [h1, h2, h, stWrongLifecycle]
  · simp [h1, h2, h3, h, stWrongMode]
  · simp [h1, h2, h3, h4, h, stBusy]
  · simp [h1, h2, h3, h4, h5, hlong, h, stLimit]
  · simp [h1, h2, h3, h4, h5, hroom h6, h, stBusy]
  · simp [h1, h2, h3, h4, h5, hroom h6, h]

end Sys2Proof.Machine
end

section
/-! SUPPORT. The counters of the key slots (R82) and what a refusal leaves (R81, R84): CounterWindowAndPersist, RefusedCommandLeavesOnlyItsReply. -/

namespace Sys2Proof.Machine

/-! ### Counters -/

theorem leNat_lt (b : Bytes) : leNat b < 256 ^ b.length := by
  induction b with
  | nil => simp [leNat]
  | cons x b ih =>
    rw [leNat, List.length_cons, Nat.pow_succ]
    have := x.isLt
    omega

theorem field_lt (b : Bytes) (off size : Nat) : field b off size < 256 ^ size :=
  (leNat_lt _).trans_le (Nat.pow_le_pow_right (by decide) (List.length_take_le ..))

theorem counter_in_window {d : OpDef} {c : Cmd} {s : State} (hauth : c.auth = true) (hpass : midFail d c s = none) :
    lastCounter s c.slot < c.counter ∧ c.counter ≤ lastCounter s c.slot + 2 ^ 20 := by
  by_contra hout
  obtain ⟨hsupply, hstale, -⟩ := middleStepsInOrder d c s
  have hfails : (c.auth && !(decide (lastCounter s c.slot < c.counter) && decide (c.counter ≤ lastCounter s c.slot + 2 ^ 20))) = true := by
    rw [hauth, ← Bool.decide_and, decide_eq_false hout]; rfl
  cases h : (c.auth || d.nMark) && s.pwr.nvInhibit with
  | true => nomatch hpass.symm.trans (hsupply h)
  | false => nomatch hpass.symm.trans (hstale h hfails)

theorem persist_of_auth {c : Cmd} (h : c.auth = true) (s : State) :
    persist c s = { s with nv := { s.nv with counters := s.nv.counters.set c.slot c.counter } } := if_pos h

theorem persist_of_plain {c : Cmd} (h : c.auth = false) (s : State) : persist c s = s := if_neg (by simp [h])

theorem installKey_of_carried {p k : Bytes} {s : State} (h : carriedKey p s = some k) :
    installKey p s = { s with nv := { s.nv with keys := s.nv.keys.set (field p 0 1) k, counters := s.nv.counters.set (field p 0 1) 0 } } := by
  simp only [installKey, h]

theorem negWrite_counters (cause : Nat) (data : Bytes) (s : State) : (negWrite cause data s).nv.counters = s.nv.counters := by
  rw [negWrite_frame]

theorem dbgClose_counters (reason : Nat) (s : State) : (dbgClose reason s).nv.counters = s.nv.counters := by
  unfold dbgClose; split <;> simp [negWrite_counters]

theorem lifecycleRecord_counters (new : Lifecycle) (slot : Nat) (rk : Bool) (minV : Nat) (s : State) :
    (lifecycleRecord new slot rk minV s).nv.counters = s.nv.counters :=
  (dbgClose_counters ..).trans (negWrite_counters ..)

/-- Settles O11: the window is step 10's test, and the rest are the writes of the table of counters, read back. -/
theorem counterWindowAndPersist : Obligations.CounterWindowAndPersist := by
  refine ⟨fun d c s hauth hpass => counter_in_window hauth hpass, fun c s hauth => ?persist, fun c s hplain => persist_of_plain hplain s,
    fun c o s => rfl, fun d c s h => judge_of_accepted h, fun c k s hk => ?install, fun c s => ?take⟩
  case persist =>
    rw [persist_of_auth hauth]
    exact ⟨field_lt _ 16 8, tab_get_set_same .., fun k hk => tab_get_set_other _ _ _ hk, rfl⟩
  case install =>
    rw [show (opInstallKey.run c s).2 = installKey c.params s from rfl, installKey_of_carried hk]
    exact ⟨tab_find_set_same .., tab_get_set_same .., fun j hj => tab_get_set_other _ _ _ hj⟩
  case take =>
    rw [show (opTakeOwnership.run c s).2 = takeOwnership c.params s from rfl]
    refine ⟨tab_find_set_same .., tab_get_set_same .., fun j hj => ?_⟩
    rw [lastCounter, takeOwnership, lifecycleRecord_counters]
    exact tab_get_set_other _ _ _ hj

/-! ### Refusals -/

/-- What a refusal may change: what delivers its reply, and the Negative with its part of MRAM (R81, R84). -/
def OnlyReplyAndRecord (s t : State) : Prop :=
  t = { s with mbx := t.mbx, irq := t.irq, out := t.out, neg := t.neg, nv := t.nv,
               core := { s.core with fwQueue := t.core.fwQueue }, gcp := { s.gcp with sbReply := t.gcp.sbReply } } ∧
  t.nv = { s.nv with slots := t.nv.slots, nextSeq := t.nv.nextSeq, lastChain := t.nv.lastChain, ringNext := t.nv.ringNext }

theorem refuse_frame (c : Cmd) (key : Option Bytes) (st : Nat) (r : Bytes) (s : State) :
    let t := refuse c key st r s
    t = { s with mbx := t.mbx, irq := t.irq, out := t.out, core := { s.core with fwQueue := t.core.fwQueue },
                 gcp := { s.gcp with sbReply := t.gcp.sbReply } } :=
  deliver_frame ..

@[simp] theorem refuse_nv (c : Cmd) (key : Option Bytes) (st : Nat) (r : Bytes) (s : State) : (refuse c key st r s).nv = s.nv :=
  deliver_nv ..

@[simp] theorem refuse_neg (c : Cmd) (key : Option Bytes) (st : Nat) (r : Bytes) (s : State) : (refuse c key st r s).neg = s.neg :=
  deliver_neg ..

/-- The record and event of a step-8 failure touch the Negative and the interrupt block. -/
theorem authRecord_frame (c : Cmd) (s : State) :
    let t := authRecord c s
    t = { s with irq := t.irq, out := t.out, neg := t.neg,
                 nv := { s.nv with slots := t.nv.slots, nextSeq := t.nv.nextSeq, lastChain := t.nv.lastChain, ringNext := t.nv.ringNext } } := by
  unfold authRecord; dsimp only
  rw [raise_frame, negWrite_frame]

theorem onlyReplyAndRecord_refuse (c : Cmd) (key : Option Bytes) (st : Nat) (r : Bytes) (s : State) :
    OnlyReplyAndRecord s (refuse c key st r s) := by
  rw [refuse_frame]
  exact ⟨rfl, rfl⟩

theorem onlyReplyAndRecord_refuse_authRecord (c : Cmd) (key : Option Bytes) (st : Nat) (r : Bytes) (s : State) :
    OnlyReplyAndRecord s (refuse c key st r (authRecord c s)) := by
  rw [refuse_frame, authRecord_frame]
  exact ⟨rfl, rfl⟩

/-- A judgement that is a refusal of the state itself leaves MRAM and the Negative alone. -/
theorem leaves_of_refuse {P : Prop} {c : Cmd} {key : Option Bytes} {st : Nat} {r : Bytes} {s t : State} (h : t = refuse c key st r s) :
    OnlyReplyAndRecord s t ∧ (P → t.nv = s.nv ∧ t.neg = s.neg) :=
  h ▸ ⟨onlyReplyAndRecord_refuse .., fun _ => ⟨refuse_nv .., refuse_neg ..⟩⟩

/-- Settles O12, by the first step that fails. -/
theorem refusedCommandLeavesOnlyItsReply : Obligations.RefusedCommandLeavesOnlyItsReply := by
  intro d c s t hrefused ht
  rw [← and_assoc]
  change OnlyReplyAndRecord s t ∧ _
  cases he : early (some d) c with
  | some st => exact leaves_of_refuse (ht.trans (judge_of_early he s))
  | none =>
    obtain ⟨hc, hfails⟩ := hrefused.resolve_left (absurd he)
    cases ha : authFail d c s with
    | some st =>
      have hjudged := ht.trans (judge_of_authFail he hc ha)
      by_cases hst : st = stAuthFailed
      · rw [if_pos hst] at hjudged
        exact ⟨hjudged ▸ onlyReplyAndRecord_refuse_authRecord .., fun hother => absurd (congrArg some hst) hother⟩
      · rw [if_neg hst] at hjudged
        exact leaves_of_refuse hjudged
    | none =>
      cases hm : midFail d c s with
      | some x => exact leaves_of_refuse (ht.trans (judge_of_midFail he hc ha hm))
      | none =>
        obtain ⟨hcheck, htrace⟩ := (hfails.resolve_left (absurd ha)).resolve_left (absurd hm)
        obtain ⟨x, hx⟩ := Option.ne_none_iff_exists'.mp hcheck
        have hjudged := ht.trans (judge_of_check he hc ha hm hx)
        rw [htrace] at hjudged
        exact leaves_of_refuse hjudged

end Sys2Proof.Machine
end

section
/-! SUPPORT. The bytes of a reply packet (R77) and the caches of replies (R88): ReplyPacketLayout, RepeatedPacketGetsTheCachedReply. -/

namespace Sys2Proof.Machine

/-! ### Little-endian fields one after another (R5) -/

/-- Fields of given sizes and values, one after another. -/
def fieldBytes (fs : List (Nat × Nat)) : Bytes := fs.flatMap (fun f => le f.1 f.2)

theorem fieldBytes_cons (f : Nat × Nat) (fs : List (Nat × Nat)) : fieldBytes (f :: fs) = le f.1 f.2 ++ fieldBytes fs := rfl

theorem fieldBytes_length (fs : List (Nat × Nat)) : (fieldBytes fs).length = (fs.map Prod.fst).sum := by
  induction fs with
  | nil => rfl
  | cons f fs ih => rw [fieldBytes_cons, List.length_append, le_length, ih, List.map_cons, List.sum_cons]

/-- A field that holds its value reads as it, behind the sizes of the fields before it. -/
theorem field_fieldBytes {fs : List (Nat × Nat)} (i : Nat) {off n v : Nat} (hi : fs[i]? = some (n, v)) (hv : v < 256 ^ n) (rest : Bytes)
    (hoff : ((fs.take i).map Prod.fst).sum = off := by simp) : field (fieldBytes fs ++ rest) off n = v := by
  induction fs generalizing i off with
  | nil => simp at hi
  | cons f fs ih =>
    subst hoff
    rw [fieldBytes_cons, List.append_assoc]
    cases i with
    | zero =>
      obtain rfl : f = (n, v) := by simpa using hi
      rw [List.take_zero, List.map_nil, List.sum_nil, field, List.drop_zero, take_le_append, leNat_le, Nat.mod_eq_of_lt hv]
    | succ i =>
      rw [List.take_succ_cons, List.map_cons, List.sum_cons, field, ← List.drop_drop, drop_le_append]
      exact ih i (by simpa using hi) rfl

/-! ### Reply packets (R77) -/

/-- The 32 header bytes of a reply. -/
def replyHeader (flags opcode seq status handle counter : Nat) (result : Bytes) (key : Option Bytes) (s : State) : Bytes :=
  fieldBytes [(1, 4), (1, flags ||| 2 ||| (if key.isSome then 1 else 0)), (2, opcode), (4, seq), (2, result.length), (2, status), (4, handle),
    (8, counter), (1, s.sys.mode.code), (1, s.pwr.state.code), (2, s.nv.timeGen), (4, crc32 result)]

theorem replyHeader_length (flags opcode seq status handle counter : Nat) (result : Bytes) (key : Option Bytes) (s : State) :
    (replyHeader flags opcode seq status handle counter result key s).length = 32 := by
  simp [replyHeader, fieldBytes_length]

/-- A reply is its header, its result and, under a key, the tag over both. -/
theorem replyPacket_eq (flags opcode seq status handle counter : Nat) (result : Bytes) (key : Option Bytes) (s : State) :
    let header := replyHeader flags opcode seq status handle counter result key s
    replyPacket flags opcode seq status handle counter result key s =
      header ++ (result ++ key.elim [] (fun k => Crypto.tag16 k (header ++ result))) := by
  cases key <;> simp [replyPacket, replyHeader, fieldBytes, b1, le]

theorem mode_code_lt (m : Mode) : m.code < 256 := by
  cases m <;> decide

theorem pstate_code_lt (p : PState) : p.code < 256 := by
  cases p <;> decide

theorem crc32_lt (b : Bytes) : crc32 b < 2 ^ 32 := BitVec.isLt _

theorem replyFlags_lt {flags : Nat} (h : flags < 256) (tagged : Bool) : flags ||| 2 ||| (if tagged then 1 else 0) < 2 ^ 8 :=
  Nat.or_lt_two_pow (Nat.or_lt_two_pow h (by decide)) (by cases tagged <;> decide)

/-- Settles O14: each field by its place in the header, then the result and the tag behind its 32 bytes. -/
theorem replyPacketLayout : Obligations.ReplyPacketLayout := by
  intro flags opcode seq status handle counter result key s hflags hopcode hseq hstatus hhandle hcounter hresult hgen
  dsimp only
  rw [replyPacket_eq]
  have hlength := replyHeader_length flags opcode seq status handle counter result key s
  generalize htag : key.elim [] (fun k => Crypto.tag16 k (replyHeader flags opcode seq status handle counter result key s ++ result)) = tag
  have htagLength : tag.length = if key.isSome then 16 else 0 := by
    subst htag; cases key <;> simp [tag16_length]
  refine ⟨field_fieldBytes 0 rfl (by decide) _, field_fieldBytes 1 rfl (replyFlags_lt hflags _) _, field_fieldBytes 2 rfl hopcode _,
    field_fieldBytes 3 rfl hseq _, field_fieldBytes 4 rfl hresult _, field_fieldBytes 5 rfl hstatus _,
    field_fieldBytes 6 rfl hhandle _, field_fieldBytes 7 rfl hcounter _, field_fieldBytes 8 rfl (mode_code_lt _) _,
    field_fieldBytes 9 rfl (pstate_code_lt _) _, field_fieldBytes 10 rfl hgen _, field_fieldBytes 11 rfl (crc32_lt _) _,
    ?body, ?size, ?trailer⟩
  case body =>
    rw [slice, List.drop_left' hlength, List.take_left]
  case size =>
    rw [List.length_append, List.length_append, hlength, htagLength, Nat.add_assoc]
  case trailer =>
    intro k hk
    subst hk
    rw [← List.append_assoc, List.drop_left' (by rw [List.length_append, hlength]), List.take_left' (by rw [List.length_append, hlength])]
    exact htag.symm

/-! ### The caches (R88) -/

theorem chan_modChan_same (t : Transport) (f : Chan → Chan) (s : State) : (modChan t f s).gcp.chan t = f (s.gcp.chan t) := by
  cases t <;> rfl

theorem chan_modChan_other {t u : Transport} (ht : t ≠ .firmware) (hu : u ≠ .firmware) (h : u ≠ t) (f : Chan → Chan) (s : State) :
    (modChan t f s).gcp.chan u = s.gcp.chan u := by
  cases t <;> cases u <;> simp_all [modChan, GcpSt.chan]

theorem via_ne_firmware (o : Origin) : via o ≠ .firmware := by
  cases o <;> simp [via]

theorem deliver_chan (o : Origin) (p : Bytes) (s : State) (u : Transport) : (deliver o p s).gcp.chan u = s.gcp.chan u := by
  rw [deliver_frame]
  cases u <;> rfl

theorem cached_of_auth {c : Cmd} (h : c.auth = true) (s : State) :
    cached? c s = (s.gcp.chan (via c.origin)).cache.find? (fun e => e.header == c.header && e.tag == c.tag) := if_pos h

theorem cached_of_plain {c : Cmd} (h : c.auth = false) (s : State) : cached? c s = none := if_neg (by simp [h])

/-- A cached reply found is one of the transport's, to an identical packet. -/
theorem mem_of_cached {c : Cmd} {s : State} {e : Cached} (h : cached? c s = some e) :
    e ∈ (s.gcp.chan (via c.origin)).cache ∧ e.header = c.header ∧ e.tag = c.tag := by
  cases hauth : c.auth with
  | false => rw [cached_of_plain hauth] at h; cases h
  | true =>
    rw [cached_of_auth hauth] at h
    exact ⟨List.mem_of_find?_eq_some h, by simpa using List.find?_some h⟩

theorem cached_isSome {c : Cmd} {s : State} {e : Cached} (hauth : c.auth = true) (hmem : e ∈ (s.gcp.chan (via c.origin)).cache)
    (hheader : e.header = c.header) (htag : e.tag = c.tag) : (cached? c s).isSome = true := by
  rw [cached_of_auth hauth, List.find?_isSome]
  exact ⟨e, hmem, by simp [hheader, htag]⟩

/-- A kept reply is the last of its transport's, of which 32 stay. -/
theorem keepReply_cache (c : Cmd) (key : Option Bytes) (p : Bytes) (s : State) :
    let cache := (s.gcp.chan (via c.origin)).cache
    ((keepReply c key p s).gcp.chan (via c.origin)).cache =
      (cache ++ [({ header := c.header, tag := c.tag, reply := if key.isSome then p.take (p.length - 16) else p, key := key } : Cached)]).drop
        (cache.length + 1 - 32) := by
  rw [keepReply, chan_modChan_same]
  simp only [List.length_append, List.length_singleton]

theorem bootStart_gcp (s : State) : (bootStart s).gcp = s.gcp := by
  unfold bootStart retireResume
  split
  · rfl
  · split <;> rfl

theorem perstAssert_gcp (s : State) : (perstAssert s).gcp = { s.gcp with pcie := { s.gcp.pcie with waiting := [], cache := [] } } := by
  rw [perstAssert, hostReset_frame]; rfl

/-- Settles O13, clause by clause: what `cached?` finds, what `keepReply` keeps, and what a delivery and the resets leave of the caches. -/
theorem repeatedPacketGetsTheCachedReply : Obligations.RepeatedPacketGetsTheCachedReply := by
  refine ⟨fun d c s e he hc => judge_of_cached he hc, fun c s e h => mem_of_cached h, fun c s e hauth hmem hh ht => cached_isSome hauth hmem hh ht,
    fun c key p s => ⟨keepReply_cache c key p s, fun u hu hfw => chan_modChan_other (via_ne_firmware _) hfw hu _ s⟩,
    fun c key st h r s => ?conclude, fun o p s u => congrArg Chan.cache (deliver_chan o p s u),
    fun c key st r s u => ⟨congrArg Chan.cache (deliver_chan ..), congrArg Nv.counters (refuse_nv ..)⟩, fun code data s u => ?reset,
    fun s t ht => ?perst⟩
  case conclude => rfl
  case reset =>
    rw [deviceReset, bootStart_gcp]
    cases u <;> rfl
  case perst =>
    obtain rfl : perstAssert s = t := Host.Outcome.next.inj ht
    rw [perstAssert_gcp]
    exact ⟨rfl, rfl, rfl⟩

end Sys2Proof.Machine
end

section
/-! SUPPORT. What the transport rows do beside bringing packets: the sideband's reads, the ring's indices and ENABLE, and the start deadline (R68, R69, R74, R75, R87, R530, R549): TransportRowsComplete. -/

namespace Sys2Proof.Machine

/-! ### The sideband (R74) -/

theorem sbRead_of_none {s : State} (h : s.gcp.sbReply = none) : sbRead s = s.send (.i2cReply (le 2 0)) := by
  simp only [sbRead, h]

theorem sbRead_of_some {s : State} {p : Bytes} (h : s.gcp.sbReply = some p) :
    sbRead s = s.send (.i2cReply (le 2 p.length ++ p ++ sbPec s true (le 2 p.length ++ p))) := by
  simp only [sbRead, h]

/-! ### Reply entries and ENABLE (R68, R530) -/

theorem repliesFreed_eq {s : State} (h : s.sys.perst = false) (ci : Byte) :
    repliesFreed ci.toNat s = pump (mbxDrain s.mbx.held.length { s with mbx := { s.mbx with rplCi := ci.toNat } }) := by
  simp only [repliesFreed, h, Bool.false_eq_true, if_false, Nat.mod_eq_of_lt ci.isLt]

/-- A reply entry is free unless the device's index is right behind the host's (R67). -/
theorem freeEntries_pos {m : Mbx} (hci : m.rplCi < 256) (h : (m.rplPi + 1) % 256 ≠ m.rplCi) : 0 < m.freeEntries := by
  unfold Mbx.freeEntries
  omega

theorem postRoom_of_free {s : State} (henable : s.mbx.enable = true) (hperst : s.sys.perst = false) (hd3 : s.sys.d3hot = false)
    (hdue : s.gcp.pcie.due = none) (hfree : 0 < s.mbx.freeEntries) : postRoom s = true := by
  simp [postRoom, henable, State.dma, hperst, hd3, State.reserved, hdue, hfree]

/-- A reply that is held alone is posted where there is room. -/
theorem mbxDrain_one {s : State} {p : Bytes} (hheld : s.mbx.held = [p]) (hroom : postRoom s = true) :
    mbxDrain 1 s = mbxPost p { s with mbx := { s.mbx with held := [] } } := by
  simp only [mbxDrain, hheld, hroom, if_true]

theorem ringsArm_off {s : State} (h : s.sys.perst = false) :
    ringsArm false s = { s with mbx := { s.mbx with enable := false }, gcp := { s.gcp with pcie := { s.gcp.pcie with waiting := [] } } } := by
  simp [ringsArm, h, modChan_pcie]

theorem ringsArm_on {s : State} (h : s.sys.perst = false) (henable : s.mbx.enable = false) :
    ringsArm true s = pump (mbxDrain s.mbx.held.length
      { s with mbx := { s.mbx with enable := true, cmdCi := s.mbx.cmdPi, rplPi := s.mbx.rplCi } }) := by
  simp [ringsArm, h, henable]

/-! ### Start deadlines (R87) -/

/-- A notice on a transport other than PCIe is delivered as a reply is. -/
theorem notify_eq_deliver {o : Origin} (h : via o ≠ .pcie) (p : Bytes) (s : State) : notify o p s = deliver o p s := by
  cases o with
  | pcie => exact absurd rfl h
  | inband => rfl
  | sideband => rfl

/-- The one waiting command of a transport other than PCIe leaves by its deadline. -/
theorem expire_only {t : Transport} {w : Waiting} {s : State} (ht : t ≠ .pcie) (hw : (s.gcp.chan t).waiting = [w]) :
    expire t 0 s = modChan t (fun ch => { ch with waiting := [] }) s := by
  cases t with
  | pcie => exact absurd rfl ht
  | inband => simp only [expire, modChan, GcpSt.chan] at hw ⊢; simp [hw]
  | sideband => simp only [expire, modChan, GcpSt.chan] at hw ⊢; simp [hw]
  | firmware => simp only [expire, modChan, GcpSt.chan] at hw ⊢; simp [hw]

theorem deadline_eq {t : Transport} {w : Waiting} {s : State} (hw : (s.gcp.chan t).waiting = [w]) (ht : t = .inband ∨ t = .sideband)
    (hfresh : w.expired = false) (htimeout : (Cmd.mk w.origin w.pkt).timeout ≠ 0) (hvia : via w.origin = t) :
    let u := modChan t (fun ch => { ch with waiting := [] }) (advanceTo (w.received + (Cmd.mk w.origin w.pkt).timeout * msTicks) s)
    deadline t 0 s = pump (deliver w.origin (expiredReply w u) u) := by
  have hpcie : t ≠ .pcie := by rintro rfl; simp at ht
  have hfirmware : t ≠ .firmware := by rintro rfl; simp at ht
  dsimp only
  rw [← expire_only hpcie (w := w) (by rwa [advanceTo_gcp]), ← notify_eq_deliver (hvia ▸ hpcie)]
  simp [deadline, hw, hfirmware, hfresh, htimeout]

/-- Nothing is left to start once a reply is delivered where nothing waited. -/
theorem pump_deliver (o : Origin) (p : Bytes) {s : State} (hpcie : s.gcp.pcie.waiting = []) (hinband : s.gcp.inband.waiting = [])
    (hsideband : s.gcp.sideband.waiting = []) (hpools : s.core.poolsHold = none) : pump (deliver o p s) = deliver o p s := by
  refine pump_none _ ?_ ?_ ?_ ?_ <;> rw [deliver_frame] <;> assumption

theorem startOn_late {t : Transport} {w : Waiting} {rest : List Waiting} {s : State} (ht : t ≠ .pcie) (hw : (s.gcp.chan t).waiting = w :: rest)
    (hfresh : w.expired = false) (hlate : w.late s.clk.now = true) :
    let u := modChan t (fun ch => { ch with waiting := rest }) s
    startOn t s = deliver w.origin (expiredReply w u) u := by
  have hclk : (modChan t (fun ch => { ch with waiting := rest }) s).clk.now = s.clk.now := rfl
  simp only [startOn, hw, if_neg ht, hfresh, Bool.false_eq_true, if_false, hclk, hlate, if_true]

/-- Settles O15, row by row: each is `live` of its operation, and where nothing waits the pump starts nothing. -/
theorem transportRowsComplete : Obligations.TransportRowsComplete := by
  refine ⟨fun s hheld => ?read, fun s hheld => live_next hheld _, ?freed, ?freedOne, fun v s hheld hperst hbit => ?off, ?on, ?deadline, ?late⟩
  case read =>
    cases h : s.gcp.sbReply with
    | none => exact live_eq hheld (sbRead_of_none h)
    | some p => exact live_eq hheld (sbRead_of_some h)
  case freed =>
    intro ci s hheld hperst hnone hpcie hinband hsideband hpools
    refine live_eq hheld ((repliesFreed_eq hperst ci).trans ?_)
    rw [hnone]
    exact pump_none _ hpcie hinband hsideband hpools
  case freedOne =>
    intro ci p s hheld hperst hd3 henable hone hdue hpcie hinband hsideband hpools hfree
    have hroom := postRoom_of_free (s := { s with mbx := { s.mbx with rplCi := ci.toNat } }) henable hperst hd3 hdue (freeEntries_pos ci.isLt hfree)
    refine live_eq hheld ((repliesFreed_eq hperst ci).trans ?_)
    rw [hone, List.length_singleton, mbxDrain_one (by exact hone) hroom]
    refine pump_none _ ?_ ?_ ?_ ?_ <;> rw [mbxPost_frame] <;> assumption
  case off =>
    exact live_eq hheld ((congrArg (ringsArm · s) hbit).trans (ringsArm_off hperst))
  case on =>
    intro v s hheld hperst hbit hdisabled hnone hpcie hinband hsideband hpools
    refine live_eq hheld ?_
    rw [hbit, ringsArm_on hperst hdisabled, hnone]
    exact pump_none _ hpcie hinband hsideband hpools
  case deadline =>
    intro t w s hheld ht hw hinband hsideband hpcie hfresh htimeout hvia hpools
    refine live_eq hheld ((deadline_eq hw ht hfresh htimeout hvia).trans ?_)
    obtain rfl | rfl := ht
    · exact pump_deliver _ _ (by simpa [modChan] using hpcie) rfl (by simpa [modChan] using hsideband) (by simpa [modChan] using hpools)
    · exact pump_deliver _ _ (by simpa [modChan] using hpcie) (by simpa [modChan] using hinband) rfl (by simpa [modChan] using hpools)
  case late =>
    intro w rest s hw hfresh htimeout hpast
    exact startOn_late (by simp) hw hfresh (by simp [Waiting.late, htimeout, hpast])

end Sys2Proof.Machine
end

section
/-! SUPPORT. The opcodes of firmware updates and of long-operation control (R92, R93, R518 to R523): FirmwareAndOperationOpcodes. -/

namespace Sys2Proof.Machine

theorem opResume_of_none {h : Nat} {s : State} (hop : s.op? h = none) : opResume h s = s := by
  simp only [opResume, hop]

/-- OP_RESUME withdraws a request to suspend or sends the work on, and leaves an operation in any other state (R92). -/
theorem opResume_of_some {h : Nat} {s : State} {o : Op} (hop : s.op? h = some o) :
    opResume h s = if o.state = .suspending ∨ o.state = .suspended then setOp { o.move .running s.clk.now with reason := .none } s else s := by
  simp only [opResume, hop]
  cases o.state <;> rfl

theorem opOpQuery_run (c : Cmd) (s : State) :
    opOpQuery.run c s = (.done (((s.op? c.handle).map (fun o => o.record s.clk.now)).getD []), s) := rfl

/-- Settles O27: each opcode's row runs the effect of its definition (`carries_row`). -/
theorem firmwareAndOperationOpcodes : Obligations.FirmwareAndOperationOpcodes := by
  intro g
  refine ⟨carries_row rfl (d := opFwStatus) rfl (by decide) rfl, carries_row rfl (d := opFwUpdate) rfl (by decide) rfl,
    carries_row rfl (d := opFwData) rfl (by decide) rfl, carries_row rfl (d := opOpQuery) rfl (by decide) ?query,
    carries_row rfl (d := opOpSuspend) rfl (by decide) rfl, carries_row rfl (d := opOpResume) rfl (by decide) ?resume,
    carries_row rfl (d := opOpCancel) rfl (by decide) rfl⟩
  case query =>
    funext c s
    rw [opOpQuery_run]
    cases s.op? c.handle <;> rfl
  case resume =>
    funext c s
    rw [show opOpResume.run c s = (.done [], opResume c.handle s) from rfl]
    cases hop : s.op? c.handle with
    | none => rw [opResume_of_none hop]
    | some o => rw [opResume_of_some hop]

end Sys2Proof.Machine
end

section
/-! SUPPORT. The rows at which long operations work, end and fail: one rule per row and case (R85, R91, R92, R426, R448, R450, R456, R470, R493, R520, R521), and OperationsWorkStepByStep. -/

namespace Sys2Proof.Machine

/-! ### Cancel and failure (R85, R91, R92) -/

section
variable {h : Nat} {s : State}

theorem exec_opCancelOutcome_of_none (hheld : s.held = false) (hop : s.op? h = none) : exec (.opCancelOutcome h) s = .next s := by
  rw [exec_opCancelOutcome, execOpCancelOutcome, live_next hheld]
  simp only [hop]

theorem exec_opCancelOutcome_of_some {o : Op} (hheld : s.held = false) (hop : s.op? h = some o) :
    exec (.opCancelOutcome h) s = .next (if o.state = .cancelling then opFinish h .cancelled 0 (opUndo h o.work s) else s) := by
  rw [exec_opCancelOutcome, execOpCancelOutcome, live_next hheld]
  simp only [hop]

theorem unrecoverable_zero (status : Nat) (f : InternalFault) (s : State) :
    unrecoverable 0 status f s = { s with gcp := { s.gcp with failing := some f } } := if_pos rfl

theorem unrecoverable_of_none (h0 : h ≠ 0) (hop : s.op? h = none) (status : Nat) (f : InternalFault) : unrecoverable h status f s = s := by
  simp only [unrecoverable, if_neg h0, hop]

theorem unrecoverable_of_some {o : Op} (h0 : h ≠ 0) (hop : s.op? h = some o) (status : Nat) (f : InternalFault) :
    unrecoverable h status f s = if o.state = .running then
      opFinish h .failed status (opUndo h o.work (if status = stInternal then (negInternal f 0 s).2 else s)) else s := by
  simp only [unrecoverable, if_neg h0, hop]

/-! ### Firmware updates (R520, R521) -/

theorem fwSector_of_none (hop : s.op? h = none) (dma : Bytes) (read : ImageFacts) : fwSector h dma read s = s := by
  simp only [fwSector, hop]

theorem fwExpire_of_none (hop : s.op? h = none) : fwExpire h s = s := by
  simp only [fwExpire, hop]

section
variable {o : Op} {w : FwWork} (hop : s.op? h = some o) (hwork : o.work = .fw w)
include hop hwork

/-- Nothing is written while the update does not work, under NV-inhibit, or where the host's memory cannot be read. -/
theorem fwSector_of_stopped (hstop : o.working = false ∨ s.pwr.nvInhibit = true ∨ (w.source = 0 ∧ s.dma = false)) (dma : Bytes)
    (read : ImageFacts) : fwSector h dma read s = s := by
  simp only [fwSector, hop, hwork]
  refine if_pos ?_
  obtain hw | hnv | ⟨hsource, hdma⟩ := hstop
  · simp [hw]
  · simp [hnv]
  · simp [hsource, hdma]

/-- A working update that may write is past its last sector, waits for data, or writes a sector. -/
theorem fwSector_of_working (hworks : o.working = true) (hnv : s.pwr.nvInhibit = false) (hdata : w.source ≠ 0 ∨ s.dma = true)
    (dma : Bytes) (read : ImageFacts) :
    fwSector h dma read s = if w.size ≤ w.written then fwEnd o w read s else if w.waits then suspendPoint h s else fwWrite o w dma read s := by
  simp only [fwSector, hop, hwork]
  refine if_neg ?_
  obtain hsource | hdma := hdata
  · simp [hworks, hnv, hsource]
  · simp [hworks, hnv, hdma]

theorem fwExpire_of_update :
    fwExpire h s = if o.state = .running ∧ w.waits = true then opFinish h .failed stBusy (advanceTo (w.lastData + 60 * secTicks) s) else s := by
  simp only [fwExpire, hop, hwork]

end

/-! ### Negative exports (R493, R494) -/

theorem exportStep_of_none (hop : s.op? h = none) : exportStep h s = s := by
  simp only [exportStep, hop]

/-- What ends with the last record writes its header, and the tag under its key, zeros where it has none. -/
theorem exportEnds_eq (h : Nat) (w : ExportWork) (s : State) :
    exportEnds h w s = opFinish h .done 0 ((s.send (.hostWrite w.addr w.header)).send (.hostWrite (w.addr + 64 + 64 * w.count)
      ((w.key.map (fun k => Crypto.tag16 k (w.header ++ w.copied))).getD (zeros 16)))) := by
  unfold exportEnds
  cases w.key <;> rfl

/-- A record copied is written behind those before it; with none left to copy the work is over. -/
theorem exportCopy_eq (h : Nat) (o : Op) (w : ExportWork) (seq : Nat) (r : Bytes) (s : State) :
    let v := { w with next := seq + 1, count := w.count + 1, copied := w.copied ++ r }
    let p := { o with units := o.units + 1, progress := (seq + 1 - w.first) * 10000 / w.span, work := .negExport v }
    let u := setOp p (s.send (.hostWrite (w.addr + 64 + 64 * w.count) r))
    exportCopy h o w seq r s = if exportNext v u = none then exportOver h p v u else suspendPoint h u := by
  simp only [exportCopy, Option.isNone_iff_eq_none]

section
variable {o : Op} {w : ExportWork} (hop : s.op? h = some o) (hwork : o.work = .negExport w)
include hop hwork

theorem exportStep_of_stopped (hstop : o.working = false ∨ s.dma = false) : exportStep h s = s := by
  simp only [exportStep, hop, hwork]
  refine if_pos ?_
  obtain hw | hdma := hstop
  · simp [hw]
  · simp [hdma]

theorem exportStep_of_last (hworks : o.working = true) (hdma : s.dma = true) (hnext : exportNext w s = none) :
    exportStep h s = exportOver h o w s := by
  simp [exportStep, hop, hwork, hworks, hdma, hnext]

theorem exportStep_of_next {seq : Nat} {r : Bytes} (hworks : o.working = true) (hdma : s.dma = true) (hnext : exportNext w s = some (seq, r)) :
    exportStep h s = exportCopy h o w seq r s := by
  simp [exportStep, hop, hwork, hworks, hdma, hnext]

end

/-! ### Traceability reports (R426) -/

theorem traceStep_of_none (hop : s.op? h = none) : traceStep h s = s := by
  simp only [traceStep, hop]

section
variable {o : Op} {w : TraceWork} (hop : s.op? h = some o) (hwork : o.work = .trace w)
include hop hwork

theorem traceStep_of_stopped (hstop : o.working = false) : traceStep h s = s := by
  simp [traceStep, hop, hwork, hstop]

theorem traceStep_of_working (hworks : o.working = true) (hunits : o.units < 64) :
    let v := { w with built := w.built ++ portTimeRecord s o.units }
    let u := setOp { o with units := o.units + 1, progress := (o.units + 1) * 10000 / 64, work := .trace v } s
    traceStep h s = if o.units = 63 ∧ o.state = .running then traceEnds h v u else suspendPoint h u := by
  have hlast : o.units + 1 = 64 ↔ o.units = 63 := by omega
  simp only [traceStep, hop, hwork, hworks, Bool.not_true, Bool.false_eq_true, if_false, if_neg (Nat.not_le.mpr hunits), traceOver, hlast, ite_and]

end

/-! ### The save of a sweep (R470) -/

theorem saveDone_of_none (hop : s.op? h = none) : saveDone h s = s := by
  simp only [saveDone, hop]

/-- A running sweep saves once every block has converged, where it is to save and NV-inhibit does not hold. -/
def SaveReady (o : Op) (w : SweepWork) (s : State) : Prop :=
  o.state = .running ∧ w.save = true ∧ s.pwr.nvInhibit = false ∧ ∀ i, w.first ≤ i → i < w.first + w.count → (s.cal i).converged = true

theorem blocks_all_iff (w : SweepWork) (p : Nat → Bool) : w.blocks.all p = true ↔ ∀ i, w.first ≤ i → i < w.first + w.count → p i = true := by
  simp only [SweepWork.blocks, List.all_eq_true, List.mem_map, List.mem_range]
  constructor
  · intro hall i hlow hhigh
    exact hall i ⟨i - w.first, by omega, by omega⟩
  · rintro hall _ ⟨k, hk, rfl⟩
    exact hall _ (by omega) (by omega)

theorem saveReady_iff (o : Op) (w : SweepWork) (s : State) :
    SaveReady o w s ↔ ¬ (o.state ≠ .running || !w.save || s.pwr.nvInhibit || !(w.blocks.all (fun i => (s.cal i).converged))) = true := by
  rw [SaveReady, ← blocks_all_iff w (fun i => (s.cal i).converged)]
  simp [and_assoc]

section
variable {o : Op} {w : SweepWork} (hop : s.op? h = some o) (hwork : o.work = .sweep w)
include hop hwork

theorem saveDone_of_unready (hready : ¬ SaveReady o w s) : saveDone h s = s := by
  simp only [saveDone, hop, hwork]
  exact if_pos (not_not.mp ((saveReady_iff o w s).not.mp hready))

theorem saveDone_of_saving {k : Nat} {b : Bytes} (hready : SaveReady o w s) (hsaving : w.saving = some (k, b)) :
    saveDone h s = opFinish h .done 0 (sweepClear w (contactCommit k b s)) := by
  simp only [saveDone, hop, hwork, hsaving]
  exact if_neg ((saveReady_iff o w s).mp hready)

theorem saveDone_of_unsaved (hready : SaveReady o w s) (hsaving : w.saving = none) :
    let c := contactBegin s
    saveDone h s = opFinish h .done 0 (sweepClear w (contactCommit c.1 c.2.1 c.2.2)) := by
  simp only [saveDone, hop, hwork, hsaving]
  exact if_neg ((saveReady_iff o w s).mp hready)

end

/-! ### Measurement windows (R448, R450, R456) -/

section
variable {e : Nat}

theorem windowClose_of_idle (h : (∀ a b k, (s.engine e).role ≠ .claimed a b k) ∨ (s.engine e).meter = none) : windowClose e s = s := by
  unfold windowClose
  split
  next a b k m hrole hmeter => exact (h.elim (fun hfree => hfree a b k hrole) (fun hnone => nomatch hmeter.symm.trans hnone)).elim
  next => rfl

theorem startExpire_of_idle (h : (∀ a b k, (s.engine e).role ≠ .claimed a b k) ∨ (s.engine e).meter = none) : startExpire e s = s := by
  unfold startExpire
  split
  next a b k m hrole hmeter => exact (h.elim (fun hfree => hfree a b k hrole) (fun hnone => nomatch hmeter.symm.trans hnone)).elim
  next => rfl

variable {a b k : Nat} {m : Meter} (hrole : (s.engine e).role = .claimed a b k) (hmeter : (s.engine e).meter = some m)
include hrole hmeter

theorem windowClose_of_unstarted (hstart : m.startStamp = none) : windowClose e s = suspendPoint k s := by
  simp [windowClose, hrole, hmeter, hstart]

theorem windowClose_of_started (hstart : m.startStamp ≠ none) :
    windowClose e s = if k = 0 then measured e m 0 (advanceTo m.closeAt s) else sampleClose e k m (advanceTo m.closeAt s) := by
  simp [windowClose, hrole, hmeter, hstart]

theorem startExpire_of_settled (h : m.granted = false ∨ m.startStamp ≠ none) : startExpire e s = s := by
  simp only [startExpire, hrole, hmeter]
  refine if_pos ?_
  obtain hwaits | hstart := h
  · simp [hwaits]
  · simp [Option.isSome_iff_ne_none, hstart]

theorem startExpire_of_interval (hgranted : m.granted = true) (hstart : m.startStamp = none) (hk : k = 0) :
    startExpire e s = measured e m 1 (advanceTo (m.waitFrom 0 + m.waitMs * msTicks) s) := by
  simp [startExpire, hrole, hmeter, hgranted, hstart, hk]

theorem startExpire_of_run {o : Op} (hgranted : m.granted = true) (hstart : m.startStamp = none) (hk : k ≠ 0) (hop : s.op? k = some o)
    (hruns : o.state = .running) :
    startExpire e s = opFinish k .failed stBusy (statsRelease k e (advanceTo (m.waitFrom o.since + m.waitMs * msTicks) s)) := by
  simp [startExpire, hrole, hmeter, hgranted, hstart, hk, hop, hruns]

end

end

/-- Settles O53, row by row: each is `live` of its operation, whose rule above says what it does to an operation of its kind in that state. -/
theorem operationsWorkStepByStep : Obligations.OperationsWorkStepByStep := by
  intro h s hheld
  refine ⟨fun st f => live_eq hheld (unrecoverable_zero ..), fun hop => ?none, fun o hop => ?some,
    fun e => ⟨fun hidle => ?idle, fun a b k m hrole hmeter => ?claimed⟩⟩
  case none =>
    exact ⟨exec_opCancelOutcome_of_none hheld hop, fun h0 st f => live_eq hheld (unrecoverable_of_none h0 hop ..),
      fun dma read => live_eq hheld (fwSector_of_none hop ..), live_eq hheld (fwExpire_of_none hop), live_eq hheld (exportStep_of_none hop),
      live_eq hheld (traceStep_of_none hop), live_eq hheld (saveDone_of_none hop)⟩
  case some =>
    refine ⟨exec_opCancelOutcome_of_some hheld hop, fun h0 st f => live_eq hheld (unrecoverable_of_some h0 hop ..), fun w dma read hwork => ?update,
      fun w hwork => ?copies, fun w hwork => ?report, fun w hwork => ?save⟩
    case update =>
      refine ⟨fun hstop => live_eq hheld (fwSector_of_stopped hop hwork hstop ..), fun hworks hnv hdata => ?sector,
        fun hruns hwaits => live_eq hheld ((fwExpire_of_update hop hwork).trans (if_pos ⟨hruns, hwaits⟩)), fun hother => ?unexpired⟩
      case sector =>
        have hsector := fwSector_of_working hop hwork hworks hnv hdata dma read
        refine ⟨fun hfull hruns => live_eq hheld (hsector.trans ((if_pos hfull).trans (if_pos hruns))), fun hleft hwaits => ?waits,
          fun hleft hready => ?writes⟩
        case waits =>
          exact live_eq hheld (hsector.trans ((if_neg (Nat.not_le.mpr hleft)).trans (if_pos hwaits)))
        case writes =>
          have hwrite := hsector.trans ((if_neg (Nat.not_le.mpr hleft)).trans (if_neg (ne_true_of_eq_false hready)))
          exact ⟨fun hmore => live_eq hheld (hwrite.trans (if_neg (Nat.not_le.mpr hmore))),
            fun hfull hruns => live_eq hheld (hwrite.trans ((if_pos hfull).trans (if_pos hruns)))⟩
      case unexpired =>
        refine live_eq hheld ((fwExpire_of_update hop hwork).trans (if_neg ?_))
        rintro ⟨hruns, hwaits⟩
        simp [hruns, hwaits] at hother
    case copies =>
      refine ⟨fun hstop => live_eq hheld (exportStep_of_stopped hop hwork hstop), fun hworks hdma hnext hruns =>
        live_eq hheld ((exportStep_of_last hop hwork hworks hdma hnext).trans ((if_pos hruns).trans (exportEnds_eq ..))),
        fun seq r hworks hdma hnext => live_eq hheld ((exportStep_of_next hop hwork hworks hdma hnext).trans (exportCopy_eq ..))⟩
    case report =>
      exact ⟨fun hstop => live_eq hheld (traceStep_of_stopped hop hwork hstop),
        fun hworks hunits => live_eq hheld (traceStep_of_working hop hwork hworks hunits)⟩
    case save =>
      exact ⟨fun hready => live_eq hheld (saveDone_of_unready hop hwork hready),
        fun k b hready hsaving => live_eq hheld (saveDone_of_saving hop hwork hready hsaving),
        fun hready hsaving => live_eq hheld (saveDone_of_unsaved hop hwork hready hsaving)⟩
  case idle =>
    exact ⟨live_eq hheld (windowClose_of_idle hidle), live_eq hheld (startExpire_of_idle hidle)⟩
  case claimed =>
    exact ⟨fun hstart => live_eq hheld (windowClose_of_unstarted hrole hmeter hstart),
      fun hstart hk => live_eq hheld ((windowClose_of_started hrole hmeter hstart).trans (if_pos hk)),
      fun hstart hk => live_eq hheld ((windowClose_of_started hrole hmeter hstart).trans (if_neg hk)),
      fun hsettled => live_eq hheld (startExpire_of_settled hrole hmeter hsettled),
      fun hgranted hstart hk => live_eq hheld (startExpire_of_interval hrole hmeter hgranted hstart hk),
      fun o hgranted hstart hk hop hruns => live_eq hheld (startExpire_of_run hrole hmeter hgranted hstart hk hop hruns)⟩

end Sys2Proof.Machine
end

section
/-! SUPPORT. What a step may do to the owner's part (R98 to R107), and KeysFitTheLifecycleAlways, KeysFitAtReset, LifecycleNeverGoesBack, OnlyPacketsReachTheOwnersPart. -/

namespace Sys2Proof.Machine

/-- A step takes the owner's part forward and keeps the keys fit: it is an idle period or the command at the front of the queue, and the queue itself is no part of what belongs to the owner. -/
theorem step_owner_forward {s t : State} (h : step s = .next t) : OwnerForward s t ∧ (KeysFit s → KeysFit t) := by
  cases hq : s.pending with
  | nil => exact (live_forward ((step_of_empty hq).symm.trans h) idleTick_forward).2
  | cons c rest => exact (exec_forward ((stepRunsTheFrontCommand.1 c s rest hq).symm.trans h)).2

/-- Settles O4, by what one step may do to the owner's part. -/
theorem keysFitTheLifecycleAlways : Obligations.KeysFitTheLifecycleAlways :=
  fun _ _ hfit h => (step_owner_forward h).2 hfit

/-- Settles O5: the fields of the state after reset. -/
theorem keysFitAtReset : Obligations.KeysFitAtReset := ⟨rfl, rfl, rfl⟩

/-- Settles O6, by what one step may do to the owner's part. -/
theorem lifecycleNeverGoesBack : Obligations.LifecycleNeverGoesBack :=
  fun _ _ h => (step_owner_forward h).1

/-- Settles O7, row by row (`exec_kept_of_quiet`). -/
theorem onlyPacketsReachTheOwnersPart : Obligations.OnlyPacketsReachTheOwnersPart :=
  fun _ _ _ hop hruns h => exec_kept_of_quiet hop hruns h

end Sys2Proof.Machine
end

section
/-! SUPPORT. The opcodes of group 0x02 (R507, R508), the retirement they begin (R101, R102), and SecurityOpcodesDoWhatTheySay, RetirementErasesAndKeepsRk. -/

namespace Sys2Proof.Machine

/-- Settles O17: each opcode's row runs the effect of its definition (`carries_row`). -/
theorem securityOpcodesDoWhatTheySay : Obligations.SecurityOpcodesDoWhatTheySay := by
  intro g
  exact ⟨carries_row rfl (d := opGetSecurityStatus) rfl (by decide) rfl, carries_row rfl (d := opTakeOwnership) rfl (by decide) rfl,
    carries_row rfl (d := opInstallKey) rfl (by decide) rfl, carries_row rfl (d := opRevokeKey) rfl (by decide) rfl,
    carries_row rfl (d := opSetOwnerPolicy) rfl (by decide) rfl, carries_row rfl (d := opLockDevice) rfl (by decide) rfl,
    carries_row rfl (d := opSetMinVersion) rfl (by decide) rfl, carries_row rfl (d := opRetireDevice) rfl (by decide) rfl,
    carries_row rfl (d := opDebugChallenge) rfl (by decide) rfl, carries_row rfl (d := opDebugUnlock) rfl (by decide) rfl,
    carries_row rfl (d := opDebugClose) rfl (by decide) rfl⟩

/-! ### Retirement -/

/-- RK stays where it is stored, and else is the retirement key of K0, where there is a K0 (R101). -/
theorem retireSequence_eq (s : State) :
    retireSequence s = { s with nv := { s.nv with
      rk := (match s.nv.rk with
             | some r => some r
             | none => (keyOf s 0).map retireKey),
      keys := [], counters := [], ownerPolicy := false, ownerHash := zeros 48, lifecycle := .retired, retiring := false } } := by
  unfold retireSequence
  cases s.nv.rk with
  | some r => rfl
  | none => cases keyOf s 0 <;> rfl

theorem retireResume_of_marked {s : State} (hmark : s.nv.retiring = true) (hnv : s.pwr.nvInhibit = false) :
    retireResume s = retireSequence s := by
  simp [retireResume, hmark, hnv]

theorem retireResume_of_inhibited {s : State} (h : s.pwr.nvInhibit = true) : retireResume s = s := by
  simp [retireResume, h]

/-- Settles O18: the sequence by whether RK is stored, and its resumption by the marker and NV-inhibit. -/
theorem retirementErasesAndKeepsRk : Obligations.RetirementErasesAndKeepsRk := by
  intro s
  refine ⟨retireSequence_eq s, fun hheld hmark hnv => ?resumed, fun h => ?unchanged⟩
  case resumed =>
    exact (if_neg (ne_true_of_eq_false hheld)).trans (retireResume_of_marked hmark hnv)
  case unchanged =>
    obtain hmark | hnv := h
    · exact bootStart_of_unmarked hmark
    · rw [bootStart, retireResume_of_inhibited hnv, ite_self]

end Sys2Proof.Machine
end

section
/-! SUPPORT. The test access port: when it runs, and an instruction by the open debug level (R110, R550); and TestPortActsAtItsLevel. -/

namespace Sys2Proof.Machine

section
variable {s : State}

theorem tap_of_down (h : s.sys.auxDown = true) (f : State → State) : tap s f = .next s := by
  simp [tap, h]

theorem tap_of_up (h : s.sys.auxDown = false) (f : State → State) : tap s f = .next (f s) := by
  simp [tap, h]

/-- Above the open level an instruction is BYPASS, and else it acts where it is selected. -/
theorem tapAt_eq (level code : Nat) (f : State → State) (s : State) :
    tapAt level code f s = if debugLevel s < level then tapSelect 0xFF s else f (tapSelect code s) := by
  by_cases h : debugLevel s < level
  · rw [if_pos h, tapAt, if_neg (Nat.not_le.mpr h)]
  · rw [if_neg h, tapAt, if_pos (Nat.not_lt.mp h)]

/-- An instruction of a level on a port that runs. -/
theorem tap_tapAt_of_up (h : s.sys.auxDown = false) (level code : Nat) (f : State → State) :
    tap s (tapAt level code f) = .next (if debugLevel s < level then tapSelect 0xFF s else f (tapSelect code s)) := by
  rw [tap_of_up h, tapAt_eq]

/-! ### The two instructions that stop at their level -/

theorem exec_dbgWrite_below (h : s.sys.auxDown = true ∨ debugLevel s < 2) (addr : BitVec 64) (data : BitVec 32) :
    exec (.dbgWrite addr data) s = tap s (tapSelect 0xFF) := by
  rw [exec_dbgWrite, execDbgWrite, if_neg]
  obtain hdown | hlevel := h
  · simp [hdown]
  · simp [Nat.not_le.mpr hlevel]

theorem exec_dbgWrite_open (hup : s.sys.auxDown = false) (hlevel : 2 ≤ debugLevel s) (addr : BitVec 64) (data : BitVec 32) :
    exec (.dbgWrite addr data) s = .refused .debugSpaceWrite := by
  rw [exec_dbgWrite, execDbgWrite, if_pos]
  simp [hup, hlevel]

theorem exec_factoryTest_below (h : s.sys.auxDown = true ∨ debugLevel s < 3) (c : Fin 16) :
    exec (.factoryTest c) s = tap s (tapSelect 0xFF) := by
  rw [exec_factoryTest, execFactoryTest, if_neg]
  obtain hdown | hlevel := h
  · simp [hdown]
  · simp [Nat.not_le.mpr hlevel]

theorem exec_factoryTest_open (hup : s.sys.auxDown = false) (hlevel : 3 ≤ debugLevel s) (c : Fin 16) :
    exec (.factoryTest c) s = .fault .factoryTest := by
  rw [exec_factoryTest, execFactoryTest, if_pos]
  simp [hup, hlevel]

end

/-- Settles O56: each row is `tap` of its instruction, and the two that stop do so on a running port at their level. -/
theorem testPortActsAtItsLevel : Obligations.TestPortActsAtItsLevel := by
  intro s
  refine ⟨fun hdown pins cells n addr data c => ?down, fun hup => ?up⟩
  case down =>
    have hidle := tap_of_down hdown
    exact ⟨(exec_idcode s).trans (hidle _), hidle _, (exec_sample pins s).trans (hidle _), hidle _, hidle _, hidle _, hidle _, (exec_dbgWrite_below (.inl hdown) addr data).trans (hidle _),
      hidle _, (exec_factoryTest_below (.inl hdown) c).trans (hidle _), hidle _⟩
  case up =>
    have hruns := tap_of_up hup
    have hlevel := tap_tapAt_of_up hup
    refine ⟨(exec_idcode s).trans (hruns _), hruns _, hruns _, fun pins => (exec_sample pins s).trans (hruns _), fun cells => hlevel .., hlevel .., fun n => ⟨_, ?traceLength, hlevel ..⟩,
      fun addr => ⟨_, ?readLength, hlevel ..⟩, hlevel .., fun addr data hbelow => (exec_dbgWrite_below (.inr hbelow) addr data).trans (hruns _),
      fun addr data hopen => exec_dbgWrite_open hup hopen addr data, fun c hbelow => (exec_factoryTest_below (.inr hbelow) c).trans (hruns _),
      fun c hopen => exec_factoryTest_open hup hopen c⟩
    case traceLength => simp
    case readLength => exact le_length 13 _

end Sys2Proof.Machine
end

section
/-! SUPPORT. The opcodes of ports and lanes (R145 to R151, R510, R511): PortAndLaneOpcodesDoWhatTheySay. -/

namespace Sys2Proof.Machine

/-- Settles O19: each opcode's row runs the effect of its definition (`carries_row`). -/
theorem portAndLaneOpcodesDoWhatTheySay : Obligations.PortAndLaneOpcodesDoWhatTheySay := by
  intro g
  exact ⟨carries_row rfl (d := opPortConfig) rfl (by decide) rfl, carries_row rfl (d := opPortSetState) rfl (by decide) rfl,
    carries_row rfl (d := opPortStatus) rfl (by decide) rfl, carries_row rfl (d := opLaneMap) rfl (by decide) rfl,
    carries_row rfl (d := opLaneTxEq) rfl (by decide) rfl, carries_row rfl (d := opLaneRxEq) rfl (by decide) rfl,
    carries_row rfl (d := opLaneStatus) rfl (by decide) rfl, carries_row rfl (d := opLaneTest) rfl (by decide) rfl,
    carries_row rfl (d := opLaneTestResult) rfl (by decide) rfl⟩

end Sys2Proof.Machine
end

section
/-! SUPPORT. What the loss detectors and adaptation do to a lane and its port (R133, R136, R137), and LaneDetectorsAndAdaptation. -/

namespace Sys2Proof.Machine

section
variable {l : Nat} {s : State}

/-! ### Loss of signal and of lock -/

theorem assertLol_of_lol (h : (s.lane l).lol = true) : assertLol l s = s := if_pos h

theorem assertLol_of_locked (h : (s.lane l).lol = false) :
    assertLol l s = prefLoss l (modLane l (fun r => { r with lol := true, converged := false, lolCount := wrapAdd 32 r.lolCount 1 }) s) :=
  if_neg (ne_true_of_eq_false h)

theorem losAssert_of_los (h : (s.lane l).los = true) : losAssert l s = s := if_pos h

/-- LOS on a lane that has LOL: only LOS is new (R137). -/
theorem losAssert_of_lol (hlos : (s.lane l).los = false) (hlol : (s.lane l).lol = true) :
    losAssert l s = portLaneLoss l true (modLane l (fun r => { r with los := true, losCount := wrapAdd 32 r.losCount 1 }) s) := by
  rw [losAssert, if_neg (ne_true_of_eq_false hlos), assertLol_of_lol]
  rw [lane_modLane_same, hlol]

/-- LOS on a lane that has lock forces LOL in the same step (R137). -/
theorem losAssert_of_locked (hlos : (s.lane l).los = false) (hlol : (s.lane l).lol = false) :
    losAssert l s = portLaneLoss l true (prefLoss l (modLane l (fun r => { r with
      los := true, losCount := wrapAdd 32 r.losCount 1, lol := true, converged := false, lolCount := wrapAdd 32 r.lolCount 1 }) s)) := by
  rw [losAssert, if_neg (ne_true_of_eq_false hlos), assertLol_of_locked, modLane_modLane]
  rw [lane_modLane_same, hlol]

theorem lolAssert_of_lol (h : (s.lane l).lol = true) : lolAssert l s = s := if_pos h

theorem lolAssert_of_locked (h : (s.lane l).lol = false) :
    lolAssert l s = portLaneLoss l false
      (prefLoss l (modLane l (fun r => { r with lol := true, converged := false, lolCount := wrapAdd 32 r.lolCount 1 }) s)) := by
  rw [lolAssert, if_neg (ne_true_of_eq_false h), assertLol_of_locked h]

theorem exec_lolClear_of_los {l : Fin 256} (hheld : s.held = false) (h : (s.lane l).los = true) : exec (.lolClear l) s = .next s := by
  rw [exec_lolClear, execLolClear, live_next hheld, if_pos h]

theorem exec_lolClear_of_signal {l : Fin 256} (hheld : s.held = false) (h : (s.lane l).los = false) :
    exec (.lolClear l) s = .next (modLane l (fun r => { r with lol := false }) s) := by
  rw [exec_lolClear, execLolClear, live_next hheld, if_neg (ne_true_of_eq_false h)]

theorem portLaneLoss_of_unused (h : (s.port (l / 4)).rxLanes.contains (l % 4) = false) (los : Bool) : portLaneLoss l los s = s :=
  if_pos (by rw [h, Bool.not_false])

/-! ### Adaptation (R133) -/

theorem dfeClamp_in_span (i : Nat) (v : Int) :
    if i = 0 then -128 ≤ dfeClamp i v ∧ dfeClamp i v ≤ 127 else -64 ≤ dfeClamp i v ∧ dfeClamp i v ≤ 64 := by
  unfold dfeClamp
  split_ifs <;> omega

variable (ctle : Nat) (dfe : List Int) (conv : Bool) (corrected : Nat) (offset : Int)

theorem adaptUpdate_lane_other {k : Nat} (h : k ≠ l) : (adaptUpdate l ctle dfe conv corrected offset s).lane k = s.lane k :=
  lane_modLane_other s h _

/-- What an update leaves in the lane's record. -/
theorem adaptUpdate_lane_same : (adaptUpdate l ctle dfe conv corrected offset s).lane l =
    { s.lane l with
      ctle := if (s.lane l).ctleFrozen then (s.lane l).ctle else ctle,
      dfe := if (s.lane l).dfeFrozen then (s.lane l).dfe
        else (List.range 12).map (fun i => dfeClamp i (dfe.getD i ((s.lane l).dfe.getD i 0))),
      converged := conv && !(s.lane l).lol, fecCorrected := wrapAdd 64 (s.lane l).fecCorrected corrected, freqOffset := clampInt 32 offset } :=
  lane_modLane_same s l _

theorem adaptUpdate_dfe_frozen (h : (s.lane l).dfeFrozen = true) :
    ((adaptUpdate l ctle dfe conv corrected offset s).lane l).dfe = (s.lane l).dfe := by
  rw [adaptUpdate_lane_same]
  exact if_pos h

theorem adaptUpdate_dfe_free (h : (s.lane l).dfeFrozen = false) :
    ((adaptUpdate l ctle dfe conv corrected offset s).lane l).dfe =
      (List.range 12).map (fun i => dfeClamp i (dfe.getD i ((s.lane l).dfe.getD i 0))) := by
  rw [adaptUpdate_lane_same]
  exact if_neg (ne_true_of_eq_false h)

theorem adaptUpdate_dfe_in_span (h : (s.lane l).dfeFrozen = false) {i : Nat} {v : Int}
    (hv : ((adaptUpdate l ctle dfe conv corrected offset s).lane l).dfe[i]? = some v) :
    if i = 0 then -128 ≤ v ∧ v ≤ 127 else -64 ≤ v ∧ v ≤ 64 := by
  rw [adaptUpdate_dfe_free ctle dfe conv corrected offset h, List.getElem?_map, Option.map_eq_some_iff] at hv
  obtain ⟨j, hj, rfl⟩ := hv
  obtain ⟨-, rfl⟩ := List.getElem?_eq_some_iff.mp hj
  rw [List.getElem_range]
  exact dfeClamp_in_span i _

end

/-- Settles O38, row by row: each is `live` of its operation, whose rule above says what it does to a lane in that state. -/
theorem laneDetectorsAndAdaptation : Obligations.LaneDetectorsAndAdaptation := by
  intro l s hheld
  refine ⟨fun h => live_eq hheld (losAssert_of_los h), fun hlos hlol => live_eq hheld (losAssert_of_lol hlos hlol),
    fun hlos hlol => live_eq hheld (losAssert_of_locked hlos hlol), fun h => live_eq hheld (lolAssert_of_lol h),
    fun h => live_eq hheld (lolAssert_of_locked h), fun b t h => portLaneLoss_of_unused h b, live_next hheld (losClears l.val),
    exec_lolClear_of_los hheld, exec_lolClear_of_signal hheld,
    fun ctle dfe conv corrected offset h => live_eq hheld (if_neg (ne_true_of_eq_false h)),
    fun ctle dfe conv corrected offset h => ?update⟩
  case update =>
    have hlane := adaptUpdate_lane_same (l := l.val) (s := s) ctle.val dfe conv corrected offset
    refine ⟨adaptUpdate l.val ctle.val dfe conv corrected offset s, live_eq hheld (if_pos h), rfl,
      fun k hk => adaptUpdate_lane_other ctle.val dfe conv corrected offset hk, congrArg LaneRec.ctle hlane,
      adaptUpdate_dfe_frozen ctle.val dfe conv corrected offset,
      fun hfree => ⟨?length, fun i v => adaptUpdate_dfe_in_span ctle.val dfe conv corrected offset hfree⟩,
      congrArg LaneRec.converged hlane, congrArg LaneRec.fecCorrected hlane⟩
    case length =>
      rw [adaptUpdate_dfe_free ctle.val dfe conv corrected offset hfree, List.length_map, List.length_range]

end Sys2Proof.Machine
end

section
/-! SUPPORT. A change to several lanes of a port, what the rows of Ethernet bring-up do (R139 to R144, R151), and EthernetBringUpMovesInOrder. -/

namespace Sys2Proof.Machine

/-! ### The lanes of a port, changed one after another -/

theorem gLane_injective (p : Nat) : Function.Injective (gLane p) := fun _ _ h => Nat.add_left_cancel h

section
variable (p : Nat) (f : Nat → LaneRec → LaneRec)

theorem foldl_modLane_frame (ls : List Nat) (s : State) :
    ls.foldl (fun s l => modLane (gLane p l) (f l) s) s =
      { s with lanes := (ls.foldl (fun s l => modLane (gLane p l) (f l) s) s).lanes } := by
  induction ls generalizing s with
  | nil => rfl
  | cons l ls ih => rw [List.foldl_cons, ih]; rfl

theorem port_foldl_modLane (ls : List Nat) (s : State) (q : Nat) :
    (ls.foldl (fun s l => modLane (gLane p l) (f l) s) s).port q = s.port q := by
  rw [foldl_modLane_frame, State.port, State.port]

theorem lane_foldl_modLane_other {l : Nat} {ls : List Nat} (h : l ∉ ls) (s : State) :
    (ls.foldl (fun s l => modLane (gLane p l) (f l) s) s).lane (gLane p l) = s.lane (gLane p l) := by
  induction ls generalizing s with
  | nil => rfl
  | cons k ls ih =>
    rw [List.foldl_cons, ih (List.not_mem_of_not_mem_cons h), lane_modLane_other s ((gLane_injective p).ne (List.ne_of_not_mem_cons h))]

/-- Where no lane is listed twice, each listed lane is changed once. -/
theorem lane_foldl_modLane_mem {l : Nat} {ls : List Nat} (hnd : ls.Nodup) (hl : l ∈ ls) (s : State) :
    (ls.foldl (fun s l => modLane (gLane p l) (f l) s) s).lane (gLane p l) = f l (s.lane (gLane p l)) := by
  induction ls generalizing s with
  | nil => exact absurd hl List.not_mem_nil
  | cons k ls ih =>
    obtain ⟨hk, hnd⟩ := List.nodup_cons.mp hnd
    rw [List.foldl_cons]
    obtain rfl | hl := List.mem_cons.mp hl
    · rw [lane_foldl_modLane_other p f hk, lane_modLane_same]
    · rw [ih hnd hl, lane_modLane_other s ((gLane_injective p).ne (ne_of_mem_of_not_mem hl hk))]

end

theorem rxLanes_nodup (r : PortRec) : r.rxLanes.Nodup := by
  unfold PortRec.rxLanes
  split_ifs <;> simp

theorem usedLanes_nodup (r : PortRec) : r.usedLanes.Nodup := List.nodup_range.filter _

/-! ### Training and adaptation end (R132, R139) -/

section
variable (p : Nat) (s : State)

theorem trainingDone_frame (taps : List (List Int)) :
    trainingDone p taps s = { s with ports := (trainingDone p taps s).ports, lanes := (trainingDone p taps s).lanes } := by
  unfold trainingDone
  rw [foldl_modLane_frame]
  rfl

theorem trainingDone_st (taps : List (List Int)) : ((trainingDone p taps s).port p).st = .align := by
  rw [trainingDone, port_modPort_same]

theorem trainingDone_taps (taps : List (List Int)) {l : Nat} (hl : l ∈ (s.port p).usedLanes) :
    ((trainingDone p taps s).lane (gLane p l)).taps =
      if (s.lane (gLane p l)).txTrained && tapsOk (taps.getD l []) then taps.getD l [] else (s.lane (gLane p l)).taps :=
  congrArg LaneRec.taps (lane_foldl_modLane_mem p _ (usedLanes_nodup _) hl s)

/-- The port is in ALIGN, and every lane it receives on has converged. -/
def adaptDone : State :=
  (s.port p).rxLanes.foldl (fun s l => modLane (gLane p l) (fun r => { r with converged := true }) s) (modPort p (fun r => { r with st := .align }) s)

theorem adaptDone_frame : adaptDone p s = { s with ports := (adaptDone p s).ports, lanes := (adaptDone p s).lanes } := by
  unfold adaptDone
  rw [foldl_modLane_frame]
  rfl

theorem adaptDone_st : ((adaptDone p s).port p).st = .align := by
  rw [adaptDone, port_foldl_modLane, port_modPort_same]

theorem adaptDone_converged {l : Nat} (hl : l ∈ (s.port p).rxLanes) : ((adaptDone p s).lane (gLane p l)).converged = true :=
  congrArg LaneRec.converged (lane_foldl_modLane_mem p _ (rxLanes_nodup _) hl _)

end

section
variable {p : Port} {s : State}

theorem exec_adaptConverged_locked (hheld : s.held = false) (hst : ethIn s p .adapt = true) (hlock : lolLanes s p = []) :
    exec (.adaptConverged p) s = .next (adaptDone p s) :=
  live_eq hheld (if_pos (by rw [hst, hlock]; rfl))

theorem exec_adaptConverged_else (hheld : s.held = false) (h : ethIn s p .adapt = false ∨ lolLanes s p ≠ []) :
    exec (.adaptConverged p) s = .next s := by
  refine live_eq hheld (if_neg ?_)
  rw [Bool.and_eq_true, List.isEmpty_iff]
  rintro ⟨hst, hlock⟩
  exact h.elim (fun hother => ne_true_of_eq_false hother hst) (fun hlol => hlol hlock)

theorem exec_moduleRemoved_eq (hheld : s.held = false) : exec (.moduleRemoved p) s =
    .next (if (s.port p).module.ready then moduleEvent p (moduleGone p s) else moduleGone p s) := by
  rw [exec_moduleRemoved, execModuleRemoved, live_next hheld]

/-! ### A lane test runs out (R151) -/

theorem exec_laneTestDurationExpiry_running (hheld : s.held = false) (hrun : (s.port p).test.state = 1) (hlimit : (s.port p).test.duration ≠ 0) :
    exec (.laneTestDurationExpiry p) s =
      .next (laneTestEnd p (advanceTo ((s.port p).test.started + (s.port p).test.duration * msTicks) s)) :=
  live_eq hheld (if_pos (by simp [hrun, hlimit]))

theorem exec_laneTestDurationExpiry_else (hheld : s.held = false) (h : (s.port p).test.state ≠ 1 ∨ (s.port p).test.duration = 0) :
    exec (.laneTestDurationExpiry p) s = .next s := by
  refine live_eq hheld (if_neg ?_)
  simp only [Bool.and_eq_true, decide_eq_true_eq, bne_iff_ne]
  exact fun ⟨hrun, hlimit⟩ => h.elim (fun hne => hne hrun) hlimit

end

/-- Settles O39, row by row: each is `live` of its operation, and those that touch several lanes are taken by the rules above. -/
theorem ethernetBringUpMovesInOrder : Obligations.EthernetBringUpMovesInOrder := by
  intro p s hheld
  refine ⟨?ready, live_next hheld _, ?trainingElse, ?training, live_next hheld _, ?adapted, exec_adaptConverged_else hheld, live_next hheld _,
    ?locked, live_next hheld _, live_next hheld _, ?faultEnds, ?measured, live_next hheld _, live_next hheld _, live_next hheld _,
    exec_moduleRemoved_eq hheld, exec_laneTestDurationExpiry_running hheld, exec_laneTestDurationExpiry_else hheld⟩
  case ready => exact live_next hheld (fun s => ethTry p (moduleFound p s))
  case trainingElse => exact fun taps h => live_eq hheld (if_neg (ne_true_of_eq_false h))
  case training =>
    exact fun taps h => ⟨trainingDone p taps s, live_eq hheld (if_pos h), trainingDone_st p s taps, trainingDone_frame p s taps,
      fun l hl => trainingDone_taps p s taps hl⟩
  case adapted =>
    exact fun hst hlock => ⟨adaptDone p s, exec_adaptConverged_locked hheld hst hlock, adaptDone_st p s, adaptDone_frame p s,
      fun l hl => adaptDone_converged p s hl⟩
  case locked => exact fun lat => live_next hheld _
  case faultEnds => exact fun lat => live_next hheld _
  case measured => exact fun lat t => rfl

end Sys2Proof.Machine
end

section
/-! SUPPORT. What a port's moves count and raise (R139, R142, R149), and PortMovesCountAndReport. -/

namespace Sys2Proof.Machine

section
variable (p cause lane : Nat) (st : PortSt) (s : State)

theorem enterBackoff_port_same : (enterBackoff p cause lane s).port p =
    { s.port p with st := .backoff, cause := cause, downLane := lane, attempts := min 65535 ((s.port p).attempts + 1) } :=
  port_modPort_same s p _

theorem enterBackoff_port_other {q : Nat} (h : q ≠ p) : (enterBackoff p cause lane s).port q = s.port q := port_modPort_other s h _

/-- The entry to UP or ACTIVE is reported with the port's last cause and lane, and with no attempts (R149). -/
theorem enterUp_eq : enterUp p st s = raise 64 p (b1 (s.port p).cause ++ b1 (s.port p).downLane ++ le 2 0)
    (modPort p (fun r => { r with st := st, attempts := 0, upCount := wrapAdd 32 r.upCount 1 }) s) := by
  rw [enterUp, linkEvent, linkData, port_modPort_same]

theorem enterUp_ports : (enterUp p st s).ports =
    (modPort p (fun r => { r with st := st, attempts := 0, upCount := wrapAdd 32 r.upCount 1 }) s).ports :=
  raise_ports ..

/-- A move that is reported carries the cause and the lane it is made with. -/
theorem linkEvent_moveTo (c : Nat) : linkEvent c p (moveTo p st cause lane s) =
    raise c p (b1 cause ++ b1 lane ++ le 2 ((moveTo p st cause lane s).port p).attempts) (moveTo p st cause lane s) := by
  rw [linkEvent, linkData, moveTo, port_modPort_same]

variable {p s}

/-- Leaving UP or ACTIVE: the down rule comes first, then the count and the move, and the move is reported (R142). -/
theorem leaveUp_of_up (h : (s.port p).isUp = true) :
    let u := modPort p (fun r => { r with downCount := wrapAdd 32 r.downCount 1, st := st, cause := cause, downLane := lane }) (downRule p s)
    leaveUp p st cause lane s = raise 65 p (b1 cause ++ b1 lane ++ le 2 (u.port p).attempts) u := by
  rw [leaveUp, if_pos h, linkEvent_moveTo, moveTo, modPort_modPort]

/-- Leaving any other state counts nothing, and only FAULT is reported. -/
theorem leaveUp_of_not_up (h : (s.port p).isUp = false) :
    let u := moveTo p st cause lane s
    leaveUp p st cause lane s = if (s.port p).st = .fault then raise 65 p (b1 cause ++ b1 lane ++ le 2 (u.port p).attempts) u else u := by
  rw [leaveUp, if_neg (ne_true_of_eq_false h), linkEvent_moveTo]

end

/-- The back-off wait stays at 2,560 ms from the ninth attempt on (R139). -/
theorem backoffMs_of_le {k : Nat} (h : 9 ≤ k) : backoffMs k = 2560 := by
  have hexp : min (k - 1) 8 = 8 := by omega
  rw [backoffMs, if_neg (by omega), hexp]
  rfl

/-- Settles O40, move by move. -/
theorem portMovesCountAndReport : Obligations.PortMovesCountAndReport := by
  refine ⟨fun p cause lane s => ?backoff, fun p st s => ⟨enterUp_eq p st s, enterUp_ports p st s⟩,
    fun p cause lane st s => leaveUp_of_up cause lane st, fun p cause lane st s => leaveUp_of_not_up cause lane st,
    rfl, rfl, rfl, fun k => backoffMs_of_le⟩
  case backoff =>
    have hport := enterBackoff_port_same p cause lane s
    exact ⟨rfl, congrArg PortRec.st hport, congrArg PortRec.cause hport, congrArg PortRec.downLane hport,
      congrArg PortRec.attempts hport, fun q => enterBackoff_port_other p cause lane s⟩

end Sys2Proof.Machine
end

section
/-! SUPPORT. The opcodes of Dalom links, classes, flow control and modules (R189 to R201, R210 to R218), and what a module transfer comes to: LinkAndModuleOpcodesDoWhatTheySay. -/

namespace Sys2Proof.Machine

/-! ### Module transfers (R218) -/

theorem moduleBusy_absent {p : Nat} {s : State} (h : (s.port p).module.present = false) : moduleBusy p s = some (stBusy, b1 1) := by
  simp [moduleBusy, h]

section
variable {p : Nat} {s : State} (hpresent : (s.port p).module.present = true)
include hpresent

theorem moduleBusy_acknowledged (h : (Config.moduleBus s.free).val = 0) : moduleBusy p s = none := by
  simp [moduleBusy, hpresent, h]

theorem moduleBusy_unacknowledged (h : (Config.moduleBus s.free).val = 1) : moduleBusy p s = some (stBusy, b1 2) := by
  simp [moduleBusy, hpresent, h]

theorem moduleBusy_bus_low {n : Nat} (h : (Config.moduleBus s.free).val = n + 2) : moduleBusy p s = some (stBusy, b1 3) := by
  simp [moduleBusy, hpresent, h]

end

/-- A transfer whose parameters are good is refused, if at all, for its module or its bus. -/
theorem moduleCheck_of_ok {ok : Bytes → Bool} {c : Cmd} (h : ok c.params = true) (s : State) :
    moduleCheck ok c s = moduleBusy (field c.params 0 1) s := by
  simp [moduleCheck, h, prm0]

section
variable {i : Instr} {op : Nat} {g : Gcp} {d : OpDef} {s : State}

/-- An opcode's row whose packet arrives is the judgement of that packet. -/
theorem exec_judged (hop : opcodeOf i = some (op, g)) (hdef : defOf op = some d) (hlt : op < 65536) (harr : Arrives op g s) :
    exec i s = .next (judge (some d) (arrivedCmd op g) (arrivedState op g s)) := by
  rw [arrivingPacketIsJudgedAtOnce.1 i op g s hop harr, present_opcode op g hlt, hdef]

/-- What a module transfer with good parameters comes to: done where its module answers on the bus, else BUSY with the reason; either way one draw is used. -/
theorem exec_moduleTransfer (hop : opcodeOf i = some (op, g)) (hdef : defOf op = some d) (hlt : op < 65536) {ok : Bytes → Bool}
    (hcheck : d.check = moduleCheck ok) (htrace : d.trace = fun _ s => s.draw) (hafter : d.after = fun s => s)
    (harr : Arrives op g s) (hsound : (arrivedState op g s).gcp.failing = none) (hjudged : JudgedTo14 d (arrivedCmd op g) (arrivedState op g s))
    (hok : ok (arrivedCmd op g).params = true) {a : Answer} {t : State}
    (hrun : d.run (arrivedCmd op g) (persist (arrivedCmd op g) (arrivedState op g s)) = (a, t)) :
    let c := arrivedCmd op g
    let u := arrivedState op g s
    let busy (why : Nat) : State := refuse c (replyKey c (replyTag c u) u) stBusy (b1 why) u.draw
    exec i s = .next (
      if (u.port (field c.params 0 1)).module.present = false then busy 1
      else match (Config.moduleBus u.free).val with
        | 0 => answer c (replyTag c u) a t
        | 1 => busy 2
        | _ => busy 3) := by
  intro c u busy
  obtain ⟨hearly, hcached, hauth, hmid⟩ := hjudged
  rw [exec_judged hop hdef hlt harr]
  have hwhy : d.check c u = moduleBusy (field c.params 0 1) u := by rw [hcheck, moduleCheck_of_ok hok]
  have hrefused : ∀ why, moduleBusy (field c.params 0 1) u = some (stBusy, b1 why) → judge (some d) c u = busy why := by
    intro why h
    rw [judge_of_check hearly hcached hauth hmid (hwhy.trans h), htrace]
  cases hpresent : (u.port (field c.params 0 1)).module.present with
  | false => rw [if_pos rfl, hrefused 1 (moduleBusy_absent hpresent)]
  | true =>
    rw [if_neg (by decide)]
    match hbus : (Config.moduleBus u.free).val with
    | 0 =>
      have hfree := hwhy.trans (moduleBusy_acknowledged hpresent hbus)
      rw [judge_of_accepted ⟨hsound, hearly, hcached, hauth, hmid, hfree⟩, hafter, hrun]
      rfl
    | 1 => exact congrArg _ (hrefused 2 (moduleBusy_unacknowledged hpresent hbus))
    | n + 2 => exact congrArg _ (hrefused 3 (moduleBusy_bus_low hpresent hbus))

end

/-- Where a command's counter is persisted, the port's channel is selected as before. -/
theorem muxSelect_persist (p : Nat) (c : Cmd) (s : State) :
    muxSelect p (persist c s) = { persist c s with out := (muxSelect p s).out } := by
  unfold persist
  split <;> rfl

theorem persist_free (c : Cmd) (s : State) : (persist c s).free = s.free := by
  unfold persist
  split <;> rfl

theorem opModuleRead_run (c : Cmd) (s : State) :
    opModuleRead.run c (persist c s) = (.done ((List.range (field c.params 4 2)).map (fun i => Config.moduleByte s.free i)),
      { persist c s with out := .moduleI2c (field c.params 0 1) false (slice c.params 1 5) :: (muxSelect (field c.params 0 1) s).out, free := s.free + 1 }) := by
  change (Answer.done ((List.range (field c.params 4 2)).map (fun i => Config.moduleByte (persist c s).free i)),
    ((muxSelect (field c.params 0 1) (persist c s)).send (.moduleI2c (field c.params 0 1) false (slice c.params 1 5))).draw) = _
  rw [muxSelect_persist, persist_free, ← persist_free c s]
  rfl

theorem opModuleWrite_run (c : Cmd) (s : State) :
    opModuleWrite.run c (persist c s) = (.done [],
      { persist c s with out := .moduleI2c (field c.params 0 1) true (slice c.params 1 5 ++ c.params.drop 8) :: (muxSelect (field c.params 0 1) s).out, free := s.free + 1 }) := by
  change (Answer.done [],
    ((muxSelect (field c.params 0 1) (persist c s)).send (.moduleI2c (field c.params 0 1) true (slice c.params 1 5 ++ c.params.drop 8))).draw) = _
  rw [muxSelect_persist, ← persist_free c s]
  rfl

/-- Settles O20: each opcode's row runs the effect of its definition (`carries_row`), and the two module transfers are judged by their module and bus. -/
theorem linkAndModuleOpcodesDoWhatTheySay : Obligations.LinkAndModuleOpcodesDoWhatTheySay := by
  intro g
  refine ⟨carries_row rfl (d := opDlkConfig) rfl (by decide) rfl, carries_row rfl (d := opDlkDelay) rfl (by decide) rfl,
    carries_row rfl (d := opDlkStatus) rfl (by decide) rfl, carries_row rfl (d := opClassMap) rfl (by decide) rfl,
    carries_row rfl (d := opFlowControl) rfl (by decide) rfl, carries_row rfl (d := opPortDelay) rfl (by decide) rfl,
    carries_row rfl (d := opLosslessBudget) rfl (by decide) rfl, carries_row rfl (d := opEcnConfig) rfl (by decide) rfl,
    carries_row rfl (d := opLosslessStatus) rfl (by decide) rfl, fun s harr hsound hjudged hok => ?read,
    fun s harr hsound hjudged hok => ?write, carries_row rfl (d := opModuleControl) rfl (by decide) rfl,
    carries_row rfl (d := opModuleBus) rfl (by decide) rfl⟩
  case read =>
    exact exec_moduleTransfer (i := .moduleRead g) rfl (d := opModuleRead) rfl (by decide) rfl rfl rfl harr hsound hjudged hok (opModuleRead_run _ _)
  case write =>
    exact exec_moduleTransfer (i := .moduleWrite g) rfl (d := opModuleWrite) rfl (by decide) rfl rfl rfl harr hsound hjudged hok (opModuleWrite_run _ _)

end Sys2Proof.Machine
end

section
/-! SUPPORT. What the returns, the CAP content and the CAP queue may change of a link, the state in which EXCHANGE starts, the lock of a lane that trains in the background (R170, R177, R180, R185, R187); and DalomBringUpMovesInOrder. -/

namespace Sys2Proof.Machine

/-! ### Returns, CAP content and CAP queue (R168, R181, R185) -/

/-- A link with the returns, hold-backs, CAP content and waiting CAPs of another record. -/
def Dlk.withReturnsOf (d e : Dlk) : Dlk :=
  { d with returned := e.returned, creditDue := e.creditDue, heldBack := e.heldBack, owedDirect := e.owedDirect, held4 := e.held4,
           own := e.own, caps := e.caps }

/-- Of a state nothing but these parts of one link has changed. -/
structure OnlyReturnsAndCaps (p : Nat) (s t : State) : Prop where
  frame : t = { s with dlks := t.dlks }
  link : t.dlk p = (s.dlk p).withReturnsOf (t.dlk p)

section
variable {p : Nat} {s t u : State}

theorem OnlyReturnsAndCaps.refl (p : Nat) (s : State) : OnlyReturnsAndCaps p s s := ⟨rfl, rfl⟩

theorem OnlyReturnsAndCaps.trans (hst : OnlyReturnsAndCaps p s t) (htu : OnlyReturnsAndCaps p t u) : OnlyReturnsAndCaps p s u where
  frame := htu.frame.trans (by rw [hst.frame])
  link := htu.link.trans (by rw [hst.link]; rfl)

/-- A change of the link's record that touches none of its other parts. -/
theorem OnlyReturnsAndCaps.of_modDlk {f : Dlk → Dlk} (s : State) (h : ∀ d, f d = d.withReturnsOf (f d) := by intro d; rfl) :
    OnlyReturnsAndCaps p s (modDlk p f s) where
  frame := rfl
  link := by rw [dlk_modDlk_same]; exact h _

end

theorem returnDirect_onlyReturns (p c n : Nat) (s : State) : OnlyReturnsAndCaps p s (returnDirect p c n s) := by
  unfold returnDirect
  split
  · exact .of_modDlk s
  · exact .of_modDlk s

theorem holdBack_onlyReturns (p k : Nat) (s : State) : OnlyReturnsAndCaps p s (holdBack p k s) := by
  refine OnlyReturnsAndCaps.trans (List.foldlRecOn _ _ (.refl p s) fun t hst c _ => hst.trans ?_) (.of_modDlk _)
  dsimp only
  split_ifs
  · exact .refl p t
  · exact .of_modDlk t
  · exact .trans (.of_modDlk t) (returnDirect_onlyReturns ..)

theorem refreshOwn_onlyCaps (p : Nat) (s : State) : OnlyReturnsAndCaps p s (refreshOwn p s) := by
  unfold refreshOwn
  dsimp only
  split_ifs
  · exact .refl p s
  · exact .of_modDlk s

theorem queueCap_onlyCaps (p kind lane : Nat) (block : Bytes) (s : State) : OnlyReturnsAndCaps p s (queueCap p kind lane block s) :=
  .of_modDlk s (fun d => by split_ifs <;> rfl)

/-- After it is queued, or found waiting already, a CAP of its kind waits. -/
theorem queueCap_waits (p kind lane : Nat) (block : Bytes) (s : State) : ∃ b ∈ ((queueCap p kind lane block s).dlk p).caps, b.1 = kind := by
  rw [queueCap, dlk_modDlk_same]
  split_ifs with hwaiting
  · simp only [Bool.and_eq_true, List.any_eq_true, beq_iff_eq] at hwaiting
    exact hwaiting.2
  · exact ⟨(kind, lane, block), by simp, rfl⟩

@[simp] theorem refreshOwn_held4 (p : Nat) (s : State) : ((refreshOwn p s).dlk p).held4 = (s.dlk p).held4 := by
  unfold refreshOwn
  dsimp only
  split_ifs <;> simp

@[simp] theorem queueCap_held4 (p kind lane : Nat) (block : Bytes) (s : State) :
    ((queueCap p kind lane block s).dlk p).held4 = (s.dlk p).held4 := by
  rw [queueCap, dlk_modDlk_same]
  split_ifs <;> rfl

theorem holdBack_held4 (p k : Nat) (s : State) : ((holdBack p k s).dlk p).held4 = k := by
  rw [holdBack, dlk_modDlk_same]

/-! ### EXCHANGE starts (R177) -/

/-- A link as striping starts on the locked lanes, before the hold-back and the first CAP. -/
def Dlk.striping (d : Dlk) (locked : Nat) (grants : List Nat) : Dlk :=
  let low := lowestBit 4 locked % 4
  { d with rxGood := locked, txActive := locked, txTime := low, rxTime := low, depLane := low, arrLane := low,
           tileNo := 0, rxTileNo := 16, partner := none, returned := [], carried := [], returnsSeen := [],
           accounted := [], recovered := [], consumed := [], taken := [], heldBack := [], shrinkHeld := [], owed := [],
           owedDirect := [], available := [], held4 := 4, delayValid := false,
           rxBuf := [], rxAt := firstSlot d locked, rxDone := 0, rxStripe := 0, slotBase := 16, degrades := [],
           trains := fourLanes.foldl (fun t l => if locked.testBit l then t else t.modify DlkTrain.reset l DlkTrain.again) d.trains,
           bgState := fourLanes.foldl (fun t l => if locked.testBit l then t else t.set l 1) [], bgAttempts := [],
           own := { d.own with grant := grants, ack := 0xFFFF } }

/-- The port goes to EXCHANGE, and striping starts with the grants of R170. -/
def stripingStarts (p locked : Nat) (s : State) : State :=
  let s := modPort p (fun r => { r with st := .exchange }) s
  let grants := (List.range 8).map (fun c => if creditClass s p c then grantOf (s.fc p c).target else 0)
  modDlk p (fun d => d.striping locked grants) s

theorem exchangeEnter_eq (p k : Nat) (s : State) :
    exchangeEnter p k s = queueCap p 0 0 [] (refreshOwn p (holdBack p (popcount 4 k) (stripingStarts p k s))) := rfl

theorem exchangeEnter_onlyReturnsAndCaps (p k : Nat) (s : State) : OnlyReturnsAndCaps p (stripingStarts p k s) (exchangeEnter p k s) :=
  ((holdBack_onlyReturns ..).trans (refreshOwn_onlyCaps ..)).trans (queueCap_onlyCaps ..)

theorem exchangeEnter_held4 (p k : Nat) (s : State) : ((exchangeEnter p k s).dlk p).held4 = popcount 4 k := by
  rw [exchangeEnter_eq, queueCap_held4, refreshOwn_held4, holdBack_held4]

/-- EXCHANGE is entered with the link's record as striping starts, but for its returns and CAPs. -/
theorem exchangeEnter_link (p k : Nat) (s : State) :
    ∃ grants, (exchangeEnter p k s).dlk p = ((s.dlk p).striping k grants).withReturnsOf ((exchangeEnter p k s).dlk p) :=
  ⟨_, (exchangeEnter_onlyReturnsAndCaps p k s).link.trans (by rw [stripingStarts, dlk_modDlk_same]; rfl)⟩

theorem exchangeEnter_ports (p k : Nat) (s : State) :
    (exchangeEnter p k s).ports = (modPort p (fun r => { r with st := .exchange }) s).ports := by
  rw [(exchangeEnter_onlyReturnsAndCaps p k s).frame]
  rfl

theorem stripingStarts_frame (p k : Nat) (s : State) :
    stripingStarts p k s =
      { s with ports := (modPort p (fun r => { r with st := .exchange }) s).ports, dlks := (stripingStarts p k s).dlks } := rfl

theorem exchangeEnter_frame (p k : Nat) (s : State) :
    exchangeEnter p k s = { s with ports := (exchangeEnter p k s).ports, dlks := (exchangeEnter p k s).dlks } := by
  have hframe := (exchangeEnter_onlyReturnsAndCaps p k s).frame
  rw [stripingStarts_frame, ← exchangeEnter_ports p k s] at hframe
  exact hframe

theorem exchangeEnter_port (p k q : Nat) (s : State) :
    (exchangeEnter p k s).port q = (modPort p (fun r => { r with st := .exchange }) s).port q := by
  rw [State.port, exchangeEnter_ports]
  rfl

/-! ### A lane that trains in the background (R180, R187) -/

theorem mem_fourLanes {k : Nat} : k ∈ fourLanes ↔ k < 4 := List.mem_range (m := k) (n := 4)

/-- May lane `l` return to receive service: out of it, not waiting for its next try, its training complete, and locked by R180? -/
def Relocks (s : State) (p l : Nat) : Prop :=
  let d := s.dlk p
  stripes (s.port p) = true ∧ d.rxGood.testBit l = false ∧ d.bgState.get 0 l ≠ 2 ∧ (d.train l).complete = true ∧
    (s.lane (rxLaneOf s p l)).lol = false ∧ 8 ≤ (d.train l).run8 ∧ (d.train l).marked = true ∧
    ∀ k, k < 4 → d.rxGood.testBit k = true → skewOk s p l k = true

/-- `laneRelock` tests that the lane may not. -/
theorem relocks_iff {s : State} {p l : Nat} :
    Relocks s p l ↔ (!stripes (s.port p) || (s.dlk p).rxGood.testBit l || (s.dlk p).bgState.get 0 l == 2 || !((s.dlk p).train l).complete ||
      !laneReady s p l || !fourLanes.all (fun k => !(s.dlk p).rxGood.testBit k || skewOk s p l k)) = false := by
  simp [Relocks, laneReady, mem_fourLanes, and_assoc, or_iff_not_imp_left]

theorem laneRelock_unready {s : State} {p l : Nat} (h : ¬ Relocks s p l) : laneRelock p l s = s :=
  if_pos (eq_true_of_ne_false (mt relocks_iff.mpr h))

theorem laneRelock_ready {s : State} {p l : Nat} (h : Relocks s p l) :
    laneRelock p l s = queueCap p 1 0 [] (refreshOwn p (modDlk p (fun d =>
      { d with rxGood := setBit d.rxGood l, readmitWait := setBit d.readmitWait l, bgState := d.bgState.erase l,
               bgAttempts := d.bgAttempts.erase l, trains := d.trains.modify DlkTrain.reset l DlkTrain.again }) s)) :=
  if_neg (ne_true_of_eq_false (relocks_iff.mp h))

/-! ### Rows (R177, R187) -/

/-- A lane out of service that has reached a limit: counted, it waits, and starts over. -/
def laneBacksOff (p l : Nat) (s : State) : State :=
  modDlk p (fun d => { d with laneRetries := wrapAdd 16 d.laneRetries 1, bgState := d.bgState.set l 2,
                              bgAttempts := d.bgAttempts.modify 0 l (· + 1), trains := d.trains.modify DlkTrain.reset l DlkTrain.again }) s

/-- The event tells of the lanes as they were: backing off changes none of those in service. -/
theorem dlkEvent_laneBacksOff (c q l : Nat) (s : State) : dlkEvent c q (laneBacksOff q l s) = raise c q (dlkData (s.dlk q)) (laneBacksOff q l s) := by
  rw [dlkEvent, laneBacksOff, dlk_modDlk_same]
  rfl

section
variable {p : Port} {s : State} (hheld : s.held = false)
include hheld

theorem exec_dlkTrainingComplete_eq : exec (.dlkTrainingComplete p) s = .next (
    if (s.port p).st = .dlkTrain ∧ trainedMask s p ≠ 0 ∧ trainedMask s p = losClear s p then lockEnter p (trainedMask s p) s else s) := by
  rw [exec_dlkTrainingComplete, execDlkTrainingComplete, live_next hheld]

theorem exec_dlkTrainTimeout_elsewhere (h : (s.port p).st ≠ .dlkTrain) (half : Bool) : exec (.dlkTrainTimeout p half) s = .next s := by
  rw [exec_dlkTrainTimeout, execDlkTrainTimeout, live_next hheld]
  exact congrArg _ (if_pos h)

theorem exec_dlkTrainTimeout_train (h : (s.port p).st = .dlkTrain) (half : Bool) : exec (.dlkTrainTimeout p half) s = .next (
    if (s.dlk p).minLanes ≤ popcount 4 (trainedMask s p) then lockEnter p (trainedMask s p) s
    else dlkBackoff p (if half then 11 else 9) 0xFF s) := by
  rw [exec_dlkTrainTimeout, execDlkTrainTimeout, live_next hheld]
  exact congrArg _ (if_neg (not_not.mpr h))

theorem exec_dlkLanesLocked_eq (lock : BitVec 4) : exec (.dlkLanesLocked p lock) s = .next (
    if (s.port p).st = .lock ∧ lockedMask s p lock.toNat = (s.dlk p).trained ∧ lockedMask s p lock.toNat ≠ 0
    then exchangeEnter p (lockedMask s p lock.toNat) s else s) := by
  rw [exec_dlkLanesLocked, execDlkLanesLocked, live_next hheld]

theorem exec_dlkLockTimeout_elsewhere (h : (s.port p).st ≠ .lock) (lock : BitVec 4) : exec (.dlkLockTimeout p lock) s = .next s := by
  rw [exec_dlkLockTimeout, execDlkLockTimeout, live_next hheld]
  exact congrArg _ (if_pos h)

theorem exec_dlkLockTimeout_lock (h : (s.port p).st = .lock) (lock : BitVec 4) : exec (.dlkLockTimeout p lock) s = .next (
    if (s.dlk p).minLanes ≤ popcount 4 (lockedMask s p lock.toNat) then exchangeEnter p (lockedMask s p lock.toNat) s
    else dlkBackoff p 9 0xFF s) := by
  rw [exec_dlkLockTimeout, execDlkLockTimeout, live_next hheld]
  exact congrArg _ (if_neg (not_not.mpr h))

theorem exec_dlkExchangeTimeout_eq : exec (.dlkExchangeTimeout p) s =
    .next (if (s.port p).st = .exchange then dlkBackoff p 9 0xFF s else s) := by
  rw [exec_dlkExchangeTimeout, execDlkExchangeTimeout, live_next hheld]

theorem exec_dlkCapExchangeTx_eq : exec (.dlkCapExchangeTx p) s =
    .next (if (s.port p).st = .exchange then queueCap p 0 0 [] (refreshOwn p s) else s) := by
  rw [exec_dlkCapExchangeTx, execDlkCapExchangeTx, live_next hheld]

theorem exec_dlkBackoffExpiry_eq : exec (.dlkBackoffExpiry p) s = .next (
    if (s.port p).st = .backoff ∧ (s.port p).cfg.dalom = true then
      dlkTry p (modDlk p dlkFresh (modPort p (fun r => { r with st := .detect }) (linkEvent 66 p s)))
    else s) := by
  rw [exec_dlkBackoffExpiry, execDlkBackoffExpiry, live_next hheld]

theorem exec_laneRetry_idle {l : Fin 4} (h : stripes (s.port p) = false ∨ (s.dlk p).rxGood.testBit l = true ∨ (s.dlk p).bgState.get 1 l = 2) :
    exec (.laneRetry p l) s = .next s := by
  rw [exec_laneRetry, execLaneRetry, live_next hheld]
  refine congrArg _ (if_neg ?_)
  rintro ⟨hstripes, hout, htries⟩
  obtain h | h | h := h
  · exact ne_true_of_eq_false h hstripes
  · exact ne_true_of_eq_false ((Bool.not_eq_true' _).mp hout) h
  · exact htries h

theorem exec_laneRetry_backsOff {l : Fin 4} (hstripes : stripes (s.port p) = true) (hout : (s.dlk p).rxGood.testBit l = false)
    (htries : (s.dlk p).bgState.get 1 l ≠ 2) :
    exec (.laneRetry p l) s = .next (raise 69 p (dlkData (s.dlk p)) (laneBacksOff p l s)) := by
  rw [exec_laneRetry, execLaneRetry, live_next hheld, ← dlkEvent_laneBacksOff]
  exact congrArg _ (if_pos ⟨hstripes, (Bool.not_eq_true' _).mpr hout, htries⟩)

theorem exec_laneRetryBackoffExpiry_eq (l : Fin 4) : exec (.laneRetryBackoffExpiry p l) s = .next (
    if (s.dlk p).bgState.get 0 l = 2 then
      modDlk p (fun d => { d with bgState := d.bgState.set l 1, trains := d.trains.modify DlkTrain.reset l DlkTrain.again }) s
    else s) := by
  rw [exec_laneRetryBackoffExpiry, execLaneRetryBackoffExpiry, live_next hheld]

theorem exec_dlkLaneRelock_eq (l : Fin 4) : exec (.dlkLaneRelock p l) s = .next (laneRelock p l s) := by
  rw [exec_dlkLaneRelock, execDlkLaneRelock, live_next hheld]

end

/-- Settles O42, row by row: each row's rule says in which state it acts, and `exchangeEnter` keeps all that striping starts with but the hold-back and the CAPs. -/
theorem dalomBringUpMovesInOrder : Obligations.DalomBringUpMovesInOrder := by
  intro p s hheld d st m retry
  refine ⟨live_next hheld (fun s => dlkTry p (moduleFound p s)), fun h => ?trainingGoesOn, fun hst hall hsome => ?trained,
    fun half hst => exec_dlkTrainTimeout_elsewhere hheld hst half, fun half hst hmin => ?enough, fun half hst hfew => ?tooFew,
    fun lock => ⟨fun hst => ⟨?lockElsewhere, exec_dlkLockTimeout_elsewhere hheld hst lock⟩, fun hst h => ?lockGoesOn, fun hst hall hsome => ?locked,
      fun hst hmin => ?lockedEnough, fun hst hfew => ?lockedTooFew⟩,
    fun hst => ?exchangeElsewhere, fun hst => ?exchangeRows, fun h => ?backoffElsewhere, fun hst hdalom => ?backoffEnds,
    fun k => ?exchangeStarts, fun l => ⟨exec_laneRetry_idle hheld, exec_laneRetry_backsOff hheld, fun h => ?waitElsewhere, fun h => ?waitEnds,
      fun h => ?unready, fun h => ?ready⟩⟩
  case trainingGoesOn =>
    refine (exec_dlkTrainingComplete_eq hheld).trans (congrArg _ (if_neg ?_))
    rintro ⟨hst, hsome, hall⟩
    obtain h | h | h := h
    · exact h hst
    · exact h hall
    · exact hsome h
  case trained => exact (exec_dlkTrainingComplete_eq hheld).trans (congrArg _ (if_pos ⟨hst, hsome, hall⟩))
  case enough => exact (exec_dlkTrainTimeout_train hheld hst half).trans (congrArg _ (if_pos hmin))
  case tooFew => exact (exec_dlkTrainTimeout_train hheld hst half).trans (congrArg _ (if_neg (Nat.not_le.mpr hfew)))
  case lockElsewhere => exact (exec_dlkLanesLocked_eq hheld lock).trans (congrArg _ (if_neg fun h => hst h.1))
  case lockGoesOn =>
    refine (exec_dlkLanesLocked_eq hheld lock).trans (congrArg _ (if_neg ?_))
    rintro ⟨-, hall, hsome⟩
    exact h.elim (fun h => h hall) hsome
  case locked => exact (exec_dlkLanesLocked_eq hheld lock).trans (congrArg _ (if_pos ⟨hst, hall, hsome⟩))
  case lockedEnough => exact (exec_dlkLockTimeout_lock hheld hst lock).trans (congrArg _ (if_pos hmin))
  case lockedTooFew => exact (exec_dlkLockTimeout_lock hheld hst lock).trans (congrArg _ (if_neg (Nat.not_le.mpr hfew)))
  case exchangeElsewhere =>
    exact ⟨(exec_dlkExchangeTimeout_eq hheld).trans (congrArg _ (if_neg hst)), (exec_dlkCapExchangeTx_eq hheld).trans (congrArg _ (if_neg hst))⟩
  case exchangeRows =>
    exact ⟨(exec_dlkExchangeTimeout_eq hheld).trans (congrArg _ (if_pos hst)), (exec_dlkCapExchangeTx_eq hheld).trans (congrArg _ (if_pos hst))⟩
  case backoffElsewhere =>
    refine (exec_dlkBackoffExpiry_eq hheld).trans (congrArg _ (if_neg ?_))
    rintro ⟨hst, hdalom⟩
    exact h.elim (fun h => h hst) (ne_false_of_eq_true hdalom)
  case backoffEnds => exact (exec_dlkBackoffExpiry_eq hheld).trans (congrArg _ (if_pos ⟨hst, hdalom⟩))
  case exchangeStarts =>
    obtain ⟨grants, hlink⟩ := exchangeEnter_link p k s
    refine ⟨?inExchange, congrArg Dlk.rxGood hlink, congrArg Dlk.txActive hlink, congrArg Dlk.txTime hlink, congrArg Dlk.rxTime hlink,
      congrArg Dlk.tileNo hlink, congrArg Dlk.rxTileNo hlink, congrArg Dlk.partner hlink, congrArg Dlk.accounted hlink, congrArg Dlk.recovered hlink,
      congrArg Dlk.consumed hlink, congrArg Dlk.taken hlink, congrArg Dlk.returnsSeen hlink, congrArg Dlk.carried hlink, congrArg Dlk.delayValid hlink,
      exchangeEnter_held4 p k s, queueCap_waits .., fun q hq => ?otherPorts, exchangeEnter_frame p k s⟩
    case inExchange => rw [exchangeEnter_port, port_modPort_same]
    case otherPorts => exact (exchangeEnter_port p k q s).trans (port_modPort_other s hq _)
  case waitElsewhere => exact (exec_laneRetryBackoffExpiry_eq hheld l).trans (congrArg _ (if_neg h))
  case waitEnds => exact (exec_laneRetryBackoffExpiry_eq hheld l).trans (congrArg _ (if_pos h))
  case unready => exact (exec_dlkLaneRelock_eq hheld l).trans (congrArg _ (laneRelock_unready h))
  case ready => exact (exec_dlkLaneRelock_eq hheld l).trans (congrArg _ (laneRelock_ready h))

end Sys2Proof.Machine
end

section
/-! SUPPORT. How an arriving tile is taken: before striping, after its turn, in its turn, and as its kind says (R156, R158, R160, R161, R168, R171); and StripedTilesAreTakenInOrder. -/

namespace Sys2Proof.Machine

/-! ### Ports that stripe (R157, R177) -/

theorem stripes_eq_false_iff {r : PortRec} : stripes r = false ↔ r.st ≠ .exchange ∧ r.st ≠ .active := by
  simp [stripes]

@[simp] theorem rxLine_port (p l pos stuffed bad : Nat) (lost mark : Bool) (s : State) (q : Nat) :
    (rxLine p l pos stuffed bad lost mark s).port q = s.port q := rfl

/-! ### Kinds of tiles -/

/-- A kind that the partner stripes: neither a TRAIN tile nor the record of a lost one. -/
def RxKind.isStriped : RxKind → Bool
  | .lost => false
  | .train _ _ _ => false
  | _ => true

theorem beq_lost_of_isStriped {k : RxKind} (h : k.isStriped = true) : (k == .lost) = false := by
  cases k with
  | lost => cases h
  | _ => rfl

section
variable {p : Nat} {k : RxKind} {t : DlkTile} (hk : k.isStriped = true) (s : State)
include hk

/-- Before EXCHANGE a striped tile ends the lane's run of TRAIN tiles, and LOCK notes it. -/
theorem tileEarly_striped : tileEarly p { kind := k, tile := t } s =
    let u := modTrain p t.lane (fun x => { x with trainRun := 0 }) s
    if (s.port p).st = .lock then modDlk p (fun d => { d with striped := true }) u else u := by
  cases k with
  | lost => cases hk
  | train => cases hk
  | _ => rfl

theorem tileLate_striped : tileLate p { kind := k, tile := t } s = lostCount p t.lane t.mark s := by
  cases k with
  | lost => cases hk
  | train => cases hk
  | _ => rfl

theorem tileTurn_striped : tileTurn p { kind := k, tile := t } s = stripedRx p k t s := by
  cases k with
  | lost => cases hk
  | train => cases hk
  | _ => rfl

end

/-- The rows of striped tiles, each with its kind. -/
def stripedRows (p : Port) (t : DlkTile) : List (Instr × RxKind) :=
  [(.dlkDataTileRx p t, .data), (.dlkIdleTileRx p t, .idle), (.dlkCreditTileRx p t, .credit), (.dlkAbortTileRx p t, .abort),
    (.dlkTimeTileRx p t, .time), (.dlkCapExchangeRx p t, .cap 0), (.dlkCapLaneStateRx p t, .cap 1), (.dlkCapDelayUpdateRx p t, .cap 2),
    (.dlkCapLaneTrainRx p t, .cap 3)]

theorem stripedRows_isStriped {p : Port} {t : DlkTile} : ∀ r ∈ stripedRows p t, r.2.isStriped = true := by
  simp [stripedRows, RxKind.isStriped]

/-- A striped tile's row is its arrival, and then the in-band commands its frames carried (R176). -/
theorem exec_stripedRows {p : Port} {t : DlkTile} {s : State} (hheld : s.held = false) :
    ∀ r ∈ stripedRows p t, exec r.1 s = .next (arrivedDrain (tileRx p r.2 t s)) := by
  have hrow (k : RxKind) : tileRow p k t s = .next (arrivedDrain (tileRx p k t s)) := live_next hheld _
  simp only [stripedRows, List.forall_mem_cons]
  exact ⟨hrow .data, hrow .idle, hrow .credit, hrow .abort, hrow .time, hrow (.cap 0), hrow (.cap 1), hrow (.cap 2), hrow (.cap 3), List.forall_mem_nil _⟩

theorem exec_tileLost_live {s : State} (hheld : s.held = false) (p : Port) (l : Fin 4) (pos : Fin 1024) (mark : Bool) (n bad : Nat) :
    exec (.tileLost p l pos mark n bad) s = .next (arrivedDrain (tileRx p .lost (lostTile l pos mark n bad) s)) := by
  rw [exec_tileLost, execTileLost, tileRow, live_next hheld]

/-- A lost tile's record carries as many removed symbols as its row says. -/
theorem rxLine_lostTile (p : Nat) (l : Fin 4) (pos : Fin 1024) (mark : Bool) (n bad : Nat) (s : State) :
    rxLine p l pos (lostTile l pos mark n bad).stuffAt.length bad (RxKind.lost == .lost) mark s = rxLine p l pos n bad true mark s := by
  rw [lostTile, List.length_replicate]
  rfl

/-! ### An arriving tile (R158) -/

/-- The turn of a slot position and lane has gone by: the slot lies behind the one in turn, or it is that slot and the lane has been served. -/
def TurnPassed (d : Dlk) (pos l : Nat) : Prop := 512 ≤ slotAhead pos d.rxAt ∨ (slotAhead pos d.rxAt = 0 ∧ d.rxDone.testBit l = true)

theorem not_turnPassed_iff {d : Dlk} {pos l : Nat} :
    ¬ TurnPassed d pos l ↔ slotAhead pos d.rxAt < 512 ∧ (slotAhead pos d.rxAt ≠ 0 ∨ d.rxDone.testBit l = false) := by
  simp only [TurnPassed, not_or, not_le, not_and_or, Bool.not_eq_true, ne_eq]

theorem slotAhead_self {at' : Nat} : slotAhead at' at' = 0 := by
  rw [slotAhead, Nat.add_sub_cancel_left]

section
variable {p : Nat} {k : RxKind} {t : DlkTile} {s : State}

theorem tileRx_silent (h : sendsTiles (s.port p) = false) : tileRx p k t s = s := if_pos (by rw [h]; rfl)

variable (hsends : sendsTiles (s.port p) = true)
include hsends

theorem tileRx_early (h : stripes (s.port p) = false) :
    tileRx p k t s = tileEarly p { kind := k, tile := t } (rxLine p t.lane t.pos t.stuffAt.length t.stuffBad (k == .lost) t.mark s) := by
  simp [tileRx, hsends, h]

variable (hstripes : stripes (s.port p) = true)
include hstripes

theorem tileRx_late {u : State} (hu : rxLine p t.lane t.pos t.stuffAt.length t.stuffBad (k == .lost) t.mark s = u)
    (h : TurnPassed (u.dlk p) t.pos t.lane) : tileRx p k t s = tileLate p { kind := k, tile := t } u := by
  subst hu
  simp only [tileRx, hsends, hstripes, rxLine_port, Bool.not_true, Bool.false_eq_true, if_false]
  exact if_pos h

theorem tileRx_waits {u : State} (hu : rxLine p t.lane t.pos t.stuffAt.length t.stuffBad (k == .lost) t.mark s = u)
    (h : ¬ TurnPassed (u.dlk p) t.pos t.lane) :
    tileRx p k t s = tileDrain p 5200 (modDlk p (fun d => { d with rxBuf := d.rxBuf ++ [{ kind := k, tile := t }] }) u) := by
  subst hu
  simp only [tileRx, hsends, hstripes, rxLine_port, Bool.not_true, Bool.false_eq_true, if_false]
  exact if_neg h

end

/-! ### The turn (R158) -/

/-- The lane in turn is the lowest that has not been served. -/
theorem find_unserved {done : Nat} {l : Fin 4} (hbefore : ∀ k, k < l.val → done.testBit k = true) (h : done.testBit l = false) :
    fourLanes.find? (fun k => !done.testBit k) = some l.val := by
  rw [show fourLanes = List.range 4 from rfl, List.find?_range_eq_some]
  exact ⟨by simp [h], List.mem_range.mpr l.isLt, fun k hk => by simp [hbefore k hk]⟩

theorem modDlk_congr {p : Nat} {f g : Dlk → Dlk} {s : State} (h : f (s.dlk p) = g (s.dlk p)) : modDlk p f s = modDlk p g s :=
  congrArg (fun d => { s with dlks := s.dlks.set p d }) h

/-- A tile of the slot and lane in turn, with none waiting, is taken at once. -/
theorem tileDrain_takes {p n : Nat} {x : RxTile} {u : State} (hempty : (u.dlk p).rxBuf = []) (hpos : x.tile.pos.val = (u.dlk p).rxAt)
    (hlane : (u.dlk p).rxDone.testBit x.tile.lane = false) (hbefore : ∀ k, k < x.tile.lane.val → (u.dlk p).rxDone.testBit k = true) :
    tileDrain p (n + 1) (modDlk p (fun d => { d with rxBuf := d.rxBuf ++ [x] }) u) =
      tileDrain p n (tileTurn p x (modDlk p (fun d => { d with rxBuf := [], rxDone := setBit d.rxDone x.tile.lane }) u)) := by
  have htaken : modDlk p (fun d => { d with rxBuf := d.rxBuf.erase x, rxDone := setBit d.rxDone x.tile.lane })
      (modDlk p (fun d => { d with rxBuf := d.rxBuf ++ [x] }) u) =
      modDlk p (fun d => { d with rxBuf := [], rxDone := setBit d.rxDone x.tile.lane }) u := by
    rw [modDlk_modDlk]
    exact modDlk_congr (by simp [hempty])
  rw [tileDrain]
  simp [find_unserved hbefore hlane, hempty, hpos, htaken]

/-! ### A striped tile in its turn (R156, R168) -/

/-- The number is wrong where it is not the expected one, nor on an ABORT that of its slot's first tile. -/
theorem lseqOk_eq_false {d : Dlk} {k : RxKind} {n : Nat} (hknown : d.rxTileNo < 16) (hother : d.rxTileNo ≠ n) (habort : k = .abort → d.slotBase ≠ n) :
    lseqOk d k n = false := by
  simpa [lseqOk, hknown, hother] using habort

theorem lseqOk_of_expected {d : Dlk} {n : Nat} (h : 16 ≤ d.rxTileNo ∨ d.rxTileNo = n) (k : RxKind) : lseqOk d k n = true := by
  obtain h | h := h
  · simp [lseqOk, h]
  · simp [lseqOk, h]

section
variable {p : Nat} {t : DlkTile} {s : State}

theorem stripedRx_out_of_service (h : (s.dlk p).rxGood.testBit t.lane = false) (k : RxKind) :
    stripedRx p k t s = modDlk p (fun d => { d with rxTileNo := (t.lseq.val + 1) % 16, striped := true, rxStripe := setBit d.rxStripe t.lane })
      (lostCount p t.lane t.mark (abandonAll p (modTrain p t.lane (fun x => { x with trainRun := 0 }) s))) :=
  if_pos (by rw [h]; rfl)

variable (hserves : (s.dlk p).rxGood.testBit t.lane = true)
include hserves

theorem stripedRx_other_number {k : RxKind} (h : lseqOk (s.dlk p) k t.lseq = false) :
    stripedRx p k t s = modDlk p (fun d => { d with rxTileNo := (t.lseq.val + 1) % 16, rxStripe := setBit (d.rxStripe &&& d.rxGood) t.lane })
      (lostCount p t.lane t.mark (abandonAll p (modTrain p t.lane (fun x => { x with trainRun := 0 }) s))) := by
  simp only [stripedRx, hserves, h, Bool.not_true, Bool.not_false, Bool.false_eq_true, if_false, if_true]

theorem stripedRx_taken {k : RxKind} (h : lseqOk (s.dlk p) k t.lseq = true) :
    stripedRx p k t s = tileTake p k t (Tile.scramble t.pos t.lane t.payload) (headerCredit p t.credit.toNat (readmitDone p (2 ^ t.lane.val)
      (modDlk p (fun d => { d with rxTileNo := (t.lseq.val + 1) % 16, striped := true, rxStripe := setBit d.rxStripe t.lane })
        (modTrain p t.lane (fun x => { x with trainRun := 0 }) s)))) := by
  simp only [stripedRx, hserves, h, Bool.not_true, Bool.false_eq_true, if_false]

end

/-! ### A header's credit return (R168) -/

theorem shortsCheck_dlks (s : State) : (shortsCheck s).dlks = s.dlks := by
  unfold shortsCheck
  refine List.foldlRecOn (motive := fun (u : State) => u.dlks = s.dlks) _ _ rfl fun u hu x _ => ?_
  dsimp only
  split
  · split_ifs <;> exact hu
  · split_ifs <;> exact hu

theorem recredit_returnsSeen (p : Nat) (s : State) : ((recredit p s).dlk p).returnsSeen = (s.dlk p).returnsSeen := by
  rw [recredit, State.dlk, shortsCheck_dlks, ← State.dlk, dlk_modDlk_same]
  split <;> rfl

/-- What a header's return makes of the count seen of its class. -/
theorem headerCredit_returnsSeen (p credit : Nat) (s : State) :
    let a := (s.dlk p).returnsSeen.get 0 (credit % 8)
    ((headerCredit p credit s).dlk p).returnsSeen.get 0 (credit % 8) = wrapAdd 32 a ((credit / 8 + 32 - a % 32) % 32) := by
  rw [headerCredit, recredit_returnsSeen, dlk_modDlk_same]
  exact tab_get_set_same ..

/-- The least advance modulo 2^32 that brings a count to given low five bits. -/
theorem advance_to_low_bits {a low b : Nat} (hlow : low < 32) (hb : b = wrapAdd 32 a ((low + 32 - a % 32) % 32)) :
    b % 32 = low ∧ (b + 2 ^ 32 - a) % 2 ^ 32 < 32 := by
  unfold wrapAdd at hb
  omega

/-- Settles O43: a row is its tile's arrival, which is one of four by the port's state and the turn; a tile in turn is taken by `stripedRx`. -/
theorem stripedTilesAreTakenInOrder : Obligations.StripedTilesAreTakenInOrder := by
  intro p t s hheld rows st l u d quiet late
  have hstriped : ∀ r ∈ rows, r.2.isStriped = true := stripedRows_isStriped
  have hexec : ∀ r ∈ rows, ∀ v, tileRx p r.2 t s = v → exec r.1 s = .next (arrivedDrain v) :=
    fun r hr v hv => hv ▸ exec_stripedRows hheld r hr
  have hline : ∀ r ∈ rows, rxLine p t.lane t.pos t.stuffAt.length t.stuffBad (r.2 == .lost) t.mark s = u :=
    fun r hr => by rw [beq_lost_of_isStriped (hstriped r hr)]
  have hlost : ∀ (l : Fin 4) (pos : Fin 1024) (mark : Bool) (n bad : Nat) (v : State), tileRx p .lost (lostTile l pos mark n bad) s = v →
      exec (.tileLost p l pos mark n bad) s = .next (arrivedDrain v) :=
    fun l pos mark n bad v hv => hv ▸ exec_tileLost_live hheld p l pos mark n bad
  refine ⟨fun hsilent r hr => hexec r hr _ (tileRx_silent hsilent), fun hsends hlock hexchange hactive r hr => hexec r hr _ ?early,
    fun hsends hlock r hr => hexec r hr _ ?inLock, fun hsends hstripes hlate r hr => hexec r hr _ ?late,
    fun hsends hstripes hlate r hr => hexec r hr _ (tileRx_waits hsends hstripes (hline r hr) hlate),
    fun hsends hstripes hempty hpos hlane hbefore r hr => hexec r hr _ ?atOnce, arrivedDrain_none,
    fun v => ⟨fun r hr hout => ?outOfService, fun r hr hserves hknown hother habort => ?otherNumber, fun hserves hexpected => ?taken⟩,
    fun l pos mark n bad hsilent => hlost l pos mark n bad _ (tileRx_silent hsilent),
    fun l pos mark n bad hsends hearly => hlost l pos mark n bad _ ?lostEarly,
    fun l pos mark n bad hsends hstripes => ⟨fun hlate => hlost l pos mark n bad _ ?lostLate, fun hahead hserved => hlost l pos mark n bad _ ?lostWaits⟩,
    fun x v hx => ?lostTurn, fun l mark v => rfl, fun l mark v => rfl,
    fun credit v _ => advance_to_low_bits (by omega) (headerCredit_returnsSeen p credit.toNat v)⟩
  case early =>
    rw [tileRx_early hsends (stripes_eq_false_iff.mpr ⟨hexchange, hactive⟩), hline r hr, tileEarly_striped (hstriped r hr)]
    exact if_neg hlock
  case inLock =>
    have hst : (s.port p).st = .lock := hlock
    rw [tileRx_early hsends (stripes_eq_false_iff.mpr (by simp [hst])), hline r hr, tileEarly_striped (hstriped r hr)]
    exact if_pos hlock
  case late =>
    rw [tileRx_late hsends hstripes (hline r hr) hlate, tileLate_striped (hstriped r hr)]
  case atOnce =>
    have hturn : ¬ TurnPassed (u.dlk p) t.pos t.lane := by
      rw [not_turnPassed_iff, hpos, slotAhead_self]
      exact ⟨by decide, .inr hlane⟩
    rw [tileRx_waits hsends hstripes (hline r hr) hturn]
    exact tileDrain_takes (n := 5199) hempty hpos hlane hbefore
  case outOfService =>
    rw [tileTurn_striped (hstriped r hr)]
    exact stripedRx_out_of_service hout r.2
  case otherNumber =>
    rw [tileTurn_striped (hstriped r hr)]
    exact stripedRx_other_number hserves (lseqOk_eq_false hknown hother habort)
  case taken =>
    have htaken (k : RxKind) := stripedRx_taken hserves (lseqOk_of_expected hexpected k)
    exact ⟨htaken .idle, htaken .data, htaken .credit, htaken .abort, htaken .time, htaken (.cap 0), htaken (.cap 1), htaken (.cap 2), htaken (.cap 3)⟩
  case lostEarly =>
    rw [tileRx_early hsends hearly]
    exact congrArg _ (rxLine_lostTile p l pos mark n bad s)
  case lostLate => exact tileRx_late hsends hstripes (rxLine_lostTile p l pos mark n bad s) hlate
  case lostWaits =>
    exact tileRx_waits hsends hstripes (rxLine_lostTile p l pos mark n bad s) (not_turnPassed_iff.mpr ⟨hahead, hserved⟩)
  case lostTurn =>
    rw [tileTurn, hx]

end Sys2Proof.Machine
end

section
/-! SUPPORT. What an egress port sends next and what that debits (R306 to R308, R315), how pauses begin, are repeated and end (R203, R205, R206), and how a Stop bath works and ends (R318); and EgressPausesAndBaths. -/

namespace Sys2Proof.Machine

/-! ### The egress scheduler (R306 to R308, R315) -/

/-- A port as it chooses: firmware's frames are in their stores and the shapers filled to now. -/
def egressPrepared (j : Nat) (s : State) : State := fillShapers j (fwAdmit j (s.core.fwQueue.get [] j).length s)

/-- The started express frame that goes on first, with its class (R315). -/
def startedEntry (j : Nat) (t : State) : Option (Nat × StoreEntry) :=
  (List.range 8).findSome? (fun c => if segBusy t j c then none else ((t.storeOf j c).find? (fun e => e.started)).map (fun e => (c, e)))

/-- What may start in TC7 under its shaper (R307). -/
def sevenReady (j : Nat) (t : State) : Option StoreEntry := if 0 ≤ (t.eg j).bucket7.level then classReady t j 7 else none

/-- What may start in TC6, under its shaper where it has one (R307). -/
def sixReady (j : Nat) (t : State) : Option StoreEntry :=
  if (t.eg j).permil6 = 0 ∨ 0 ≤ (t.eg j).bucket6.level then classReady t j 6 else none

/-- The ready classes of TC0 to TC5, with what their heads take of the line (R308). -/
def roundRobinReady (j : Nat) (t : State) : List (Nat × Nat) :=
  (List.range 6).filterMap (fun c => (classReady t j c).map (fun e => (c, sendLength t j c e + 20)))

/-- The round robin among TC0 to TC5 (R308). -/
def roundRobin (j : Nat) (t : State) : State :=
  match dwrr (roundRobinReady j t) (t.eg j).weights 400 (t.eg j).visit (t.eg j).deficits with
  | none => t
  | some (c, d) =>
    match classReady t j c with
    | none => t
    | some e => serve j c e (modEg j (fun q => { q with visit := c, deficits := d }) t)

/-- What a port chooses that has nothing started, by class where frames move, else firmware's frames (R306). -/
def classChoice (j : Nat) (t : State) : State :=
  if !t.moves then
    match fwReady t j with
    | some e => serve j 7 e t
    | none => t
  else
    match sevenReady j t, sixReady j t with
    | some e, _ => serve j 7 e t
    | none, some e => serve j 6 e t
    | none, none => roundRobin j t

theorem egressSelect_of_down {j : Nat} {s : State} (hdown : (s.port j).isUp = false) : egressSelect j s = s :=
  if_pos (by rw [hdown]; rfl)

section
variable {j : Nat} {s : State} (hup : (s.port j).isUp = true)
include hup

theorem egressSelect_of_started {c : Nat} {e : StoreEntry} (h : startedEntry j (egressPrepared j s) = some (c, e)) :
    egressSelect j s = serve j c e (egressPrepared j s) := by
  rw [egressSelect, if_neg (by simp [hup])]
  unfold startedEntry egressPrepared at h
  simp only [h, egressPrepared]

theorem egressSelect_of_none_started (h : startedEntry j (egressPrepared j s) = none) :
    egressSelect j s = classChoice j (egressPrepared j s) := by
  rw [egressSelect, if_neg (by simp [hup])]
  unfold startedEntry egressPrepared at h
  simp only [h]
  rfl

end

section
variable {j : Nat} {t : State}

theorem classChoice_of_firmware {e : StoreEntry} (hstill : t.moves = false) (h : fwReady t j = some e) : classChoice j t = serve j 7 e t := by
  simp [classChoice, hstill, h]

theorem classChoice_of_still (hstill : t.moves = false) (h : fwReady t j = none) : classChoice j t = t := by
  simp [classChoice, hstill, h]

variable (hmoves : t.moves = true)
include hmoves

theorem classChoice_of_seven {e : StoreEntry} (h : sevenReady j t = some e) : classChoice j t = serve j 7 e t := by
  simp [classChoice, hmoves, h]

theorem classChoice_of_six {e : StoreEntry} (h7 : sevenReady j t = none) (h : sixReady j t = some e) : classChoice j t = serve j 6 e t := by
  simp [classChoice, hmoves, h7, h]

theorem classChoice_of_low (h7 : sevenReady j t = none) (h6 : sixReady j t = none) : classChoice j t = roundRobin j t := by
  simp [classChoice, hmoves, h7, h6]

end

theorem sevenReady_eq_none {j : Nat} {t : State} (h : (t.eg j).bucket7.level < 0 ∨ classReady t j 7 = none) : sevenReady j t = none := by
  obtain h | h := h
  · exact if_neg (by omega)
  · rw [sevenReady, h, ite_self]

theorem sixReady_eq_none {j : Nat} {t : State} (h : classReady t j 6 = none) : sixReady j t = none := by
  rw [sixReady, h, ite_self]

/-- With no class ready the round robin finds none. -/
theorem dwrr_nil (weights : List Nat) (fuel v : Nat) (d : List Nat) : dwrr [] weights fuel v d = none := by
  induction fuel generalizing v d with
  | zero => rfl
  | succ fuel ih => exact ih ((v + 1) % 6) d

/-- The class that the round robin chooses is ready, and its head fits its deficit. -/
theorem dwrr_fits {ready : List (Nat × Nat)} {weights : List Nat} {fuel v c : Nat} {d d' : List Nat}
    (h : dwrr ready weights fuel v d = some (c, d')) : ∃ n, (c, n) ∈ ready ∧ n ≤ d'.getD c 0 := by
  induction fuel generalizing v d with
  | zero => cases h
  | succ fuel ih =>
    rw [dwrr] at h
    split at h
    · next k bytes hfind =>
      split at h
      · next hfits =>
        cases h
        have hclass : k = c := by simpa using List.find?_some hfind
        exact ⟨bytes, hclass ▸ List.mem_of_find?_eq_some hfind, hfits⟩
      · exact ih h
    · exact ih h

theorem roundRobin_of_none_ready {j : Nat} {t : State} (h : ∀ c, c < 8 → classReady t j c = none) : roundRobin j t = t := by
  have hnone : roundRobinReady j t = [] := by
    refine List.filterMap_eq_nil_iff.mpr fun c hc => ?_
    rw [h c (by have := List.mem_range.mp hc; omega), Option.map_none]
  rw [roundRobin, hnone, dwrr_nil]

/-! ### What a sent frame debits (R307, R308) -/

section
variable {j c n : Nat} {s : State}

theorem debit_seven (hc : c = 7) :
    (debit j c n s).eg j = { s.eg j with bucket7 := { (s.eg j).bucket7 with level := (s.eg j).bucket7.level - 1000 * (n + 20 : Nat) } } := by
  rw [debit, eg_modEg_same, if_pos hc]

theorem debit_six (hc : c = 6) (hshaped : (s.eg j).permil6 ≠ 0) :
    (debit j c n s).eg j = { s.eg j with bucket6 := { (s.eg j).bucket6 with level := (s.eg j).bucket6.level - 1000 * (n + 20 : Nat) } } := by
  rw [debit, eg_modEg_same, if_neg (by omega), if_pos hc, if_neg hshaped]

theorem debit_six_unshaped (hc : c = 6) (hfree : (s.eg j).permil6 = 0) : (debit j c n s).eg j = s.eg j := by
  rw [debit, eg_modEg_same, if_neg (by omega), if_pos hc, if_pos hfree]

theorem debit_low (hc : c < 6) : (debit j c n s).eg j = { s.eg j with deficits := (s.eg j).deficits.modify c (· - (n + 20)) } := by
  rw [debit, eg_modEg_same, if_neg (by omega), if_neg (by omega)]

end

/-! ### Pauses (R203, R205, R206) -/

@[simp] theorem fc_modFc_same (p c : Nat) (g : FlowClass → FlowClass) (s : State) : (modFc p c g s).fc p c = g (s.fc p c) := by
  simp [State.fc, modFc, Flow.cls]

theorem fc_modFc_other {p c i : Nat} (h : i ≠ c) (g : FlowClass → FlowClass) (s : State) : (modFc p c g s).fc p i = s.fc p i := by
  simp [State.fc, modFc, Flow.cls, Tab.modify, h]

/-- The states agree on what a pause of class `i` of port `p` is judged by and on the class itself. -/
structure SameForPause (p i : Nat) (s t : State) : Prop where
  clk : t.clk = s.clk
  ports : t.ports = s.ports
  prio : (t.flow p).prio = (s.flow p).prio
  cls : t.fc p i = s.fc p i

theorem SameForPause.refl (p i : Nat) (s : State) : SameForPause p i s s := ⟨rfl, rfl, rfl, rfl⟩

theorem SameForPause.trans {p i : Nat} {s t u : State} (hst : SameForPause p i s t) (htu : SameForPause p i t u) : SameForPause p i s u :=
  ⟨htu.clk.trans hst.clk, htu.ports.trans hst.ports, htu.prio.trans hst.prio, htu.cls.trans hst.cls⟩

theorem sameForPause_modFc {p c i : Nat} (h : i ≠ c) (g : FlowClass → FlowClass) (s : State) : SameForPause p i s (modFc p c g s) :=
  ⟨rfl, rfl, by simp [modFc], fc_modFc_other h g s⟩

theorem sameForPause_unpause {p c i : Nat} (h : i ≠ c) (s : State) : SameForPause p i s (unpause p c s) :=
  (sameForPause_modFc h _ s).trans ⟨rfl, rfl, rfl, rfl⟩

theorem sameForPause_cntPort (p i k n : Nat) (s : State) : SameForPause p i s (cntPort p k n s) := ⟨rfl, rfl, rfl, rfl⟩

theorem unpause_fc (p c : Nat) (s : State) :
    (unpause p c s).fc p c = { s.fc p c with paused := false, pauseEnd := s.clk.now, pausedSince := none } :=
  fc_modFc_same ..

theorem pauseClass_ends (p c : Nat) (s : State) : ((pauseClass p c 0 s).fc p c).paused = false :=
  congrArg FlowClass.paused (unpause_fc p c s)

theorem pauseClass_pauses {q : Nat} (hq : q ≠ 0) (p c : Nat) (s : State) :
    (pauseClass p c q s).fc p c = { s.fc p c with
      paused := true, pauseEnd := s.clk.now + q * 64 * secTicks / speedBytes (s.port p).cfg.speed,
      pausedSince := some ((s.fc p c).pausedSince.getD s.clk.now) } := by
  simp only [pauseClass, if_neg hq, fc_modFc_same]

/-- A pause of a class leaves every other class of the port. -/
theorem pauseClass_other {c i : Nat} (h : i ≠ c) (p q : Nat) (s : State) : SameForPause p i s (pauseClass p c q s) := by
  unfold pauseClass
  dsimp only
  split
  · exact sameForPause_unpause h s
  · exact sameForPause_modFc h _ s

theorem SameForPause.pauseClass_fc {p c : Nat} {s t : State} (h : SameForPause p c s t) (q : Nat) :
    (pauseClass p c q t).fc p c = (pauseClass p c q s).fc p c := by
  have hport : t.port p = s.port p := by rw [State.port, h.ports, State.port]
  by_cases hq : q = 0
  · subst hq
    exact (unpause_fc p c t).trans (by rw [h.cls, h.clk]; exact (unpause_fc p c s).symm)
  · rw [pauseClass_pauses hq, pauseClass_pauses hq, h.cls, h.clk, hport]

section
variable {p : Nat} {f : State → Nat → State} (hother : ∀ {s c i}, i ≠ c → SameForPause p i s (f s c))
include hother

theorem foldl_pause_other {l : List Nat} {c : Nat} (h : c ∉ l) (s : State) : SameForPause p c s (l.foldl f s) := by
  induction l generalizing s with
  | nil => exact .refl p c s
  | cons a l ih =>
    rw [List.mem_cons, not_or] at h
    exact (hother h.1).trans (ih h.2 (f s a))

/-- Where each class of a list has its turn once, a class meets its turn as it was at the start and keeps what the turn leaves. -/
theorem foldl_pause_turn {l : List Nat} (hl : l.Nodup) {c : Nat} (hc : c ∈ l) (s : State) :
    ∃ u, SameForPause p c s u ∧ (l.foldl f s).fc p c = (f u c).fc p c := by
  induction l generalizing s with
  | nil => cases hc
  | cons a l ih =>
    obtain ⟨hnotin, hl⟩ := List.nodup_cons.mp hl
    by_cases hca : c = a
    · subst hca
      exact ⟨s, .refl p c s, (foldl_pause_other hother hnotin (f s c)).cls⟩
    · obtain ⟨u, hu, hturn⟩ := ih hl ((List.mem_cons.mp hc).resolve_left hca) (f s a)
      exact ⟨u, (hother hca).trans hu, hturn⟩

end

/-- What a PFC frame does to one class, by the priority that stands for it (R205). -/
def pfcClass (p vec : Nat) (times : List Nat) (s : State) (c : Nat) : State :=
  let prio := (s.flow p).prio.getD c c
  if vec.testBit prio then pauseClass p c (times.getD prio 0) s else s

section
variable {p c vec : Nat} {s : State}

theorem pfcClass_of_unnamed (h : vec.testBit ((s.flow p).prio.getD c c) = false) (times : List Nat) : pfcClass p vec times s c = s :=
  if_neg (ne_true_of_eq_false h)

theorem pfcClass_of_named (h : vec.testBit ((s.flow p).prio.getD c c) = true) (times : List Nat) :
    pfcClass p vec times s c = pauseClass p c (times.getD ((s.flow p).prio.getD c c) 0) s :=
  if_pos h

end

theorem pfcClass_other {c i : Nat} (h : i ≠ c) (p vec : Nat) (times : List Nat) (s : State) : SameForPause p i s (pfcClass p vec times s c) := by
  unfold pfcClass
  dsimp only
  split
  · exact pauseClass_other h p _ s
  · exact .refl p i s

theorem SameForPause.pfcClass_fc {p c : Nat} {s t : State} (h : SameForPause p c s t) (vec : Nat) (times : List Nat) :
    (pfcClass p vec times t c).fc p c = (pfcClass p vec times s c).fc p c := by
  unfold pfcClass
  rw [h.prio]
  dsimp only
  split
  · exact h.pauseClass_fc _
  · exact h.cls

theorem pfcRx_of_down {p : Nat} {s : State} (hdown : (s.port p).isUp = false) (vec : Nat) (times : List Nat) : pfcRx p vec times s = s :=
  if_pos (by rw [hdown]; rfl)

theorem pauseRx_of_down {p : Nat} {s : State} (hdown : (s.port p).isUp = false) (quanta : Nat) : pauseRx p quanta s = s :=
  if_pos (by rw [hdown]; rfl)

section
variable {p : Nat} {s : State} (hup : (s.port p).isUp = true)
include hup

theorem pfcRx_of_other_mode (hmode : (s.flow p).mode ≠ 2) (vec : Nat) (times : List Nat) : pfcRx p vec times s = cntPort p 10 1 s := by
  rw [pfcRx, if_neg (by simp [hup]), if_pos hmode]

theorem pauseRx_of_other_mode (hmode : (s.flow p).mode ≠ 1) (quanta : Nat) : pauseRx p quanta s = cntPort p 10 1 s := by
  rw [pauseRx, if_neg (by simp [hup]), if_pos hmode]

theorem pfcRx_fc (hmode : (s.flow p).mode = 2) (vec : Nat) (times : List Nat) {c : Nat} (hc : c < 8) :
    (pfcRx p vec times s).fc p c = (pfcClass p vec times s c).fc p c := by
  rw [pfcRx, if_neg (by simp [hup]), if_neg (not_not.mpr hmode)]
  obtain ⟨u, hu, hturn⟩ := foldl_pause_turn (fun h => pfcClass_other h p vec times _) List.nodup_range (List.mem_range.mpr hc) (cntPort p 13 1 s)
  exact hturn.trans (((sameForPause_cntPort ..).trans hu).pfcClass_fc vec times)

theorem pauseRx_fc (hmode : (s.flow p).mode = 1) (quanta : Nat) {c : Nat} (hc : c < 8) :
    (pauseRx p quanta s).fc p c = (pauseClass p c quanta s).fc p c := by
  rw [pauseRx, if_neg (by simp [hup]), if_neg (not_not.mpr hmode)]
  obtain ⟨u, hu, hturn⟩ := foldl_pause_turn (f := fun s c => pauseClass p c quanta s) (fun h => pauseClass_other h p quanta _)
    List.nodup_range (List.mem_range.mpr hc) (cntPort p 12 1 s)
  exact hturn.trans (((sameForPause_cntPort ..).trans hu).pauseClass_fc quanta)

end

section
variable {p c : Nat} {s : State}

theorem pauseExpire_of_unpaused (h : (s.fc p c).paused = false) : pauseExpire p c s = s := if_neg (by simp [h])

theorem pauseExpire_of_paused (h : (s.fc p c).paused = true) : pauseExpire p c s = unpause p c (advanceTo (s.fc p c).pauseEnd s) := if_pos h

theorem pauseRepeat_of_xoff (hlossless : s.lossless p c = true) (hxoff : (s.fc p c).xoff = true) (hup : (s.port p).isUp = true) :
    pauseRepeat p c s = sendPause p c 0xFFFF s :=
  if_pos (by simp [hlossless, hxoff, hup])

theorem pauseRepeat_else (h : s.lossless p c = false ∨ (s.fc p c).xoff = false ∨ (s.port p).isUp = false) : pauseRepeat p c s = s :=
  if_neg (by simpa [or_iff_not_imp_left] using h)

end

/-! ### Stop baths (R318) -/

section
variable {h : Nat} {s : State}

theorem bathHoldEnd_of_none (hop : (bathCheck s).op? h = none) : bathHoldEnd h s = bathCheck s := by
  simp only [bathHoldEnd, hop]

theorem bathDrain_of_none (hop : s.op? h = none) : bathDrain h s = s := by
  simp only [bathDrain, hop]

/-- The frame that a DISCARD bath takes next: the first head of a queue that it selects and that is not in flight. -/
def bathNext (w : BathWork) (s : State) : Option Frame :=
  s.core.queues.findSome? (fun (_, ids) => ((ids.head?).bind s.frame?).filter (fun f => w.selects f && !f.inFlight))

section
variable {o : Op} {w : BathWork}

theorem bathHoldEnd_of_filled (hop : (bathCheck s).op? h = some o) (hwork : o.work = .bath w) (hfilled : w.emptyAt = none) :
    bathHoldEnd h s = bathCheck s := by
  simp only [bathHoldEnd, hop, hwork, hfilled]

theorem bathHoldEnd_of_empty {t : Nat} (hop : (bathCheck s).op? h = some o) (hwork : o.work = .bath w) (hempty : w.emptyAt = some t)
    (hruns : o.state = .running) : bathHoldEnd h s = opFinish h .done 0 (advanceTo (t + w.holdMs * msTicks) (bathCheck s)) := by
  simp only [bathHoldEnd, hop, hwork, hempty, hruns, if_true]

variable (hop : s.op? h = some o) (hwork : o.work = .bath w)
include hop hwork

theorem bathDrain_of_stopped (hstop : w.discard = false ∨ o.working = false) : bathDrain h s = s := by
  simp only [bathDrain, hop, hwork]
  refine if_pos ?_
  obtain hd | hw := hstop
  · simp [hd]
  · simp [hw]

variable (hdiscard : w.discard = true) (hworks : o.working = true)
include hdiscard hworks

theorem bathDrain_of_done (hnext : bathNext w s = none) : bathDrain h s = settle (suspendPoint h s) := by
  unfold bathNext at hnext
  simp only [bathDrain, hop, hwork, hdiscard, hworks, Bool.and_self, Bool.not_true, Bool.false_eq_true, if_false, hnext]

theorem bathDrain_of_next {f : Frame} (hnext : bathNext w s = some f) :
    let x := ledgerMove f.handle f.owner 1 20 1 s
    bathDrain h s = settle (giveUp f.id (cntBath f (setFrame { f with owner := if x.1 then 20 else f.owner } x.2))) := by
  unfold bathNext at hnext
  simp only [bathDrain, hop, hwork, hdiscard, hworks, Bool.and_self, Bool.not_true, Bool.false_eq_true, if_false, hnext]

end

/-- Where frames have left the queues of the one bath at work, they are its UNITS, and it may stop there (R91, R96). -/
theorem bathCheck_of_left {o : Op} {w : BathWork} (hops : s.ops = [o]) (hwork : o.work = .bath w) (hworks : o.working = true) {n : Nat}
    (hn : (s.core.frames.filter w.selects).length = n) (hleft : n < w.left) :
    bathCheck s = suspendPoint o.handle (setOp { o with
      units := o.units + (w.left - n), progress := (o.units + (w.left - n)) * 10000 / (o.units + (w.left - n) + n),
      work := .bath { w with emptyAt := if n = 0 then some (w.emptyAt.getD s.clk.now) else none, left := n } } s) := by
  have hgone : w.left - n ≠ 0 := by omega
  simp only [bathCheck, hops, List.foldl_cons, List.foldl_nil, hwork, hworks, hn, if_true, if_neg hgone]

end

/-- Settles O48, clause by clause: each row is `live` of its operation, and the operation's rule above says what it does. -/
theorem egressPausesAndBaths : Obligations.EgressPausesAndBaths := by
  intro s hheld
  refine ⟨fun p => ?egress, fun _ _ _ _ _ _ _ => dwrr_fits, fun j c n v => ⟨debit_seven, debit_six, debit_six_unshaped, debit_low⟩,
    fun p vec times => ?pfc, fun p quanta => ?pause, fun p c => ?expiry, fun h => ?bath, fun h w o v hops hh hwork hworks hleft => ?look⟩
  case egress =>
    intro t started
    refine ⟨fun hdown => live_eq hheld (egressSelect_of_down hdown), fun hup =>
      ⟨fun c e h => live_eq hheld (egressSelect_of_started hup h), ?_⟩⟩
    have hexec : started = none → ∀ {u}, classChoice p t = u → exec (.egressFrameSelect p) s = .next u :=
      fun hnone u h => live_eq hheld ((egressSelect_of_none_started hup hnone).trans h)
    exact ⟨fun e hnone hstill h => hexec hnone (classChoice_of_firmware hstill h),
      fun hnone hstill h => hexec hnone (classChoice_of_still hstill h),
      fun e hnone hmoves hlevel h => hexec hnone (classChoice_of_seven hmoves ((if_pos hlevel).trans h)),
      fun e hnone hmoves h7 hlevel h => hexec hnone (classChoice_of_six hmoves (sevenReady_eq_none h7) ((if_pos hlevel).trans h)),
      fun hnone hmoves h => hexec hnone ((classChoice_of_low hmoves (sevenReady_eq_none (.inr (h 7 (by decide))))
        (sixReady_eq_none (h 6 (by decide)))).trans (roundRobin_of_none_ready h))⟩
  case pfc =>
    refine ⟨fun hdown => live_eq hheld (pfcRx_of_down hdown _ _), fun hup hmode => live_eq hheld (pfcRx_of_other_mode hup hmode _ _),
      fun hup hmode => ⟨_, live_next hheld _, fun c hc => ?_⟩⟩
    rw [pfcRx_fc hup hmode _ _ hc]
    refine ⟨fun h => by rw [pfcClass_of_unnamed h], fun h hq => ?_, fun h hq => ?_⟩
    · rw [pfcClass_of_named h, hq]
      exact pauseClass_ends p c s
    · rw [pfcClass_of_named h, pauseClass_pauses hq]
      exact ⟨rfl, rfl⟩
  case pause =>
    refine ⟨fun hdown => live_eq hheld (pauseRx_of_down hdown _), fun hup hmode => live_eq hheld (pauseRx_of_other_mode hup hmode _),
      fun hup hmode => ⟨_, live_next hheld _, fun c hc => ?_⟩⟩
    rw [pauseRx_fc hup hmode _ hc]
    refine ⟨fun hq => hq ▸ pauseClass_ends p c s, fun hq => ?_⟩
    rw [pauseClass_pauses fun h0 => hq (BitVec.eq_of_toNat_eq h0)]
    exact ⟨rfl, rfl⟩
  case expiry =>
    refine ⟨fun h => live_eq hheld (pauseExpire_of_unpaused h), fun h => ⟨_, live_eq hheld (pauseExpire_of_paused h), ?_, ?_⟩,
      fun hlossless hxoff hup => live_eq hheld (pauseRepeat_of_xoff hlossless hxoff hup), fun h => live_eq hheld (pauseRepeat_else h)⟩
    · rw [unpause_fc]
    · simp [unpause, modCore]
  case bath =>
    exact ⟨fun hop => live_eq hheld (bathHoldEnd_of_none hop),
      fun o w t hop hwork hempty hruns => live_eq hheld (bathHoldEnd_of_empty hop hwork hempty hruns),
      fun o w hop hwork hfilled => live_eq hheld (bathHoldEnd_of_filled hop hwork hfilled),
      fun hop => live_eq hheld (bathDrain_of_none hop),
      fun o w hop hwork hstop => live_eq hheld (bathDrain_of_stopped hop hwork hstop),
      fun o w hop hwork hdiscard hworks hnext => live_eq hheld (bathDrain_of_done hop hwork hdiscard hworks hnext),
      fun o w f hop hwork hdiscard hworks hnext => live_eq hheld (bathDrain_of_next hop hwork hdiscard hworks hnext)⟩
  case look =>
    exact hh ▸ bathCheck_of_left hops hwork hworks rfl hleft

end Sys2Proof.Machine
end

section
/-! SUPPORT. The opcodes of group 0x07 (R253, R257 to R266): TableOpcodesDoWhatTheySay. -/

namespace Sys2Proof.Machine

/-- Settles O25: each opcode's row runs the effect of its definition (`carries_row`). -/
theorem tableOpcodesDoWhatTheySay : Obligations.TableOpcodesDoWhatTheySay := by
  intro g
  exact ⟨carries_row rfl (d := opTableBulkLoad) rfl (by decide) rfl, carries_row rfl (d := opFence) rfl (by decide) rfl,
    carries_row rfl (d := opTableShadow) rfl (by decide) rfl, carries_row rfl (d := opLearnConfig) rfl (by decide) rfl,
    carries_row rfl (d := opL2PortConfig) rfl (by decide) rfl, carries_row rfl (d := opFdbFlush) rfl (by decide) rfl,
    carries_row rfl (d := opTcamRebuild) rfl (by decide) rfl, carries_row rfl (d := opTableStatus) rfl (by decide) rfl⟩

end Sys2Proof.Machine
end

section
/-! SUPPORT. Window operations: the registers of a window, the turns of a slice's maintenance port, and what an operation does to the tables it reaches (R243 to R254). -/

namespace Sys2Proof.Machine

/-! ### A window's registers (R244) -/

/-- The operation rows of a window on a table, each with the OP that it writes (R245). -/
def windowRows (w : Fin 18) (t : Fin 16) : List (Instr × Nat) :=
  [(.readIndex w t, 1), (.writeIndex w t, 2), (.insert w t, 3), (.delete w t, 4), (.search w t, 5), (.clearHit w t, 6)]

theorem exec_windowRow {w : Fin 18} {t : Fin 16} {r : Instr × Nat} (hr : r ∈ windowRows w t) (s : State) :
    exec r.1 s = live s (tawNow w r.2 t) ∧ r.2 ≠ 0 := by
  simp only [windowRows, List.mem_cons, List.not_mem_nil, or_false] at hr
  obtain rfl | rfl | rfl | rfl | rfl | rfl := hr
  · exact ⟨exec_readIndex w t s, Nat.succ_ne_zero _⟩
  · exact ⟨exec_writeIndex w t s, Nat.succ_ne_zero _⟩
  · exact ⟨exec_insert w t s, Nat.succ_ne_zero _⟩
  · exact ⟨exec_delete w t s, Nat.succ_ne_zero _⟩
  · exact ⟨exec_search w t s, Nat.succ_ne_zero _⟩
  · exact ⟨exec_clearHit w t s, Nat.succ_ne_zero _⟩

section
variable (w : Nat) (s : State)

/-- An answer ends BUSY and shows its code. -/
theorem tawFinish_win (o : TawOut) : ((tawFinish w o s).win w).busy = false ∧ ((tawFinish w o s).win w).code = o.code := by
  rw [tawFinish, win_modWin_same]
  cases o.load with
  | none => exact ⟨rfl, rfl⟩
  | some x => exact ⟨rfl, rfl⟩

theorem tawRun_idle : ((tawRun w s).win w).busy = false := (tawFinish_win ..).1

variable {w s} {op t : Nat}

theorem tawNow_unserved (hbar : s.barServed = false) : tawNow w op t s = s := by simp [tawNow, hbar]

theorem tawNow_busy (hbar : s.barServed = true) (hbusy : (s.win w).busy = true) :
    tawNow w op t s = modWin w (fun q => { q with overrun := true }) s := by
  simp [tawNow, tawCommand, hbar, hbusy]

/-- On a free window the operation runs on the window's key, mask, data and index. -/
theorem tawNow_free (hbar : s.barServed = true) (hbusy : (s.win w).busy = false) (hop : op ≠ 0) :
    let u := modWin w (fun q => { q with op := op, table := t, busy := true }) s
    let q := s.win w
    let x := tawExec w op t q.key q.mask q.data q.index u
    tawNow w op t s = tawFinish w x.1 x.2 := by
  have hcommand : tawCommand w op t s = modWin w (fun q => { q with op := op, table := t, busy := true }) s := by
    simp [tawCommand, hbusy, hop]
  simp only [tawNow, hbar, hbusy, hcommand, tawRun, win_modWin_same, Bool.not_true, Bool.false_eq_true, if_false]

theorem tawGrant_idle (hbusy : (s.win w).busy = false) : tawGrant w s = s := by simp [tawGrant, hbusy]

theorem tawGrant_busy (hbusy : (s.win w).busy = true) : tawGrant w s = tawRun w (if w < 17 then portGrant w 0 s else portGrants 1 s) := by
  simp [tawGrant, hbusy]

theorem tawExpire_idle (hbusy : (s.win w).busy = false) : tawExpire w s = s := by simp [tawExpire, hbusy]

theorem tawExpire_busy (hbusy : (s.win w).busy = true) :
    tawExpire w s = modWin w (fun q => { q with busy := false, code := 6, rindex := 0, moves := 0, dyn := false, overflow := false }) s :=
  if_pos hbusy

end

/-! ### The turns of a maintenance port (R251) -/

section
variable {sl k : Nat} {s : State}

theorem portGrant_alone (h : portAhead sl k s = []) :
    portGrant sl k s = { s with tables := { s.tables with turns := s.tables.turns.set sl ((k + 1) % 7) } } := by
  rw [portGrant, h]
  rfl

/-- Whatever waits ahead, the turn passes to the contender after the granted one. -/
theorem portGrant_turn (sl k : Nat) (s : State) : (portGrant sl k s).tables.turns.get 0 sl = (k + 1) % 7 :=
  tab_get_set_same ..

theorem portGrant_runs_ahead {v : Nat} (h : portAhead sl k s = [v]) : ((portGrant sl k s).win v).busy = false := by
  rw [portGrant, h]
  exact tawRun_idle v s

/-- A busy window that comes before a contender in turn waits ahead of it: contender 0 is the slice's own window, 1 the broadcast window. -/
theorem mem_portAhead {j v : Nat} (hwindow : (j, v) = (0, sl) ∨ (j, v) = (1, 17)) (hbusy : (s.win v).busy = true) (hother : j ≠ k)
    (hbefore : (j + 7 - s.tables.turns.get 0 sl % 7) % 7 < (k + 7 - s.tables.turns.get 0 sl % 7) % 7) : v ∈ portAhead sl k s := by
  simp only [portAhead, List.mem_map, List.mem_filter, List.mem_cons, List.not_mem_nil, or_false]
  refine ⟨(j, v), ⟨hwindow, ?_⟩, rfl⟩
  simp [hbusy, hother, hbefore]

end

/-! ### What an operation reaches (R246 to R248) -/

theorem tawTargets_slice {w : Nat} (hw : w < 17) (s : State) : tawTargets s w = ([w], [w], w) := if_pos hw

theorem tab_onSlices_same (w : Nat) (f : SliceTab → SliceTab) (s : State) : (onSlices [w] f s).tab w = f (s.tab w) :=
  tab_modTab_same s w f

theorem tab_onSlices_other {w j : Nat} (h : j ≠ w) (f : SliceTab → SliceTab) (s : State) : (onSlices [w] f s).tab j = s.tab j :=
  tab_modTab_other s h f

/-- May a SEARCH with LEN 0xFF return the route of a half slot (R247): the TCAM answers, or the route's hash-store entry is not uncorrectable? -/
def returnable (T : SliceTab) : Nat → Bool := fun h => T.mode == .tcam || !((T.lpm.find? h).any (·.bad))

theorem returnable_outside_tcam {T : SliceTab} {h : Nat} (hmode : T.mode ≠ .tcam) (hkept : returnable T h = true) :
    ((T.lpm.find? h).any (·.bad)) = false := by
  simpa [returnable, hmode] using hkept

section
variable {w op t : Nat} (key mask : Nat) (data : List Nat) (i : Nat) {s : State}

theorem tawExec_no_table (ht : 6 < t) : tawExec w op t key mask data i s = (TawOut.bare 7, s) := if_pos (.inl ht)

theorem tawWrites_iff : tawWrites op = true ↔ op = 2 ∨ op = 3 ∨ op = 4 ∨ op = 6 := by simp [tawWrites, or_assoc]

section
variable (ht : t ≤ 6) (hop : op = 2 ∨ op = 3 ∨ op = 4 ∨ op = 6)
include ht hop

theorem tawExec_denied (hdenied : writesDenied s = true) : tawExec w op t key mask data i s = (TawOut.bare 5, s) := by
  rw [tawExec, if_neg (by omega), if_pos (by simp [tawWrites_iff.mpr hop, hdenied])]

theorem tawExec_dead (hw : w < 17) (hdead : (s.slice w).st = .dead) : tawExec w op t key mask data i s = (TawOut.bare 5, s) := by
  by_cases hdenied : writesDenied s = true
  · exact tawExec_denied key mask data i ht hop hdenied
  · rw [tawExec, if_neg (by omega), if_neg (by simp [hdenied]), if_neg (by simp [hw.ne]),
      if_pos (by simp [tawWrites_iff.mpr hop, hw, hdead])]

end

/-- A keyed SEARCH answers what it finds and changes nothing (R247). -/
theorem tawExact_search_state : (tawExact w 5 t key data i s).2 = s := by
  cases hfind : xFind ((s.tab (tawTargets s w).2.2).x t) (xKey t key) with
  | none => simp only [tawExact, hfind]
  | some x =>
    simp only [tawExact, hfind]
    split_ifs <;> rfl

/-- A SEARCH with LEN 0xFF answers the longest matching route that it may return (R247). -/
theorem tawLpm_longest {A : SliceTab} (hA : s.tab (tawTargets s w).2.2 = A) (hlen : lpmLen key = 0xFF) :
    tawLpm w 5 key data i s =
      ((longest A (key.testBit 0) (keyAddr key) (returnable A)).elim (TawOut.bare 1) (fun x => routeLoad A x.1 x.2), s) := by
  unfold returnable
  simp only [tawLpm, hA, hlen, decide_true, Bool.and_self, if_true]
  split
  next h r hfound => rw [hfound]; rfl
  next hnone => rw [hnone]; rfl

theorem tawLpm_search_state : (tawLpm w 5 key data i s).2 = s := by
  by_cases hlen : lpmLen key = 0xFF
  · rw [tawLpm_longest key data i rfl hlen]
  · cases hok : lpmKeyOk key with
    | false => simp [tawLpm, hlen, hok]
    | true =>
      cases hfind : routeFind (s.tab (tawTargets s w).2.2) (key.testBit 0) (lpmLen key) (keyAddr key) with
      | none => simp [-Nat.testBit_zero, tawLpm, hlen, hok, hfind]
      | some x =>
        simp only [tawLpm, hlen, hok, hfind, decide_false, Bool.and_false, Bool.not_true, Bool.false_eq_true, if_false]
        split_ifs <;> rfl

theorem ite_state {P : Prop} [Decidable P] {x y : TawOut × State} (hx : P → x.2 = s) (hy : ¬ P → y.2 = s) :
    (if P then x else y).2 = s := by
  split_ifs with h
  · exact hx h
  · exact hy h

/-- READ_INDEX and SEARCH change nothing: each check answers, and of the operations themselves only a keyed or an indexed read and a keyed search are left. -/
theorem tawExec_reads_state (hop : op = 1 ∨ op = 5) : (tawExec w op t key mask data i s).2 = s := by
  refine ite_state (fun _ => rfl) fun _ => ite_state (fun _ => rfl) fun _ => ite_state (fun _ => rfl) fun _ =>
    ite_state (fun _ => rfl) fun _ => ite_state (fun _ => rfl) fun _ => ite_state (fun _ => rfl) fun hindexed =>
    ite_state (fun _ => rfl) fun _ => ite_state (fun _ => rfl) fun hkeyed => ite_state (fun _ => rfl) fun _ =>
    ite_state (fun _ => rfl) fun _ => ite_state (fun hlpm => ?_) fun _ => ite_state (fun hexact => ?_) fun hindex => ?_
  all_goals obtain rfl | rfl := hop
  · exact absurd (by simp [hlpm]) hkeyed
  · exact tawLpm_search_state ..
  · exact absurd (by simpa using hexact) hkeyed
  · exact tawExact_search_state ..
  · rfl
  · exact absurd (by simpa using hindex) hindexed

end

/-! ### Indexed entries, written, deleted and read (R247, R254) -/

section
variable {t i : Nat} {T : SliceTab}

/-- An entry whose mark was taken away is not known uncorrectable. -/
theorem bad_of_erased {ecc : Tab Bool} (ht : t ≠ 2) (hwf : ecc.wf) (hecc : T.ecc = ecc.erase (eccKey t i)) : T.bad t i = false := by
  rw [SliceTab.bad, if_neg ht, hecc, tab_get_eq_find, tab_find_erase_same hwf]
  rfl

theorem idxWrite_ecc (key mask : Nat) (data : List Nat) : (idxWrite t i key mask data T).ecc = T.ecc.erase (eccKey t i) := by
  unfold idxWrite; dsimp only
  split <;> rfl

theorem idxErase_ecc : (idxErase t i T).ecc = T.ecc.erase (eccKey t i) := by
  unfold idxErase; dsimp only
  split <;> rfl

/-- A next hop, an ECMP group or a member reads as it was last written. -/
theorem tawRead_idxWrite (ht : t = 3 ∨ t = 4 ∨ t = 5) (hwf : T.ecc.wf) (key mask : Nat) (data : List Nat) :
    tawRead (idxWrite t i key mask data T) t i = { TawOut.bare 0 with
      rindex := i, load := some (0, 0, [data.getD 0 0, if t = 3 then data.getD 1 0 else 0, if t = 3 then data.getD 2 0 else 0]) } := by
  have hgood : (idxWrite t i key mask data T).bad t i = false := bad_of_erased (by omega) hwf (idxWrite_ecc key mask data)
  obtain rfl | rfl | rfl := ht
  all_goals
    simp only [tawRead, hgood, Bool.false_eq_true, if_false]
    simp [idxWrite]

/-- A deleted next hop reads as empty. -/
theorem tawRead_idxErase_nextHop (hecc : T.ecc.wf) (hnh : T.nh.wf) : tawRead (idxErase 3 i T) 3 i = TawOut.bare 1 := by
  have hgood : (idxErase 3 i T).bad 3 i = false := bad_of_erased (by decide) hecc idxErase_ecc
  have hnone : (idxErase 3 i T).nh.find? i = none := tab_find_erase_same hnh i
  simp only [tawRead, hgood, hnone, Bool.false_eq_true, if_false]

end

section
variable {w : Nat} (hw : w < 17) {t : Nat} (i key mask : Nat) (data : List Nat) (s : State)
include hw

theorem tawIndexed_read : tawIndexed w 1 t key mask data i s = (tawRead (s.tab w) t i, s) := by
  simp only [tawIndexed, tawTargets_slice hw]

theorem tawIndexed_write (ht : t ≠ 6) (hok : dataOk t data = true) :
    tawIndexed w 2 t key mask data i s = ({ TawOut.bare 0 with rindex := i }, onSlices [w] (idxWrite t i key mask data) s) := by
  simp [tawIndexed, tawTargets_slice hw, hok, ht]

theorem tawIndexed_delete :
    tawIndexed w 4 t key mask data i s =
      ({ TawOut.bare (if idxValid t i (s.tab w) then 0 else 1) with rindex := i }, onSlices [w] (idxErase t i) s) := by
  simp only [tawIndexed, tawTargets_slice hw]

/-! ### Keyed entries (R244, R247) -/

/-- DELETE and CLEAR_HIT of a key that the slice holds answer its entry's index and marks. -/
theorem tawExact_keyed {op j : Nat} {e : KEntry} (hop : op = 4 ∨ op = 6) (hfind : xFind ((s.tab w).x t) (xKey t key) = some (j, e)) :
    (tawExact w op t key data i s).1 = keyedOut true t (some (j, e)) := by
  obtain rfl | rfl := hop
  · simp [tawExact, tawTargets_slice hw, hfind]
  · simp [tawExact, tawTargets_slice hw, hfind]

end

/-- One route more in the search for the longest that matches. -/
def longer (v6 : Bool) (addr : Nat) (keep : Nat → Bool) (best : Option (Nat × Route)) (x : Nat × Route) : Option (Nat × Route) :=
  if x.2.covers v6 addr && keep x.1 then
    match best with
    | some b => if b.2.len < x.2.len then some x else best
    | none => some x
  else best

theorem longest_eq_foldl (T : SliceTab) (v6 : Bool) (addr : Nat) (keep : Nat → Bool) :
    longest T v6 addr keep = T.lpm.foldl (longer v6 addr keep) none := rfl

/-- The longer route is the best so far, or the route that was looked at, which then matches and is kept. -/
theorem longer_eq {v6 : Bool} {addr : Nat} {keep : Nat → Bool} (best : Option (Nat × Route)) (x : Nat × Route) :
    longer v6 addr keep best x = best ∨ longer v6 addr keep best x = some x ∧ (x.2.covers v6 addr && keep x.1) = true := by
  unfold longer
  by_cases hmatch : (x.2.covers v6 addr && keep x.1) = true
  · rw [if_pos hmatch]
    cases best with
    | none => exact .inr ⟨rfl, hmatch⟩
    | some b =>
      by_cases hlen : b.2.len < x.2.len
      · exact .inr ⟨if_pos hlen, hmatch⟩
      · exact .inl (if_neg hlen)
  · exact .inl (if_neg hmatch)

theorem foldl_longer_eq {v6 : Bool} {addr : Nat} {keep : Nat → Bool} (l : List (Nat × Route)) {best : Option (Nat × Route)}
    {y : Nat × Route} (h : l.foldl (longer v6 addr keep) best = some y) :
    best = some y ∨ y ∈ l ∧ (y.2.covers v6 addr && keep y.1) = true := by
  induction l generalizing best with
  | nil => exact .inl h
  | cons x l ih =>
    obtain hbest | ⟨hmem, hmatch⟩ := ih h
    · obtain hsame | ⟨hnew, hmatch⟩ := longer_eq (v6 := v6) (addr := addr) (keep := keep) best x
      · exact .inl (hsame.symm.trans hbest)
      · obtain rfl : x = y := Option.some.inj (hnew.symm.trans hbest)
        exact .inr ⟨List.mem_cons_self, hmatch⟩
    · exact .inr ⟨List.mem_cons_of_mem x hmem, hmatch⟩

/-- The longest matching route is one of the table's that matches and that the test keeps. -/
theorem longest_matches {T : SliceTab} {v6 : Bool} {addr : Nat} {keep : Nat → Bool} {y : Nat × Route}
    (h : longest T v6 addr keep = some y) : y ∈ T.lpm ∧ y.2.covers v6 addr = true ∧ keep y.1 = true := by
  obtain hnone | ⟨hmem, hmatch⟩ := foldl_longer_eq T.lpm ((longest_eq_foldl ..).symm.trans h)
  · exact absurd hnone (by simp)
  · exact ⟨hmem, Bool.and_eq_true_iff.mp hmatch⟩

end Sys2Proof.Machine
end

section
/-! LAW. Window operations answer in their window (R243 to R251, R254). -/

namespace Sys2Proof.Machine

/-- Settles O51: the rows and their window, the turns, what an operation reaches, and what the entries of the tables answer. -/
theorem windowOperationsAnswerInTheirWindow : Obligations.WindowOperationsAnswerInTheirWindow := by
  refine ⟨fun w t s hheld => ?rows, fun sl k s => ?turns, fun w op t key mask data i s => ?reach,
    fun w t i data s hw ht hok hwf => ?written, fun w t op key i j data e s hw hop hfind => ?keyed,
    fun w key i data s hw hlen hmode => ?longest, fun w i s hw hecc hnh => ?deleted⟩
  case rows =>
    intro rows
    refine ⟨fun hbar r hr => ?_, fun hbar hbusy r hr => ?_, fun hbar hbusy r hr => ?_, fun hbusy => ?_, fun hbusy => ?_⟩
    · exact (exec_windowRow hr s).1.trans (live_eq hheld (tawNow_unserved hbar))
    · exact (exec_windowRow hr s).1.trans (live_eq hheld (tawNow_busy hbar hbusy))
    · obtain ⟨hexec, hop⟩ := exec_windowRow hr s
      exact ⟨hexec.trans (live_eq hheld (tawNow_free hbar hbusy hop)), tawFinish_win ..⟩
    · exact ⟨live_eq hheld (tawGrant_idle hbusy), live_eq hheld (tawExpire_idle hbusy)⟩
    · exact ⟨live_eq hheld (tawGrant_busy hbusy), tawRun_idle .., live_eq hheld (tawExpire_busy hbusy)⟩
  case turns =>
    refine ⟨portGrant_alone, fun v hv => ⟨portGrant_runs_ahead hv, portGrant_turn ..⟩, fun hturn hbusy hk hk7 => ?_,
      fun hturn hbusy hk hk7 => ?_⟩
    · exact mem_portAhead (.inl rfl) hbusy (by omega) (by omega)
    · exact mem_portAhead (.inr rfl) hbusy (by omega) (by omega)
  case reach =>
    exact ⟨tawExec_no_table key mask data i, fun ht hop hdenied => tawExec_denied key mask data i ht hop hdenied,
      fun ht hop hw hdead => tawExec_dead key mask data i ht hop hw hdead, tawExec_reads_state key mask data i⟩
  case written =>
    intro x y
    have hx : x = ({ TawOut.bare 0 with rindex := i }, onSlices [w] (idxWrite t i 0 0 data) s) :=
      tawIndexed_write hw i 0 0 data s (by omega) hok
    have hy : y.1 = _ := congrArg Prod.fst (tawIndexed_read hw i 0 0 [] x.2)
    rw [hx, tab_onSlices_same, tawRead_idxWrite ht hwf] at hy
    rw [hy, hx]
    exact ⟨rfl, rfl, rfl, rfl, fun j hj => tab_onSlices_other hj _ s⟩
  case keyed =>
    intro x
    have hx : x.1 = keyedOut true t (some (j, e)) := tawExact_keyed hw i key data s hop hfind
    rw [hx]
    exact ⟨rfl, rfl, rfl, rfl⟩
  case longest =>
    intro x
    have hx : x = _ := tawLpm_longest key data i (by rw [tawTargets_slice hw]) hlen
    rw [hx]
    refine ⟨rfl, ?_⟩
    cases hfound : longest (s.tab w) (key.testBit 0) (keyAddr key) (returnable (s.tab w)) with
    | none => exact .inl rfl
    | some y =>
      obtain ⟨hmem, hcovers, hkept⟩ := longest_matches hfound
      exact .inr ⟨y.1, y.2, hmem, hcovers, returnable_outside_tcam hmode hkept, rfl⟩
  case deleted =>
    intro x
    have hx : x = _ := tawIndexed_delete hw i 0 0 [] s
    rw [hx]
    refine ⟨rfl, ?_⟩
    rw [tawIndexed_read hw, tab_onSlices_same, tawRead_idxErase_nextHop hecc hnh]
    rfl

end Sys2Proof.Machine
end

section
/-! SUPPORT. A POOL_CONFIG that waits for buffers (R292), the opcodes of group 0x06 (R291 to R294, R328 to R336), and CoreOpcodesDoWhatTheySay. -/

namespace Sys2Proof.Machine

section
variable {t : Transport} {n : Nat} {counts : List Nat} {s : State}

theorem poolsSettle_of_free (hhold : s.core.poolsHold = some n) (hdue : poolsDue s = some (t, counts)) (hfree : bufferBusy s = false) :
    poolsSettle s = dueReply t stDone [] (poolsBuild counts s) := by
  simp [poolsSettle, hhold, hdue, hfree]

theorem poolsSettle_of_waiting (hhold : s.core.poolsHold = some n) (hdue : poolsDue s = some (t, counts)) (hbusy : bufferBusy s = true)
    (hnow : s.clk.now < n) : poolsSettle s = s := by
  simp [poolsSettle, hhold, hdue, hbusy, Nat.not_le.mpr hnow]

theorem poolsSettle_of_expired (hhold : s.core.poolsHold = some n) (hdue : poolsDue s = some (t, counts)) (hbusy : bufferBusy s = true)
    (hnow : n ≤ s.clk.now) : poolsSettle s = dueReply t stBusy [] (modCore (fun c => { c with poolsHold := none }) s) := by
  simp [poolsSettle, hhold, hdue, hbusy, hnow]

end

/-- Settles O24: each opcode's row runs the effect of its definition (`carries_row`), and a POOL_CONFIG that waits is settled by whether a buffer is still busy and its time is over. -/
theorem coreOpcodesDoWhatTheySay : Obligations.CoreOpcodesDoWhatTheySay := by
  intro g
  exact ⟨carries_row rfl (d := opPoolConfig) rfl (by decide) rfl, fun _ _ => rfl, fun t n counts s hhold hdue =>
      ⟨poolsSettle_of_free hhold hdue, poolsSettle_of_waiting hhold hdue, poolsSettle_of_expired hhold hdue⟩,
    carries_row rfl (d := opBufThreshold) rfl (by decide) rfl, carries_row rfl (d := opPoolStatus) rfl (by decide) rfl,
    carries_row rfl (d := opStopBath) rfl (by decide) rfl, carries_row rfl (d := opEgressSched) rfl (by decide) rfl,
    carries_row rfl (d := opDeadlockConfig) rfl (by decide) rfl, carries_row rfl (d := opDeadlockStatus) rfl (by decide) rfl,
    carries_row rfl (d := opSliceAssign) rfl (by decide) rfl, carries_row rfl (d := opSliceReturn) rfl (by decide) rfl,
    carries_row rfl (d := opSliceStatus) rfl (by decide) rfl, carries_row rfl (d := opMcastGroup) rfl (by decide) rfl,
    carries_row rfl (d := opMcastConfig) rfl (by decide) rfl⟩

end Sys2Proof.Machine
end

section
/-! SUPPORT. The buffers that received PTP messages meet (R271), what a recomputation of the headroom keeps (R198, R406), and ReceivedPtpMessagesAct. -/

namespace Sys2Proof.Machine

/-! ### A received message's buffer (R271) -/

/-- A PTP message of `n` bytes on a port meets its buffer: whether it is processed, and the state that leaves. A port that is not up judges it without a buffer. -/
def ptpBuffer (p n : Nat) (z : State) : Bool × State :=
  if (z.port p).isUp = false then (true, z) else passBuffer (z.quadSlice (quadOf p)) (max 64 ((ptpLead z p).length + n + 4)) z

theorem ptpHeard_eq (p n : Nat) (f : State → State) (z : State) :
    ptpHeard p n f z = if (ptpBuffer p n z).1 then f (ptpBuffer p n z).2 else (ptpBuffer p n z).2 := by
  unfold ptpHeard heard ptpBuffer
  cases (z.port p).isUp <;> rfl

theorem live_ptpHeard_of_lost {p n : Nat} {z : State} (hheld : z.held = false) (h : (ptpBuffer p n z).1 = false) (f : State → State) :
    live z (ptpHeard p n f) = .next (ptpBuffer p n z).2 :=
  live_eq hheld (by rw [ptpHeard_eq, if_neg (ne_true_of_eq_false h)])

/-- A running device processes a message of `n` bytes on a port, in the state that its buffer leaves. -/
structure PtpGranted (p n : Nat) (z s : State) : Prop where
  held : z.held = false
  buffer : ptpBuffer p n z = (true, s)

theorem PtpGranted.row {p n : Nat} {z s : State} (hg : PtpGranted p n z s) {f : State → State} {t : State} (hf : f s = t) :
    live z (ptpHeard p n f) = .next t :=
  live_eq hg.held (by rw [ptpHeard_eq, hg.buffer, if_pos rfl, hf])

/-! ### What a recomputation of the headroom keeps (R198, R406) -/

/-- What the link delay of a port is measured by: the timing part, its exchanges and their mean. -/
def State.delayRecord (s : State) (p : Nat) : Timing × List Nat × Option Nat := (s.tim, (s.flow p).exchanges, (s.flow p).measured)

theorem delayRecord_of_eq {s t : State} (htim : t.tim = s.tim) (hflows : t.flows = s.flows) (p : Nat) : t.delayRecord p = s.delayRecord p := by
  simp only [State.delayRecord, State.flow, htim, hflows]

@[simp] theorem delayRecord_modFc (p q c : Nat) (g : FlowClass → FlowClass) (s : State) : (modFc q c g s).delayRecord p = s.delayRecord p := by
  by_cases h : p = q
  · subst h
    simp [State.delayRecord, modFc]
  · simp [State.delayRecord, modFc, flow_modFlow_other (s := s) h]

theorem delayRecord_foldl {α : Type} {f : State → α → State} {p : Nat} (h : ∀ s a, (f s a).delayRecord p = s.delayRecord p) (l : List α) (s : State) :
    (l.foldl f s).delayRecord p = s.delayRecord p := by
  induction l generalizing s with
  | nil => rfl
  | cons a l ih => rw [List.foldl_cons, ih, h]

@[simp] theorem delayRecord_raise (c subject : Nat) (data : Bytes) (p : Nat) (s : State) : (raise c subject data s).delayRecord p = s.delayRecord p :=
  delayRecord_of_eq (raise_tim ..) (raise_flows ..) p

@[simp] theorem delayRecord_sendPause (p q c quanta : Nat) (s : State) : (sendPause q c quanta s).delayRecord p = s.delayRecord p := by
  unfold sendPause; dsimp only; split_ifs <;> rfl

@[simp] theorem delayRecord_xonCheck (p q c : Nat) (s : State) : (xonCheck q c s).delayRecord p = s.delayRecord p := by
  unfold xonCheck endXoff; dsimp only; split_ifs <;> simp

@[simp] theorem delayRecord_xonAll (p : Nat) (s : State) : (xonAll s).delayRecord p = s.delayRecord p :=
  delayRecord_foldl (fun s (x : Nat × Nat) => delayRecord_xonCheck p x.1 x.2 s) _ s

@[simp] theorem delayRecord_grantShift (p q c old new : Nat) (s : State) : (grantShift q c old new s).delayRecord p = s.delayRecord p := by
  unfold grantShift returnDirect; dsimp only; split_ifs <;> rfl

@[simp] theorem delayRecord_releaseCheck (p q c : Nat) (s : State) : (releaseCheck q c s).delayRecord p = s.delayRecord p := by
  unfold releaseCheck; dsimp only; split_ifs <;> simp

@[simp] theorem delayRecord_headroomShort (p q c : Nat) (s : State) : (headroomShort q c s).delayRecord p = s.delayRecord p := by
  simp [headroomShort]

@[simp] theorem delayRecord_recomputeClass (p q c delay : Nat) (s : State) : (recomputeClass q c delay s).delayRecord p = s.delayRecord p := by
  unfold recomputeClass; dsimp only; split_ifs <;> simp

@[simp] theorem delayRecord_headroomRecompute (p q : Nat) (s : State) : (headroomRecompute q s).delayRecord p = s.delayRecord p := by
  unfold headroomRecompute
  split
  · rfl
  · rw [delayRecord_xonAll]
    exact delayRecord_foldl (fun s c => by split_ifs <;> simp) _ s

/-! ### Identities and headers through a message sent (R401) -/

theorem ptpSend_frame (p kind : Nat) (b : Bytes) (s : State) :
    ptpSend p kind b s = { s with core := { s.core with fwQueue := (ptpSend p kind b s).core.fwQueue } } :=
  fwSend_frame ..

@[simp] theorem ptpHeader_ptpSend (p kind : Nat) (b : Bytes) (s : State) :
    ptpHeader (ptpSend p kind b s) = ptpHeader s := by
  rw [ptpSend_frame]; rfl

/-! ### Completed exchanges (R402, R406, R409) -/

theorem syncDone_of_parent {p : Nat} {s : State} (hparent : s.tim.time.parent = some p) (hknown : (s.ptp p).delayKnown = true) (t2 t1 corr : Int) :
    let ms := asTod s t2 - t1 - corr
    syncDone p t2 t1 corr s = takeSample p (ms - (s.ptp p).meanPath - asymOf (s.ptp p).asym (s.ptp p).meanPath)
      (modPtp p (fun q => { q with sync := none, syncAt := some s.clk.now, ms := some ms }) s) := by
  have h : (modPtp p (fun q => { q with sync := none, syncAt := some s.clk.now, ms := some (asTod s t2 - t1 - corr) }) s).tim.time.parent = some p ∧
      ((modPtp p (fun q => { q with sync := none, syncAt := some s.clk.now, ms := some (asTod s t2 - t1 - corr) }) s).ptp p).delayKnown = true := by
    rw [ptp_modPtp_same]
    exact ⟨hparent, hknown⟩
  rw [syncDone, if_pos h, ptp_modPtp_same]

theorem syncDone_else {p : Nat} {s : State} (h : s.tim.time.parent ≠ some p ∨ (s.ptp p).delayKnown = false) (t2 t1 corr : Int) :
    syncDone p t2 t1 corr s = modPtp p (fun q => { q with sync := none, syncAt := some s.clk.now, ms := some (asTod s t2 - t1 - corr) }) s := by
  refine if_neg ?_
  rintro ⟨hparent, hknown⟩
  rw [ptp_modPtp_same] at hknown
  rcases h with h | h
  · exact h hparent
  · exact absurd (hknown : (s.ptp p).delayKnown = true) (ne_true_of_eq_false h)

/-- The exchanges of a port after one more of delay `d`: the last 16 (R406). -/
def exchangesWith (d : Int) (f : Flow) : List Nat := (d.toNat :: f.exchanges).take 16

theorem four_le_exchangesWith_length (d : Int) (f : Flow) : 4 ≤ (exchangesWith d f).length ↔ 3 ≤ f.exchanges.length := by
  rw [exchangesWith, List.length_take, List.length_cons]
  omega

theorem delayRecord_modPtp_modFlow (p : Nat) (g : PtpPort → PtpPort) (f : Flow → Flow) (s : State) :
    (modPtp p g (modFlow p f s)).delayRecord p = ((modPtp p g s).tim, (f (s.flow p)).exchanges, (f (s.flow p)).measured) :=
  congrArg (fun q : Flow => ((modPtp p g s).tim, q.exchanges, q.measured)) (flow_modFlow_same s p f)

theorem pdelayDone_delayRecord (p : Nat) (d : Int) (s : State) :
    let l := exchangesWith d (s.flow p)
    let mean : Int := (l.sum : Int) / (l.length : Int)
    (pdelayDone p d s).delayRecord p =
      ((modPtp p (fun q => { q with pReq := none, pResp := none, meanLink := some mean }) s).tim, l,
       if 3 ≤ (s.flow p).exchanges.length then some mean.toNat else (s.flow p).measured) := by
  simp only [← four_le_exchangesWith_length d]
  rw [pdelayDone, delayRecord_headroomRecompute, delayRecord_modPtp_modFlow]
  rfl

theorem ptp_of_tim {s t : State} (h : t.tim = s.tim) (p : Nat) : t.ptp p = s.ptp p := by
  rw [State.ptp, h, State.ptp]

/-! ### The rows on a granted message (R402, R405 to R407) -/

section
variable {p : Port} {m : PtpMsg} {z s : State}

theorem rejects_of_not_followed (h : ¬ (ptpTakes s p m = true ∧ fromMaster s p m = true)) : (!ptpTakes s p m || !fromMaster s p m) = true := by
  simpa [imp_iff_not_or] using h

theorem accepts_of_followed (h : ptpTakes s p m = true ∧ fromMaster s p m = true) : ¬ (!ptpTakes s p m || !fromMaster s p m) = true := by
  simp [h]

section
variable (hg : PtpGranted p 44 z s)
include hg

theorem ptpSyncRx_unfollowed (h : ¬ (ptpTakes s p m = true ∧ fromMaster s p m = true)) : exec (.ptpSyncRx p m) z = .next s :=
  hg.row (if_pos (rejects_of_not_followed h))

theorem ptpSyncRx_two_step (h : ptpTakes s p m = true ∧ fromMaster s p m = true) (htwo : m.twoStep = true) :
    exec (.ptpSyncRx p m) z = .next (modPtp p (fun q => { q with sync := some (m.seq.toNat, rxStamp s p m.capture, m.corr) }) s) :=
  hg.row ((if_neg (accepts_of_followed h)).trans (if_pos htwo))

theorem ptpSyncRx_one_step (h : ptpTakes s p m = true ∧ fromMaster s p m = true) (hone : m.twoStep = false) :
    exec (.ptpSyncRx p m) z = .next (syncDone p (rxStamp s p m.capture) m.stamp m.corr s) :=
  hg.row ((if_neg (accepts_of_followed h)).trans (if_neg (ne_true_of_eq_false hone)))

theorem ptpFollowUpRx_unfollowed (h : ¬ (ptpTakes s p m = true ∧ fromMaster s p m = true)) : exec (.ptpFollowUpRx p m) z = .next s :=
  hg.row (if_pos (rejects_of_not_followed h))

theorem ptpFollowUpRx_of_none (hsync : (s.ptp p).sync = none) : exec (.ptpFollowUpRx p m) z = .next s :=
  hg.row (ite_eq_left_iff.mpr fun _ => by rw [hsync])

theorem ptpFollowUpRx_of_sync (h : ptpTakes s p m = true ∧ fromMaster s p m = true) {n : Nat} {t c : Int}
    (hsync : (s.ptp p).sync = some (n, t, c)) :
    exec (.ptpFollowUpRx p m) z = .next (if n = m.seq.toNat then syncDone p t m.stamp (c + m.corr) s else s) :=
  hg.row ((if_neg (accepts_of_followed h)).trans (by rw [hsync]))

theorem ptpDelayReqRx_eq :
    exec (.ptpDelayReqRx p m) z = .next (if ptpTakes s p m = true ∧ (s.ptp p).st = .master ∧ s.clk.todSet = true then
      ptpSend p 9 (ptpHeader s p 9 54 0 (m.corr - subNs (asTod s (rxStamp s p m.capture))) m.seq.toNat (s.ptp p).logDelay ++
        respBody (asTod s (rxStamp s p m.capture)) m) s else s) :=
  hg.row (if_congr (by simp [and_assoc]) rfl rfl)

end

section
variable (hg : PtpGranted p 54 z s)
include hg

theorem ptpDelayRespRx_unfollowed (h : ¬ (ptpTakes s p m = true ∧ fromMaster s p m = true)) : exec (.ptpDelayRespRx p m) z = .next s :=
  hg.row (if_pos (by rw [rejects_of_not_followed h, Bool.true_or]))

/-- A Delay_Resp for another port, without a request that awaits it, or before a Sync is complete, changes nothing. -/
theorem ptpDelayRespRx_unmatched (h : respMine s p m = false ∨ (s.ptp p).req = none ∨ (s.ptp p).ms = none) :
    exec (.ptpDelayRespRx p m) z = .next s := by
  obtain hother | hreq | hms := h
  · exact hg.row (if_pos (by rw [hother, Bool.not_false, Bool.or_true]))
  · exact hg.row (ite_eq_left_iff.mpr fun _ => by rw [hreq])
  · refine hg.row (ite_eq_left_iff.mpr fun _ => ?_)
    rw [hms]
    cases (s.ptp p).req <;> rfl

theorem ptpDelayRespRx_matched (h : ptpTakes s p m = true ∧ fromMaster s p m = true) (hmine : respMine s p m = true) {n : Nat} {t ms : Int}
    (hreq : (s.ptp p).req = some (n, t)) (hms : (s.ptp p).ms = some ms) :
    exec (.ptpDelayRespRx p m) z = .next (if n = m.seq.toNat then presence (modPtp p (fun q => { q with
      req := none, respAt := some s.clk.now, meanPath := (ms + (m.stamp - asTod s t - m.corr)) / 2, delayKnown := true }) s) else s) :=
  hg.row ((if_neg (by simp [h, hmine])).trans (by rw [hreq, hms]))

theorem ptpPdelayReqRx_unanswered (h : ptpLive s p = false ∨ ptpMine s m = false ∨ (s.ptp p).linkDelay = false) (txc : Int) :
    exec (.ptpPdelayReqRx p m txc) z = .next s := by
  refine hg.row (if_neg ?_)
  obtain h | h | h := h <;> simp [h]

theorem ptpPdelayReqRx_answered (hlive : ptpLive s p = true) (hmine : ptpMine s m = true) (hpeer : (s.ptp p).linkDelay = true) (txc : Int) :
    let t2 := asTod s (rxStamp s p m.capture)
    let t3 := asTod s (txStamp s p txc)
    let who := be 8 m.sender.toNat ++ be 2 m.senderPort.toNat
    exec (.ptpPdelayReqRx p m txc) z = .next (ptpSend p 10 (ptpHeader s p 10 54 0 (m.corr + subNs t3) m.seq.toNat 0x7F ++ (ptpTime t3 ++ who))
      (ptpSend p 3 (ptpHeader s p 3 54 0x0200 (-(subNs t2)) m.seq.toNat 0x7F ++ (ptpTime t2 ++ who)) s)) := by
  refine hg.row ((if_pos ?_).trans ?_)
  · rw [hlive, hmine, hpeer]; rfl
  · simp only [ptpHeader_ptpSend, respBody, List.append_assoc]

theorem ptpPdelayResp_unaddressed (h : ¬ (ptpLive s p = true ∧ ptpMine s m = true ∧ respMine s p m = true)) :
    exec (.ptpPdelayRespRx p m) z = .next s ∧ exec (.ptpPdelayRespFollowUpRx p m) z = .next s := by
  have hrefused : (!ptpLive s p || !ptpMine s m || !respMine s p m) = true := by
    simpa [imp_iff_not_or, or_assoc] using h
  exact ⟨hg.row (if_pos hrefused), hg.row (if_pos hrefused)⟩

theorem ptpPdelayResp_unasked (hreq : (s.ptp p).pReq = none) :
    exec (.ptpPdelayRespRx p m) z = .next s ∧ exec (.ptpPdelayRespFollowUpRx p m) z = .next s :=
  ⟨hg.row (ite_eq_left_iff.mpr fun _ => by rw [hreq]), hg.row (ite_eq_left_iff.mpr fun _ => by rw [hreq])⟩

theorem ptpPdelayRespFollowUpRx_of_no_response (hresp : (s.ptp p).pResp = none) : exec (.ptpPdelayRespFollowUpRx p m) z = .next s := by
  refine hg.row (ite_eq_left_iff.mpr fun _ => ?_)
  rw [hresp]
  cases (s.ptp p).pReq <;> rfl

theorem ptpPdelayRespRx_matched (h : ptpLive s p = true ∧ ptpMine s m = true ∧ respMine s p m = true) {n : Nat} {t : Int}
    (hreq : (s.ptp p).pReq = some (n, t)) :
    exec (.ptpPdelayRespRx p m) z = .next (if n = m.seq.toNat then
      modPtp p (fun q => { q with pResp := some (n, rxStamp s p m.capture, m.stamp, m.corr) }) s else s) :=
  hg.row ((if_neg (by simp [h])).trans (by rw [hreq]))

theorem ptpPdelayRespFollowUpRx_matched (h : ptpLive s p = true ∧ ptpMine s m = true ∧ respMine s p m = true) {n k : Nat} {t1 t4 t2 c : Int}
    (hreq : (s.ptp p).pReq = some (n, t1)) (hresp : (s.ptp p).pResp = some (k, t4, t2, c)) :
    let d := ((t4 - t1) - (m.stamp - t2) - c - m.corr) / 2
    exec (.ptpPdelayRespFollowUpRx p m) z = .next (if n = m.seq.toNat ∧ k = m.seq.toNat then
      pdelayDone p (d - asymOf (s.ptp p).asym d) s else s) :=
  hg.row ((if_neg (by simp [h])).trans (by rw [hreq, hresp]))

end

section
variable {a : PtpAnnounce} (hg : PtpGranted p (68 + 8 * a.path.length) z s)
include hg

theorem ptpAnnounceRx_discarded (h : ptpTakes s p m = false ∨ annAdmits s (annOfMsg m a) = false) : exec (.ptpAnnounceRx p m a) z = .next s := by
  refine hg.row (if_pos ?_)
  obtain h | h := h <;> simp [h]

theorem ptpAnnounceRx_admitted (htakes : ptpTakes s p m = true) (hadmits : annAdmits s (annOfMsg m a) = true) :
    exec (.ptpAnnounceRx p m a) z = .next (reelect (takeBest p (modPtp p (fun q => { q with
      foreign := noteForeign (annOfMsg m a) s.clk.now q.foreign, annLost := false }) s))) :=
  hg.row (if_neg (by simp [htakes, hadmits]))

end

theorem l1SyncTlvRx_eq (hg : PtpGranted p 60 z s) (tc rc cg : Bool) :
    exec (.l1SyncTlvRx p tc rc cg) z = .next (if s.tim.time.profile = 1 ∧ (s.ptp p).l1sync = true ∧ ptpLive s p = true then
      modPtp p (fun q => { q with l1Up := tc && rc && cg }) s else s) :=
  hg.row (if_congr (by simp [and_assoc]) rfl rfl)

end

/-! ### ReceivedPtpMessagesAct -/

/-- Settles O59, message by message: one that finds no buffer ends there (`live_ptpHeard_of_lost`), one that is granted a buffer runs its row in the state that this leaves. -/
theorem receivedPtpMessagesAct : Obligations.ReceivedPtpMessagesAct := by
  intro p z hheld h
  have granted {n : Nat} (hgot : (h n).1 = true) : PtpGranted p n z (h n).2 := ⟨hheld, Prod.ext hgot rfl⟩
  refine ⟨fun m a txc tc rc cg => ?lost, fun m hgot => ?sync, fun m hgot => ?delayResp, fun t2 t1 corr s =>
      ⟨fun hparent hknown => syncDone_of_parent hparent hknown t2 t1 corr, fun hother => syncDone_else hother t2 t1 corr⟩,
    fun m a hgot => ⟨ptpAnnounceRx_discarded (granted hgot), ptpAnnounceRx_admitted (granted hgot)⟩,
    fun m txc hgot => ⟨fun hrefused => ptpPdelayReqRx_unanswered (granted hgot) hrefused txc,
      fun hlive hmine hpeer => ptpPdelayReqRx_answered (granted hgot) hlive hmine hpeer txc⟩,
    fun m hgot => ?pdelayResp, fun d u _ => ?mean, fun tc rc cg hgot => l1SyncTlvRx_eq (granted hgot) tc rc cg⟩
  case lost =>
    refine ⟨fun hlost c hc => ?_, fun hlost c hc => ?_, fun hlost => live_ptpHeard_of_lost hheld hlost _,
      fun hlost => live_ptpHeard_of_lost hheld hlost _⟩
    · simp only [List.mem_cons, List.not_mem_nil, or_false] at hc
      obtain rfl | rfl | rfl | rfl := hc <;> exact live_ptpHeard_of_lost hheld hlost _
    · simp only [List.mem_cons, List.not_mem_nil, or_false] at hc
      obtain rfl | rfl | rfl | rfl := hc <;> exact live_ptpHeard_of_lost hheld hlost _
  case sync =>
    have hg := granted hgot
    exact ⟨fun hnot => ⟨ptpSyncRx_unfollowed hg hnot, ptpFollowUpRx_unfollowed hg hnot⟩, ptpSyncRx_two_step hg, ptpSyncRx_one_step hg,
      fun _ _ _ htakes hsync => ptpFollowUpRx_of_sync hg htakes hsync, fun _ hsync => ptpFollowUpRx_of_none hg hsync, ptpDelayReqRx_eq hg,
      hg.row rfl⟩
  case delayResp =>
    have hg := granted hgot
    exact ⟨ptpDelayRespRx_unfollowed hg, fun _ hunmatched => ptpDelayRespRx_unmatched hg hunmatched,
      fun _ _ _ htakes hmine hreq hms => ptpDelayRespRx_matched hg htakes hmine hreq hms⟩
  case pdelayResp =>
    have hg := granted hgot
    exact ⟨ptpPdelayResp_unaddressed hg, ptpPdelayResp_unasked hg, fun _ _ hmine hreq => ptpPdelayRespRx_matched hg hmine hreq,
      fun _ hresp => ptpPdelayRespFollowUpRx_of_no_response hg hresp,
      fun _ _ _ _ _ _ hmine hreq hresp => ptpPdelayRespFollowUpRx_matched hg hmine hreq hresp⟩
  case mean =>
    intro l t
    obtain ⟨htim, hrest⟩ := Prod.mk.inj (pdelayDone_delayRecord p d u)
    obtain ⟨hexchanges, hmeasured⟩ := Prod.mk.inj hrest
    have hptp := (ptp_of_tim htim p).trans (ptp_modPtp_same ..)
    exact ⟨hexchanges, congrArg PtpPort.meanLink hptp, congrArg PtpPort.pReq hptp, congrArg PtpPort.pResp hptp, hmeasured⟩

end Sys2Proof.Machine
end

section
/-! SUPPORT. A crossbar round's matching: what an iteration of request, grant and accept adds to the pairs that it is given (R304); and CrossbarPairsAreAMatching. -/

namespace Sys2Proof.Machine

/-! ### The nearest position (R304) -/

theorem leastOf_mem {α : Type} {m : α → Nat} {l : List α} {x : α} (h : leastOf m l = some x) : x ∈ l := by
  induction l generalizing x with
  | nil => simp [leastOf] at h
  | cons a l ih =>
    simp only [leastOf] at h
    split at h
    next y hy =>
      split at h <;> obtain rfl := Option.some.inj h
      · exact List.mem_cons_self
      · exact List.mem_cons_of_mem _ (ih hy)
    next => obtain rfl := Option.some.inj h; exact List.mem_cons_self

theorem leastOf_eq_none {α : Type} {m : α → Nat} {l : List α} (h : leastOf m l = none) : l = [] := by
  cases l with
  | nil => rfl
  | cons a l =>
    simp only [leastOf] at h
    split at h
    · split at h <;> cases h
    · cases h

/-! ### Pairs that can stand in one matching (R304, R310) -/

/-- Two pairs can stand in one matching: they have two outputs, and one input only for the multicast queue of one class. -/
def Compatible (r q : Req) : Prop := r.j ≠ q.j ∧ (r.i = q.i → r.mc = true ∧ q.mc = true ∧ r.c = q.c)

theorem compatible_symm {r q : Req} (h : Compatible r q) : Compatible q r := by
  obtain ⟨hj, hi⟩ := h
  refine ⟨hj.symm, fun he => ?_⟩
  obtain ⟨hr, hq, hc⟩ := hi he.symm
  exact ⟨hq, hr, hc.symm⟩

/-- Every pair was asked for, and every two pairs can stand in one matching. -/
structure IsMatching (reqs m : List Req) : Prop where
  asked : ∀ r ∈ m, r ∈ reqs
  compatible : m.Pairwise Compatible

theorem isMatching_nil (reqs : List Req) : IsMatching reqs [] := ⟨by simp, .nil⟩

section
variable {reqs m : List Req} (hm : IsMatching reqs m)
include hm

theorem IsMatching.nodup_outputs : (m.map (·.j)).Nodup :=
  List.pairwise_map.mpr (hm.compatible.imp And.left)

theorem IsMatching.multicast_of_same_input {r q : Req} (hr : r ∈ m) (hq : q ∈ m) (hi : r.i = q.i) (hne : r ≠ q) :
    r.mc = true ∧ q.mc = true ∧ r.c = q.c := by
  have : Std.Symm Compatible := ⟨fun _ _ => compatible_symm⟩
  exact (hm.compatible.forall hr hq hne).2 hi

end

/-! ### Requests and grants (R304) -/

/-- The requests between inputs and outputs that no pair so far has taken. -/
def stillOpen (reqs done : List Req) : List Req := reqs.filter (fun r => !(done.any (fun d => d.i == r.i || d.j == r.j)))

theorem mem_stillOpen {reqs done : List Req} {r : Req} :
    r ∈ stillOpen reqs done ↔ r ∈ reqs ∧ ∀ d ∈ done, d.i ≠ r.i ∧ d.j ≠ r.j := by
  simp [stillOpen]

@[simp] theorem stillOpen_nil (reqs : List Req) : stillOpen reqs [] = reqs := by simp [stillOpen]

/-- What output `j` grants: of the requests for it, the position nearest at or after its grant pointer. -/
def grantAt (reqs : List Req) (s : State) (j : Nat) : Option Req :=
  leastOf (fun (r : Req) => (r.i * 8 + r.c + 512 - s.core.grantPtr.get 0 j % 512) % 512) (reqs.filter (fun r => r.j == j))

/-- The grants of the outputs that are asked for. -/
def grants (reqs : List Req) (s : State) : List Req :=
  ((List.range 64).filter (fun j => reqs.any (fun r => r.j == j))).filterMap (grantAt reqs s)

/-- The inputs that are granted something. -/
def grantedInputs (gs : List Req) : List Nat := (List.range 64).filter (fun i => gs.any (fun r => r.i == i))

theorem mem_grantedInputs {gs : List Req} {i : Nat} : i ∈ grantedInputs gs ↔ i < 64 ∧ ∃ g ∈ gs, g.i = i := by
  simp [grantedInputs]

theorem nodup_grantedInputs (gs : List Req) : (grantedInputs gs).Nodup := List.nodup_range.filter _

section
variable {reqs : List Req} {s : State}

theorem grantAt_mem {j : Nat} {g : Req} (h : grantAt reqs s j = some g) : g ∈ reqs ∧ g.j = j := by
  simpa using leastOf_mem h

theorem exists_grantAt {r : Req} (h : r ∈ reqs) : ∃ g, grantAt reqs s r.j = some g := by
  refine Option.ne_none_iff_exists'.mp fun hnone => ?_
  have hr : r ∈ reqs.filter (fun q => q.j == r.j) := by simp [h]
  simp [leastOf_eq_none hnone] at hr

theorem mem_of_mem_grants {g : Req} (h : g ∈ grants reqs s) : g ∈ reqs := by
  obtain ⟨j, -, hj⟩ := List.mem_filterMap.mp h
  exact (grantAt_mem hj).1

/-- No output grants twice. -/
theorem grants_pairwise (reqs : List Req) (s : State) : (grants reqs s).Pairwise (fun g k => g.j ≠ k.j) := by
  refine List.pairwise_filterMap.mpr ((List.nodup_range.filter _).imp fun hne g hg k hk => ?_)
  rwa [(grantAt_mem hg).2, (grantAt_mem hk).2]

theorem grants_outputs_ne {g k : Req} (hg : g ∈ grants reqs s) (hk : k ∈ grants reqs s) (hne : g ≠ k) : g.j ≠ k.j := by
  have : Std.Symm (fun g k : Req => g.j ≠ k.j) := ⟨fun _ _ => Ne.symm⟩
  exact (grants_pairwise reqs s).forall hg hk hne

theorem grants_ne_nil {r : Req} (h : r ∈ reqs) (hj : r.j < 64) : grants reqs s ≠ [] := by
  obtain ⟨g, hg⟩ := exists_grantAt (s := s) h
  have hout : r.j ∈ (List.range 64).filter (fun j => reqs.any (fun r => r.j == j)) := by
    simp only [List.mem_filter, List.mem_range, List.any_eq_true, beq_iff_eq]
    exact ⟨hj, r, h, rfl⟩
  exact List.ne_nil_of_mem (List.mem_filterMap.mpr ⟨r.j, hout, hg⟩)

end

/-! ### What an input accepts (R304, R310) -/

/-- What input `i` takes of the grants `gs` on the requests `reqs`: pairs that it asked for and was granted, which can stand in one matching, and at least one where it was granted any. -/
structure Accepts (reqs gs : List Req) (i : Nat) (l : List Req) : Prop where
  asked : ∀ r ∈ l, r ∈ reqs
  input : ∀ r ∈ l, r.i = i
  granted : ∀ r ∈ l, ∃ g ∈ gs, g.i = i ∧ g.j = r.j
  compatible : l.Pairwise Compatible
  nonempty : (∃ g ∈ gs, g.i = i) → l ≠ []

section
variable {reqs gs : List Req} {i : Nat}

theorem accepts_nil (h : gs.filter (fun r => r.i == i) = []) : Accepts reqs gs i [] := by
  refine ⟨by simp, by simp, by simp, .nil, fun ⟨g, hg, hi⟩ => ?_⟩
  simp only [List.filter_eq_nil_iff, beq_iff_eq] at h
  exact absurd hi (h g hg)

/-- The VOQ of a grant asked where the multicast queue is not served: that queue did not ask, so the grant is the VOQ's, or the toggle gave way to the VOQ. -/
theorem unicast_of_not_multicast {g : Req} {toggled : Bool} (hg : g ∈ reqs) (hi : g.i = i)
    (h : ¬ (reqs.contains ⟨i, g.j, g.c, true⟩ && (toggled || !reqs.contains ⟨i, g.j, g.c, false⟩)) = true) :
    (⟨i, g.j, g.c, false⟩ : Req) ∈ reqs := by
  obtain ⟨gi, gj, gc, mc⟩ := g
  obtain rfl : gi = i := hi
  cases mc with
  | false => exact hg
  | true => by_contra huni; simp [hg, huni] at h

theorem accepts_unicast {g : Req} (hg : g ∈ gs) (hi : g.i = i) (h : (⟨i, g.j, g.c, false⟩ : Req) ∈ reqs) :
    Accepts reqs gs i [⟨i, g.j, g.c, false⟩] :=
  ⟨by simp [h], by simp, by simpa using ⟨g, hg, hi, rfl⟩, List.pairwise_singleton _ _, by simp⟩

theorem accepts_multicast (hgs : gs.Pairwise (fun g k => g.j ≠ k.j)) {g : Req} (hg : g ∈ gs) (hi : g.i = i)
    (h : (⟨i, g.j, g.c, true⟩ : Req) ∈ reqs) :
    Accepts reqs gs i (((gs.filter (fun r => r.i == i)).filter (fun r => r.c == g.c && reqs.contains ⟨i, r.j, g.c, true⟩)).map
      (fun r => ⟨i, r.j, g.c, true⟩)) where
  asked := by
    simp only [List.forall_mem_map, List.mem_filter, Bool.and_eq_true, List.contains_iff_mem]
    exact fun r ⟨_, _, hasked⟩ => hasked
  input := List.forall_mem_map.mpr fun _ _ => rfl
  granted := by
    simp only [List.forall_mem_map, List.mem_filter, beq_iff_eq]
    exact fun r ⟨⟨hr, hri⟩, _⟩ => ⟨r, hr, hri, rfl⟩
  compatible := List.pairwise_map.mpr (((hgs.filter _).filter _).imp fun hj => ⟨hj, fun _ => ⟨rfl, rfl, rfl⟩⟩)
  nonempty _ := List.ne_nil_of_mem (List.mem_map_of_mem (List.mem_filter.mpr
    ⟨List.mem_filter.mpr ⟨hg, beq_iff_eq.mpr hi⟩, by simp [h]⟩))

end

/-! ### An iteration (R304) -/

/-- A fold that appends to its list once for each of distinct elements appends one list of each. -/
theorem foldl_fst_eq_append_flatMap {α β : Type} {P : Nat → List α → Prop} {f : List α × β → Nat → List α × β}
    (hf : ∀ acc i, ∃ l, P i l ∧ (f acc i).1 = acc.1 ++ l) {is : List Nat} (his : is.Nodup) (acc : List α × β) :
    ∃ took : Nat → List α, (∀ i ∈ is, P i (took i)) ∧ (is.foldl f acc).1 = acc.1 ++ is.flatMap took := by
  induction is generalizing acc with
  | nil => exact ⟨fun _ => [], by simp, by simp⟩
  | cons i is ih =>
    obtain ⟨hi, his⟩ := List.nodup_cons.mp his
    obtain ⟨l, hl, hhead⟩ := hf acc i
    obtain ⟨took, htook, htail⟩ := ih his (f acc i)
    have hother : ∀ k ∈ is, Function.update took i l k = took k := fun k hk =>
      Function.update_of_ne (ne_of_mem_of_not_mem hk hi) _ _
    refine ⟨Function.update took i l, List.forall_mem_cons.mpr ⟨?_, fun k hk => ?_⟩, ?_⟩
    · rwa [Function.update_self]
    · rw [hother k hk]; exact htook k hk
    · rw [List.foldl_cons, htail, hhead, List.flatMap_cons, Function.update_self, List.flatMap_congr hother, List.append_assoc]

/-- An iteration appends to the pairs it is given what each input that is granted something accepts. -/
theorem iteration_fst (reqs : List Req) (first : Bool) (done : List Req) (s : State) :
    let gs := grants (stillOpen reqs done) s
    ∃ took : Nat → List Req, (∀ i ∈ grantedInputs gs, Accepts (stillOpen reqs done) gs i (took i)) ∧
      (iteration reqs first done s).1 = done ++ (grantedInputs gs).flatMap took := by
  intro gs
  refine foldl_fst_eq_append_flatMap (fun acc i => ?_) (nodup_grantedInputs gs) (done, s)
  dsimp only
  split
  next hnone => exact ⟨[], accepts_nil (leastOf_eq_none hnone), (List.append_nil _).symm⟩
  next g hg =>
    obtain ⟨hgranted, hi⟩ := List.mem_filter.mp (leastOf_mem hg)
    rw [beq_iff_eq] at hi
    refine ⟨_, ?_, rfl⟩
    split
    next hmc =>
      simp only [Bool.and_eq_true, List.contains_iff_mem] at hmc
      exact accepts_multicast (grants_pairwise _ s) hgranted hi hmc.1
    next hmc =>
      exact accepts_unicast hgranted hi (unicast_of_not_multicast (mem_of_mem_grants hgranted) hi hmc)

/-- What two inputs accept can stand in one matching: no output granted both. -/
theorem Accepts.compatible_of_ne {reqs : List Req} {s : State} {i k : Nat} {l m : List Req} (hl : Accepts reqs (grants reqs s) i l)
    (hm : Accepts reqs (grants reqs s) k m) (hne : i ≠ k) : ∀ r ∈ l, ∀ q ∈ m, Compatible r q := by
  intro r hr q hq
  obtain ⟨g, hg, rfl, hgj⟩ := hl.granted r hr
  obtain ⟨h, hh, rfl, hhj⟩ := hm.granted q hq
  refine ⟨?_, fun hi => absurd (((hl.input r hr).symm.trans hi).trans (hm.input q hq)) hne⟩
  rw [← hgj, ← hhj]
  exact grants_outputs_ne hg hh fun he => hne (congrArg Req.i he)

/-- The pairs that an iteration answers are a matching if those it is given are one. -/
theorem iteration_isMatching {reqs done : List Req} (hdone : IsMatching reqs done) (first : Bool) (s : State) :
    IsMatching reqs (iteration reqs first done s).1 := by
  obtain ⟨took, htook, heq⟩ := iteration_fst reqs first done s
  have hopen : ∀ r ∈ (grantedInputs (grants (stillOpen reqs done) s)).flatMap took, r ∈ stillOpen reqs done := fun r hr => by
    obtain ⟨i, hi, hri⟩ := List.mem_flatMap.mp hr
    exact (htook i hi).asked r hri
  rw [heq]
  refine ⟨fun r hr => ?_, List.pairwise_append.mpr ⟨hdone.compatible, List.pairwise_flatMap.mpr
    ⟨fun i hi => (htook i hi).compatible, ?_⟩, fun d hd r hr => ?_⟩⟩
  · obtain hr | hr := List.mem_append.mp hr
    · exact hdone.asked r hr
    · exact (mem_stillOpen.mp (hopen r hr)).1
  · exact (nodup_grantedInputs _).imp_of_mem fun hi hk => (htook _ hi).compatible_of_ne (htook _ hk)
  · obtain ⟨hinput, houtput⟩ := (mem_stillOpen.mp (hopen r hr)).2 d hd
    exact ⟨houtput, fun hi => absurd hi hinput⟩

/-- An iteration takes back no pair. -/
theorem iteration_ne_nil_of_ne_nil (reqs : List Req) (first : Bool) {done : List Req} (s : State) (h : done ≠ []) :
    (iteration reqs first done s).1 ≠ [] := by
  obtain ⟨took, -, heq⟩ := iteration_fst reqs first done s
  rw [heq]
  exact List.append_ne_nil_of_left_ne_nil h _

/-- Where anything is asked for, the first iteration pairs something. -/
theorem iteration_nil_ne_nil {reqs : List Req} (hreqs : ∀ r ∈ reqs, r.i < 64 ∧ r.j < 64) (hne : reqs ≠ []) (first : Bool) (s : State) :
    (iteration reqs first [] s).1 ≠ [] := by
  obtain ⟨took, htook, heq⟩ := iteration_fst reqs first [] s
  rw [stillOpen_nil] at htook heq
  obtain ⟨r, hr⟩ := List.exists_mem_of_ne_nil reqs hne
  obtain ⟨g, hg⟩ := List.exists_mem_of_ne_nil _ (grants_ne_nil (s := s) hr (hreqs r hr).2)
  have hi : g.i ∈ grantedInputs (grants reqs s) := mem_grantedInputs.mpr ⟨(hreqs g (mem_of_mem_grants hg)).1, g, hg, rfl⟩
  obtain ⟨q, hq⟩ := List.exists_mem_of_ne_nil _ ((htook g.i hi).nonempty ⟨g, hg, rfl⟩)
  rw [heq, List.nil_append]
  exact List.ne_nil_of_mem (List.mem_flatMap.mpr ⟨g.i, hi, hq⟩)

/-- Settles O47: the row is `live` of its operation, and each of the three iterations keeps the pairs a matching (`iteration_isMatching`). -/
theorem crossbarPairsAreAMatching : Obligations.CrossbarPairsAreAMatching := by
  refine ⟨fun ups s hheld => ⟨(exec_crossbarRound ups s).trans (live_next hheld _), by rw [crossbarRound_kept, upset_kept]⟩,
    fun reqs s hreqs => ?_⟩
  let a := iteration reqs true [] s
  let b := iteration reqs false a.1 a.2
  have hm : IsMatching reqs (iteration reqs false b.1 b.2).1 :=
    iteration_isMatching (iteration_isMatching (iteration_isMatching (isMatching_nil reqs) true s) false a.2) false b.2
  refine ⟨hm.asked, hm.nodup_outputs, fun r q => hm.multicast_of_same_input, fun hne => ?_⟩
  have ha : a.1 ≠ [] := iteration_nil_ne_nil (fun r hr => ⟨(hreqs r hr).1, (hreqs r hr).2.1⟩) hne true s
  exact iteration_ne_nil_of_ne_nil reqs false b.2 (iteration_ne_nil_of_ne_nil reqs false a.2 ha)

end Sys2Proof.Machine
end

section
/-! SUPPORT. The opcodes of time distribution and traceability (R422 to R434): TimeOpcodesDoWhatTheySay. -/

namespace Sys2Proof.Machine

/-- Settles O22: each opcode's row runs the effect of its definition (`carries_row`). -/
theorem timeOpcodesDoWhatTheySay : Obligations.TimeOpcodesDoWhatTheySay := by
  intro g
  refine ⟨carries_row rfl (d := opPtpClockConfig) rfl (by decide) rfl, carries_row rfl (d := opPtpPortConfig) rfl (by decide) rfl,
    carries_row rfl (d := opTimeProperties) rfl (by decide) rfl, carries_row rfl (d := opStepTime) rfl (by decide) ?step,
    carries_row rfl (d := opTimeStatus) rfl (by decide) rfl, carries_row rfl (d := opTimePortStatus) rfl (by decide) rfl,
    carries_row rfl (d := opTraceReport) rfl (by decide) rfl, carries_row rfl (d := opTraceRead) rfl (by decide) rfl⟩
  case step =>
    funext c s
    change stepTime c s = _
    unfold stepTime
    cases s.clk.todSet <;> rfl

end Sys2Proof.Machine
end

section
/-! SUPPORT. The opcodes of measurement (R441, R442, R450 to R458): MeasurementOpcodesDoWhatTheySay. -/

namespace Sys2Proof.Machine

/-- Settles O23: each opcode's row runs the effect of its definition (`carries_row`). -/
theorem measurementOpcodesDoWhatTheySay : Obligations.MeasurementOpcodesDoWhatTheySay := by
  intro g
  exact ⟨carries_row rfl (d := opTdePin) rfl (by decide) rfl, carries_row rfl (d := opTdeSource) rfl (by decide) rfl,
    carries_row rfl (d := opEvConfig) rfl (by decide) rfl, carries_row rfl (d := opIntervalMeasure) rfl (by decide) rfl,
    carries_row rfl (d := opStatsRun) rfl (by decide) rfl, carries_row rfl (d := opStatsRead) rfl (by decide) rfl,
    carries_row rfl (d := opTdeStatus) rfl (by decide) rfl⟩

end Sys2Proof.Machine
end

section
/-! SUPPORT. The opcodes of the Negative and of calibration (R468, R471 to R476, R490 to R494): NegativeAndCalibrationOpcodes. -/

namespace Sys2Proof.Machine

/-- Settles O26: each opcode's row runs the effect of its definition (`carries_row`). -/
theorem negativeAndCalibrationOpcodes : Obligations.NegativeAndCalibrationOpcodes := by
  intro g
  exact ⟨carries_row rfl (d := opNegStatus) rfl (by decide) rfl, carries_row rfl (d := opNegRead) rfl (by decide) rfl,
    carries_row rfl (d := opNegExport) rfl (by decide) rfl, carries_row rfl (d := opCalSweep) rfl (by decide) rfl,
    carries_row rfl (d := opCalStatus) rfl (by decide) rfl, carries_row rfl (d := opContactRestore) rfl (by decide) rfl,
    carries_row rfl (d := opContactStatus) rfl (by decide) rfl⟩

end Sys2Proof.Machine
end

section
/-! SUPPORT. The opcode table (R496 to R523): what a row says of its opcode, the masks of modes and lifecycles, and OpcodeTableAsTheSpecGivesIt. -/

namespace Sys2Proof.Machine

/-! ### Masks of modes and lifecycles (R496, R497) -/

/-- The mask that has a bit for the code of each member of a list. -/
def codeMask {α : Type} (code : α → Nat) (l : List α) : Nat := l.foldr (fun a m => 2 ^ code a ||| m) 0

theorem testBit_codeMask {α : Type} [DecidableEq α] {code : α → Nat} (hcode : Function.Injective code) (l : List α) (a : α) :
    (codeMask code l).testBit (code a) = l.contains a := by
  induction l with
  | nil => simp [codeMask]
  | cons b l ih =>
    rw [List.contains_cons, ← ih]
    simp [codeMask, Nat.testBit_two_pow, hcode.eq_iff, eq_comm, beq_eq_decide]

theorem modeCode_injective : Function.Injective Mode.code := by
  intro a b
  cases a <;> cases b <;> decide

theorem lifecycleCode_injective : Function.Injective Lifecycle.code := by
  intro a b
  cases a <;> cases b <;> decide

/-- The modes that a row's test lets through are those of a mask. -/
def ModesAre (f : Cmd → State → Bool) (modes : Nat) : Prop := ∀ c s, f c s = modes.testBit s.sys.mode.code

/-- The lifecycles that a row's test lets through are those of a mask. -/
def LivesAre (f : Cmd → State → Bool) (lives : Nat) : Prop := ∀ c s, f c s = lives.testBit s.nv.lifecycle.code

theorem modesAre_inModes {l : List Mode} {modes : Nat} (h : codeMask Mode.code l = modes) : ModesAre (inModes l) modes :=
  fun _ s => h ▸ (testBit_codeMask modeCode_injective l s.sys.mode).symm

theorem modesAre_notSafe : ModesAre (fun _ s => notSafe s) 62 := by
  intro _ s
  simp only [notSafe]
  cases s.sys.mode <;> rfl

theorem modesAre_anywhere : ModesAre anywhere 63 := by
  intro _ s
  simp only [anywhere]
  cases s.sys.mode <;> rfl

theorem livesAre_inLives {l : List Lifecycle} {lives : Nat} (h : codeMask Lifecycle.code l = lives) : LivesAre (inLives l) lives :=
  fun _ s => h ▸ (testBit_codeMask lifecycleCode_injective l s.nv.lifecycle).symm

theorem livesAre_notRetired : LivesAre (fun _ s => notRetired s) 7 := by
  intro _ s
  simp only [notRetired]
  cases s.nv.lifecycle <;> rfl

theorem livesAre_all : LivesAre (fun _ _ => true) 15 := by
  intro _ s
  cases s.nv.lifecycle <;> rfl

/-! ### What a row says of its opcode -/

/-- The lengths that an opcode takes are the one that its row gives, where it gives one. -/
def LenIs (f : Nat → Bool) (len : Option Nat) : Prop := ∀ n, len = some n → ∀ k, f k = (k == n)

theorem lenIs_some {n : Nat} : LenIs (fun k => k == n) (some n) := by
  rintro _ ⟨⟩ k
  rfl

theorem lenIs_none {f : Nat → Bool} : LenIs f none := nofun

/-- In-band frames carry an opcode (R80, R99). -/
def inbandTakes (op : Nat) : Bool := op != 0x0201 && op != 0x0702

theorem inbandTakes_eq_false_iff {op : Nat} : inbandTakes op = false ↔ op = 0x0201 ∨ op = 0x0702 := by
  simp [inbandTakes, or_iff_not_imp_left]

/-- A definition is what its row says: the sideband carries it where the row lets SAFE through (R66), DEBUG_UNLOCK and LANE_TEST have modes of their own (R46, R110), and the two debug opcodes lifecycles of their own (R110). -/
structure IsRow (d : OpDef) (op : Nat) (clsA nMark long : Bool) (len : Option Nat) (modes lives : Nat) : Prop where
  defined : defOf op = some d
  clsA : d.clsA = clsA
  nMark : d.nMark = nMark
  long : d.long = long
  sideband : d.sidebandOk = modes.testBit 0
  inband : d.inbandOk = inbandTakes op
  len : LenIs d.lenOk len
  modes : op ≠ 0x0209 → op ≠ 0x0307 → ModesAre d.modeOk modes
  lives : op ≠ 0x0208 → op ≠ 0x0209 → LivesAre d.lifeOk lives

/-- A row of the table holds: it defines its opcode. -/
def RowHolds : Nat × Bool × Bool × Bool × Option Nat × Nat × Nat → Prop
  | (op, clsA, nMark, long, len, modes, lives) => ∃ d, IsRow d op clsA nMark long len modes lives

/-- What a row says that is written in the definition as it stands: class, N marker, long type, and the transports. -/
def OpDef.marks (d : OpDef) : Bool × Bool × Bool × Bool × Bool := (d.clsA, d.nMark, d.long, d.sidebandOk, d.inbandOk)

section
variable {op n modes lives : Nat} {clsA nMark long : Bool} {len : Option Nat} {lenOk : Nat → Bool} {modeOk lifeOk : Cmd → State → Bool}
  {ms : List Mode} {ls : List Lifecycle}

theorem rowHolds_of_marks (d : OpDef) (h : (defOf op, d.marks) = (some d, clsA, nMark, long, modes.testBit 0, inbandTakes op)) (hlen : LenIs d.lenOk len)
    (hmodes : op ≠ 0x0209 → op ≠ 0x0307 → ModesAre d.modeOk modes) (hlives : op ≠ 0x0208 → op ≠ 0x0209 → LivesAre d.lifeOk lives) :
    RowHolds (op, clsA, nMark, long, len, modes, lives) := by
  simp only [OpDef.marks, Prod.mk.injEq] at h
  obtain ⟨hdef, hclsA, hnMark, hlong, hsideband, hinband⟩ := h
  exact ⟨d, hdef, hclsA, hnMark, hlong, hsideband, hinband, hlen, hmodes, hlives⟩

/-- The row of an opcode whose tests of modes and lifecycles are a mask each. -/
theorem rowHolds_of_tests (d : OpDef) (h : (defOf op, d.marks, d.lenOk, d.modeOk, d.lifeOk) =
      (some d, (clsA, nMark, long, modes.testBit 0, inbandTakes op), lenOk, modeOk, lifeOk))
    (hlen : LenIs lenOk len) (hmodes : ModesAre modeOk modes) (hlives : LivesAre lifeOk lives) :
    RowHolds (op, clsA, nMark, long, len, modes, lives) := by
  simp only [Prod.mk.injEq] at h
  obtain ⟨hdef, hmarks, rfl, rfl, rfl⟩ := h
  exact rowHolds_of_marks d (Prod.ext hdef hmarks) hlen (fun _ _ => hmodes) (fun _ _ => hlives)

/-- The row of a class A opcode that every mode but SAFE accepts. -/
theorem rowHolds_classA (d : OpDef) (h : (defOf op, d.marks, d.lenOk, d.modeOk, d.lifeOk) =
      (some d, (true, nMark, long, false, inbandTakes op), (fun k => k == n), (fun _ s => notSafe s), fun _ s => notRetired s)) :
    RowHolds (op, true, nMark, long, some n, 62, 7) :=
  rowHolds_of_tests d h lenIs_some modesAre_notSafe livesAre_notRetired

/-- The row of a class P opcode that every mode but SAFE accepts. -/
theorem rowHolds_classP (d : OpDef) (h : (defOf op, d.marks, d.lenOk, d.modeOk, d.lifeOk) =
      (some d, (false, nMark, long, false, inbandTakes op), (fun k => k == n), (fun _ s => notSafe s), fun _ _ => true)) :
    RowHolds (op, false, nMark, long, some n, 62, 15) :=
  rowHolds_of_tests d h lenIs_some modesAre_notSafe livesAre_all

/-- The row of a class P opcode that every mode accepts. -/
theorem rowHolds_anywhere (d : OpDef) (h : (defOf op, d.marks, d.lenOk, d.modeOk, d.lifeOk) =
      (some d, (false, nMark, long, true, inbandTakes op), (fun k => k == n), anywhere, fun _ _ => true)) :
    RowHolds (op, false, nMark, long, some n, 63, 15) :=
  rowHolds_of_tests d h lenIs_some modesAre_anywhere livesAre_all

/-- The row of a class A opcode with modes of its own. -/
theorem rowHolds_inModes (d : OpDef) (h : (defOf op, d.marks, d.lenOk, d.modeOk, d.lifeOk) =
      (some d, (true, nMark, long, modes.testBit 0, inbandTakes op), (fun k => k == n), inModes ms, fun _ s => notRetired s))
    (hmodes : codeMask Mode.code ms = modes) : RowHolds (op, true, nMark, long, some n, modes, 7) :=
  rowHolds_of_tests d h lenIs_some (modesAre_inModes hmodes) livesAre_notRetired

/-- The row of a class A opcode with modes and lifecycles of its own. -/
theorem rowHolds_inModes_inLives (d : OpDef) (h : (defOf op, d.marks, d.lenOk, d.modeOk, d.lifeOk) =
      (some d, (true, nMark, long, modes.testBit 0, inbandTakes op), (fun k => k == n), inModes ms, inLives ls))
    (hmodes : codeMask Mode.code ms = modes) (hlives : codeMask Lifecycle.code ls = lives) :
    RowHolds (op, true, nMark, long, some n, modes, lives) :=
  rowHolds_of_tests d h lenIs_some (modesAre_inModes hmodes) (livesAre_inLives hlives)

end

/-! ### The opcodes that SAFE accepts (R500) -/

/-- The opcodes of R500. -/
def safeOpcodes : List Nat :=
  [0x0100, 0x0101, 0x0102, 0x0103, 0x0108, 0x0200, 0x0201, 0x0207, 0x0208, 0x0209, 0x020A, 0x0A00, 0x0A01, 0x0A02, 0x0B00]

theorem exists_safe_iff_testBit {f : Cmd → State → Bool} {modes : Nat} (h : ModesAre f modes) :
    (∃ c s, s.sys.mode = .safe ∧ f c s = true) ↔ modes.testBit 0 = true := by
  constructor
  · rintro ⟨c, s, hsafe, hf⟩
    rwa [h, hsafe] at hf
  · intro hbit
    exact ⟨⟨.pcie, []⟩, State.reset, rfl, (h _ _).trans hbit⟩

theorem opLaneTest_modeOk (c : Cmd) (s : State) : opLaneTest.modeOk c s = (s.sys.mode == .maintenance && s.sys.paused) := rfl

/-- SAFE accepts an opcode with some parameters where the sideband carries it: DEBUG_UNLOCK at its levels' modes (R110), LANE_TEST at none in SAFE (R46), any other by its mask. -/
theorem IsRow.exists_safe_iff {d : OpDef} {op : Nat} {clsA nMark long : Bool} {len : Option Nat} {modes lives : Nat}
    (h : IsRow d op clsA nMark long len modes lives) :
    (∃ (c : Cmd) (s : State), s.sys.mode = .safe ∧ d.modeOk c s = true) ↔ d.sidebandOk = true := by
  obtain rfl | hunlock := eq_or_ne op 0x0209
  · obtain rfl : opDebugUnlock = d := Option.some.inj h.defined
    exact iff_of_true ⟨⟨.pcie, []⟩, State.reset, rfl, rfl⟩ rfl
  obtain rfl | htest := eq_or_ne op 0x0307
  · obtain rfl : opLaneTest = d := Option.some.inj h.defined
    refine iff_of_false (fun ⟨c, s, hsafe, hok⟩ => ?_) Bool.false_ne_true
    rw [opLaneTest_modeOk, hsafe] at hok
    cases hok
  rw [exists_safe_iff_testBit (h.modes hunlock htest), h.sideband]

/-! ### The opcodes that are defined (R502 to R523) -/

/-- The opcodes of the table, group by group. -/
def opcodes : List Nat :=
  List.range' 0x0100 12 ++ List.range' 0x0200 11 ++ List.range' 0x0300 22 ++ List.range' 0x0400 21 ++ List.range' 0x0500 7 ++
  List.range' 0x0600 12 ++ List.range' 0x0700 8 ++ List.range' 0x0800 3 ++ List.range' 0x0900 4 ++ List.range' 0x0A00 3 ++ List.range' 0x0B00 4

theorem mem_opcodes_of_defOf {op : Nat} {d : OpDef} (h : defOf op = some d) : op ∈ opcodes := by
  unfold defOf at h
  split at h
  case h_108 => cases h
  all_goals decide

/-! ### The lengths of opcodes with several (R512 to R523) -/

theorem within_iff {lo hi n : Nat} : within lo hi n = true ↔ lo ≤ n ∧ n ≤ hi := by
  simp [within]

/-- A bulk load has its 24 bytes alone, or with 1 to 41 records of 96. -/
theorem opTableBulkLoad_lenOk {n : Nat} : opTableBulkLoad.lenOk n = true ↔ n = 24 ∨ ∃ k, 1 ≤ k ∧ k ≤ 41 ∧ n = 24 + 96 * k := by
  change (n == 24 || (decide (120 ≤ n) && decide (n ≤ 3960) && (n - 24) % 96 == 0)) = true ↔ _
  simp only [Bool.or_eq_true, Bool.and_eq_true, beq_iff_eq, decide_eq_true_eq]
  refine or_congr_right ⟨fun ⟨⟨hmin, hmax⟩, hdvd⟩ => ⟨(n - 24) / 96, ?_⟩, fun ⟨k, hmin, hmax, hn⟩ => ?_⟩ <;> omega

/-- Settles O28: every row holds (`RowHolds`), and what a row does not say is its opcode's definition as it stands. -/
theorem opcodeTableAsTheSpecGivesIt : Obligations.OpcodeTableAsTheSpecGivesIt := by
  unfold Obligations.OpcodeTableAsTheSpecGivesIt
  intro rows
  have hrows : ∀ r ∈ rows, RowHolds r := by
    simp only [rows, List.forall_mem_append, List.forall_mem_cons, List.not_mem_nil, false_imp_iff, implies_true, and_true, and_assoc]
    exact ⟨rowHolds_anywhere opGetStatus rfl, rowHolds_anywhere opGetResetCause rfl, rowHolds_inModes opSetBootPolicy rfl rfl,
      rowHolds_of_tests opEnterProvision rfl lenIs_some (modesAre_inModes rfl) livesAre_all, rowHolds_inModes_inLives opCommitConfig rfl rfl rfl,
      rowHolds_inModes opEnterMaintenance rfl rfl, rowHolds_inModes opEnterQuiesce rfl rfl, rowHolds_inModes opReturnService rfl rfl,
      rowHolds_of_tests opResetDevice rfl lenIs_some modesAre_anywhere livesAre_notRetired, rowHolds_classA opSetPowerState rfl,
      rowHolds_classA opAvsConfig rfl, rowHolds_inModes opDeviceConfig rfl rfl, rowHolds_anywhere opGetSecurityStatus rfl,
      rowHolds_inModes_inLives opTakeOwnership rfl rfl rfl, rowHolds_inModes_inLives opInstallKey rfl rfl rfl,
      rowHolds_inModes_inLives opRevokeKey rfl rfl rfl, rowHolds_inModes_inLives opSetOwnerPolicy rfl rfl rfl,
      rowHolds_inModes_inLives opLockDevice rfl rfl rfl, rowHolds_inModes_inLives opSetMinVersion rfl rfl rfl,
      rowHolds_inModes_inLives opRetireDevice rfl rfl rfl,
      rowHolds_of_marks opDebugChallenge rfl lenIs_some (fun _ _ => modesAre_inModes rfl) (fun h => absurd rfl h),
      rowHolds_of_marks opDebugUnlock rfl lenIs_none (fun h => absurd rfl h) (fun _ h => absurd rfl h), rowHolds_anywhere opDebugClose rfl,
      rowHolds_classA opPortConfig rfl, rowHolds_classA opPortSetState rfl, rowHolds_classP opPortStatus rfl, rowHolds_classA opLaneMap rfl,
      rowHolds_classA opLaneTxEq rfl, rowHolds_classA opLaneRxEq rfl, rowHolds_classP opLaneStatus rfl,
      rowHolds_of_marks opLaneTest rfl lenIs_some (fun _ h => absurd rfl h) (fun _ _ => livesAre_notRetired),
      rowHolds_of_tests opLaneTestResult rfl lenIs_some (modesAre_inModes rfl) livesAre_all, rowHolds_classA opDlkConfig rfl,
      rowHolds_classA opDlkDelay rfl, rowHolds_classP opDlkStatus rfl, rowHolds_classA opClassMap rfl, rowHolds_classA opFlowControl rfl,
      rowHolds_classA opPortDelay rfl, rowHolds_inModes opLosslessBudget rfl rfl, rowHolds_classA opEcnConfig rfl,
      rowHolds_classP opLosslessStatus rfl, rowHolds_classP opModuleRead rfl,
      rowHolds_of_tests opModuleWrite rfl lenIs_none modesAre_notSafe livesAre_notRetired, rowHolds_classA opModuleControl rfl,
      rowHolds_inModes opModuleBus rfl rfl, rowHolds_classA opXoConfig rfl, rowHolds_classA opRefConfig rfl, rowHolds_classA opDpllConfig rfl,
      rowHolds_classA opEsmcConfig rfl, rowHolds_inModes opJumpResolve rfl rfl, rowHolds_classP opRefStatus rfl, rowHolds_classP opDpllStatus rfl,
      rowHolds_of_tests opSynBandTable rfl lenIs_none modesAre_notSafe livesAre_notRetired, rowHolds_classA opSynConfig rfl,
      rowHolds_classA opOutConfig rfl, rowHolds_classA opPpsConfig rfl, rowHolds_classA opTodConfig rfl, rowHolds_classP opClockStatus rfl,
      rowHolds_inModes opPtpClockConfig rfl rfl, rowHolds_classA opPtpPortConfig rfl, rowHolds_classA opTimeProperties rfl,
      rowHolds_inModes opStepTime rfl rfl, rowHolds_classP opTimeStatus rfl, rowHolds_classP opTimePortStatus rfl, rowHolds_classA opTraceReport rfl,
      rowHolds_classP opTraceRead rfl, rowHolds_classA opTdePin rfl, rowHolds_classA opTdeSource rfl, rowHolds_classA opEvConfig rfl,
      rowHolds_classA opIntervalMeasure rfl, rowHolds_classA opStatsRun rfl, rowHolds_classP opStatsRead rfl, rowHolds_classP opTdeStatus rfl,
      rowHolds_inModes opPoolConfig rfl rfl, rowHolds_classA opBufThreshold rfl, rowHolds_classP opPoolStatus rfl,
      rowHolds_inModes opStopBath rfl rfl, rowHolds_classA opEgressSched rfl, rowHolds_classA opDeadlockConfig rfl,
      rowHolds_classP opDeadlockStatus rfl, rowHolds_inModes opSliceAssign rfl rfl, rowHolds_inModes opSliceReturn rfl rfl,
      rowHolds_classP opSliceStatus rfl, rowHolds_of_tests opMcastGroup rfl lenIs_none modesAre_notSafe livesAre_notRetired,
      rowHolds_classA opMcastConfig rfl, rowHolds_of_tests opTableBulkLoad rfl lenIs_none modesAre_notSafe livesAre_notRetired,
      rowHolds_of_tests opFence rfl lenIs_some modesAre_notSafe livesAre_notRetired, rowHolds_classA opTableShadow rfl,
      rowHolds_classA opLearnConfig rfl, rowHolds_classA opL2PortConfig rfl, rowHolds_inModes opFdbFlush rfl rfl,
      rowHolds_inModes opTcamRebuild rfl rfl, rowHolds_classP opTableStatus rfl, rowHolds_classP opNegStatus rfl, rowHolds_classP opNegRead rfl,
      rowHolds_classP opNegExport rfl, rowHolds_classA opCalSweep rfl, rowHolds_classP opCalStatus rfl, rowHolds_inModes opContactRestore rfl rfl,
      rowHolds_classP opContactStatus rfl, rowHolds_anywhere opFwStatus rfl,
      rowHolds_of_tests opFwUpdate rfl lenIs_some modesAre_anywhere livesAre_notRetired,
      rowHolds_of_tests opFwData rfl lenIs_none modesAre_anywhere livesAre_notRetired, rowHolds_anywhere opOpQuery rfl,
      rowHolds_classA opOpSuspend rfl, rowHolds_classA opOpResume rfl, rowHolds_classA opOpCancel rfl⟩
  have hops : rows.map (fun r => r.1) = opcodes := rfl
  have hsafe : rows.all (fun (op, _, _, _, _, modes, _) => modes.testBit 0 == safeOpcodes.contains op) = true := by decide
  refine ⟨fun op => ⟨fun hsome => ?_, fun hop => ?_⟩, fun op clsA nMark long len modes lives hrow => ?_, opLaneTest_modeOk, fun _ _ => rfl,
    fun _ _ => ⟨rfl, rfl⟩, fun n => ⟨rfl, within_iff, within_iff, within_iff, opTableBulkLoad_lenOk, within_iff⟩, fun op d hdef => ?_⟩
  · obtain ⟨d, hdef⟩ := Option.isSome_iff_exists.mp hsome
    exact hops ▸ mem_opcodes_of_defOf hdef
  · obtain ⟨r, hr, rfl⟩ := List.mem_map.mp hop
    obtain ⟨d, h⟩ := hrows r hr
    exact Option.isSome_iff_exists.mpr ⟨d, h.defined⟩
  · obtain ⟨d, h⟩ := hrows _ hrow
    exact ⟨d, h.defined, h.clsA, h.nMark, h.long, h.len, h.modes, h.lives⟩
  · obtain ⟨⟨op, clsA, nMark, long, len, modes, lives⟩, hr, rfl⟩ := List.mem_map.mp (hops ▸ mem_opcodes_of_defOf hdef)
    obtain ⟨d', h⟩ := hrows _ hr
    obtain rfl : d' = d := Option.some.inj (h.defined.symm.trans hdef)
    have hbit : modes.testBit 0 = safeOpcodes.contains op := beq_iff_eq.mp (List.all_eq_true.mp hsafe _ hr)
    exact ⟨h.exists_safe_iff, by rw [h.sideband, hbit, List.contains_iff_mem]; rfl, h.inband ▸ inbandTakes_eq_false_iff, rfl⟩

end Sys2Proof.Machine
end
